-- ==== Sys2Proof/Word.lean ====
section
/-! DEFINITION. The words, the fixed sizes and the one sparse container (`Table`) of the model. -/

namespace Sys2Proof

/-- One byte. -/
abbrev Byte := BitVec 8

/-- A 32-bit register or lane. -/
abbrev Word := BitVec 32

/-- A run of bytes in ascending order (R15: multi-byte fields are little-endian). -/
abbrev Bytes := List Byte

/-- A sparse map in one canonical form: keys strictly rising, no entry equal to what an unlisted key reads as.
Register files, tile and region arrays, directories and (with bytes) memory are all of this form. -/
abbrev Table (α : Type) := List (Nat × α)

/-- The module's identity of one tile (R11): region, logical x, logical y. -/
structure TileId where
  region : BitVec 6
  x : BitVec 4
  y : BitVec 4
  deriving DecidableEq, Repr

/-- The key of a tile in `State.tiles`: 256 r + 16 y + x, the number R104 uses for it. -/
def TileId.key (t : TileId) : Nat := 256 * t.region.toNat + 16 * t.y.toNat + t.x.toNat

/-- The tile a key names. -/
def TileId.ofKey (k : Nat) : TileId :=
  ⟨BitVec.ofNat 6 (k / 256), BitVec.ofNat 4 (k % 16), BitVec.ofNat 4 (k / 16 % 16)⟩

end Sys2Proof
end

