-- ==== Sys2Proof/Types.lean ====
section
/-! DEFINITION. The data that commands carry and State holds: flits, plans, images, messages, records. -/

namespace Sys2Proof

/-- The two steppings (R7, R105). -/
inductive Stepping where
  | a1 | b0
  deriving DecidableEq, Repr

/-- The six slots of a bundle (R189), numbered as in R254. -/
inductive Slot where
  | ctl | lsu | mxu | vec | rqu | net
  deriving DecidableEq, Repr

/-- A wafer side: north is the side of row 0 (R126, SEAM_CTL_N .. _W). -/
inductive Side where
  | north | east | south | west
  deriving DecidableEq, Repr

/-- The head of a flit (R503), field by field; PAR is held as received. -/
structure FlitHead where
  dreg : BitVec 6
  dx : BitVec 4
  dy : BitVec 4
  dkind : BitVec 2
  lane : BitVec 4
  kind : BitVec 3
  poison : Bool
  sched : Bool
  taint : Bool
  sreg : BitVec 6
  sx : BitVec 4
  sy : BitVec 4
  /-- Bits [55:40]: the landing line address of a data flit, the CRC-16 of any other. -/
  lineOrCrc : BitVec 16
  deliv : BitVec 8
  stroke : BitVec 16
  par : Bool
  /-- Bits [95:81], reserved. -/
  rsvd : BitVec 15
  deriving DecidableEq, Repr

/-- A flit: head and 128-byte body (R503). -/
structure Flit where
  head : FlitHead
  body : Bytes
  deriving DecidableEq, Repr

/-- A send-table entry (R242). The destination is given as the head fields DKIND, DREG, DX, DY of R515. -/
structure SendEntry where
  dkind : BitVec 2 := 0
  dreg : BitVec 6 := 0
  dx : BitVec 4 := 0
  dy : BitVec 4 := 0
  lane : BitVec 4 := 0
  deliv : BitVec 8 := 0
  base : BitVec 15 := 0
  firstRow : Nat := 0
  rows : Nat := 0
  route : Nat := 0
  valid : Bool := false
  deriving DecidableEq, Repr

/-- The due offset D of a delivery (R62), in ticks from the catch of the sending stroke: S, for a delivery that feeds the next
stroke; a number of ticks after the finish, as slack checks give it (R115); or a fixed number of ticks (log entry 42). -/
inductive DueOffset where
  | stroke
  | finish (add : Nat)
  | fixed (ticks : Nat)
  deriving DecidableEq, Repr

/-- The ticks of a due offset in a stroke of length `len` with finish offset `fin` (R62). -/
def DueOffset.ticks (len fin : Nat) : DueOffset → Nat
  | .stroke => len
  | .finish add => fin + add
  | .fixed n => n

/-- An input-list entry (R197, R527): the delivery expected, its rows, whether it bears rows, and its due offset D (R62). -/
structure InputEntry where
  deliv : BitVec 8 := 0
  firstRow : Nat := 0
  rows : Nat := 0
  bearsRows : Bool := false
  due : DueOffset := .stroke
  /-- The stage that sends the delivery; word 1 of the mode flit gives its level (R304). -/
  fromStage : Nat := 0
  deriving DecidableEq, Repr

/-- A rotation descriptor (R267). -/
structure RotDesc where
  log2b : BitVec 8 := 0
  flags : BitVec 8 := 0
  permA : BitVec 16 := 0
  permC : BitVec 16 := 0
  permM : BitVec 16 := 0
  signKey : BitVec 64 := 0
  deriving DecidableEq, Repr

/-- A rotary table (R319). -/
structure RotaryTable where
  base : Word := 0
  dim : BitVec 8 := 0
  /-- FP32 frequency scale factors of bands 0..63. -/
  factor : List Word := []
  /-- Generator slots 0..63: band in [5:0], phase quarter in [7:6]. -/
  slot : List Byte := []
  reservedSet : Bool := false
  deriving DecidableEq, Repr

/-- The role a plan's bank map gives a usable bank (R483). -/
inductive BankRole where
  | unused | weights | staging | other
  deriving DecidableEq, Repr

/-- One seat of a crew: its logical tile and everything the loader writes there (R42, R193, R713). -/
structure Seat where
  tile : TileId
  program : List (BitVec 256)
  send : Table SendEntry
  input : List InputEntry
  checkMap : List Word
  roles : List BankRole
  cacheMask : BitVec 8
  chkEn : Bool
  chkSend : BitVec 20
  /-- The plan's verdict read cycle (R291, R295). -/
  verdictRead : Nat
  srStage : BitVec 7
  deriving DecidableEq, Repr

/-- One crew: its stage, whether the stage is streamed (R47), and its seats in seat order. -/
structure Crew where
  stage : Nat
  streamed : Bool
  /-- The stage's weight bytes, for the refill volume of R670. -/
  weightBytes : Nat
  seats : List Seat
  deriving DecidableEq, Repr

/-- A latency fixup (R113). -/
structure Fixup where
  target : Nat
  lsb : Nat
  width : Nat
  expr : Nat
  addend : Int
  unit : Nat
  signed : Bool
  reservedSet : Bool
  deriving DecidableEq, Repr

/-- A slack check (R115). -/
structure SlackCheck where
  cycExpr : Nat
  tickExpr : Option Nat
  start : Nat
  dueKind : Nat
  cls : Nat
  dueAdd : Nat
  stage : Nat
  deriving DecidableEq, Repr

/-- A relocation record (R714): KIND, target in its section, crew or area, seat, addend. -/
structure Reloc where
  target : Nat
  section_ : Nat
  kind : Nat
  lsb : Nat
  crewOrArea : Nat
  seat : Nat
  addend : Nat
  deriving DecidableEq, Repr

/-- One entry of a stroke-length table: step, S, F (R66). -/
structure StrokePair where
  step : Nat
  s : Nat
  f : Nat
  deriving DecidableEq, Repr

/-- A candidate of a sampled check (R279): a block of rows of one row group by 64 consecutive elements from `element` on. -/
structure Candidate where
  group : Nat
  firstRow : Nat
  rows : Nat
  element : Nat
  deriving DecidableEq, Repr

/-- The check data of a stage (R279, R285): threshold T, the candidate table, the tile count and the check-enable flag of its referee's
table, replay length, verdict cycle. -/
structure StageCheck where
  stage : Nat
  threshold : BitVec 16
  table : List Candidate
  tiles : Nat
  enabled : Bool := true
  replay : Nat
  verdictCycle : Nat
  deriving DecidableEq, Repr

/-- N_c (R279). -/
def StageCheck.candidates (c : StageCheck) : Nat := c.table.length

/-- A fetch of a streamed stage (R48, log entry 53): its channel (0-31 stacks, 32-63 module-tier channels), its bytes, and the ticks from the catch
to the first use of them. -/
structure StreamFetch where
  chan : Nat
  bytes : Nat
  firstUse : Nat
  deriving DecidableEq, Repr

/-- The stream budget of a stage (R48, log entry 53). -/
structure StreamBudget where
  stage : Nat
  fetches : List StreamFetch
  deriving DecidableEq, Repr

/-- A run of scratch lines: tile key, first line, lines. -/
abbrev LineRun := Nat × Nat × Nat

/-- The staging placement of a layer crew (R328, log entry 56): spilled, or held in lines of its tiles for each pipeline slot. -/
structure Staging where
  stage : Nat
  spilled : Bool
  places : List (List LineRun) := []
  deriving DecidableEq, Repr

/-- The row-cost table of a phase (R408). -/
structure RowCost where
  w : Nat
  f0 : Nat
  c : Nat
  a : Nat
  kp : Nat
  deriving DecidableEq, Repr

/-- One area of the tier area map (R713 0x15): kind 0 page-slot pool, 1 adapter area, others as the plan uses them (the
numbers: log entry 24); tier 0 stack, 1 module. -/
structure TierArea where
  kind : Nat
  tier : Nat
  chan : Nat
  size : Nat
  deriving DecidableEq, Repr

/-- What the sections of a plan hold for this member (R713): those of the base plan, or those that a loss variant carries. -/
structure PlanTables where
  /-- 0x01, 0x02, 0x0B, 0x0C, 0x11: crews, and each seat's program, send table, input list, bank map and cache mask. -/
  crews : List Crew := []
  /-- 0x03 to 0x07. -/
  relocs : List Reloc := []
  exprs : List (List (Nat × Int)) := []
  fixups : List Fixup := []
  slack : List SlackCheck := []
  routes : List (TileId × TileId) := []
  /-- 0x08, 0x09. -/
  strokes : List StrokePair := []
  wide : List StrokePair := []
  /-- 0x0A, grants per region: the count of each 128-cycle window (R119). -/
  grants : Table (List Nat) := []
  /-- 0x0D, remote delivery tables: link number, then entries (R542). -/
  remote : Table (Table Word) := []
  /-- 0x0E, rotation descriptors: stage, descriptor number, descriptor, image-bound mark (R267, R355). -/
  rot : List (Nat × Nat × RotDesc × Bool) := []
  /-- 0x0F. -/
  rotary : List RotaryTable := []
  /-- 0x10. -/
  checks : List StageCheck := []
  /-- 0x12, weight map: per tensor map entry, scratch places as (tile key, bank line) runs (R365), and the same for the buffer lines that
  hold a streamed tensor at the first catch (R376). -/
  weightMap : Table (List (Nat × Nat)) := []
  bufferMap : Table (List (Nat × Nat)) := []
  /-- 0x13: entry phases; the stage a row holds at each stroke offset from its entry (R399, R400); the offset at which the sampler commits
  (R399) and that of the last layer stage (R402); row costs; staging placement; layers; the bytes of a page (R324) and of a staging row. -/
  entryPhases : List Nat := []
  path : List Nat := []
  commitOffset : Nat := 0
  lastLayer : Nat := 0
  rowCost : List RowCost := []
  staging : List Staging := []
  nLayers : Nat := 0
  pageBytes : Nat := 0
  stagingRow : Nat := 0
  /-- 0x14: stream budgets; the bytes a channel carries for the key-value cache in a stroke (R48); adapters a row group may carry (R383). -/
  budgets : List StreamBudget := []
  kvTraffic : Table Nat := []
  adaptersPerGroup : Nat := 0
  /-- 0x15. -/
  areas : List TierArea := []
  /-- 0x17, plan links with their alternates, the blocks each carries, and broadcast children (R564, R373). -/
  planLinks : List (Nat × Nat) := []
  linkBlocks : Table Nat := []
  children : List Nat := []
  deriving DecidableEq, Repr

/-- A loss variant (R713, R727): its number, the member it applies to, the regions it excludes, the types of the sections it carries, and
what they hold. -/
structure Variant where
  number : Nat
  member : Nat := 0
  mask : BitVec 64
  types : List Nat := []
  tables : PlanTables := {}
  /-- Stages whose crews the variant moves (R728). -/
  moved : List Nat := []
  deriving DecidableEq, Repr

/-- A plan file (R712, R713): its bytes, what its header says, and its sections. -/
structure Plan extends PlanTables where
  /-- The bytes of the file; what they spell is taken from them when the plan is read. -/
  file : Bytes := []
  /-- The header or the section table is not as R712 and R713 require. -/
  headerBad : Bool := false
  keySlot : Nat := 0
  debugOnly : Bool := false
  selfTest : Bool := false
  length : Nat := 0
  digest : BitVec 256 := 0
  layout : BitVec 256 := 0
  numerics : BitVec 256 := 0
  members : Nat := 1
  stages : Nat := 0
  floorStep : Nat := 0
  kvFormat : BitVec 8 := 0
  passLength : Nat := 0
  rowsPerPhase : Nat := 0
  contextLimit : Nat := 0
  mirrorRate : Nat := 0
  /-- An encoding fault in a section (a reserved opcode, a refused field value, a nonzero reserved field: R191, R712). -/
  encodingFault : Bool := false
  variants : List Variant := []
  deriving DecidableEq, Repr

/-- The page slot of a plan (R325): the page's size rounded up to a whole number of 4 KiB units. -/
def Plan.pageSlot (p : Plan) : Nat := 4096 * ((p.pageBytes + 4095) / 4096)

/-- A layer crew spills its staging (R328). -/
def Plan.spills (p : Plan) (stage : Nat) : Bool := p.staging.any (fun g => decide (g.stage = stage) && g.spilled)

/-- The plan spills staging: its sequences hold spill slots (R328, R408). -/
def Plan.spilled (p : Plan) : Bool := p.staging.any (fun g => g.spilled)

/-- The plan holds no staging in scratch (R328). -/
def Plan.spillsAll (p : Plan) : Bool := p.spilled && p.staging.all (fun g => g.spilled)

/-- A rotation key entry of an image (R355). -/
structure RotKey where
  stage : Nat
  desc : Nat
  key : RotDesc
  deriving DecidableEq, Repr

/-- A tensor table entry (R352). -/
structure TensorEntry where
  id : Nat := 0
  stage : Nat
  role : Nat := 0
  source : Bool
  srcFmt : Nat
  tgtFmt : Nat
  rotDesc : Nat
  raised : Bool
  adapterA : Bool := false
  adapterB : Bool := false
  rows : Nat
  cols : Nat
  firstShard : Nat
  shardCount : Nat
  mapEntry : Nat
  plainLength : Nat := 0
  deriving DecidableEq, Repr

/-- A shard table entry (R353). -/
structure ShardEntry where
  offset : Nat := 0
  length : Nat
  tensor : Nat
  deriving DecidableEq, Repr

/-- A weight-image manifest (R351-R358): what its header and tables spell, its signed bytes and its signature block. -/
structure Manifest where
  kind : Nat := 0
  keySlot : Nat := 0
  epoch : BitVec 64 := 0
  imageId : BitVec 128 := 0
  layout : BitVec 256 := 0
  roundingKey : BitVec 64 := 0
  noncePrefix : Bytes := []
  tensors : List TensorEntry := []
  shards : List ShardEntry := []
  rotKeys : List RotKey := []
  envelopes : List Bytes := []
  imageLength : Nat := 0
  adapterId : Word := 0
  adapterRank : Nat := 0
  /-- Bytes 0 to SIG_OFFSET - 1, and the signature block (R356). -/
  signed : Bytes := []
  signature : Bytes := []
  /-- A reserved field is set, or a field or table is not as R351 to R355 and R358 require. -/
  bad : Bool := false
  deriving DecidableEq, Repr

/-- A weight image as flash holds it (R350, R370): its manifest, and the sealed shard records by index. -/
structure Image where
  man : Manifest
  records : Table (Option Bytes) := []
  deriving DecidableEq, Repr

/-- How a frame of a host port is marked (R589, R592): its priority, its DSCP, and whether it is ECT(0). -/
structure FrameTag where
  prio : Nat := 0
  dscp : Nat := 0
  ect : Bool := false
  deriving DecidableEq, Repr

/-- The 32-byte source record and the tail of a swap or plan-load request (R385, R719). -/
structure SourceRecord where
  kind : Nat
  slot : Nat
  connection : Nat
  rkey : Nat
  address : Nat
  length : Nat
  connections : Nat
  reservedSet : Bool
  /-- Byte 32 of a swap: POLICY; unused by a plan load. -/
  policy : Nat
  flags : Nat
  targetSlot : Nat
  /-- Byte 34 of a plan load: IMAGE_SLOT (0xFF keeps the image). -/
  imageSlot : Nat
  stroke : Nat
  deriving DecidableEq, Repr

/-- A host endpoint (R425): an IP address and UDP port, or a queue pair. -/
inductive Endpoint where
  | udp (ip : Nat) (port : BitVec 16)
  | qp (n : Nat)
  deriving DecidableEq, Repr

/-- The header of a token-service message and what its unit still holds (R423, R424). -/
structure MsgHeader where
  magic : BitVec 16
  version : Byte
  type : Byte
  length : Nat
  tag : BitVec 16
  seq : Word
  deriving DecidableEq, Repr

/-- Where a unit arrived: the host port, the address it came to, and the sender (R421, R425). -/
structure Arrival where
  port : BitVec 3
  endpoint : Endpoint
  /-- The destination port of a UDP payload. -/
  udpPort : BitVec 16
  /-- The bytes of the unit, UDP payload or SEND, from this message's start. -/
  unit : Bytes
  deriving DecidableEq, Repr

/-- A request or resume after its header (R430). -/
structure RequestMsg where
  requestId : BitVec 64
  seed : BitVec 64
  cls : Nat
  flags : Byte
  stopCount : Nat
  /-- A reserved byte or a stop place past STOP_COUNT is nonzero. -/
  reservedSet : Bool
  topK : Nat
  temperature : Word
  topP : Word
  minP : Word
  maxNew : Nat
  adapter : Word
  promptTotal : Nat
  promptOffset : Nat
  promptCount : Nat
  stopIds : List Word
  tokens : List Word
  deriving DecidableEq, Repr

/-- The token-service messages the module sends (R434, R437, R440), before their header's TAG and SEQ. -/
inductive OutMsg where
  | tokens (requestId : BitVec 64) (turn : BitVec 16) (first : Nat) (epoch : BitVec 64) (stroke : Word)
      (entries : List (Word × Byte))
  | notice (requestId : BitVec 64) (turn : BitVec 16) (status detail : Byte) (rest : BitVec 128)
  | completion (requestId : BitVec 64) (turn : BitVec 16) (reason flags : Byte) (detail : BitVec 16)
      (tokens promptTokens prefixTokens : Nat) (epoch : BitVec 64) (check : BitVec 64) (queueUs firstUs : Nat)
  | handOff (requestId : BitVec 64) (kind result : Byte) (serial : BitVec 128) (nextIndex : Nat) (turn : BitVec 16)
  deriving DecidableEq, Repr

/-- A tier DMA descriptor (R470). -/
structure Descriptor where
  op : Nat
  notify : Bool
  fence : Bool
  tag : Nat
  count : Nat
  line : BitVec 15
  region : Byte
  tile : Byte
  dest : Nat
  extents : List (Nat × Nat)
  reservedSet : Bool
  deriving DecidableEq, Repr

/-- The payload of a hail (R552). -/
structure Hail where
  serial : BitVec 128
  stepping : Byte
  role : Byte
  link : Byte
  gens : Byte
  regattaId : Word
  hop : Byte
  pairState : Byte
  planId : BitVec 64
  epoch : BitVec 64
  tick : BitVec 64
  stroke : BitVec 48
  easy : Byte
  deriving DecidableEq, Repr

/-- A stroke marker (R557). -/
structure Marker where
  tick : BitVec 64
  stroke : BitVec 48
  hop : Byte
  easy : Byte
  regattaId : Word
  deriving DecidableEq, Repr

/-- A flow header block (R541). -/
structure FlowHeader where
  head : FlitHead
  count : Nat
  poison : BitVec 48
  lines : List (BitVec 16)
  deriving DecidableEq, Repr

/-- A bulk header (R544). -/
structure BulkHeader where
  kind : Nat
  count : Nat
  lastBytes : Nat
  segment : Nat
  object : BitVec 64
  offset : Nat
  total : Nat
  deriving DecidableEq, Repr

/-- One item of a dictionary access protocol message (R598). -/
structure DapItem where
  index : BitVec 16
  sub : Byte
  offset : Nat
  length : Nat
  total : Nat
  data : Bytes
  /-- The item's reserved bytes are nonzero or its layout is not that of R598. -/
  malformed : Bool
  deriving DecidableEq, Repr

/-- A dictionary client (R601): a UDP source on M0, or the CAN bus. -/
inductive Client where
  | m0 (ip : Nat) (port : BitVec 16)
  | can
  deriving DecidableEq, Repr

/-- What identifies the message an item belongs to (R598, R603): its client and transaction; over CAN, whether it came in FD frames and with
bit-rate switching (R597); the item's position and COUNT; and whether the message is malformed as a whole. -/
structure DapContext where
  client : Client
  transaction : BitVec 16
  fd : Bool
  brs : Bool
  item : Nat
  count : Nat
  malformed : Bool
  deriving DecidableEq, Repr

/-- The reason a reference, region or complex event gives where the event code table wants one. -/
inductive CoxFault where
  | memory | lockup
  deriving DecidableEq, Repr

/-- What an unreadable flash codeword held (R465). -/
inductive FlashContent where
  | other
  | shard (n : Nat)
  | parked (requestId : BitVec 64)
  | log (first count : Nat)
  deriving DecidableEq, Repr

/-- The voltage domains (R661). -/
inductive Domain where
  | vcore | vsram | vlink | vphy
  deriving DecidableEq, Repr

/-- A firmware image as read from flash or the network (R694): its bytes, and whether they could be read. -/
structure Firmware where
  bytes : Bytes
  readable : Bool := true
  deriving DecidableEq, Repr

/-- What a region's sensors read (R674, R671): hottest temperature and its sensor, VCORE and VSRAM in mV, their currents in A
and 0.1 A. -/
structure RegionSense where
  region : BitVec 6
  hot : BitVec 12
  sensor : BitVec 3
  vcore : BitVec 10
  vsram : BitVec 10
  acore : BitVec 16
  asram : BitVec 16
  deriving DecidableEq, Repr

/-- What the sensors read (R655, R674): input voltage in 0.1 V, the lowest of the last second, current in A, power in W; flow in
L/min, inlet and outlet in 0.125 degC; and the regions read. -/
structure Sensors where
  vin : BitVec 10
  vmin : BitVec 10
  iin : BitVec 10
  watts : Nat
  flow : BitVec 8
  inlet : BitVec 12
  outlet : BitVec 12
  regions : List RegionSense
  deriving DecidableEq, Repr

/-- What a boot finds (R690-R695, R709-R711): the firmware image in flash when it is not the one last written, whether a factory copy
verifies, how the field copies stand, how often Cox fails in step 5, the regions whose control core does not start, the tier channels that fail to train (stacks
0-31, module-tier channels 32-63), the tiles and flash blocks apart, and the results of the power-on test and the self-test. -/
structure BootInputs where
  firmware : Firmware
  factoryOk : Bool
  /-- R710: both field copies verify; one does; neither; or the one the boot ROM chose fails Cox's check and the other holds. -/
  fieldCopies : BitVec 2
  coxFailures : Nat
  deadCores : BitVec 64
  deadChannels : BitVec 64
  test : BitVec 32
  selfTest : BitVec 32
  /-- R692: the scratch rows the power-on test finds failing: tile, bank and row. -/
  failRows : List (TileId × BitVec 5 × BitVec 8) := []
  /-- R692: the tier pages it finds failing: channel, 0-31 a stack and 32-63 a module-tier channel, and page. -/
  failPages : List (Nat × Nat) := []
  deriving DecidableEq, Repr

/-- The umpire's kinds of violation (R254). -/
inductive Violation where
  | bank | slot | stale | heavy
  deriving DecidableEq, Repr

end Sys2Proof
end

