-- ==== Sys2Proof/Parts/Serving.lean ====
section
/-! DEFINITION. State of serving: connections, requests, slots, passes, page sets, the prefix tree and the boathouse
(chapters 06 and 08). -/

namespace Sys2Proof.Machine

/-- The states of a request (R441). -/
inductive ReqState where
  | receiving | queued | prefill | generating | parking | retained | parked | moving
  deriving DecidableEq, Repr

/-- A committed token of the turn (R434). -/
structure TokenRec where
  /-- R434; 32; 0 | the token ID -/
  token : Word := 0
  /-- R305; 1; false | widened -/
  widened : Bool := false
  /-- R434; 1; false | epoch-crossed -/
  crossed : Bool := false
  /-- R434; 64; 0 | the weight epoch under which it was sampled -/
  epoch : BitVec 64 := 0
  /-- R434; 32; 0 | stroke number [31:0] of its commit -/
  stroke : Word := 0
  deriving DecidableEq, Repr

/-- A boathouse entry (R343, R347, R810). -/
structure BoatEntry where
  /-- R344; 1; false | in flash (else in the module tier) -/
  flash : Bool := false
  /-- R810; 4; 0 | edge index of its channels -/
  edge : Nat := 0
  /-- R345; - ; 0 | bytes it occupies -/
  bytes : Nat := 0
  /-- R345; - ; 0 | ms of its park to the module tier -/
  parkMs : Nat := 0
  /-- R344; - ; 0 | ms at which it entered its present tier -/
  tierMs : Nat := 0
  /-- R343; 64; 0 | weight epoch -/
  epoch : BitVec 64 := 0
  /-- R347; 256; 0 | numerics digest of the plan that wrote its pages -/
  numerics : BitVec 256 := 0
  /-- R347; - ; 0 | page-slot size of that plan -/
  pageSlot : Nat := 0
  /-- R343; - ; 0 | complete pages sets it holds -/
  blocks : Nat := 0
  /-- R348; - ; none | the position from which a resume re-prefills because earlier pages were lost -/
  redo : Option Nat := none
  /-- R343, R469; 1; true | its pages and staging rows can still be copied back -/
  pagesOk : Bool := true
  /-- R726; 16; 0 | the turn the entry carries -/
  turn : BitVec 16 := 0
  /-- R726; - ; none | the request parameters the entry carries -/
  par : Option RequestMsg := none
  /-- R343, R726; - ; empty | the token IDs the entry carries, from position 0 -/
  tokens : List Word := []
  deriving DecidableEq, Repr

/-- A request-table entry (R395, R430, R441). -/
structure Request where
  /-- R430; 64; 0 | REQUEST_ID -/
  id : BitVec 64 := 0
  /-- R425; 16; 0 | tag of its connection -/
  tag : Nat := 0
  /-- R441; - ; receiving | state -/
  state : ReqState := .receiving
  /-- R434; 16; 0 | turn -/
  turn : BitVec 16 := 0
  /-- R430; - ; zeros | the parameters of the turn, as its first part gave them; its TOKENS are not kept here -/
  par : Option RequestMsg := none
  /-- R431, R433; - ; none | the first part of a resume still in assembly -/
  resumePar : Option RequestMsg := none
  /-- R431; - ; empty | parts received: offset and tokens -/
  parts : List (Nat × List Word) := []
  /-- R431; - ; 0 | ms of the first part -/
  partsMs : Nat := 0
  /-- R348; - ; empty | token IDs of the whole context, from position 0 -/
  tokens : List Word := []
  /-- R437, R447; - ; 0 | positions of the turn's prompt, and the position after its last -/
  promptCount : Nat := 0
  promptEnd : Nat := 0
  /-- R437; - ; 0 | positions taken from the tree -/
  prefixCount : Nat := 0
  /-- R434; - ; empty | tokens committed in the turn -/
  committed : List TokenRec := []
  /-- R436; - ; 0 | tokens of the turn already put into records -/
  recorded : Nat := 0
  /-- R404; - ; 0 | elapsed ticks at which it joined the queue -/
  joined : Nat := 0
  /-- R404; 2; 0 | its class now -/
  cls : Nat := 0
  /-- R404; - ; 0 | ms at which it entered its class -/
  clsMs : Nat := 0
  /-- R452; 1; false | it stands at the head of its class: re-queued with its context -/
  atHead : Bool := false
  /-- R437; - ; none | elapsed ticks of its first chunk's entry, and of its first token's commit -/
  firstEntry : Option Nat := none
  firstCommit : Option Nat := none
  /-- R400; - ; none | its generation slot: 64 * phase + row -/
  slot : Option Nat := none
  /-- R413; - ; 0 | the next position to place in a chunk -/
  nextPos : Nat := 0
  /-- R87; - ; 0 | positions below it have passed every layer stage -/
  donePos : Nat := 0
  /-- R82; - ; 0 | consecutive passes lost -/
  drops : Nat := 0
  /-- R388; 1; false | epoch-crossed -/
  crossed : Bool := false
  /-- R388; 64; 0 | the weight epoch under which its present pages were computed -/
  epoch : BitVec 64 := 0
  /-- R348, R452; 1; false | it re-prefills while it keeps its state and its delivered tokens -/
  again : Bool := false
  /-- R442; 1; false | a cancel waits for the next catch -/
  cancel : Bool := false
  /-- R446, R453; 48; none | the stroke in which a park named it -/
  parkStroke : Option (BitVec 48) := none
  /-- R446, R449; 1; false | a hand-off waits for the park: the target serial -/
  moveTo : Option (BitVec 128) := none
  /-- R446; 1; false | it is still in prefill while parking -/
  inPrefill : Bool := false
  /-- R335, R337; - ; empty | page sets it holds, in block order -/
  sets : List Nat := []
  /-- R340; - ; 0 | page sets reserved and not yet allocated -/
  reserved : Nat := 0
  /-- R330; - ; 0 | leading blocks flushed by chunks that span them -/
  flushed : Nat := 0
  /-- R336, R348; - ; 0 | leading blocks whose sets stay private if they are not in the tree already -/
  privateTo : Nat := 0
  /-- R348; - ; none | lost pages: the position from which it re-prefills at its resume -/
  redo : Option Nat := none
  /-- R328; 1; false | it holds a spill slot -/
  spill : Bool := false
  /-- R342; 1; false | it holds a retention slot with its open page's staging rows -/
  retention : Bool := false
  /-- R343; - ; 0 | ms at which it was retained -/
  idleMs : Nat := 0
  /-- R343; - ; none | its boathouse entry -/
  boat : Option BoatEntry := none
  /-- R346; 1; false | copies of its pages and staging rows are under way -/
  copying : Bool := false
  deriving DecidableEq, Repr

/-- A page set (R326, R333, R335): the pages of one block of 64 positions. -/
structure PageSet where
  /-- R326; 5; 0 | base stack -/
  base : Nat := 0
  /-- R335; 32; 0 | reference count -/
  refs : Nat := 0
  /-- R333; 128; none | its key while it is in the prefix tree -/
  key : Option (BitVec 128) := none
  /-- R333; 128; 0 | the key of the block before it; 0 for block 0 -/
  parent : BitVec 128 := 0
  /-- R333; 32; 0 | adapter ID -/
  adapter : Word := 0
  /-- R333; 64; 0 | weight epoch of its contents -/
  epoch : BitVec 64 := 0
  /-- R341; - ; 0 | serial number of its last taking or insertion -/
  used : Nat := 0
  /-- R325, R326; - ; empty | the stacks that hold its pages, by layer -/
  stackList : List Nat := []
  deriving DecidableEq, Repr

/-- A row or chunk of rows in the pipeline (R400, R402). -/
structure Pass where
  /-- R402; 64; 0 | its request -/
  id : BitVec 64 := 0
  /-- R402; 48; 0 | the entry stroke -/
  entry : Nat := 0
  /-- R402; - ; none | the generation slot of a generation row; none for a prefill chunk -/
  slot : Option Nat := none
  /-- R402; - ; 0 | first position and row count -/
  first : Nat := 0
  count : Nat := 0
  /-- R196; 10; 0 | the crew row of its first row -/
  row : Nat := 0
  /-- R50; 1; false | its last row is sampled -/
  sampled : Bool := false
  /-- R305; 1; false | widened -/
  widened : Bool := false
  /-- R77; 1; false | its rows were lost to lateness -/
  lost : Bool := false
  deriving DecidableEq, Repr

/-- The states of a generation slot (R401), with the request that holds it. -/
inductive SlotState where
  | free
  | booked (id : BitVec 64)
  | running (id : BitVec 64)
  | releasing (id : BitVec 64) (sets : List Nat)
  deriving DecidableEq, Repr

/-- A connection of the token service (R425-R428). -/
structure Conn where
  /-- R425; - ; none | the host endpoint its tag is bound to; none while detached -/
  endpoint : Option Endpoint := none
  /-- R428; - ; 0 | ms at which it detached -/
  detachedMs : Nat := 0
  /-- R426; 32; 0 | SEQ of the next message the module sends -/
  seq : Word := 0
  /-- R425; 3; 0 | the host port of its last message -/
  port : BitVec 3 := 0
  /-- R428; - ; 0 | ms of its last message -/
  lastMs : Nat := 0
  /-- R427; - ; empty | messages that wait for the next finish -/
  outbox : List (Word × OutMsg) := []
  deriving DecidableEq, Repr

/-- A unit sent (R422, R427): the connection, its endpoint and port, and its bytes. -/
structure SentUnit where
  tag : Nat
  endpoint : Endpoint
  port : BitVec 3
  bytes : Bytes
  /-- R589, R592; - ; UDP's | how its frames are marked -/
  frame : FrameTag := {}
  deriving DecidableEq, Repr

/-- Cox's tables, which the standby mirrors at every finish (R397). -/
structure Tables where
  /-- R395; 65,536 entries; empty | the request table, in order of acceptance -/
  reqs : List Request := []
  /-- R396; 5,120 entries; free | generation slots by 64 * phase + row -/
  slots : Table SlotState := []
  /-- R396; 3,072 chunk entries; empty | rows in the pipeline, chunks and generation rows -/
  passes : List Pass := []
  /-- R326; - ; empty | page sets by number -/
  sets : Table (Option PageSet) := []
  /-- R326; - ; 0 | the number of the next page set -/
  nextSet : Nat := 0
  /-- R341; - ; 0 | serial number of takings and insertions -/
  uses : Nat := 0
  /-- R415; 48; none | the last stroke whose rows have been decided -/
  planned : Option Nat := none
  deriving DecidableEq, Repr

/-- Serving. -/
structure Serving where
  /-- R395; - ; as its lines | Cox's tables -/
  t : Tables := {}
  /-- R397; - ; as its lines | the standby's mirror of them, of the last finish -/
  mirror : Tables := {}
  /-- R397; - ; empty | token messages sent at the last finish, by tag -/
  lastSent : List (Nat × OutMsg) := []
  /-- R425; 1,024; empty | connections by tag -/
  conns : Table (Option Conn) := []
  /-- R427; - ; empty | units sent to hosts, oldest first -/
  sent : List SentUnit := []
  /-- R388; 1; false | a drain has paused admissions -/
  drained : Bool := false
  /-- R756; - ; 0 | tokens committed in the stroke in progress -/
  tokensNow : Nat := 0
  /-- R449; - ; empty | boathouse entries being sent to partners: request, target serial, link -/
  moves : List (BitVec 64 × BitVec 128) := []
  deriving DecidableEq, Repr

end Sys2Proof.Machine
end

