-- ==== Sys2Proof/Parts/Links.lean ====
section
/-! DEFINITION. State of the tensor links, partners, regattas and pairs (chapter 11). -/

namespace Sys2Proof.Machine

/-- A control word (R546, R547), by kind. -/
inductive CtlWord where
  | hail (h : Hail)
  | ack
  | heartbeat (batch : Nat)
  | halt (serial : BitVec 128) (stroke : Nat)
  | resume (tick s f step stroke : Nat)
  | stake (tick first stroke s f step : Nat)
  | strokeChange (stroke s f step : Nat)
  | modeReport (stroke : Nat) (verdicts : List (Nat × Nat))
  | modeChange (stroke : Nat) (fall : BitVec 128) (wide : Nat)
  | rerequest (shard fails : Nat)
  | bulkNak (kind object segment : Nat)
  | bulkAck (kind object : Nat)
  | probe (n : Nat) (reply : Bool) (turn : Nat)
  | takeover (serial : BitVec 128)
  deriving DecidableEq, Repr

/-- What a link sends: a block with its type (R537), or the blocks of a segment of a bulk object (R544). -/
inductive LinkOut where
  | block (type : BitVec 4) (bytes : Bytes)
  | bulk (kind object segment : Nat)
  deriving DecidableEq, Repr

/-- A mirror batch or a resynchronisation (R569, R570): Cox's tables with it applied, the staging rows written, each by tile and
line, and the pages flushed, each by tier address. -/
structure BatchContent where
  tables : Tables := {}
  rows : List ((TileId × BitVec 15) × Bytes) := []
  pages : List (Nat × Bytes) := []
  staging : Option SourceRecord := none
  deriving DecidableEq, Repr

/-- What a complete bulk object brings (R449, R570): nothing the model keeps, a mirror batch, or a request with its boathouse
entry. -/
inductive BulkContent where
  | other
  | batch (b : BatchContent)
  | entry (r : Request)
  deriving DecidableEq, Repr

/-- A sequenced word that has not been acknowledged (R548). -/
structure SentWord where
  seq : BitVec 16 := 0
  word : CtlWord := .ack
  /-- R548; - ; 0 | times it was resent -/
  resends : Nat := 0
  deriving DecidableEq, Repr

/-- A bulk object being received (R544, R545): its kind and object, and the segments that arrived. -/
structure BulkIn where
  kind : Nat := 0
  object : Nat := 0
  total : Nat := 0
  /-- R545; - ; empty | segments: number and length -/
  got : Table Nat := []
  /-- R544; - ; empty | bytes of the segments of a manifest or a shard record, by offset -/
  data : Table Bytes := []
  deriving DecidableEq, Repr

/-- The flow a link is receiving (R540, R541). -/
structure FlowIn where
  /-- R541; 12 B; none | HEAD of its last header -/
  head : FlitHead
  /-- R541; - ; 0 | data blocks of that header still to come, and those received -/
  left : Nat := 0
  done : Nat := 0
  poison : BitVec 48 := 0
  lines : List (BitVec 16) := []
  /-- R540; 1; false | tainted -/
  taint : Bool := false
  deriving DecidableEq, Repr

/-- A tensor link and its port (TL_). -/
structure Link where
  /-- R578; 1; false | TL_CTL.EN -/
  en : Bool := false
  /-- R578; 2; 0 | TL_CTL.GEN -/
  gen : BitVec 2 := 0
  /-- R578; 2; 1 | TL_CTL.CLASS -/
  cls : BitVec 2 := 1
  /-- R578; 1; false | TL_CTL.PAIR -/
  pair : Bool := false
  /-- R551; 1; false | TL_CTL.ISOLATE -/
  isolate : Bool := false
  /-- R578; 3; 0 | TL_STAT.STATE -/
  state : Nat := 0
  /-- R578; 2; 0 | TL_STAT.GEN_ACT -/
  genAct : BitVec 2 := 0
  /-- R578; 1; false | TL_STAT.MARKER -/
  marker : Bool := false
  /-- R540; 1; false | TL_STAT.TAINT (W1C) -/
  taint : Bool := false
  /-- R648; - ; 0 | elapsed ticks at which the enabled link's block leaves reset (TL_STAT.READY shows it) -/
  readyAt : Nat := 0
  /-- R578; 7; 0x7F | TL_STAT.PEER -/
  peer : BitVec 7 := 0x7F
  /-- R551; 8; 0 | TL_STAT.FLAPS (RC) -/
  flaps : BitVec 8 := 0
  /-- R550; 16; 0xFFFF | TL_DELAY.PUBLISHED -/
  published : BitVec 16 := 0xFFFF
  /-- R550; 16; 0xFFFF | TL_DELAY.EXACT -/
  exact_ : BitVec 16 := 0xFFFF
  /-- R536; 16; 0 | TL_FEC_STAT.CORRECTED (RC) -/
  corrected : BitVec 16 := 0
  /-- R536; 16; 0 | TL_FEC_STAT.UNCORRECTABLE (RC) -/
  uncorrectable : BitVec 16 := 0
  /-- R548; 16; 0 | TL_CW_STAT.RETRIES (RC) -/
  retries : BitVec 16 := 0
  /-- R537; 8; 0 | TL_CW_STAT.CRC_FAIL (RC) -/
  crcFail : BitVec 8 := 0
  /-- R564; 7; 0x7F | TL_ALT.ALT -/
  alt : BitVec 7 := 0x7F
  /-- R564; 1; false | TL_ALT.ACTIVE -/
  altActive : Bool := false
  /-- R564; 1; false | its flows move to ALT at the next catch -/
  altNext : Bool := false
  /-- R564; - ; 0 | stroke at which its flows move back to it, 0: none named -/
  altBack : Nat := 0
  /-- R542; 256 x 17; 0 | remote delivery table -/
  remote : Table Word := []
  /-- R551; - ; 0 | consecutive uncorrectable codewords -/
  badRun : Nat := 0
  /-- R536; 1; false | the codeword being received was uncorrectable -/
  badNow : Bool := false
  /-- R551; - ; empty | ms of the downs of the last 60 s -/
  downs : List Nat := []
  /-- R549; - ; 0 | ms at which training began -/
  trainMs : Nat := 0
  /-- R550; 16; empty | round trips measured in this training, 1/64 tick -/
  trips : List Nat := []
  /-- R548; 64; empty | sequenced words unacknowledged, oldest first -/
  unacked : List SentWord := []
  /-- R548; - ; empty | sequenced words that wait for room among the 64 -/
  waiting : List CtlWord := []
  /-- R546; 16; 1 | SEQ of the next sequenced word -/
  seq : BitVec 16 := 1
  /-- R546; 16; 0 | ACK: highest SEQ received in order -/
  ack : BitVec 16 := 0
  /-- R541; - ; none | the flow being received -/
  flow : Option FlowIn := none
  /-- R544; - ; empty | bulk objects being received -/
  bulk : List BulkIn := []
  /-- R541; - ; empty | data flits taken for the port's flows, oldest first, their destinations rewritten -/
  packing : List Flit := []
  /-- R537, R539; - ; empty | blocks and bulk segments sent, oldest first -/
  out : List LinkOut := []
  deriving DecidableEq, Repr

/-- The states of a partner (R553). -/
inductive PartnerState where
  | bench | member | pair | lost
  deriving DecidableEq, Repr

/-- A partner-table entry (R553). -/
structure Partner where
  /-- R553; - ; zeros | the fields of its last hail -/
  hail : Hail
  /-- R553; 96; 0 | links on which the serial hails -/
  links : BitVec 96 := 0
  /-- R553; - ; bench | its state -/
  state : PartnerState := .bench
  /-- R554; - ; 0 | ms at which it became lost -/
  lostMs : Nat := 0
  /-- R554; - ; bench | the state it had before it was lost -/
  before : PartnerState := .bench
  deriving DecidableEq, Repr

/-- A mirror batch (R570): its stroke and its bytes. -/
structure Batch where
  stroke : Nat := 0
  bytes : Nat := 0
  deriving DecidableEq, Repr

/-- Links, partners, regatta and pair. -/
structure Links where
  /-- R392, R577; - ; none | the active's record of a swap being staged, at the standby of a pair -/
  staging : Option SourceRecord := none
  /-- R532; 96; all at reset | links by number -/
  links : Table Link := []
  /-- R553; 96; empty | the partner table -/
  partners : List Partner := []
  /-- R555; 32; 0 | regatta ID taken at the last plan load -/
  regattaId : Word := 0
  /-- R555, R770; 8192 B; zeros | regatta map taken at the last plan load -/
  map : Bytes := []
  /-- R556; 8; none | the parent link -/
  parent : Option Nat := none
  /-- R556; 8; none | the standby parent link -/
  standby : Option Nat := none
  /-- R556; 8; 0xFF | this module's HOP -/
  hop : Nat := 0xFF
  /-- R578; 16; 0 | AlignmentError 0x6100.05, 1/64 tick -/
  alignErr : Int := 0
  /-- R557, R767; 16; 4096 | the marker period in force at the root -/
  period : Nat := 4096
  /-- R559; 2; 0 | consecutive markers that disagreed -/
  badMarkers : Nat := 0
  /-- R558; 1; false | aligned to the parent -/
  aligned : Bool := false
  /-- R557; - ; 0 | elapsed ticks of the last good marker -/
  markerAt : Nat := 0
  /-- R562; - ; 0 | the largest stroke number the halt words have reported -/
  haltStroke : Nat := 0
  /-- R560; 64; none | the first catch named by a stake word: stake tick, first catch tick, first stroke, S, F, step -/
  stake : Option (Nat × Nat × Nat × Nat × Nat × Nat) := none
  /-- R578; 3; 0 | PairState 0x6200.03 -/
  pairState : Nat := 0
  /-- R572; - ; 0 | consecutive heartbeats missed -/
  misses : Nat := 0
  /-- R572; 1; false | a heartbeat has arrived in this period -/
  beat : Bool := false
  /-- R571; - ; empty | mirror batches sent and not acknowledged, oldest first -/
  mirror : List Batch := []
  /-- R570; - ; 0 | stroke of the last mirror batch sent, and of the last applied -/
  sentBatch : Nat := 0
  applied : Nat := 0
  /-- R570; - ; empty | on the standby: batches received complete and not yet applied, by stroke -/
  received : List (Nat × BatchContent) := []
  /-- R566; 1; false | the home wafer halted because a member or both links are gone -/
  linksHalt : Bool := false
  deriving DecidableEq, Repr

end Sys2Proof.Machine
end

