-- ==== Sys2Proof/Syntax.lean ====
section
/-! DEFINITION. The commands: one constructor per row of spec/opcode_table.json, with the operands its rule names. -/

namespace Sys2Proof

/-- A command. -/
inductive Instr where
  /-- CATCH (R60). -/
  | catch_
  /-- FINISH (R59). -/
  | finish
  /-- DUE_TICK (R64). -/
  | dueTick (t : TileId) (deliv : BitVec 8)
  /-- RESUME_TICK (R88). -/
  | resumeTick
  /-- CLK_STROKE_ARM (R67). -/
  | clkStrokeArm (r : BitVec 6) (value : Word)
  /-- CLK_TICK_LO_READ (R58). -/
  | clkTickLoRead (r : BitVec 6)
  /-- CLK_STROKE_LO_READ (R58). -/
  | clkStrokeLoRead (r : BitVec 6)
  /-- HALT (R84). -/
  | halt (value : Byte)
  /-- LANE_ENTRY_ADVANCE (R124). -/
  | laneEntryAdvance
  /-- LANE_WINDOW_APPLY (R127). -/
  | laneWindowApply (r : BitVec 6)
  /-- NOP (R190). -/
  | nop (t : TileId) (slot : Slot) (op : BitVec 6) (fetchBad : Bool)
  /-- END (R204). -/
  | end_ (t : TileId)
  /-- LI (R204). -/
  | li (t : TileId) (d : BitVec 4) (imm : BitVec 22)
  /-- ADDI (R204). -/
  | addi (t : TileId) (d a : BitVec 4) (imm : BitVec 22)
  /-- ADD (R204). -/
  | add (t : TileId) (d a b : BitVec 4)
  /-- SUB (R204). -/
  | sub (t : TileId) (d a b : BitVec 4)
  /-- AND (R204). -/
  | and (t : TileId) (d a b : BitVec 4)
  /-- OR (R204). -/
  | or (t : TileId) (d a b : BitVec 4)
  /-- XOR (R204). -/
  | xor (t : TileId) (d a b : BitVec 4)
  /-- SHL (R204). -/
  | shl (t : TileId) (d a b : BitVec 4)
  /-- SHR (R204). -/
  | shr (t : TileId) (d a b : BitVec 4)
  /-- SCALAR_MUL (R204). -/
  | scalarMul (t : TileId) (d a b : BitVec 4)
  /-- SLT (R204). -/
  | slt (t : TileId) (d a b : BitVec 4)
  /-- BNZ (R206). -/
  | bnz (t : TileId) (a : BitVec 4) (imm : BitVec 22)
  /-- BDEC (R204). -/
  | bdec (t : TileId) (a : BitVec 4) (imm : BitVec 22)
  /-- WAITC (R208). -/
  | waitc (t : TileId) (a : BitVec 4) (imm : BitVec 22)
  /-- WAITG (R208). -/
  | waitg (t : TileId) (a : BitVec 4) (imm : BitVec 22)
  /-- WAIT_RELEASE (R208). -/
  | waitRelease (t : TileId) (n : Nat)
  /-- PRED (R204). -/
  | pred (t : TileId) (d a : BitVec 4) (imm : BitVec 22)
  /-- RDCYC (R204). -/
  | rdcyc (t : TileId) (d : BitVec 4)
  /-- RDSTK (R204). -/
  | rdstk (t : TileId) (d : BitVec 4)
  /-- CQN (R204). -/
  | cqn (t : TileId) (d : BitVec 4)
  /-- CQRD (R204). -/
  | cqrd (t : TileId) (d : BitVec 4) (imm : BitVec 22)
  /-- CQPOP (R210). -/
  | cqpop (t : TileId)
  /-- LD (R212). -/
  | ld (t : TileId) (pred : BitVec 2) (v : BitVec 5) (a : BitVec 4) (line : BitVec 15) (ext : BitVec 16)
  /-- ST (R217). -/
  | st (t : TileId) (pred : BitVec 2) (v : BitVec 5) (a : BitVec 4) (line : BitVec 15) (ext : BitVec 16)
  /-- LDX (R212). -/
  | ldx (t : TileId) (pred : BitVec 2) (a : BitVec 4) (line : BitVec 15) (ext : BitVec 8)
  /-- CLR (R212). -/
  | clr (t : TileId) (pred : BitVec 2) (a : BitVec 4) (line : BitVec 15)
  /-- WSET (R213). -/
  | wset (t : TileId) (set : BitVec 3) (banks : BitVec 30)
  /-- WRD (R216). -/
  | wrd (t : TileId) (set : BitVec 3) (a : BitVec 4) (line : BitVec 10)
  /-- GATH (R218). -/
  | gath (t : TileId) (pred : BitVec 2) (a : BitVec 4) (line : BitVec 15) (tag : BitVec 4)
  /-- GATHER_COMPLETE (R218). -/
  | gatherComplete (t : TileId) (tag : BitVec 4)
  /-- BLD (R226). -/
  | bld (t : TileId) (fmt : BitVec 4)
  /-- BLOCK_READY (R225). -/
  | blockReady (t : TileId)
  /-- BSW (R223). -/
  | bsw (t : TileId)
  /-- MUL (R228). -/
  | mul (t : TileId) (pred : BitVec 2) (arow : BitVec 6) (x : BitVec 8) (e : BitVec 10) (fmt : BitVec 4) (j : BitVec 3) (init : Bool)
  /-- ACLR (R222). -/
  | aclr (t : TileId) (pred : BitVec 2) (arow : BitVec 6) (count : BitVec 6)
  /-- AMOV (R222). -/
  | amov (t : TileId) (pred : BitVec 2) (arow : BitVec 6) (v : BitVec 5)
  /-- VADD (R230). -/
  | vadd (t : TileId) (pred : BitVec 2) (d a b : BitVec 5)
  /-- VSUB (R230). -/
  | vsub (t : TileId) (pred : BitVec 2) (d a b : BitVec 5)
  /-- VMUL (R230). -/
  | vmul (t : TileId) (pred : BitVec 2) (d a b : BitVec 5)
  /-- VFMA (R230). -/
  | vfma (t : TileId) (pred : BitVec 2) (d a b c : BitVec 5)
  /-- VMAX (R230). -/
  | vmax (t : TileId) (pred : BitVec 2) (d a b : BitVec 5)
  /-- VMIN (R230). -/
  | vmin (t : TileId) (pred : BitVec 2) (d a b : BitVec 5)
  /-- VCMPLT (R230). -/
  | vcmplt (t : TileId) (pred : BitVec 2) (d a b : BitVec 5)
  /-- VSEL (R230). -/
  | vsel (t : TileId) (pred : BitVec 2) (d a b c : BitVec 5)
  /-- VADDI (R230). -/
  | vaddi (t : TileId) (pred : BitVec 2) (d a : BitVec 5) (imm : BitVec 16)
  /-- VMULI (R230). -/
  | vmuli (t : TileId) (pred : BitVec 2) (d a : BitVec 5) (imm : BitVec 16)
  /-- VEXP (R230). -/
  | vexp (t : TileId) (pred : BitVec 2) (d a : BitVec 5)
  /-- VRCP (R230). -/
  | vrcp (t : TileId) (pred : BitVec 2) (d a : BitVec 5)
  /-- VRSQ (R230). -/
  | vrsq (t : TileId) (pred : BitVec 2) (d a : BitVec 5)
  /-- VRSUM (R232). -/
  | vrsum (t : TileId) (pred : BitVec 2) (d a : BitVec 5) (imm : BitVec 16)
  /-- VRMAX (R232). -/
  | vrmax (t : TileId) (pred : BitVec 2) (d a : BitVec 5) (imm : BitVec 16)
  /-- VBCAST (R230). -/
  | vbcast (t : TileId) (pred : BitVec 2) (d a : BitVec 5) (imm : BitVec 16)
  /-- VRND (R230). -/
  | vrnd (t : TileId) (pred : BitVec 2) (d a : BitVec 5)
  /-- VMOV (R230). -/
  | vmov (t : TileId) (pred : BitVec 2) (d a : BitVec 5)
  /-- VSC2 (R230). -/
  | vsc2 (t : TileId) (pred : BitVec 2) (d a : BitVec 5) (imm : BitVec 16)
  /-- ROT (R271). -/
  | rot (t : TileId) (pred : BitVec 2) (a d : BitVec 5) (fmt mode : BitVec 4) (imm : BitVec 10)
  /-- IROT (R271). -/
  | irot (t : TileId) (pred : BitVec 2) (a d : BitVec 5) (fmt mode : BitVec 4) (imm : BitVec 10)
  /-- PFEED (R234). -/
  | pfeed (t : TileId) (pred : BitVec 2) (a : BitVec 5)
  /-- PACK (R275). -/
  | pack (t : TileId) (pred : BitVec 2) (fmt mode sreg : BitVec 4) (imm : BitVec 10)
  /-- UNPK (R241). -/
  | unpk (t : TileId) (pred : BitVec 2) (d : BitVec 5) (fmt mode sreg : BitVec 4) (imm : BitVec 10)
  /-- SINCOS (R320). -/
  | sincos (t : TileId) (pred : BitVec 2) (d : BitVec 5) (mode sreg : BitVec 4)
  /-- SRSET (R234). -/
  | srset (t : TileId) (pred : BitVec 2) (mode sreg : BitVec 4)
  /-- PCLR (R234). -/
  | pclr (t : TileId) (pred : BitVec 2)
  /-- SEND (R243). -/
  | send (t : TileId) (pred : BitVec 2) (sreg : BitVec 4) (line : BitVec 15) (entry : BitVec 8)
  /-- SENDQ (R246). -/
  | sendq (t : TileId) (pred : BitVec 2) (sreg : BitVec 4) (entry : BitVec 8)
  /-- COMMIT (R244). -/
  | commit (t : TileId) (pred : BitVec 2) (entry : BitVec 8)
  /-- DMA (R243). -/
  | dma (t : TileId) (pred : BitVec 2) (sreg : BitVec 4) (line : BitVec 15)
  /-- RESULT_WRITEBACK (R248). -/
  | resultWriteback (t : TileId)
  /-- LANDING_WRITE (R143). -/
  | landingWrite (t : TileId)
  /-- DATA_FLIT_ACCEPT (R527). -/
  | dataFlitAccept (t : TileId) (f : Flit)
  /-- COMMIT_FLIT_ARRIVE (R528). -/
  | commitFlitArrive (t : TileId) (f : Flit)
  /-- CONTROL_FLIT_ENQUEUE (R179). -/
  | controlFlitEnqueue (t : TileId) (f : Flit)
  /-- CACHE_ACCESS (R157). -/
  | cacheAccess (t : TileId) (addr : Nat) (write : Option Bytes)
  /-- CACHE_FILL (R154). -/
  | cacheFill (t : TileId) (lost : Bool)
  /-- CACHE_MASK_WRITE (R159). -/
  | cacheMaskWrite (t : TileId) (mask : BitVec 8)
  /-- CACHE_MASK_CHANGE_DONE (R160). -/
  | cacheMaskChangeDone (t : TileId)
  /-- CACHE_OP_WRITE_BACK (R156). -/
  | cacheOpWriteBack (t : TileId)
  /-- CACHE_OP_INVALIDATE (R156). -/
  | cacheOpInvalidate (t : TileId)
  /-- CACHE_OP_WRITE_BACK_INVALIDATE (R156). -/
  | cacheOpWriteBackInvalidate (t : TileId)
  /-- CACHE_OP_COMPLETE (R160). -/
  | cacheOpComplete (t : TileId)
  /-- SEQ_PATCH_GO (R187). -/
  | seqPatchGo (t : TileId) (addr : BitVec 12)
  /-- SCRUB_READ (R481). -/
  | scrubRead (t : TileId) (bank : BitVec 5)
  /-- SCRUB_WRITE_BACK (R148). -/
  | scrubWriteBack (t : TileId) (bank : BitVec 5)
  /-- PAGE_REBUILD (R482). -/
  | pageRebuild (t : TileId) (bank : BitVec 5)
  /-- ROW_REMAP (R494). -/
  | rowRemap (t : TileId) (bank : BitVec 5)
  /-- BUCKET_LEAK (R485). -/
  | bucketLeak (r : BitVec 6)
  /-- ECC_LB_DEPTH_WRITE (R485). -/
  | eccLbDepthWrite (r : BitVec 6) (depth : BitVec 8)
  /-- BANK_POWER_DOWN (R489). -/
  | bankPowerDown (t : TileId) (bank : BitVec 5)
  /-- BANK_POWER_UP (R491). -/
  | bankPowerUp (t : TileId) (bank : BitVec 5)
  /-- BANK_FILL_DONE (R491). -/
  | bankFillDone (t : TileId) (bank : BitVec 5)
  /-- BANK_FORCE_OFF (R490). -/
  | bankForceOff (t : TileId) (bank : BitVec 5)
  /-- SCRATCH_FILL_DONE (R488). -/
  | scratchFillDone (b : BootInputs)
  /-- TW_NORMAL_WRITE (R487). -/
  | twNormalWrite (r : BitVec 6) (x y : BitVec 4) (bank : BitVec 5) (line : BitVec 10) (word : BitVec 2)
  /-- TW_RAW_WRITE (R487). -/
  | twRawWrite (r : BitVec 6) (x y : BitVec 4) (bank : BitVec 5) (line : BitVec 10) (word : BitVec 2)
  /-- TW_CHECKED_READ (R487). -/
  | twCheckedRead (r : BitVec 6) (x y : BitVec 4) (bank : BitVec 5) (line : BitVec 10) (word : BitVec 2)
  /-- TW_RAW_READ (R487). -/
  | twRawRead (r : BitVec 6) (x y : BitVec 4) (bank : BitVec 5) (line : BitVec 10) (word : BitVec 2)
  /-- TW_CHECK_BYTES_READ (R487). -/
  | twCheckBytesRead (r : BitVec 6) (x y : BitVec 4) (bank : BitVec 5) (line : BitVec 10)
  /-- TW_CHECK_BYTES_WRITE (R487). -/
  | twCheckBytesWrite (r : BitVec 6) (x y : BitVec 4) (bank : BitVec 5) (line : BitVec 10)
  /-- TW_QUEUE_REBUILD (R487). -/
  | twQueueRebuild (r : BitVec 6) (x y : BitVec 4) (bank : BitVec 5) (line : BitVec 10) (word : BitVec 2)
  /-- TW_REMAP_READ (R487). -/
  | twRemapRead (r : BitVec 6) (x y : BitVec 4) (bank : BitVec 5) (line : BitVec 10)
  /-- TW_REMAP_WRITE (R487). -/
  | twRemapWrite (r : BitVec 6) (x y : BitVec 4) (bank : BitVec 5) (line : BitVec 10)
  /-- TW_RESERVED_MODE (R487). -/
  | twReservedMode (r : BitVec 6) (mode : BitVec 4)
  /-- CHECK_FLIT_SEND (R284). -/
  | checkFlitSend (t : TileId)
  /-- REFEREE_VERDICT (R286). -/
  | refereeVerdict (stage : BitVec 7)
  /-- VERDICT_FLIT_ARRIVE (R295). -/
  | verdictFlitArrive (t : TileId) (f : Flit)
  /-- MODE_VECTOR_SEND (R303). -/
  | modeVectorSend
  /-- REQUEST (R431). -/
  | request (a : Arrival)
  /-- CANCEL (R442). -/
  | cancel (a : Arrival)
  /-- PARK (R446). -/
  | park (a : Arrival)
  /-- RESUME (R447). -/
  | resume (a : Arrival)
  /-- HAND_OFF (R449). -/
  | handOff (a : Arrival)
  /-- HAND_OFF_CONFIRM (R449). -/
  | handOffConfirm (id : BitVec 64) (result : Nat)
  /-- PART_TIMEOUT (R431). -/
  | partTimeout (id : BitVec 64)
  /-- QUEUE_TIMEOUT (R407). -/
  | queueTimeout (id : BitVec 64)
  /-- CLASS_AGING (R404). -/
  | classAging (id : BitVec 64)
  /-- ENTRY_STROKE_PLANNING (R415). -/
  | entryStrokePlanning
  /-- TOKEN_COMMIT (R419). -/
  | tokenCommit (id : BitVec 64) (logits : List Word) (poisoned : Bool)
  /-- IDLE_TIME_EXPIRY (R343). -/
  | idleTimeExpiry (id : BitVec 64)
  /-- MODULE_TTL_EXPIRY (R344). -/
  | moduleTtlExpiry (id : BitVec 64)
  /-- FLASH_TTL_EXPIRY (R344). -/
  | flashTtlExpiry (id : BitVec 64)
  /-- RESUME_COPY_COMPLETE (R346). -/
  | resumeCopyComplete (id : BitVec 64)
  /-- UDP_IDLE_TIMEOUT (R428). -/
  | udpIdleTimeout (tag : BitVec 16)
  /-- DETACH_TIMEOUT (R428). -/
  | detachTimeout (tag : BitVec 16)
  /-- SWAP_REQUEST (R385). -/
  | swapRequest (value : Bytes)
  /-- SWAP_CANCEL (R386). -/
  | swapCancel (value : Byte)
  /-- MANIFEST_RECEIVE (R357). -/
  | manifestReceive (manifest : Option Bytes)
  /-- SHARD_RECORD_RECEIVE (R365). -/
  | shardRecordReceive (shard : BitVec 20) (record : Bytes)
  /-- SHARD_TIMEOUT (R374). -/
  | shardTimeout (shard : BitVec 20)
  /-- STAGING_COMPLETE (R387). -/
  | stagingComplete
  /-- SWAP_SWITCH (R388). -/
  | swapSwitch
  /-- DRAIN_TIMEOUT (R388). -/
  | drainTimeout
  /-- SWITCH_REFILL_COMPLETE (R389). -/
  | switchRefillComplete (failed : Bool)
  /-- SLOT_COMMIT_COMPLETE (R391). -/
  | slotCommitComplete
  /-- ADAPTER_REGISTER (R380). -/
  | adapterRegister (value : Bytes) (fetched : Option Bytes)
  /-- ADAPTER_UNREGISTER (R384). -/
  | adapterUnregister (id : Word)
  /-- ADAPTER_RESIDENT (R381). -/
  | adapterResident (id : Word)
  /-- DMA_READ (R470). -/
  | dmaRead (edge : BitVec 4) (f : Flit) (erased : List Nat)
  /-- DMA_WRITE (R472). -/
  | dmaWrite (edge : BitVec 4) (f : Flit) (lines : List (Bytes × Bool))
  /-- DMA_COPY (R470). -/
  | dmaCopy (edge : BitVec 4) (f : Flit) (erased : List Nat)
  /-- DMA_COMPLETE (R470). -/
  | dmaComplete (edge : BitVec 4)
  /-- TIER_PAGE_READ (R468). -/
  | tierPageRead (chan : BitVec 6) (page : Nat) (erased : List Nat) (corrected : Nat)
  /-- TIER_PATROL (R469). -/
  | tierPatrol (chan : BitVec 6) (erased : List Nat) (corrected : Nat)
  /-- CODED_PAGES_WRITE (R467). -/
  | codedPagesWrite (chan : BitVec 6) (count : BitVec 25)
  /-- FLASH_CODEWORD_READ (R464). -/
  | flashCodewordRead (chan : BitVec 5) (die : Bool) (block page : Nat) (codeword : BitVec 2) (outcome : BitVec 2) (content : FlashContent)
  /-- FLIT_RECEIVE (R504). -/
  | flitReceive (r : BitVec 6) (x y : BitVec 4) (f : Flit)
  /-- SEAM_CREDIT_RETURN (R520). -/
  | seamCreditReturn (r : BitVec 6) (side : Side) (ch : BitVec 6) (lane0 : Bool)
  /-- SEAM_RELEASE (R526). -/
  | seamRelease (r : BitVec 6) (side : Side)
  /-- CODEWORD_RECEIVE (R536). -/
  | codewordReceive (k : BitVec 7) (outcome : BitVec 2) (blocks : List (BitVec 4 × Bytes))
  /-- FLOW_HEADER_RECEIVE (R541). -/
  | flowHeaderReceive (k : BitVec 7) (block : Bytes)
  /-- FLOW_DATA_BLOCK (R542). -/
  | flowDataBlock (k : BitVec 7) (data : Bytes)
  /-- FLOW_TRAILER_RECEIVE (R543). -/
  | flowTrailerReceive (k : BitVec 7) (block : Bytes)
  /-- BULK_SEGMENT (R545). -/
  | bulkSegment (k : BitVec 7) (header : Bytes) (data : List Bytes) (c : Machine.BulkContent)
  /-- STROKE_MARKER (R558). -/
  | strokeMarker (k : BitVec 7) (block : Bytes) (phase : BitVec 6)
  /-- HAIL (R553). -/
  | hail (k : BitVec 7) (block : Bytes) (agrees prefers : Bool)
  /-- ACK_ONLY (R547). -/
  | ackOnly (k : BitVec 7) (block : Bytes)
  /-- HEARTBEAT (R572). -/
  | heartbeat (k : BitVec 7) (block : Bytes)
  /-- HALT_WORD (R561). -/
  | haltWord (k : BitVec 7) (block : Bytes)
  /-- RESUME_WORD (R562). -/
  | resumeWord (k : BitVec 7) (block : Bytes)
  /-- STAKE (R560). -/
  | stake (k : BitVec 7) (block : Bytes)
  /-- STROKE_CHANGE (R563). -/
  | strokeChange (k : BitVec 7) (block : Bytes)
  /-- MODE_REPORT (R563). -/
  | modeReport (k : BitVec 7) (block : Bytes)
  /-- MODE_CHANGE (R563). -/
  | modeChange (k : BitVec 7) (block : Bytes)
  /-- SHARD_REREQUEST (R374). -/
  | shardRerequest (k : BitVec 7) (block : Bytes)
  /-- BULK_NAK (R545). -/
  | bulkNak (k : BitVec 7) (block : Bytes)
  /-- BULK_ACK (R570). -/
  | bulkAck (k : BitVec 7) (block : Bytes)
  /-- DELAY_PROBE (R550). -/
  | delayProbe (k : BitVec 7) (block : Bytes) (trip : Nat)
  /-- TAKEOVER (R573). -/
  | takeover (k : BitVec 7) (block : Bytes)
  /-- CONTROL_WORD_RESEND (R548). -/
  | controlWordResend (k : BitVec 7)
  /-- LINK_DOWN (R551). -/
  | linkDown (k : BitVec 7)
  /-- LINK_RETRAIN (R551). -/
  | linkRetrain (k : BitVec 7)
  /-- LINK_TRAINED (R549). -/
  | linkTrained (k : BitVec 7) (two : Bool)
  /-- TRAINING_TIMEOUT (R549). -/
  | trainingTimeout (k : BitVec 7)
  /-- HAIL_SEND (R552). -/
  | hailSend (k : BitVec 7)
  /-- MARKER_SEND (R557). -/
  | markerSend
  /-- MARKER_TIMEOUT (R559). -/
  | markerTimeout
  /-- PARTNER_HOLD_EXPIRY (R554). -/
  | partnerHoldExpiry (serial : BitVec 128)
  /-- HEARTBEAT_SEND (R572). -/
  | heartbeatSend
  /-- HEARTBEAT_MISS (R572). -/
  | heartbeatMiss
  /-- RESYNC_COMPLETE (R569). -/
  | resyncComplete (b : Machine.BatchContent)
  /-- PORT_LINK_UP (R580). -/
  | portLinkUp (port : BitVec 4) (supports : BitVec 7)
  /-- PLUGGABLE_INSERT (R792). -/
  | pluggableInsert (port : BitVec 3) (watts : Nat)
  /-- PFC_FRAME (R590). -/
  | pfcFrame (port : BitVec 3) (prios off : BitVec 8)
  /-- PFC_STORM (R591). -/
  | pfcStorm (port prio : BitVec 3)
  /-- PFC_STORM_CLEAR (R591). -/
  | pfcStormClear (port prio : BitVec 3)
  /-- ROCE_SEND_RECEIVE (R587). -/
  | roceSendReceive (qp : Nat) (kind : BitVec 3) (len : Nat) (ce : Bool)
  /-- CNP_RECEIVE (R592). -/
  | cnpReceive (qp : Nat)
  /-- RATE_INCREASE (R592). -/
  | rateIncrease (qp : Nat)
  /-- CM_REQ (R586). -/
  | cmReq (port : BitVec 3) (rc : Bool) (readDepth : Nat) (mtu : BitVec 2)
  /-- CM_RTU (R586). -/
  | cmRtu (qp : Nat)
  /-- CM_DREQ (R586). -/
  | cmDreq (qp : Nat)
  /-- CM_DREP (R586). -/
  | cmDrep (qp : Nat)
  /-- CM_REJ (R586). -/
  | cmRej (qp : Nat)
  /-- RDMA_READ_RESPONSE (R588). -/
  | rdmaReadResponse (qp : Nat) (record : Bytes)
  /-- ACK_TIMEOUT (R588). -/
  | ackTimeout (qp : Nat)
  /-- ARP_REQUEST (R583). -/
  | arpRequest (port : BitVec 4) (addr : BitVec 32)
  /-- NEIGHBOUR_SOLICITATION (R583). -/
  | neighbourSolicitation (port : BitVec 4) (addr : BitVec 128)
  /-- ICMP_ECHO (R583). -/
  | icmpEcho (port : BitVec 4) (addr : BitVec 128) (ident : Nat)
  /-- ROUTER_ADVERTISEMENT (R583). -/
  | routerAdvertisement (port : BitVec 4) (pfx : BitVec 64)
  /-- DHCP_REPLY (R583). -/
  | dhcpReply (port : BitVec 4) (addr : BitVec 32)
  /-- DHCP_TIMEOUT (R583). -/
  | dhcpTimeout (port : BitVec 4)
  /-- LEASE_EXPIRY (R614). -/
  | leaseExpiry (port : BitVec 4)
  /-- DAP_READ (R599). -/
  | dapRead (ip : Nat) (src dst : BitVec 16) (msg : Bytes) (n : Nat)
  /-- DAP_WRITE (R601). -/
  | dapWrite (ip : Nat) (src dst : BitVec 16) (msg : Bytes) (n : Nat) (fetched : Option Bytes)
  /-- DAP_LIST (R599). -/
  | dapList (ip : Nat) (src dst : BitVec 16) (msg : Bytes)
  /-- DAP_IDENTIFY (R599). -/
  | dapIdentify (ip : Nat) (src dst : BitVec 16) (msg : Bytes)
  /-- PIECE_TIMEOUT (R601). -/
  | pieceTimeout (c : Client) (index : BitVec 16) (sub : Byte)
  /-- KEPT_VALUE_EXPIRY (R602). -/
  | keptValueExpiry (c : Client) (index : BitVec 16) (sub : Byte)
  /-- CAN_SEGMENT (R607). -/
  | canSegment (ident : BitVec 29) (ext remote fd brs : Bool) (data : Bytes) (fetched : Option Bytes)
  /-- CAN_BUS_OFF_RECOVERY (R614). -/
  | canBusOffRecovery
  /-- STORE (R606). -/
  | store_ (value : Word)
  /-- STORE_COMPLETE (R606). -/
  | storeComplete (ok : Bool)
  /-- RESTORE_DEFAULTS (R606). -/
  | restoreDefaults (value : Word)
  /-- SOLICIT (R611). -/
  | solicit
  /-- OFFER (R611). -/
  | offer (server : Nat) (msg : Bytes)
  /-- RECOVERY_DATA (R611). -/
  | recoveryData (server : Nat) (msg : Bytes)
  /-- FETCH_RETRY (R611). -/
  | fetchRetry
  /-- RECOVERY_VERIFY (R612). -/
  | recoveryVerify
  /-- SERVER_IGNORE_EXPIRY (R612). -/
  | serverIgnoreExpiry (server : Nat)
  /-- CANDIDATE_READY (R617). -/
  | candidateReady (c : BitVec 7)
  /-- REFERENCE_LOCK (R621). -/
  | referenceLock
  /-- REFERENCE_EDGE_LOSS (R623). -/
  | referenceEdgeLoss
  /-- BRIDGE_EXPIRY (R624). -/
  | bridgeExpiry
  /-- PLANNED_SWITCH (R630). -/
  | plannedSwitch (c : BitVec 7)
  /-- SWITCH_STEP_COMPLETE (R630). -/
  | switchStepComplete
  /-- MUX_HANG (R631). -/
  | muxHang
  /-- FORCE (R632). -/
  | force
  /-- MUX_RST (R633). -/
  | muxRst
  /-- LOOP_GO (R637). -/
  | loopGo (r : BitVec 6) (step : BitVec 4)
  /-- IDLE_PATH_LOCK (R635). -/
  | idlePathLock (r : BitVec 6)
  /-- LOOP_STOP (R650). -/
  | loopStop (r : BitVec 6)
  /-- PATH_LOCK_LOSS (R638). -/
  | pathLockLoss (r : BitVec 6)
  /-- DROOP (R641). -/
  | droop (r : BitVec 6) (mv : BitVec 10)
  /-- MONITOR_WINDOW (R643). -/
  | monitorWindow (r : BitVec 6) (jit : BitVec 8) (duty : BitVec 4)
  /-- BLOCK_ENABLE (R648). -/
  | blockEnable (r : BitVec 6) (block : BitVec 4)
  /-- BLOCK_DISABLE (R649). -/
  | blockDisable (r : BitVec 6) (block : BitVec 4)
  /-- BUS_CHARGED (R666). -/
  | busCharged
  /-- POWER_ON (R690). -/
  | powerOn
  /-- INPUT_OUT_OF_RANGE (R656). -/
  | inputOutOfRange (vin : BitVec 10)
  /-- POWER_FAIL (R659). -/
  | powerFail (vin : BitVec 10)
  /-- INPUT_RESTORED (R659). -/
  | inputRestored (vin : BitVec 10)
  /-- INPUT_OVERCURRENT (R660). -/
  | inputOvercurrent (iin : BitVec 10)
  /-- CONVERTER_FAIL (R658). -/
  | converterFail (c : BitVec 4)
  /-- REGION_POWER_REQUEST (R665). -/
  | regionPowerRequest (r : BitVec 6)
  /-- REGION_POWER_GOOD (R664). -/
  | regionPowerGood (r : BitVec 6)
  /-- POWER_GOOD_TIMEOUT (R665). -/
  | powerGoodTimeout (r : BitVec 6) (domain : BitVec 2) (amps mv : BitVec 16)
  /-- REGION_POWER_GOOD_FALL (R525). -/
  | regionPowerGoodFall (r : BitVec 6)
  /-- OVERCURRENT_WARNING (R668). -/
  | overcurrentWarning (r : BitVec 6) (domain : BitVec 2) (amps : BitVec 16)
  /-- REGION_SHORT (R669). -/
  | regionShort (r : BitVec 6) (domain : BitVec 2) (amps mv : BitVec 16)
  /-- LOSS_VARIANT_REFILL_DONE (R728). -/
  | lossVariantRefillDone
  /-- REGION_RETRY (R671). -/
  | regionRetry (r : Byte)
  /-- THETA_SAMPLE (R675). -/
  | thetaSample (x : Sensors)
  /-- POWER_CAP_COMPUTE (R676). -/
  | powerCapCompute (x : Sensors)
  /-- INLET_OVER_LIMIT (R680). -/
  | inletOverLimit (inlet : BitVec 12)
  /-- FLOW_LOW (R674). -/
  | flowLow (flow : BitVec 8)
  /-- COOLANT_FAULT (R681). -/
  | coolantFault (cause : BitVec 2) (flow rise : BitVec 8) (r : BitVec 6)
  /-- COOLANT_FAULT_CLEAR (R682). -/
  | coolantFaultClear (flow : BitVec 8) (leak : Bool)
  /-- COOLANT_FAULT_TIMEOUT (R683). -/
  | coolantFaultTimeout (n : Nat)
  /-- COOLANT_PARK_DEADLINE (R683). -/
  | coolantParkDeadline
  /-- COOLANT_AUTO_RESTART (R684). -/
  | coolantAutoRestart (flow : BitVec 8) (inlet : BitVec 12) (leak : Bool)
  /-- THERMAL_TRIP (R685). -/
  | thermalTrip (r : BitVec 6) (hot : BitVec 12)
  /-- REGION_HEAT_OFF (R686). -/
  | regionHeatOff (r : BitVec 6) (hot : BitVec 12)
  /-- REGION_COOLED (R687). -/
  | regionCooled (r : BitVec 6) (hot : BitVec 12)
  /-- COX_WATCHDOG_EXPIRY (R724). -/
  | coxWatchdogExpiry (b : BootInputs)
  /-- COX_FATAL_FAULT (R724). -/
  | coxFatalFault (f : CoxFault) (b : BootInputs)
  /-- STANDBY_READY (R726). -/
  | standbyReady
  /-- ATTESTATION_NONCE (R701). -/
  | attestationNonce (nonce : Bytes)
  /-- REPORT_SIGNED (R701). -/
  | reportSigned
  /-- AUTHORISATION (R704). -/
  | authorisation (c : Client) (value : Bytes)
  /-- OWNER_KEYS_WRITE (R706). -/
  | ownerKeysWrite (c : Client) (value : Bytes)
  /-- PUBLISHER_SLOT_WRITE (R707). -/
  | publisherSlotWrite (c : Client) (slot : BitVec 3) (value : Bytes)
  /-- FIRMWARE_UPDATE (R697). -/
  | firmwareUpdate (c : Client) (value : Bytes)
  /-- FIRMWARE_WRITE_COMPLETE (R697). -/
  | firmwareWriteComplete (fetched : Firmware)
  /-- PLAN_LOAD (R719). -/
  | planLoad (value : Bytes)
  /-- PLAN_CHECK_COMPLETE (R716). -/
  | planCheckComplete (fetched : Option Plan)
  /-- PLAN_SWITCH (R718). -/
  | planSwitch
  /-- STAKE_BEGIN (R721). -/
  | stakeBegin
  /-- EVENT_RECORD_RECEIVE (R737). -/
  | eventRecordReceive (r : BitVec 6)
  /-- RATE_INTERVAL_END (R741). -/
  | rateIntervalEnd
  /-- FLUSH_PERIOD_EXPIRY (R744). -/
  | flushPeriodExpiry
  /-- FLUSH (R744). -/
  | flush (value : Byte)
  /-- FLUSH_COMPLETE (R745). -/
  | flushComplete (ok : Bool)
  /-- CURSOR_WRITE (R749). -/
  | cursorWrite (value : BitVec 64)
  /-- EXPORT (R751). -/
  | export_ (value : Bytes)
  /-- SNAPSHOT_TRIGGER (R752). -/
  | snapshotTrigger (r : BitVec 6) (mask : BitVec 12)
  /-- SNAPSHOT_SOFTWARE_FIRE (R755). -/
  | snapshotSoftwareFire (r : BitVec 6) (value : Word)
  /-- SNAPSHOT_FREE (R755). -/
  | snapshotFree (r : BitVec 6) (value : Word)
  /-- HISTOGRAM_CLEAR (R756). -/
  | histogramClear (value : Byte)
  /-- STAGE_COUNTERS_CLEAR (R757). -/
  | stageCountersClear (value : Byte)
  /-- EXTREMES_CLEAR (R757). -/
  | extremesClear (value : Byte)
  /-- COUNTER_MIRROR (R758). -/
  | counterMirror
  /-- TENSOR_ASSEMBLY_MATE (R791). -/
  | tensorAssemblyMate (j : BitVec 4) (active : Bool)
  /-- TENSOR_ASSEMBLY_UNMATE (R791). -/
  | tensorAssemblyUnmate (j : BitVec 4)
  /-- AUX_FAULT (R790). -/
  | auxFault (j : BitVec 4)
  /-- BUSBAR_MATE (R786). -/
  | busbarMate
  /-- REGISTER_WRITE (R16). -/
  | registerWrite (by_ : Option (BitVec 6)) (r : BitVec 6) (off : BitVec 24) (value : Word)
  /-- REGISTER_READ_CLEAR (R16). -/
  | registerReadClear (by_ : Option (BitVec 6)) (r : BitVec 6) (off : BitVec 24)
  /-- PORT_LINK_DOWN (R428). -/
  | portLinkDown (port : BitVec 4)
  /-- ACK_NAK_RECEIVE (R588). -/
  | ackNakReceive (qp : Nat) (kind : BitVec 2) (psn : BitVec 24)
  /-- CANDIDATE_NOT_READY (R634). -/
  | candidateNotReady (c : BitVec 7)
  /-- HISTOGRAM_PERIOD_SAMPLE (R756). -/
  | histogramPeriodSample
  /-- CAN_BUS_ERROR (R595). -/
  | canBusError (tx eight : Bool)
  deriving DecidableEq, Repr

end Sys2Proof
end

