-- ==== Sys2Proof/Config.lean ====
section
/-! DEFINITION. What the model leaves open: uninterpreted constants that no proof can evaluate. -/

namespace Sys2Proof

/-- Bits the module makes itself and the spec gives no value of (random numbers, secrets, signatures), by a serial
number that each use advances (log entry 5). -/
opaque Config.freeBits : Nat → BitVec 512

/-- A value made with a secret of the module or fixed when it is made, and given nowhere, over given data (log entry 5). -/
opaque Config.sealed : Nat → Bytes → Bytes

/-- Whether a signature of R356 over a message verifies under a key block: RSASSA-PSS and SLH-DSA, algorithms the spec names and does
not define (log entry 5). -/
opaque Config.verify : Bytes → Bytes → Bytes → Bool

/-- The 256-bit root secret that the identity source gives from the helper data (R698). -/
opaque Config.identityRoot : Bytes → Bytes

/-- The RSA-3072 modulus, the ML-KEM-1024 encapsulation key and the SLH-DSA-SHA2-192s public key that a derived seed gives (R698; FIPS
186-5, 203 and 205, log entry 55). -/
opaque Config.rsaModulus : Bytes → Bytes
opaque Config.kemPublic : Bytes → Bytes
opaque Config.slhPublic : Bytes → Bytes

/-- The two signatures of R356 over a message, under the key that a seed gives, with the random bits drawn (log entry 55). -/
opaque Config.rsaSign : Bytes → Bytes → Bytes → Bytes
opaque Config.slhSign : Bytes → Bytes → Bytes → Bytes

/-- The two signatures of R356 over a message under Terard's manufacturing keys (R700). -/
opaque Config.makerSign : Bytes → Bytes

/-- Opening under a key that a seed gives (R358, log entry 55): RSAES-OAEP with SHA-384, and ML-KEM-1024 decapsulation; none where it fails. -/
opaque Config.oaepOpen : Bytes → Bytes → Option Bytes
opaque Config.kemOpen : Bytes → Bytes → Option Bytes

/-- AES key unwrap (RFC 3394) of a wrapped key; none where it fails (R358, log entry 55). -/
opaque Config.keyUnwrap : Bytes → Bytes → Option Bytes

/-- AES-256-GCM: key, nonce, associated data, ciphertext and tag to the opened bytes; none where the tag fails (R360, log entry 55). -/
opaque Config.gcmOpen : Bytes → Bytes → Bytes → Bytes → Bytes → Option Bytes

/-- The digests of the two Terard firmware key blocks that the boot ROM holds (R694). -/
opaque Config.romDigest : Nat → Bytes

/-- The layout of a field section from its contents (R709), which the spec does not give (log entry 55). -/
opaque Config.fieldLayout : List Bytes → Bytes

end Sys2Proof
end

