-- ==== Sys2Proof/Machine/Catalog.lean ====
section
/-! DEFINITION. The catalogue of the parameter dictionary (R762, R763): every object with its type, access, default, range and class, from the tables of the chapters. -/

namespace Sys2Proof.Machine

/-- Dictionary types (R20). -/
inductive DictType where
  | u8 | u16 | u32 | u64 | i16 | bool | blob | str
  deriving DecidableEq, Repr

/-- Dictionary access (R20). -/
inductive DictAccess where
  | ro | rw | wo
  deriving DecidableEq, Repr

/-- When a write takes effect (R767). -/
inductive DictClass where
  | A | B | C | D | E | F | G | H | I
  deriving DecidableEq, Repr

/-- One object: key = 256 * index + subindex; length in bytes; numeric range `lo`..`hi` and one further value or range; for a BLOB the byte its default repeats. -/
structure DictEntry where
  key : Nat
  type : DictType
  access : DictAccess
  dflt : Nat
  len : Nat
  lo : Int
  hi : Int
  extra : Option (Int × Int) := none
  fill : Nat := 0
  cls : DictClass := .A
  deriving DecidableEq, Repr

/-- Objects of 0x1000 and following. -/
def catalog10_0 : List DictEntry :=
  [⟨0x100001, .blob, .ro, 0, 16, 0, 0, none, 0, .A⟩,
   ⟨0x100002, .u8, .ro, 0, 1, 161, 161, some (176, 176), 0, .A⟩,
   ⟨0x100003, .blob, .ro, 0, 6, 0, 0, none, 0, .A⟩,
   ⟨0x100004, .blob, .wo, 0, 32, 0, 0, none, 0, .A⟩,
   ⟨0x100005, .blob, .ro, 0, 35936, 0, 0, none, 0, .A⟩,
   ⟨0x100006, .u8, .ro, 0, 1, 0, 2, none, 0, .A⟩,
   ⟨0x100007, .blob, .ro, 0, 16, 0, 0, none, 0, .A⟩,
   ⟨0x100008, .u32, .ro, 0, 4, 0, 4294967295, none, 0, .A⟩,
   ⟨0x100009, .u8, .ro, 0, 1, 0, 4, none, 0, .A⟩,
   ⟨0x10000A, .str, .rw, 0, 64, 0, 0, none, 0, .A⟩,
   ⟨0x10000B, .str, .ro, 0, 16, 0, 0, none, 0, .A⟩,
   ⟨0x10000C, .u64, .ro, 0, 8, 0, 18446744073709551615, none, 0, .A⟩,
   ⟨0x101001, .u32, .wo, 0, 4, 1398034258, 1398034258, none, 0, .A⟩,
   ⟨0x101002, .u32, .wo, 0, 4, 1145457748, 1145457748, none, 0, .A⟩,
   ⟨0x101003, .u8, .ro, 0, 1, 0, 3, none, 0, .A⟩,
   ⟨0x101004, .u8, .ro, 0, 1, 0, 32, none, 0, .A⟩,
   ⟨0x101005, .blob, .ro, 0, 128, 0, 0, none, 0, .A⟩]

/-- Objects of 0x1100 and following. -/
def catalog11_0 : List DictEntry :=
  [⟨0x110001, .bool, .rw, 1, 1, 0, 1, none, 0, .A⟩,
   ⟨0x110002, .u8, .rw, 0, 1, 0, 4, none, 0, .A⟩,
   ⟨0x110003, .u8, .rw, 0, 1, 0, 2, none, 0, .A⟩,
   ⟨0x110004, .u16, .rw, 1500, 2, 1280, 9000, none, 0, .A⟩,
   ⟨0x110005, .u8, .rw, 0, 1, 0, 1, none, 0, .A⟩,
   ⟨0x110006, .blob, .rw, 0, 12, 0, 0, none, 0, .A⟩,
   ⟨0x110007, .u8, .ro, 0, 1, 0, 4, none, 0, .A⟩,
   ⟨0x110008, .blob, .ro, 0, 4, 0, 0, none, 0, .A⟩,
   ⟨0x110101, .bool, .rw, 1, 1, 0, 1, none, 0, .A⟩,
   ⟨0x110102, .u8, .rw, 0, 1, 0, 4, none, 0, .A⟩,
   ⟨0x110103, .u8, .rw, 0, 1, 0, 2, none, 0, .A⟩,
   ⟨0x110104, .u16, .rw, 1500, 2, 1280, 9000, none, 0, .A⟩,
   ⟨0x110105, .u8, .rw, 0, 1, 0, 1, none, 0, .A⟩,
   ⟨0x110106, .blob, .rw, 0, 12, 0, 0, none, 0, .A⟩,
   ⟨0x110107, .u8, .ro, 0, 1, 0, 4, none, 0, .A⟩,
   ⟨0x110108, .blob, .ro, 0, 4, 0, 0, none, 0, .A⟩,
   ⟨0x110201, .bool, .rw, 1, 1, 0, 1, none, 0, .A⟩,
   ⟨0x110202, .u8, .rw, 0, 1, 0, 4, none, 0, .A⟩,
   ⟨0x110203, .u8, .rw, 0, 1, 0, 2, none, 0, .A⟩,
   ⟨0x110204, .u16, .rw, 1500, 2, 1280, 9000, none, 0, .A⟩,
   ⟨0x110205, .u8, .rw, 0, 1, 0, 1, none, 0, .A⟩,
   ⟨0x110206, .blob, .rw, 0, 12, 0, 0, none, 0, .A⟩,
   ⟨0x110207, .u8, .ro, 0, 1, 0, 4, none, 0, .A⟩,
   ⟨0x110208, .blob, .ro, 0, 4, 0, 0, none, 0, .A⟩]

/-- Objects of 0x1103 and following. -/
def catalog11_1 : List DictEntry :=
  [⟨0x110301, .bool, .rw, 1, 1, 0, 1, none, 0, .A⟩,
   ⟨0x110302, .u8, .rw, 0, 1, 0, 4, none, 0, .A⟩,
   ⟨0x110303, .u8, .rw, 0, 1, 0, 2, none, 0, .A⟩,
   ⟨0x110304, .u16, .rw, 1500, 2, 1280, 9000, none, 0, .A⟩,
   ⟨0x110305, .u8, .rw, 0, 1, 0, 1, none, 0, .A⟩,
   ⟨0x110306, .blob, .rw, 0, 12, 0, 0, none, 0, .A⟩,
   ⟨0x110307, .u8, .ro, 0, 1, 0, 4, none, 0, .A⟩,
   ⟨0x110308, .blob, .ro, 0, 4, 0, 0, none, 0, .A⟩,
   ⟨0x110401, .bool, .rw, 1, 1, 0, 1, none, 0, .A⟩,
   ⟨0x110402, .u8, .rw, 0, 1, 0, 4, none, 0, .A⟩,
   ⟨0x110403, .u8, .rw, 0, 1, 0, 2, none, 0, .A⟩,
   ⟨0x110404, .u16, .rw, 1500, 2, 1280, 9000, none, 0, .A⟩,
   ⟨0x110405, .u8, .rw, 0, 1, 0, 1, none, 0, .A⟩,
   ⟨0x110406, .blob, .rw, 0, 12, 0, 0, none, 0, .A⟩,
   ⟨0x110407, .u8, .ro, 0, 1, 0, 4, none, 0, .A⟩,
   ⟨0x110408, .blob, .ro, 0, 4, 0, 0, none, 0, .A⟩,
   ⟨0x110501, .bool, .rw, 1, 1, 0, 1, none, 0, .A⟩,
   ⟨0x110502, .u8, .rw, 0, 1, 0, 4, none, 0, .A⟩,
   ⟨0x110503, .u8, .rw, 0, 1, 0, 2, none, 0, .A⟩,
   ⟨0x110504, .u16, .rw, 1500, 2, 1280, 9000, none, 0, .A⟩,
   ⟨0x110505, .u8, .rw, 0, 1, 0, 1, none, 0, .A⟩,
   ⟨0x110506, .blob, .rw, 0, 12, 0, 0, none, 0, .A⟩,
   ⟨0x110507, .u8, .ro, 0, 1, 0, 4, none, 0, .A⟩,
   ⟨0x110508, .blob, .ro, 0, 4, 0, 0, none, 0, .A⟩]

/-- Objects of 0x1106 and following. -/
def catalog11_2 : List DictEntry :=
  [⟨0x110601, .bool, .rw, 1, 1, 0, 1, none, 0, .A⟩,
   ⟨0x110602, .u8, .rw, 0, 1, 0, 4, none, 0, .A⟩,
   ⟨0x110603, .u8, .rw, 0, 1, 0, 2, none, 0, .A⟩,
   ⟨0x110604, .u16, .rw, 1500, 2, 1280, 9000, none, 0, .A⟩,
   ⟨0x110605, .u8, .rw, 0, 1, 0, 1, none, 0, .A⟩,
   ⟨0x110606, .blob, .rw, 0, 12, 0, 0, none, 0, .A⟩,
   ⟨0x110607, .u8, .ro, 0, 1, 0, 4, none, 0, .A⟩,
   ⟨0x110608, .blob, .ro, 0, 4, 0, 0, none, 0, .A⟩,
   ⟨0x110701, .bool, .rw, 1, 1, 0, 1, none, 0, .A⟩,
   ⟨0x110702, .u8, .rw, 0, 1, 0, 4, none, 0, .A⟩,
   ⟨0x110703, .u8, .rw, 0, 1, 0, 2, none, 0, .A⟩,
   ⟨0x110704, .u16, .rw, 1500, 2, 1280, 9000, none, 0, .A⟩,
   ⟨0x110705, .u8, .rw, 0, 1, 0, 1, none, 0, .A⟩,
   ⟨0x110706, .blob, .rw, 0, 12, 0, 0, none, 0, .A⟩,
   ⟨0x110707, .u8, .ro, 0, 1, 0, 4, none, 0, .A⟩,
   ⟨0x110708, .blob, .ro, 0, 4, 0, 0, none, 0, .A⟩,
   ⟨0x118001, .u8, .rw, 8, 1, 0, 255, none, 0, .A⟩,
   ⟨0x118002, .u8, .rw, 3, 1, 0, 7, none, 0, .A⟩,
   ⟨0x118003, .u8, .rw, 26, 1, 0, 63, none, 0, .A⟩,
   ⟨0x118004, .u32, .rw, 1048576, 4, 65536, 4194304, none, 0, .A⟩,
   ⟨0x118005, .u16, .rw, 100, 2, 10, 10000, none, 0, .A⟩,
   ⟨0x118006, .u16, .rw, 50, 2, 1, 1000, none, 0, .A⟩,
   ⟨0x118007, .u16, .rw, 100, 2, 10, 10000, none, 0, .A⟩,
   ⟨0x118008, .u8, .rw, 14, 1, 10, 20, none, 0, .A⟩]

/-- Objects of 0x1180 and following. -/
def catalog11_3 : List DictEntry :=
  [⟨0x118009, .u8, .rw, 7, 1, 1, 7, none, 0, .A⟩,
   ⟨0x11800A, .bool, .rw, 0, 1, 0, 1, none, 0, .A⟩]

/-- Objects of 0x1200 and following. -/
def catalog12_0 : List DictEntry :=
  [⟨0x120001, .u8, .rw, 0, 1, 0, 2, none, 0, .A⟩,
   ⟨0x120002, .u8, .rw, 0, 1, 0, 1, none, 0, .A⟩,
   ⟨0x120003, .u16, .rw, 47112, 2, 1, 65535, none, 0, .I⟩,
   ⟨0x120004, .u8, .ro, 0, 1, 0, 2, none, 0, .A⟩]

/-- Objects of 0x1300 and following. -/
def catalog13_0 : List DictEntry :=
  [⟨0x130001, .u8, .rw, 16, 1, 1, 127, none, 0, .A⟩,
   ⟨0x130002, .u8, .rw, 0, 1, 0, 1, none, 0, .A⟩,
   ⟨0x130003, .u8, .rw, 0, 1, 0, 2, none, 0, .A⟩,
   ⟨0x130004, .bool, .rw, 0, 1, 0, 1, none, 0, .A⟩,
   ⟨0x130005, .u8, .ro, 0, 1, 0, 3, none, 0, .A⟩]

/-- Objects of 0x1410 and following. -/
def catalog14_0 : List DictEntry :=
  [⟨0x141001, .u8, .wo, 0, 1, 1, 1, none, 0, .I⟩,
   ⟨0x142001, .u32, .ro, 0, 4, 0, 4294967295, none, 0, .A⟩]

/-- Objects of 0x2000 and following. -/
def catalog20_0 : List DictEntry :=
  [⟨0x200001, .u8, .rw, 1, 1, 0, 2, none, 0, .I⟩,
   ⟨0x200002, .u32, .ro, 0, 4, 0, 4294967295, none, 0, .A⟩,
   ⟨0x200003, .u8, .ro, 1, 1, 1, 12, none, 0, .A⟩,
   ⟨0x201001, .u8, .ro, 127, 1, 0, 111, some (127, 127), 0, .A⟩,
   ⟨0x201002, .bool, .rw, 1, 1, 0, 1, none, 0, .A⟩,
   ⟨0x201003, .u8, .rw, 127, 1, 0, 111, some (127, 127), 0, .A⟩,
   ⟨0x201004, .u8, .rw, 127, 1, 0, 111, some (127, 127), 0, .A⟩,
   ⟨0x201005, .u16, .rw, 256, 2, 32, 1023, none, 0, .A⟩,
   ⟨0x201006, .u8, .ro, 0, 1, 0, 4, none, 0, .A⟩,
   ⟨0x201007, .u32, .ro, 0, 4, 0, 4294967295, none, 0, .A⟩,
   ⟨0x201008, .blob, .ro, 0, 16, 0, 0, none, 0, .A⟩,
   ⟨0x202001, .u8, .rw, 25, 1, 1, 255, none, 0, .C⟩,
   ⟨0x202002, .u8, .rw, 60, 1, 1, 255, none, 0, .C⟩,
   ⟨0x202003, .u8, .rw, 4, 1, 1, 15, none, 0, .C⟩,
   ⟨0x202004, .u8, .rw, 10, 1, 1, 15, none, 0, .C⟩,
   ⟨0x202005, .bool, .rw, 1, 1, 0, 1, none, 0, .C⟩,
   ⟨0x202006, .u8, .rw, 30, 1, 10, 80, none, 0, .A⟩,
   ⟨0x202007, .bool, .rw, 1, 1, 0, 1, none, 0, .A⟩,
   ⟨0x202008, .u64, .ro, 0, 8, 0, 18446744073709551615, none, 0, .A⟩,
   ⟨0x203001, .blob, .ro, 0, 64, 0, 0, none, 0, .A⟩]

/-- Objects of 0x2100 and following. -/
def catalog21_0 : List DictEntry :=
  [⟨0x210001, .u8, .ro, 0, 1, 0, 15, none, 0, .A⟩,
   ⟨0x210002, .u16, .ro, 0, 2, 0, 0, some (64, 65535), 0, .A⟩,
   ⟨0x210003, .u16, .ro, 0, 2, 0, 65534, none, 0, .A⟩,
   ⟨0x210004, .u64, .ro, 0, 8, 0, 281474976710655, none, 0, .A⟩,
   ⟨0x210005, .u64, .ro, 0, 8, 0, 18446744073709551615, none, 0, .A⟩,
   ⟨0x210006, .u8, .ro, 1, 1, 0, 2, none, 0, .A⟩,
   ⟨0x210007, .u16, .rw, 8, 2, 4, 1024, none, 0, .C⟩,
   ⟨0x210008, .u8, .wo, 0, 1, 1, 1, none, 0, .C⟩,
   ⟨0x211001, .u8, .rw, 0, 1, 0, 1, none, 0, .E⟩,
   ⟨0x211002, .u16, .rw, 256, 2, 1, 65535, none, 0, .C⟩,
   ⟨0x211003, .u16, .rw, 256, 2, 1, 65535, none, 0, .C⟩,
   ⟨0x211004, .u16, .ro, 0, 2, 0, 65535, none, 0, .A⟩,
   ⟨0x211005, .u8, .ro, 0, 1, 0, 128, none, 0, .A⟩,
   ⟨0x211006, .u64, .ro, 0, 8, 0, 18446744073709551615, none, 0, .A⟩,
   ⟨0x211007, .u64, .ro, 0, 8, 0, 18446744073709551615, none, 0, .A⟩,
   ⟨0x212001, .u8, .rw, 8, 1, 1, 63, none, 0, .C⟩,
   ⟨0x213001, .bool, .ro, 0, 1, 0, 1, none, 0, .A⟩,
   ⟨0x213002, .bool, .rw, 0, 1, 0, 1, none, 0, .A⟩]

/-- Objects of 0x2200 and following. -/
def catalog22_0 : List DictEntry :=
  [⟨0x220001, .blob, .ro, 0, 30, 0, 0, none, 0, .A⟩,
   ⟨0x220002, .blob, .ro, 0, 1040, 0, 0, none, 0, .A⟩,
   ⟨0x220003, .blob, .ro, 0, 192, 0, 0, none, 0, .A⟩]

/-- Objects of 0x2300 and following. -/
def catalog23_0 : List DictEntry :=
  [⟨0x230001, .u64, .ro, 0, 8, 0, 18446744073709551615, none, 0, .A⟩,
   ⟨0x230002, .blob, .ro, 0, 16, 0, 0, none, 0, .A⟩,
   ⟨0x230003, .u8, .ro, 0, 1, 0, 5, none, 0, .A⟩,
   ⟨0x230004, .u8, .ro, 0, 1, 0, 11, none, 0, .A⟩,
   ⟨0x230005, .u64, .ro, 0, 8, 0, 18446744073709551615, none, 0, .A⟩,
   ⟨0x230006, .u16, .rw, 500, 2, 10, 60000, none, 0, .A⟩,
   ⟨0x230007, .u16, .rw, 64, 2, 4, 65535, none, 0, .A⟩,
   ⟨0x230008, .u32, .rw, 60000, 4, 0, 86400000, none, 0, .A⟩,
   ⟨0x230009, .blob, .wo, 0, 48, 0, 0, none, 0, .A⟩,
   ⟨0x23000A, .u8, .wo, 0, 1, 1, 1, none, 0, .A⟩,
   ⟨0x23000B, .u8, .rw, 0, 1, 0, 7, none, 0, .I⟩,
   ⟨0x23000C, .u32, .ro, 0, 4, 0, 4294967295, none, 0, .A⟩,
   ⟨0x23000D, .u64, .ro, 0, 8, 0, 281474976710655, none, 0, .A⟩,
   ⟨0x23000E, .u64, .ro, 0, 8, 0, 18446744073709551615, none, 0, .A⟩]

/-- Objects of 0x2400 and following. -/
def catalog24_0 : List DictEntry :=
  [⟨0x240001, .blob, .wo, 0, 48, 0, 0, none, 0, .A⟩,
   ⟨0x240002, .u8, .ro, 0, 1, 0, 6, none, 0, .A⟩,
   ⟨0x240003, .u8, .ro, 0, 1, 0, 13, none, 0, .A⟩,
   ⟨0x240004, .blob, .ro, 0, 32, 0, 0, none, 0, .A⟩,
   ⟨0x240005, .u8, .rw, 0, 1, 0, 7, none, 0, .I⟩,
   ⟨0x240006, .u16, .ro, 0, 2, 0, 1024, none, 0, .A⟩,
   ⟨0x240007, .blob, .ro, 0, 8, 0, 0, none, 0, .A⟩,
   ⟨0x240008, .u8, .rw, 1, 1, 0, 1, none, 0, .A⟩,
   ⟨0x240009, .u16, .ro, 0, 2, 0, 1024, none, 0, .A⟩,
   ⟨0x24000A, .blob, .ro, 0, 128, 0, 0, none, 0, .A⟩,
   ⟨0x24000B, .u32, .ro, 0, 4, 0, 4294967295, none, 0, .A⟩,
   ⟨0x24000C, .u8, .ro, 0, 1, 0, 2, none, 0, .A⟩]

/-- Objects of 0x3000 and following. -/
def catalog30_0 : List DictEntry :=
  [⟨0x300001, .u16, .rw, 47110, 2, 1, 65535, none, 0, .I⟩,
   ⟨0x300002, .u8, .rw, 1, 1, 0, 255, none, 0, .A⟩,
   ⟨0x300003, .u16, .rw, 1024, 2, 1, 1024, none, 0, .A⟩,
   ⟨0x300004, .u16, .rw, 1000, 2, 10, 60000, none, 0, .A⟩,
   ⟨0x300005, .u32, .rw, 5000, 4, 0, 3600000, none, 0, .A⟩,
   ⟨0x300006, .u32, .rw, 60, 4, 1, 86400, none, 0, .A⟩,
   ⟨0x300007, .u64, .ro, 0, 8, 0, 18446744073709551615, none, 0, .A⟩,
   ⟨0x300008, .u8, .rw, 3, 1, 0, 3, none, 0, .A⟩,
   ⟨0x300009, .u16, .ro, 0, 2, 0, 1024, none, 0, .A⟩,
   ⟨0x30000A, .u8, .rw, 3, 1, 1, 3, none, 0, .A⟩,
   ⟨0x301001, .bool, .rw, 1, 1, 0, 1, none, 0, .B⟩,
   ⟨0x301002, .u16, .rw, 0, 2, 0, 512, none, 0, .B⟩,
   ⟨0x301003, .u32, .rw, 16384, 4, 0, 65536, none, 0, .A⟩,
   ⟨0x301004, .u16, .rw, 4096, 2, 0, 32768, none, 0, .A⟩,
   ⟨0x301005, .u32, .rw, 10000, 4, 0, 3600000, none, 0, .A⟩,
   ⟨0x301006, .u32, .rw, 0, 4, 0, 3600000, none, 0, .A⟩,
   ⟨0x302001, .u16, .ro, 0, 2, 0, 8192, none, 0, .A⟩,
   ⟨0x302002, .u32, .ro, 0, 4, 0, 65536, none, 0, .A⟩,
   ⟨0x302003, .u32, .ro, 0, 4, 0, 65536, none, 0, .A⟩,
   ⟨0x302004, .u16, .ro, 0, 2, 0, 5120, none, 0, .A⟩,
   ⟨0x302005, .u16, .ro, 0, 2, 0, 5120, none, 0, .A⟩,
   ⟨0x302006, .u8, .ro, 0, 1, 0, 255, none, 0, .A⟩,
   ⟨0x302007, .u64, .ro, 0, 8, 0, 18446744073709551615, none, 0, .A⟩,
   ⟨0x302008, .blob, .ro, 0, 48, 0, 0, none, 0, .A⟩]

/-- Objects of 0x3030 and following. -/
def catalog30_1 : List DictEntry :=
  [⟨0x303001, .u32, .ro, 0, 4, 0, 4194304, none, 0, .A⟩,
   ⟨0x305001, .u8, .rw, 16, 1, 1, 64, none, 0, .A⟩]

/-- Objects of 0x3100 and following. -/
def catalog31_0 : List DictEntry :=
  [⟨0x310001, .u8, .ro, 0, 1, 0, 2, none, 0, .A⟩,
   ⟨0x310002, .u32, .ro, 0, 4, 0, 262144, none, 0, .A⟩,
   ⟨0x310003, .u32, .ro, 0, 4, 0, 4294967295, none, 0, .A⟩,
   ⟨0x310004, .u32, .ro, 0, 4, 0, 4294967295, none, 0, .A⟩,
   ⟨0x311001, .bool, .rw, 1, 1, 0, 1, none, 0, .D⟩,
   ⟨0x311002, .u32, .ro, 0, 4, 0, 4194304, none, 0, .A⟩,
   ⟨0x311003, .u32, .rw, 1048576, 4, 0, 4194304, none, 0, .A⟩,
   ⟨0x311004, .u64, .ro, 0, 8, 0, 18446744073709551615, none, 0, .A⟩,
   ⟨0x312001, .u32, .rw, 2000, 4, 0, 3600000, none, 0, .A⟩,
   ⟨0x312002, .u32, .rw, 600, 4, 1, 604800, none, 0, .A⟩,
   ⟨0x312003, .u32, .rw, 86400, 4, 0, 31536000, none, 0, .A⟩,
   ⟨0x312004, .u64, .rw, 0, 8, 0, 2048000000000, none, 0, .A⟩,
   ⟨0x312005, .u64, .rw, 0, 8, 0, 16000000000000, none, 0, .A⟩,
   ⟨0x312006, .u32, .ro, 0, 4, 0, 65536, none, 0, .A⟩,
   ⟨0x312007, .u32, .ro, 0, 4, 0, 65536, none, 0, .A⟩,
   ⟨0x312008, .u64, .ro, 0, 8, 0, 18446744073709551615, none, 0, .A⟩,
   ⟨0x313001, .u16, .ro, 0, 2, 0, 1024, none, 0, .A⟩,
   ⟨0x313002, .u16, .ro, 0, 2, 0, 256, none, 0, .A⟩,
   ⟨0x313003, .u16, .rw, 256, 2, 0, 256, none, 0, .A⟩,
   ⟨0x313004, .blob, .wo, 0, 32, 0, 0, none, 0, .A⟩,
   ⟨0x313005, .u32, .wo, 0, 4, 1, 4294967295, none, 0, .A⟩,
   ⟨0x313006, .u64, .ro, 0, 8, 0, 18446744073709551615, none, 0, .A⟩]

/-- Objects of 0x4000 and following. -/
def catalog40_0 : List DictEntry :=
  [⟨0x400001, .u16, .ro, 0, 2, 0, 1023, none, 0, .A⟩,
   ⟨0x400002, .u32, .ro, 0, 4, 0, 40000, none, 0, .A⟩,
   ⟨0x400003, .u32, .rw, 32000, 4, 5000, 32000, none, 0, .C⟩,
   ⟨0x400004, .u32, .ro, 32000, 4, 0, 32000, none, 0, .A⟩,
   ⟨0x400005, .u32, .ro, 5000, 4, 5000, 32000, none, 0, .A⟩,
   ⟨0x400006, .u8, .ro, 16, 1, 0, 16, none, 0, .A⟩,
   ⟨0x400007, .blob, .ro, 0, 128, 0, 0, none, 0, .A⟩,
   ⟨0x400008, .blob, .ro, 0, 64, 0, 0, none, 0, .A⟩,
   ⟨0x400009, .blob, .ro, 0, 8, 0, 0, none, 0, .A⟩,
   ⟨0x40000A, .u8, .wo, 0, 1, 0, 63, none, 0, .A⟩,
   ⟨0x401001, .u16, .ro, 0, 2, 0, 4095, none, 0, .A⟩,
   ⟨0x401002, .u8, .rw, 95, 1, 70, 100, none, 0, .C⟩,
   ⟨0x401003, .u8, .rw, 100, 1, 80, 104, none, 0, .A⟩,
   ⟨0x401004, .u8, .rw, 105, 1, 85, 110, none, 0, .A⟩,
   ⟨0x401005, .u16, .ro, 1600, 2, 0, 65535, none, 0, .A⟩,
   ⟨0x402001, .u8, .ro, 0, 1, 0, 255, none, 0, .A⟩,
   ⟨0x402002, .u8, .rw, 20, 1, 10, 39, none, 0, .A⟩,
   ⟨0x402003, .u8, .rw, 20, 1, 5, 100, none, 0, .A⟩,
   ⟨0x402004, .u8, .rw, 35, 1, 15, 45, none, 0, .A⟩,
   ⟨0x402005, .bool, .rw, 1, 1, 0, 1, none, 0, .A⟩,
   ⟨0x402006, .u8, .ro, 0, 1, 0, 3, none, 0, .A⟩,
   ⟨0x402007, .u32, .ro, 0, 4, 0, 4294967295, none, 0, .A⟩,
   ⟨0x402008, .u16, .ro, 0, 2, 0, 4095, none, 0, .A⟩,
   ⟨0x402009, .u16, .ro, 0, 2, 0, 4095, none, 0, .A⟩]

/-- Objects of 0x5000 and following. -/
def catalog50_0 : List DictEntry :=
  [⟨0x500001, .u64, .ro, 0, 8, 0, 18446744073709551615, none, 0, .A⟩,
   ⟨0x500002, .u64, .ro, 0, 8, 0, 18446744073709551615, none, 0, .A⟩,
   ⟨0x500003, .u16, .rw, 10, 2, 1, 3600, none, 0, .A⟩,
   ⟨0x500004, .u64, .ro, 0, 8, 0, 18446744073709551615, none, 0, .A⟩,
   ⟨0x500005, .u16, .ro, 0, 2, 0, 4096, none, 0, .A⟩,
   ⟨0x500006, .u8, .wo, 0, 1, 1, 1, none, 0, .A⟩,
   ⟨0x501001, .u16, .rw, 16, 2, 1, 1024, none, 0, .C⟩,
   ⟨0x501002, .blob, .rw, 0, 256, 0, 0, none, 0, .C⟩,
   ⟨0x501003, .u64, .ro, 0, 8, 0, 18446744073709551615, none, 0, .A⟩,
   ⟨0x502001, .u64, .rw, 1, 8, 1, 18446744073709551615, none, 0, .A⟩,
   ⟨0x502002, .blob, .ro, 0, 2080, 0, 0, none, 0, .A⟩,
   ⟨0x503001, .blob, .rw, 0, 32, 0, 0, none, 0, .A⟩,
   ⟨0x503002, .u8, .ro, 0, 1, 0, 2, none, 0, .A⟩,
   ⟨0x504001, .u16, .rw, 4095, 2, 0, 4095, none, 0, .A⟩,
   ⟨0x504002, .blob, .rw, 0, 256, 0, 0, none, 0, .A⟩,
   ⟨0x504003, .u8, .rw, 16, 1, 0, 64, none, 0, .A⟩,
   ⟨0x504004, .u8, .rw, 0, 1, 0, 1, none, 0, .A⟩,
   ⟨0x504005, .u16, .rw, 1024, 2, 0, 65535, none, 0, .A⟩]

/-- Objects of 0x5100 and following. -/
def catalog51_0 : List DictEntry :=
  [⟨0x510001, .blob, .ro, 0, 256, 0, 0, none, 0, .A⟩,
   ⟨0x510002, .blob, .ro, 0, 256, 0, 0, none, 0, .A⟩,
   ⟨0x510003, .blob, .ro, 0, 256, 0, 0, none, 0, .A⟩,
   ⟨0x510004, .blob, .ro, 0, 256, 0, 0, none, 0, .A⟩,
   ⟨0x510005, .blob, .ro, 0, 256, 0, 0, none, 0, .A⟩,
   ⟨0x510006, .blob, .ro, 0, 256, 0, 0, none, 0, .A⟩,
   ⟨0x510007, .blob, .ro, 0, 256, 0, 0, none, 0, .A⟩,
   ⟨0x510008, .blob, .ro, 0, 256, 0, 0, none, 0, .A⟩,
   ⟨0x51000F, .u8, .wo, 0, 1, 1, 8, some (255, 255), 0, .A⟩,
   ⟨0x511001, .blob, .ro, 0, 2048, 0, 0, none, 0, .A⟩,
   ⟨0x511002, .u8, .wo, 0, 1, 1, 1, none, 0, .A⟩,
   ⟨0x512001, .blob, .ro, 0, 216, 0, 0, none, 0, .A⟩,
   ⟨0x512002, .u8, .wo, 0, 1, 1, 1, none, 0, .A⟩]

/-- Objects of 0x6000 and following. -/
def catalog60_0 : List DictEntry :=
  [⟨0x600001, .blob, .rw, 0, 12, 0, 0, none, 0xFF, .A⟩,
   ⟨0x600002, .blob, .rw, 0, 96, 0, 0, none, 1, .F⟩,
   ⟨0x600003, .blob, .rw, 0, 96, 0, 0, none, 0, .F⟩,
   ⟨0x600004, .u16, .rw, 400, 2, 64, 1023, none, 0, .F⟩,
   ⟨0x600005, .u8, .rw, 8, 1, 1, 255, none, 0, .A⟩,
   ⟨0x600006, .blob, .ro, 0, 12, 0, 0, none, 0, .A⟩,
   ⟨0x600007, .u64, .ro, 0, 8, 0, 18446744073709551615, none, 0, .A⟩,
   ⟨0x600008, .u64, .ro, 0, 8, 0, 18446744073709551615, none, 0, .A⟩,
   ⟨0x601001, .u8, .ro, 0, 1, 0, 96, none, 0, .A⟩,
   ⟨0x601002, .blob, .ro, 0, 3840, 0, 0, none, 0, .A⟩,
   ⟨0x601003, .u32, .rw, 5000, 4, 100, 600000, none, 0, .A⟩]

/-- Objects of 0x6100 and following. -/
def catalog61_0 : List DictEntry :=
  [⟨0x610001, .u32, .rw, 0, 4, 0, 4294967295, none, 0, .E⟩,
   ⟨0x610002, .blob, .rw, 0, 8192, 0, 0, none, 0, .E⟩,
   ⟨0x610003, .u8, .ro, 0, 1, 0, 6, none, 0, .A⟩,
   ⟨0x610004, .u16, .rw, 4096, 2, 256, 16384, none, 0, .H⟩,
   ⟨0x610005, .i16, .ro, 0, 2, (-64), 64, none, 0, .A⟩,
   ⟨0x610006, .u8, .ro, 255, 1, 0, 95, some (255, 255), 0, .A⟩]

/-- Objects of 0x6200 and following. -/
def catalog62_0 : List DictEntry :=
  [⟨0x620001, .blob, .rw, 0, 16, 0, 0, none, 0, .G⟩,
   ⟨0x620002, .blob, .rw, 0, 12, 0, 0, none, 0, .G⟩,
   ⟨0x620003, .u8, .ro, 0, 1, 0, 5, none, 0, .A⟩,
   ⟨0x620004, .u16, .rw, 10, 2, 2, 100, none, 0, .A⟩,
   ⟨0x620005, .u8, .rw, 3, 1, 2, 10, none, 0, .A⟩,
   ⟨0x620006, .u64, .rw, 64000000000, 8, 1000000000, 512000000000, none, 0, .G⟩,
   ⟨0x620007, .u32, .ro, 0, 4, 0, 4294967295, none, 0, .A⟩,
   ⟨0x620008, .u32, .ro, 0, 4, 0, 4294967295, none, 0, .A⟩,
   ⟨0x620009, .bool, .rw, 0, 1, 0, 1, none, 0, .G⟩]

/-- Objects of 0x7000 and following. -/
def catalog70_0 : List DictEntry :=
  [⟨0x700001, .bool, .ro, 0, 1, 0, 1, none, 0, .A⟩,
   ⟨0x701001, .u8, .rw, 64, 1, 1, 255, none, 0, .A⟩,
   ⟨0x701002, .u16, .rw, 1000, 2, 0, 60000, none, 0, .A⟩,
   ⟨0x701003, .u64, .ro, 0, 8, 0, 18446744073709551615, none, 0, .A⟩,
   ⟨0x701004, .u8, .rw, 2, 1, 1, 15, none, 0, .A⟩,
   ⟨0x701005, .u32, .ro, 0, 4, 0, 4294967295, none, 0, .A⟩,
   ⟨0x701006, .u16, .ro, 0, 2, 0, 65535, none, 0, .A⟩,
   ⟨0x702001, .u64, .ro, 0, 8, 0, 18446744073709551615, none, 0, .A⟩,
   ⟨0x702002, .u64, .ro, 0, 8, 0, 18446744073709551615, none, 0, .A⟩,
   ⟨0x702003, .u32, .ro, 0, 4, 0, 4294967295, none, 0, .A⟩,
   ⟨0x703001, .u16, .rw, 24, 2, 1, 720, none, 0, .A⟩,
   ⟨0x703002, .blob, .ro, 0, 128, 0, 0, none, 0, .A⟩,
   ⟨0x703003, .blob, .ro, 0, 128, 0, 0, none, 0, .A⟩,
   ⟨0x703004, .u64, .ro, 0, 8, 0, 18446744073709551615, none, 0, .A⟩,
   ⟨0x703005, .u64, .ro, 0, 8, 0, 18446744073709551615, none, 0, .A⟩,
   ⟨0x704001, .u32, .ro, 0, 4, 0, 4294967295, none, 0, .A⟩,
   ⟨0x704002, .u64, .ro, 0, 8, 0, 18446744073709551615, none, 0, .A⟩,
   ⟨0x704003, .u64, .ro, 0, 8, 0, 18446744073709551615, none, 0, .A⟩]

/-- Objects of 0x8010 and following. -/
def catalog80_0 : List DictEntry :=
  [⟨0x801001, .blob, .wo, 0, 16736, 0, 0, none, 0, .A⟩,
   ⟨0x801002, .u64, .ro, 0, 8, 0, 18446744073709551615, none, 0, .A⟩,
   ⟨0x801003, .blob, .rw, 0, 432, 0, 0, none, 0, .A⟩,
   ⟨0x802001, .blob, .rw, 0, 432, 0, 0, none, 0, .A⟩,
   ⟨0x802002, .blob, .rw, 0, 432, 0, 0, none, 0, .A⟩,
   ⟨0x802003, .blob, .rw, 0, 432, 0, 0, none, 0, .A⟩,
   ⟨0x802004, .blob, .rw, 0, 432, 0, 0, none, 0, .A⟩,
   ⟨0x802005, .blob, .rw, 0, 432, 0, 0, none, 0, .A⟩,
   ⟨0x802006, .blob, .rw, 0, 432, 0, 0, none, 0, .A⟩,
   ⟨0x802007, .blob, .rw, 0, 432, 0, 0, none, 0, .A⟩,
   ⟨0x802008, .blob, .rw, 0, 432, 0, 0, none, 0, .A⟩,
   ⟨0x803001, .u32, .ro, 0, 4, 0, 4294967295, none, 0, .A⟩,
   ⟨0x803002, .u32, .ro, 0, 4, 0, 4294967295, none, 0, .A⟩,
   ⟨0x803003, .blob, .wo, 0, 32, 0, 0, none, 0, .A⟩,
   ⟨0x803004, .bool, .rw, 0, 1, 0, 1, none, 0, .I⟩,
   ⟨0x804001, .u8, .ro, 0, 1, 0, 3, none, 0, .A⟩,
   ⟨0x804002, .u64, .ro, 0, 8, 0, 18446744073709551615, none, 0, .A⟩]

/-- The whole catalogue, in ascending order of key. -/
def catalog : List DictEntry :=
  catalog10_0 ++ catalog11_0 ++ catalog11_1 ++ catalog11_2 ++ catalog11_3 ++ catalog12_0 ++ catalog13_0 ++ catalog14_0 ++ catalog20_0 ++ catalog21_0 ++ catalog22_0 ++ catalog23_0 ++ catalog24_0 ++ catalog30_0 ++ catalog30_1 ++ catalog31_0 ++ catalog40_0 ++ catalog50_0 ++ catalog51_0 ++ catalog60_0 ++ catalog61_0 ++ catalog62_0 ++ catalog70_0 ++ catalog80_0

/-- The entry of a key, if the dictionary holds the object (R763; subindex 0x00 apart, R764). -/
def catalogFind (key : Nat) : Option DictEntry := catalog.find? (fun e => e.key = key)

/-- The default of a numeric object (R762). -/
def catalogDefault (key : Nat) : Nat := match catalogFind key with
  | some e => e.dflt
  | none => 0

end Sys2Proof.Machine
end

