-- ==== Sys2Proof/Parts/Boot.lean ====
section
/-! DEFINITION. State of bring-up, trust, plan loading and recovery (chapter 15). -/

namespace Sys2Proof.Machine

/-- A plan that served before a plan load replaced it (R375). -/
structure PrevPlan where
  /-- R375; - ; none | the base plan -/
  base : Plan
  /-- R375; 16; none | the variant in force -/
  variant : Nat
  /-- R375, R717; - ; none | its variants that failed their checks -/
  bad : List Nat
  /-- R375; 1; none | its arithmetic policy -/
  policyFixed : Bool
  /-- R375; - ; none | its regatta map -/
  map : Bytes
  deriving DecidableEq, Repr

/-- A plan load, or a loss variant being put in service (R716, R728, R808). -/
structure PlanLoad where
  /-- R719; 48 B; none | the record written; none for a loss variant and for the boot's own load -/
  src : Option SourceRecord := none
  /-- R712; - ; none | the plan, once read and checked -/
  plan : Option Plan := none
  /-- R717; - ; empty | variants that failed their checks -/
  bad : List Nat := []
  /-- R727; 16; none | the loss variant being put in service -/
  variant : Option Nat := none
  /-- R728; - ; empty | stages whose crews the loss variant moves -/
  moved : List Nat := []
  /-- R734; 1; false | a region was lost since the load began -/
  hit : Bool := false
  /-- R808; 3; 1 | progress -/
  phase : Nat := 1
  /-- R719; 48; 0 | the switch stroke named -/
  switchAt : Nat := 0
  /-- R375; - ; none | what the switch took out of service -/
  prev : Option PrevPlan := none
  /-- R770; 1; false | the class E arithmetic policy taken when the first part began -/
  policyFixed : Bool := false
  /-- R770; 32; 0 | the regatta ID and map taken when the first part began -/
  regatta : Nat := 0
  map : Bytes := []
  deriving DecidableEq, Repr

/-- Bring-up and trust. -/
structure Boot where
  /-- R735; 32; 0 | BootCount 0x1000.08, held in the field section -/
  bootCount : Nat := 0
  /-- R128, R132; 1; false | debug mode in force (0x2130.01) -/
  debug : Bool := false
  /-- R735; 64; 0 | excluded regions 0x2400.07 -/
  excluded : BitVec 64 := 0
  /-- R731, R733; 64; 0 | excluded regions that have returned and wait to be included -/
  returned : BitVec 64 := 0
  /-- R99; 1; false | the fixed arithmetic policy is in force, taken from 0x2110.01 at plan load -/
  policyFixed : Bool := false
  /-- R718; - ; none | the plan in service -/
  plan : Option Plan := none
  /-- R727; - ; none | the base plan whose variant is in service -/
  base : Option Plan := none
  /-- R718; - ; none | a plan load or a loss variant in progress -/
  planLoad : Option PlanLoad := none
  /-- R720; 4; 0 | LastPlanResult 0x2400.03 -/
  planResult : Nat := 0
  /-- R735; 16; 0 | VariantInForce 0x2400.06 -/
  variant : Nat := 0
  /-- R717; - ; empty | unusable variants of the base plan -/
  badVariants : List Nat := []
  /-- R719; 8; none | committed plans in flash, by slot -/
  planSlots : Table (Option Plan) := []
  /-- R721; 1; false | the weight fill has ended and the stake may begin -/
  filled_ : Bool := false
  /-- R721; 1; false | the plan in service has been staked: Cox may name a first catch -/
  staked : Bool := false
  /-- R374; 16; 0 | this module's member number in its regatta -/
  member : Nat := 0
  /-- R732; - ; empty | per region: plan digest, weight epoch and generation of its last fill -/
  filled : Table (Option (BitVec 256 × BitVec 64 × Nat)) := []
  /-- R32, R709; 64 x 16 x 8; empty | field tile maps recorded, by 16 * region + column: the mapped-out physical row -/
  fieldMap : Table (BitVec 8) := []
  /-- R32; 64 x 16 x 8; empty | the field tile maps in force, taken at the last plan load -/
  mapNow : Table (BitVec 8) := []
  /-- R33; 64; empty | regions lost with a tile, that wait for clearing easy-all to be taken out of service -/
  tileLost : List Nat := []
  /-- R731; 64 x 16; 0 | region generation numbers 0x2400.0A, in the field section -/
  regionGen : Table Nat := []
  /-- R735; 4; 1 | BootStep 0x2000.03 -/
  step : Nat := 1
  /-- R735; 3; 0 | LastBootReason 0x1000.09 -/
  reason : Nat := 0
  /-- R692; 32; 0 | PowerOnTestResult 0x2000.02 -/
  testResult : Nat := 0
  /-- R694; 32; DC 1 | FW_VERSION running -/
  fwVersion : Word := 1
  /-- R702; 48 B; DC empty | FIRMWARE_DIGEST of the firmware running -/
  fwDigest : Bytes := []
  /-- R696; 32; 0 | version floor -/
  versionFloor : Word := 0
  /-- R697; - ; none | the source of a firmware update in progress -/
  fwWrite : Option SourceRecord := none
  /-- R694; - ; none | the firmware image in flash after an update: none is the one running -/
  fwFlash : Option Firmware := none
  /-- R690; 2; 0 | restarts of Cox in this boot -/
  coxRestarts : Nat := 0
  /-- R724; 6; 4 | the region of the active Cox complex, 4 or 59 -/
  active : Nat := 4
  /-- R726; 2; 0 | StandbyState 0x2400.0C -/
  standby : Nat := 0
  /-- R726; - ; empty | ms of the failures of each complex in the last 24 hours -/
  coxFails : List (Nat × Nat) := []
  /-- R726; - ; empty | complexes held in reset -/
  coxHeld : List Nat := []
  /-- R701; 32 B; zeros | the attestation nonce -/
  nonce : Bytes := []
  /-- R701; 2; 0 | AttestationState 0x1000.06 -/
  attest : Nat := 0
  /-- R702; 35,936 B; empty | the attestation report -/
  report : Bytes := []
  /-- R705; 64; 0 | AuthCounter 0x8010.02 -/
  authCounter : BitVec 64 := 0
  /-- R704; 16,736 B each; empty | authorisations held: client, value, ms at which it was written -/
  auths : List (Client × Bytes × Nat) := []
  /-- R709, R710; 2; 0 | RecordState 0x8040.01 -/
  recordState : Nat := 0
  /-- R710; 64; 0 | RecordSequence 0x8040.02 -/
  recordSeq : Nat := 0
  /-- R613; 32; 0 | SelfTestResult 0x1420.01 -/
  selfTest : Nat := 0
  /-- R613; 32; 0 | the result that the self-test plan gives if it runs in this boot -/
  selfTestIs : Nat := 0
  /-- R765; - ; 0 | ms at which the always-on domain last gained power (Uptime 0x1000.0C counts from it) -/
  upMs : Nat := 0
  /-- R488; 1; false | the power-on scratch fill is in progress -/
  filling : Bool := false
  deriving DecidableEq, Repr

end Sys2Proof.Machine
end

