-- ==== Sys2Proof/Parts/Clock.lean ====
section
/-! DEFINITION. State of the stroke counter and of easy-all (chapter 02). -/

namespace Sys2Proof.Machine

/-- An easy-all that waits for its moment (R84, R809). -/
structure NamedEasy where
  /-- R84; 4; 0 | cause, in the row order of the table of R84 from 1 -/
  cause : Nat := 0
  /-- R84; 1; false | clearing (else holding) -/
  clearing : Bool := false
  /-- R84; 48; none | the stroke it is named for; none: the next catch -/
  at_ : Option (BitVec 48) := none
  /-- R84; 1; false | its cause has cleared before it enters -/
  passed : Bool := false
  deriving DecidableEq, Repr

/-- A named resume (R88). -/
structure Resume where
  /-- R88; 64; 0 | the resume tick -/
  tick : Nat := 0
  /-- R88; 16; 0 | S, F and step that apply from it -/
  len : Nat := 0
  fin : Nat := 0
  step : Nat := 0
  /-- R88; 48; 0 | the stroke number of the first catch -/
  stroke : Nat := 0
  deriving DecidableEq, Repr

/-- The stroke counter and the easy-all in force. -/
structure StrokeClock where
  /-- R54, R55; 64; 0 | tick count -/
  tick : BitVec 64 := 0
  /-- R55; 1; false | the tick count advances: the reference loop is locked, or bridges -/
  ticking : Bool := false
  /-- R54, R56; 48; 0 | stroke number, of the last stroke that began -/
  stroke : BitVec 48 := 0
  /-- R722; 1; false | a stroke has begun since power-on -/
  begun : Bool := false
  /-- R56, R85; 1; false | strokes run: a stroke is in progress -/
  running : Bool := false
  /-- R56; 64; 0 | tick of the last catch -/
  catchTick : Nat := 0
  /-- R88; 16; 0 | stroke length in force at the last stroke that began -/
  lastLen : Nat := 0
  /-- R56, R132; 16; 0 | stroke length S in force, 0 while no plan is loaded -/
  len : Nat := 0
  /-- R59, R132; 16; 0 | finish offset F in force -/
  fin : Nat := 0
  /-- R65, R132; 4; 0 | plan step in force -/
  step : Nat := 0
  /-- R84, R132; 2; 1 | EasyAllState: 0 running, 1 holding, 2 clearing -/
  easy : Nat := 1
  /-- R84, R809; - ; empty | causes of the easy-all in force that have not cleared -/
  causes : List Nat := []
  /-- R84, R809; - ; empty | easy-alls named or due that have not entered -/
  named : List NamedEasy := []
  /-- R88; - ; none | the resume named -/
  resume : Option Resume := none
  /-- R59; 1; false | the finish of the stroke in progress has passed -/
  finished : Bool := false
  /-- R103; 64; 0 | the tick from which lane-table passes are counted: that of the last halt of strokes -/
  lanePasses : Nat := 0
  /-- R87, R405; - ; false | a stroke has ended by a clearing easy-all since the last catch -/
  cleared : Bool := false
  deriving DecidableEq, Repr

end Sys2Proof.Machine
end

