-- ==== Sys2Proof/Parts/Host.lean ====
section
/-! DEFINITION. State of the host ports, queue pairs, management port, CAN port, dictionary protocol and recovery protocol
(chapter 12), and of the module's connectors (chapter 18). -/

namespace Sys2Proof.Machine

/-- An item of a dictionary response (R598). -/
structure DapOut where
  index : BitVec 16
  sub : Byte
  istatus : Nat
  offset : Nat
  length : Nat
  total : Nat
  data : Bytes
  deriving DecidableEq, Repr

/-- What the host and management ports send. -/
inductive HostOut where
  /-- R586: REP for a new queue pair, REJ on a port, DREP. -/
  | rep (qp : Nat)
  | rej (port : Nat)
  | drep (qp : Nat)
  /-- R585: an ACK of a SEND. -/
  | ack (qp : Nat)
  /-- R587: RNR NAK with the 0.64 ms timer. -/
  | rnrNak (qp : Nat)
  /-- R587: a NAK: an invalid request, or else a remote access error. -/
  | nak (qp : Nat) (invalid : Bool)
  /-- R592. -/
  | cnp (qp : Nat)
  /-- R588: an RDMA READ request for a shard record. -/
  | read (qp shard : Nat)
  /-- R588: requests sent again from a packet sequence number. -/
  | again (qp psn : Nat)
  /-- R583: answers to ARP, neighbour solicitation and echo; DHCP and its port. -/
  | arp (port addr : Nat) (mac : BitVec 48)
  | neighbour (port addr : Nat) (mac : BitVec 48)
  | echo (port addr ident : Nat)
  | dhcp (port : Nat)
  /-- R590: XOFF (true) or XON of a priority. -/
  | pfc (port prio : Nat) (off : Bool)
  /-- R598: a dictionary response to a client on M0. -/
  | dap (client : Client) (msg : Bytes)
  /-- R597: a CAN frame: identifier, FD, bit-rate switching, data. -/
  | can (ident : Nat) (fd brs : Bool) (data : Bytes)
  /-- R610: a message of the recovery-image protocol, to a server or, with none, to 255.255.255.255 and ff02::1. -/
  | recovery (server : Option Nat) (msg : Bytes)
  deriving DecidableEq, Repr

/-- A host port E0-E7, or M0 as port 8. -/
structure Port where
  /-- R579, R615; 4; 0 | PortState: 0 down, 1-4 100G to 800G up (M0: 1 or 2) -/
  state : Nat := 0
  /-- R579; 2; 0 | lane rate of the link: 1 100G, 2 200G -/
  lane : Nat := 0
  /-- R792; 1; false | the pluggable is above its power class: held in low-power mode -/
  lowPower : Bool := false
  /-- R583; 32; 0 | IPv4 address in use, 0 for none -/
  addr : Nat := 0
  /-- R583; 1; false | the address is a DHCP lease -/
  leased : Bool := false
  /-- R583; - ; empty | SLAAC addresses -/
  slaac : List Nat := []
  /-- R583; - ; 0 | ms at which the port last came up or lost its lease -/
  sinceMs : Nat := 0
  /-- R590; 8; 0 | priorities to which XOFF has been sent -/
  xoff : BitVec 8 := 0
  /-- R590; 8; 0 | priorities paused by received frames -/
  paused : BitVec 8 := 0
  /-- R591; - ; 0 | elapsed ticks at which each pause began, and of the last pause received, by priority -/
  pausedAt : Table Nat := []
  lastPause : Table Nat := []
  /-- R591; 8; 0 | priorities on which pause is not honoured: a storm -/
  storm : BitVec 8 := 0
  /-- R581, R584; - ; 0 | frames dropped: longer than the MTU, or out of buffer -/
  dropped : Nat := 0
  deriving DecidableEq, Repr

/-- A request of the module that its peer has not acknowledged (R585, R588). -/
structure Outstanding where
  /-- R588; 24; 0 | its packet sequence number -/
  psn : Nat := 0
  /-- R588; 20; none | the shard of a READ; none for a SEND or WRITE -/
  shard : Option Nat := none
  deriving DecidableEq, Repr

/-- The states of a queue pair (R586, R588). -/
inductive QpState where
  | offered | connected | error
  deriving DecidableEq, Repr

/-- A queue pair. -/
structure Qp where
  /-- R586; - ; offered | its state -/
  state : QpState := .offered
  /-- R586; 4; 0 | its port -/
  port : Nat := 0
  /-- R585; 16; 1024 | path MTU -/
  mtu : Nat := 1024
  /-- R587; 64; empty | lengths of the SENDs received and not yet taken -/
  recv : List Nat := []
  /-- R588; 24; 0 | packet sequence number of its next request -/
  psn : Nat := 0
  /-- R588; - ; empty | requests not acknowledged, oldest first -/
  out : List Outstanding := []
  /-- R588; - ; 0 | retries and RNR retries used -/
  retries : Nat := 0
  rnr : Nat := 0
  /-- R592; - ; line rate | send rate, bit/s -/
  rate : Nat := 0
  /-- R592; - ; none | elapsed ticks of the last CNP sent; of the last CNP received or rise -/
  cnpSent : Option Nat := none
  cnpAt : Nat := 0
  deriving DecidableEq, Repr

/-- The CAN port. -/
structure Can where
  /-- R595; 9; 0 | transmit and receive error counters (ISO 11898-1) -/
  tec : Nat := 0
  rec_ : Nat := 0
  /-- R614; 1; false | bus-off -/
  busOff : Bool := false
  /-- R608; - ; none | the message being assembled: its bytes, the SEQ expected, its identifier, FD, bit-rate switching -/
  msg : Option (Bytes × Nat × Nat × Bool × Bool) := none
  deriving DecidableEq, Repr

/-- A transaction of a client (R603). -/
structure Tx where
  client : Client
  /-- R598; 16; 0 | TRANSACTION -/
  transaction : BitVec 16 := 0
  /-- R598; 8; 0 | operation -/
  op : Nat := 0
  /-- R598; 8; 0 | STATUS of the response -/
  status : Nat := 0
  /-- R598; - ; empty | the response's items so far -/
  items : List DapOut := []
  /-- R604; 1; false | a READ item did not fit: every later one is not read -/
  cut : Bool := false
  /-- R602; - ; empty | values read in this message, by key -/
  seen : Table (Option Bytes) := []
  /-- R603; 1; false | the response is complete and stored -/
  done : Bool := false
  deriving DecidableEq, Repr

/-- A buffer of pieces (R601). -/
structure Pieces where
  client : Client
  key : Nat
  total : Nat
  /-- R601; - ; empty | bytes by offset -/
  got : Table (Option Byte) := []
  /-- R601; - ; 0 | ms of the first piece -/
  ms : Nat := 0
  deriving DecidableEq, Repr

/-- A value kept for a client's reads in pieces (R602). -/
structure Kept where
  client : Client
  key : Nat
  value : Bytes
  ms : Nat := 0
  deriving DecidableEq, Repr

/-- A PendingList entry (R766, R769). -/
structure PendEntry where
  key : Nat
  /-- R766; 8; 0 | its state -/
  state : Nat := 0
  deriving DecidableEq, Repr

/-- The recovery protocol of the boot ROM (R609-R612). -/
structure Recovery where
  /-- R609; 1; false | the boot ROM is in recovery -/
  on : Bool := false
  /-- R610; 8; 0 | REASON -/
  reason : Nat := 0
  /-- R610; 32; 0 | SESSION -/
  session : Word := 0
  /-- R611; - ; none | the server whose offer was accepted, its IMAGE_LENGTH and IMAGE_VERSION -/
  server : Option (Nat × Nat × Word) := none
  /-- R611; 1,024 B each; empty | chunks received by number -/
  got : Table (Option Bytes) := []
  /-- R611; 16; empty | chunks fetched and not received -/
  asked : List Nat := []
  /-- R611; - ; empty | failures of each chunk -/
  fails : Table Nat := []
  /-- R612; - ; empty | servers ignored: server and ms at which it was abandoned -/
  ignored : List (Nat × Nat) := []
  /-- R612; - ; none | the image written to flash, which starts once the regions are filled -/
  image : Option Firmware := none
  deriving DecidableEq, Repr

/-- A tensor connector (R789-R791). -/
structure Connector where
  /-- R789; 1; false | PRESENT_N is low -/
  present : Bool := false
  /-- R790; 1; false | AUX_3V3 is on -/
  aux : Bool := false
  /-- R790; 1; false | a fault keeps AUX_3V3 off until the assembly is unmated -/
  fault : Bool := false
  deriving DecidableEq, Repr

/-- Host and management interfaces. -/
structure HostSide where
  /-- R579; 9; down | ports E0-E7, and M0 as 8 -/
  ports : Table Port := []
  /-- R586; - ; empty | queue pairs by number, from 2 -/
  qps : Table (Option Qp) := []
  /-- R595; - ; as its lines | CAN port -/
  can : Can := {}
  /-- R603; 16 per client; empty | transactions, oldest first -/
  txs : List Tx := []
  /-- R601; - ; empty | buffers of pieces -/
  pieces : List Pieces := []
  /-- R602; - ; empty | values kept for reads in pieces -/
  kept : List Kept := []
  /-- R769; 32; empty | PendingList, in the order written -/
  pending : List PendEntry := []
  /-- R606; 2; 0 | StoreState 0x1010.03 -/
  storeState : Nat := 0
  /-- R606, R777; - ; empty | values in the field section: numeric objects and others -/
  stored : Table (Option Nat) := []
  storedBlobs : Table (Option Bytes) := []
  /-- R779; 1; false | the record is marked for defaults at the next boot -/
  restore : Bool := false
  /-- R767; - ; none | values in force of objects of classes B to I where they differ from the value written, by key -/
  inForce : Table (Option Nat) := []
  inForceBlobs : Table (Option Bytes) := []
  /-- R725, R781; - ; empty | the standby's copy of the dictionary's values, of the last finish -/
  mirror : Table (Option Nat) := []
  mirrorBlobs : Table (Option Bytes) := []
  /-- R609; - ; as its lines | recovery -/
  recovery : Recovery := {}
  /-- R789; 16; unmated | tensor connectors TC0-TC15 -/
  tc : Table Connector := []
  /-- R786; 1; false | mated to the busbar -/
  mated : Bool := false
  /-- R579; - ; empty | what the ports sent, oldest first -/
  sent : List HostOut := []
  /-- R589, R592; - ; empty | how the frames of each were marked -/
  frames : List FrameTag := []
  deriving DecidableEq, Repr

end Sys2Proof.Machine
end

