-- ==== Sys2Proof/Parts/Ident.lean ====
section
/-! DEFINITION. What is fixed when a module is made: identity, stepping, spare map (chapters 00, 01, 02). -/

namespace Sys2Proof.Machine

/-- The module's identity. Its fields never change while it runs. -/
structure Ident where
  /-- R7, R615; 8; DC A1 | stepping -/
  stepping : Stepping := .a1
  /-- R9, R615; 128; DC 1 | module serial -/
  serial : BitVec 128 := 1
  /-- R582, R615; 48; DC 0x020000000000 | MAC base -/
  macBase : BitVec 48 := 0x020000000000
  /-- R698, R709; - ; DC empty | identity helper data of the factory section -/
  helper : Bytes := []
  /-- R109; 64; DC all ones | usable regions (PRESENT of the travel descriptor) -/
  present : BitVec 64 := BitVec.allOnes 64
  /-- R29, R109, R709; 64 x 16 x 8; DC 0xFF | tile map at test, by 16 * region + column: the mapped-out physical row; unlisted 0xFF -/
  bypass : Table (BitVec 8) := []
  /-- R493, R709; - ; DC empty | row remaps at test: tile key, bank, row, spare -/
  testRemaps : List (Nat × Nat × Nat × Nat) := []
  /-- R492, R709; - ; DC empty | remaps at test of the sub-arrays' own rows: tile key, bank, row 16-31, spare 0-1 -/
  testSubRemaps : List (Nat × Nat × Nat × Nat) := []
  /-- R662, R709; 64 x 16 x 10; DC nominal | VCORE set points that wafer test wrote, mV, by 16 * region + step; unlisted the nominal value -/
  setPoints : Table Nat := []
  /-- R662, R689; 16 x 32; DC nominal | the tested P_base (0.1 W) and P_mxu (mW) of steps 0-15 (0x4000.08) -/
  stepPower : List (Nat × Nat) :=
    [(180, 180), (200, 220), (220, 270), (250, 320), (270, 370), (300, 430), (330, 490), (350, 550), (380, 610), (420, 690), (450, 760),
     (490, 850), (530, 940), (580, 1050), (640, 1170), (700, 1300)]
  deriving DecidableEq, Repr

end Sys2Proof.Machine
end

