-- ==== Sys2Proof/Parts/Mode.lean ====
section
/-! DEFINITION. State of the referees and of the mode controller (chapter 05). -/

namespace Sys2Proof.Machine

/-- A mode vector (R303): what decides every stage's level in a stroke. -/
structure ModeVec where
  /-- R299; 16; 0 | strokes left in the wide run, this one included -/
  wide : Nat := 0
  /-- R298; 128 x 16; 0 | strokes left in each stage's fallback, this one included -/
  fall : Table Nat := []
  deriving DecidableEq, Repr

/-- The referee and the mode state of a region. -/
structure RegionRef where
  /-- R296; 16; 0 | RQU_REF_STAT.CRABS (RC) -/
  crabs : BitVec 16 := 0
  /-- R296; 16; 0 | RQU_REF_STAT.REFUSALS (RC) -/
  refusals : BitVec 16 := 0
  /-- R289; 1; false | a repechage was granted in this stroke -/
  granted : Bool := false
  /-- R286; - ; empty | stages judged in this stroke -/
  judged : List Nat := []
  /-- R303; - ; narrow | the mode vector in force -/
  vec : ModeVec := {}
  /-- R303; - ; none | the vector received for the next stroke -/
  next : Option ModeVec := none
  /-- R303; 1; false | this stroke runs on a predicted vector -/
  predicted : Bool := false
  deriving DecidableEq, Repr

/-- A change of mode named for a stroke (R301, R563). -/
structure ModeChange where
  /-- R301; 48; 0 | the mode stroke -/
  stroke : BitVec 48 := 0
  /-- R298, R299; 8; none | the stage whose fallback begins; none: a wide run -/
  stage : Option Nat := none
  /-- R298, R299, R547; 16; 0 | the strokes that the fallback or the wide run lasts -/
  count : Nat := 0
  deriving DecidableEq, Repr

/-- The mode controller of the active Cox complex, and its mirror. -/
structure ModeCtl where
  /-- R302; - ; narrow | the vector of the stroke in progress -/
  vec : ModeVec := {}
  /-- R298; 128; 0 | consecutive crabs of each stage in its checked strokes -/
  crabRun : Table Nat := []
  /-- R301; - ; empty | changes named for a later stroke -/
  changes : List ModeChange := []
  /-- R302; - ; as the controller | the standby's copy, taken at each finish -/
  mirrorVec : ModeVec := {}
  mirrorRun : Table Nat := []
  mirrorChanges : List ModeChange := []
  deriving DecidableEq, Repr

end Sys2Proof.Machine
end

