-- ==== Sys2Proof/Parts/Recorder.lean ====
section
/-! DEFINITION. State of the event recorder at Cox (chapter 16), and the records and snapshots regions hold. -/

namespace Sys2Proof.Machine

/-- One event record (R736), its CRC computed when it is read. -/
structure Record where
  /-- R736; 64; 0 | SEQ -/
  seq : Nat := 0
  /-- R736; 64; 0 | TICK -/
  tick : BitVec 64 := 0
  /-- R736; 48; 0 | STROKE -/
  stroke : BitVec 48 := 0
  /-- R736; 16; 0 | CODE -/
  code : Nat := 0
  /-- R736; 8; 0 | REGION, 0xFF for module-level events -/
  region : Nat := 0
  /-- R736; 2; 0 | SEV -/
  sev : Nat := 0
  /-- R736; 16; 0 | SUPPRESSED -/
  suppressed : Nat := 0
  /-- R736; 16; 0 | BOOT -/
  boot : Nat := 0
  /-- R736; 2; 0 | FLAGS -/
  flags : Nat := 0
  /-- R736; 28 B; empty | PAYLOAD, without its trailing zeros -/
  payload : Bytes := []
  deriving DecidableEq, Repr

/-- A region snapshot (R755). -/
structure Snapshot where
  /-- R755; 64; 0 | TICK -/
  tick : BitVec 64 := 0
  /-- R755; 32; 0 | STROKE [31:0] -/
  stroke : Word := 0
  /-- R755; 16; 0 | trigger mask -/
  mask : BitVec 16 := 0
  /-- R755; 7; 0 | LEN, and the values sampled -/
  len : Nat := 0
  vals : List Word := []
  /-- R754; - ; 0 | order in which the slot was filled -/
  order : Nat := 0
  deriving DecidableEq, Repr

/-- The rate state of one event code (R740). -/
structure RateState where
  /-- R740; - ; 0 | records of the code recorded in this interval -/
  recorded : Nat := 0
  /-- R740; - ; 0 | records suppressed and not yet reported -/
  suppressed : Nat := 0
  deriving DecidableEq, Repr

/-- The event recorder of the module (the region parts stand in `Region`). -/
structure Recorder where
  /-- R743; 16384 x 64 B; empty | the ring by seq mod 16384 -/
  ring : Table Record := []
  /-- R737, R761; 64; 0 | NewestSeq -/
  newest : Nat := 0
  /-- R747; 64; 4096 | the highest SEQ erased from the circulating area, or of the founding area -/
  erased : Nat := 4096
  /-- R744, R761; 64; 0 | LastFlushedSeq -/
  flushed : Nat := 0
  /-- R747; - ; empty | the flash log by sequence number (founding and circulating area) -/
  flash : Table Record := []
  /-- R747; - ; empty | founding records one of whose two copies is unreadable -/
  foundOnce : List Nat := []
  /-- R745; - ; 0 | flash pages written to the block of the circulating area being filled -/
  pages : Nat := 0
  /-- R747; - ; empty | the highest SEQ of each full block of the circulating area, oldest first -/
  blockEnds : List Nat := []
  /-- R744; - ; none | a flush in progress: the highest SEQ it writes -/
  flushing : Option Nat := none
  /-- R744; - ; 0 | the ms at which the last flush began -/
  lastFlush : Nat := 0
  /-- R746; 1; true | flash is available -/
  flashOk : Bool := true
  /-- R746; - ; 0 | first lost SEQ and count of unflushed records overwritten in the ring -/
  lostFirst : Nat := 0
  lostCount : Nat := 0
  /-- R740; - ; empty | rate state by code -/
  rates : Table RateState := []
  /-- R742, R767; 16; 16 | the rate limit in force in this interval (0x5010.01) -/
  limit : Nat := 16
  /-- R742, R767; 256 B; empty | the overrides in force in this interval (0x5010.02) -/
  overrides : Bytes := []
  /-- R740; - ; 0 | the ms at which the rate interval began -/
  intervalStart : Nat := 0
  /-- R761; 64; 0 | SuppressedTotal -/
  suppressedTotal : Nat := 0
  /-- R751, R761; 2; 0 | ExportState -/
  exportState : Nat := 0
  /-- R751; - ; empty | records exported by RDMA WRITE: host address and record, oldest first -/
  exported : List (Nat × Record) := []
  /-- R756; 8 x 32 x 64; zeros | histogram bins by 32 * (histogram - 1) + bin -/
  hist : Table Nat := []
  /-- R757; 128 x 4 x 32; zeros | stage counters by 4 * stage + (checked, crabs, refusals, fallbacks) -/
  stageCnt : Table Nat := []
  /-- R757; 9 x 24 B; zeros | extremes by number from 0: value, TICK, REGION; unlisted: none since the last clear -/
  extremes : Table (Option (Int × BitVec 64 × Nat)) := []
  /-- R758; - ; zeros | the copies of the three in flash -/
  histFlash : Table Nat := []
  stageFlash : Table Nat := []
  extFlash : Table (Option (Int × BitVec 64 × Nat)) := []
  /-- R758; - ; zeros | the copies of the three at the standby -/
  histMirror : Table Nat := []
  stageMirror : Table Nat := []
  extMirror : Table (Option (Int × BitVec 64 × Nat)) := []
  deriving DecidableEq, Repr

end Sys2Proof.Machine
end

