-- ==== Sys2Proof/Parts/Power.lean ====
section
/-! DEFINITION. State of the reference loop, the region loops, power and cooling (chapters 13 and 14). -/

namespace Sys2Proof.Machine

/-- The reference loop and its multiplexer (CLK_REF_), which Cox writes alike in both complexes. -/
structure RefLoop where
  /-- R634; 7; 0x7F | CLK_REF_SEL.SRC -/
  src : BitVec 7 := 0x7F
  /-- R634; 1; false | CLK_REF_CTL.AUTO_ALT -/
  autoAlt : Bool := false
  /-- R634; 1; true | CLK_REF_CTL.SEARCH -/
  search : Bool := true
  /-- R634; 10; 0x100 | CLK_REF_CTL.BRIDGE -/
  bridge : BitVec 10 := 0x100
  /-- R634; 7; 0x7F | CLK_REF_STAT.CUR -/
  cur : BitVec 7 := 0x7F
  /-- R634; 1; false | CLK_REF_STAT.LOCK -/
  lock : Bool := false
  /-- R634; 1; false | CLK_REF_STAT.LOSS -/
  loss : Bool := false
  /-- R634; 1; false | CLK_REF_STAT.HANG -/
  hang : Bool := false
  /-- R630; 2; 0 | the step of a planned switch that waits; 0: CLK_REF_STAT.SWITCHING is clear -/
  swStep : Nat := 0
  /-- R634; 1; false | CLK_REF_STAT.REF_LOST (W1C) -/
  refLost : Bool := false
  /-- R634; 1; false | CLK_REF_STAT.FORCED (W1C) -/
  forced : Bool := false
  /-- R634; 1; false | CLK_REF_STAT.REFUSED (W1C) -/
  refused : Bool := false
  /-- R634; 16; 0 | CLK_REF_STAT.LOSSES (RC) -/
  losses : BitVec 16 := 0
  /-- R634; 7; 0x7F | CLK_REF_ALT.ALT -/
  alt : BitVec 7 := 0x7F
  /-- R634; 128; 0 | CLK_REF_CAND0 to 3: the candidates that are ready -/
  ready : BitVec 128 := 0
  /-- R624; 1; false | the reference is lost: bridged out and not locked again -/
  lost : Bool := false
  /-- R623; - ; 0 | elapsed ticks of the last reference edge before the loss -/
  lastEdge : Nat := 0
  /-- R634; 7; 0x7F | the candidate connected before the last forced or automatic move -/
  prev : BitVec 7 := 0x7F
  /-- R631; - ; 0 | interrupts raised to the Cox cores for a hung multiplexer -/
  ints : Nat := 0
  /-- R55; 1; false | the loop has locked since power-on -/
  locked : Bool := false
  deriving DecidableEq, Repr

/-- One region's loop, droop detector, monitors and block enables (CLK_LOOP_, CLK_DROOP_, CLK_MON_, CLK_GATE). -/
structure RegionLoop where
  /-- R640; 4; 0 | CLK_LOOP_CTL.STEP -/
  step : BitVec 4 := 0
  /-- R640; 1; false | CLK_LOOP_CTL.STOP -/
  stop : Bool := false
  /-- R640; 4; 0 | CLK_LOOP_STAT.STEP_ACT -/
  stepAct : BitVec 4 := 0
  /-- R640; 1; false | CLK_LOOP_STAT.LOCK -/
  lock : Bool := false
  /-- R640; 1; true | CLK_LOOP_STAT.COAST -/
  coast : Bool := true
  /-- R640; 4; none | the step the idle path locks to: CLK_LOOP_STAT.SWITCHING -/
  target : Option (BitVec 4) := none
  /-- R640; 1; false | CLK_LOOP_STAT.REFUSED (W1C) -/
  refused : Bool := false
  /-- R640; 8; 0 | CLK_LOOP_STAT.UNLOCKS (RC) -/
  unlocks : BitVec 8 := 0
  /-- R642; 7; 0x1E | CLK_DROOP_CFG.THRESH -/
  thresh : BitVec 7 := 0x1E
  /-- R642; 1; true | CLK_DROOP_CFG.EN -/
  droopEn : Bool := true
  /-- R642; 32; 0 | CLK_DROOP_COUNT (RC) -/
  droops : Word := 0
  /-- R645; 25; 0x1A43C19 | CLK_MON_CFG: JIT_WARN, JIT_LIMIT, DUTY_WARN, DUTY_LIMIT, ACT -/
  monCfg : BitVec 25 := 0x1A43C19
  /-- R767; 25; 0x1A43C19 | the configuration that the monitor window in progress is judged by -/
  monUse : BitVec 25 := 0x1A43C19
  /-- R645; 8; 0 | CLK_MON_STAT.JIT_PEAK -/
  jitPeak : BitVec 8 := 0
  /-- R645; 4; 0 | CLK_MON_STAT.DUTY_DEV -/
  dutyDev : BitVec 4 := 0
  /-- R645; 1; false | CLK_MON_STAT.WARN (W1C) -/
  monWarn : Bool := false
  /-- R645; 1; false | CLK_MON_STAT.LIMIT (W1C) -/
  monLimit : Bool := false
  /-- R645; 2; 0 | consecutive reported windows over a limit -/
  overRun : Nat := 0
  /-- R646; 9; 0 | CLK_GATE: STK0, STK1, MDT0, MDT1, FLT0, FLT1, INGRESS, ETH0, ETH1 -/
  gate : BitVec 9 := 0
  /-- R648; - ; 0 | elapsed ticks at which each enabled block leaves reset, by its bit (READY shows it) -/
  gateAt : Table Nat := []
  deriving DecidableEq, Repr

/-- One region's power and temperature registers (PWR_, THM_). -/
structure RegionPower where
  /-- R662; 20; 0 | PWR_VSET: VCORE and VSRAM set points, mV, from the step at power-good -/
  vset : BitVec 20 := 0
  /-- R671; 20; 0 | PWR_MON_V -/
  monV : BitVec 20 := 0
  /-- R671; 32; 0 | PWR_MON_I -/
  monI : Word := 0
  /-- R668; 1; false | PWR_OC_STAT.WARN (W1C) -/
  ocWarn : Bool := false
  /-- R668; 1; false | PWR_OC_STAT.FORCED (W1C) -/
  ocForced : Bool := false
  /-- R668; 16; 0 | PWR_OC_STAT.WARNS (RC) -/
  warns : BitVec 16 := 0
  /-- R674; 12; 0 | THM_TEMP.HOT, 0.125 degC -/
  hot : BitVec 12 := 0
  /-- R674; 3; 0 | THM_TEMP.SENSOR -/
  sensor : BitVec 3 := 0
  /-- R674; 12; 0 | THM_TEMP.PEAK (RC) -/
  peak : BitVec 12 := 0
  /-- R685; 12; 0x348 | THM_CFG.TRIP -/
  trip : BitVec 12 := 0x348
  /-- R685; 1; false | THM_STAT.TRIPPED (W1C) -/
  tripped : Bool := false
  /-- R681; 1; false | THM_STAT.RATE (W1C) -/
  rate : Bool := false
  deriving DecidableEq, Repr

/-- Power, cooling and the power-sequencing logic (PWR_SEQ_, PWR_IN_, PWR_CONV_, THM_COOL to THM_FAULT_CFG), which both
complexes hold alike. -/
structure Power where
  /-- R666; 1; false | the intermediate bus is charged -/
  bus : Bool := false
  /-- R690; 1; false | the power-on sequence has begun -/
  booted : Bool := false
  /-- R687; 64; 0 | PWR_SEQ_ON0 and 1 -/
  on : BitVec 64 := 0
  /-- R687; 64; 0 | PWR_SEQ_PG0 and 1 -/
  pg : BitVec 64 := 0
  /-- R687; 64; 0 | PWR_SEQ_LATCH0 and 1 -/
  latch : BitVec 64 := 0
  /-- R665; 4; empty | the regions being powered now -/
  group : List Nat := []
  /-- R656; 10; 0 | PWR_IN_STAT.VIN -/
  vin : BitVec 10 := 0
  /-- R656; 10; 0 | PWR_IN_STAT.IIN -/
  iin : BitVec 10 := 0
  /-- R656; 1; false | PWR_IN_STAT.PFAIL (W1C) -/
  pfail : Bool := false
  /-- R656; 1; false | PWR_IN_STAT.RANGE (W1C) -/
  range : Bool := false
  /-- R659; 1; false | the input has failed and has not been restored -/
  down : Bool := false
  /-- R658; 16; 0xFFFF | PWR_CONV_STAT.OK -/
  convOk : BitVec 16 := 0xFFFF
  /-- R658; 16; 0 | PWR_CONV_STAT.FAILED (W1C) -/
  convFailed : BitVec 16 := 0
  /-- R674; 8; 0 | THM_COOL.FLOW -/
  flow : BitVec 8 := 0
  /-- R674; 12; 0 | THM_COOL.INLET -/
  inlet : BitVec 12 := 0
  /-- R674; 12; 0 | THM_COOL.OUTLET -/
  outlet : BitVec 12 := 0
  /-- R675; 16; 0x640 | THM_RTH.RTH -/
  rth : BitVec 16 := 0x640
  /-- R676; - ; 32000 | the power cap, W, whole (THM_RTH.CAP in 10 W, reset 0xC80) -/
  cap : Nat := 32000
  /-- R681; 3; 0 | THM_FAULT.FLOW, RATE, LEAK (W1C) -/
  faults : BitVec 3 := 0
  /-- R681; 1; false | THM_FAULT.ACTIVE -/
  active : Bool := false
  /-- R674; 1; false | THM_FAULT.FLOW_LOW (W1C) -/
  flowLow : Bool := false
  /-- R680; 1; false | THM_FAULT.INLET (W1C) -/
  inletOver : Bool := false
  /-- R681; 8; 0x14 | THM_FAULT_CFG.FLOW_MIN -/
  flowMin : BitVec 8 := 0x14
  /-- R681; 8; 0x14 | THM_FAULT_CFG.RATE -/
  rateMax : BitVec 8 := 0x14
  /-- R681; 1; true | THM_FAULT_CFG.EN -/
  faultEn : Bool := true
  /-- R675; 100; empty | samples of the thermal resistance, oldest first, in 0.001 K/kW as numerator and denominator -/
  theta : List (Nat × Nat) := []
  /-- R676; - ; empty | samples of input power less region power of the last 60 s: ms and W -/
  fixed : List (Nat × Nat) := []
  /-- R676; 32; 0 | input power, W -/
  watts : Nat := 0
  /-- R677; - ; 0 | consecutive computations in which each step has fitted -/
  fits : Table Nat := []
  /-- R678; 2; 0 | consecutive computations with the input power above the cap by more than 5% -/
  overCount : Nat := 0
  /-- R671; - ; empty | elapsed ms of the last retry of each region, plus one -/
  retryMs : Table Nat := []
  /-- R671; 64; 0 | regions marked failed in the configuration record -/
  failed : BitVec 64 := 0
  /-- R686; - ; empty | ms of the trips of each region in the last 60 s: region and ms -/
  trips : List (Nat × Nat) := []
  /-- R687; 64; 0 | regions switched off for heat -/
  heatOff : BitVec 64 := 0
  /-- R686; - ; empty | regions whose switch-off for heat waits for the loss plan's stroke -/
  heatPending : List Nat := []
  /-- R682; - ; 0 | ms of the sudden coolant fault -/
  faultMs : Nat := 0
  /-- R683; 1; false | requests are being written to flash, or the regions are powered down, after a coolant fault -/
  parking : Bool := false
  /-- R684; 1; false | the regions are powered down for coolant -/
  coolOff : Bool := false
  /-- R684; 1; false | a leak was sensed and 0x4020.05 has not been written 1 since -/
  leakWait : Bool := false
  /-- R683; - ; 0 | entries written to flash, and requests failed, in this coolant fault -/
  written : Nat := 0
  lostReqs : Nat := 0
  deriving DecidableEq, Repr

end Sys2Proof.Machine
end

