-- ==== Sys2Proof/Parts/Region.lean ====
section
/-! DEFINITION. State of one region (chapters 02, 05, 09, 10, 13, 14, 16): an unlisted region of `State.regions` is at reset. -/

namespace Sys2Proof.Machine

/-- The stroke contract's registers of a region (CLK_, MSH_LANE_, SEQ_UMP_). -/
structure RegionClk where
  /-- R58; 32; 0 | CLK_TICK_HI as latched -/
  tickHi : Word := 0
  /-- R58; 16; 0 | CLK_STROKE_HI as latched -/
  strokeHi : BitVec 16 := 0
  /-- R58; 16; 0 | CLK_STROKE_NEXT.LEN -/
  nextLen : BitVec 16 := 0
  /-- R58; 16; 0 | CLK_STROKE_NEXT.FIN -/
  nextFin : BitVec 16 := 0
  /-- R58; 24; 0 | CLK_STROKE_ARM.AT -/
  armAt : BitVec 24 := 0
  /-- R58; 4; 0 | CLK_STROKE_ARM.STEP -/
  armStep : BitVec 4 := 0
  /-- R58; 1; false | CLK_STROKE_ARM.DONE (W1C) -/
  armDone : Bool := false
  /-- R58; 1; false | CLK_STROKE_ARM.ARM -/
  arm : Bool := false
  /-- R58; 1; false | CLK_STROKE_STAT.LATE (W1C) -/
  late : Bool := false
  /-- R58; 1; false | CLK_STROKE_STAT.REPLAY (W1C) -/
  replay : Bool := false
  /-- R58; 1; false | CLK_STROKE_STAT.FORCED (W1C) -/
  forced : Bool := false
  /-- R58; 1; false | CLK_STROKE_STAT.ARM_REFUSED (W1C) -/
  armRefused : Bool := false
  /-- R58; 8; 0 | CLK_STROKE_STAT.STRETCH, of the last completed stroke -/
  stretch : BitVec 8 := 0
  /-- R73; - ; 0 | stretched periods in the stroke in progress -/
  stretchNow : Nat := 0
  /-- R58; 16; 0xFFFF | CLK_STROKE_STAT.MARGIN, of the last completed stroke -/
  margin : BitVec 16 := 0xFFFF
  /-- R58; 16; 0xFFFF | smallest margin in the stroke in progress -/
  marginNow : Nat := 0xFFFF
  /-- R58, R78; 32; 0 | CLK_LATE_COUNT (RC) -/
  lateCount : Word := 0
  /-- R126; 1; false | MSH_LANE_CTL.EN -/
  laneEn : Bool := false
  /-- R126; 6; 8 | MSH_LANE_CTL.WIN -/
  laneWin : BitVec 6 := 8
  /-- R127; 6; 8 | the window length in force until the tick `winAt` -/
  winNow : Nat := 8
  /-- R127; 64; 0 | the tick from which MSH_LANE_CTL.WIN is in force -/
  winAt : Nat := 0
  /-- R126; 32 x 8; 0 | MSH_LANE_E0 to E31: LANE, OPEN_N, E, S, W -/
  lanes : Table (BitVec 8) := []
  /-- R131; 1; false | SEQ_UMP_CTL.EN -/
  umpEn : Bool := false
  /-- R131; 1; false | SEQ_UMP_CTL.HALT -/
  umpHalt : Bool := false
  /-- R131; 4; 0xF | SEQ_UMP_CTL.BANK, SLOT, STALE, HEAVY from bit 0 -/
  umpChecks : BitVec 4 := 0xF
  /-- R131; 16; 0 | SEQ_UMP_CTL.COUNT (RC) -/
  umpCount : BitVec 16 := 0
  /-- R131; 1; false | a violation of the stroke in progress asks for holding easy-all -/
  umpHit : Bool := false
  /-- R130; - ; empty | matrix units active by cycle of the stroke, for the heavy check -/
  mxuActive : Table Nat := []
  /-- R256; - ; empty | windows of this stroke whose over-allocation was reported -/
  heavyDone : List Nat := []
  deriving DecidableEq, Repr

/-- The event recorder of a region (EVR_). -/
structure RegionEvr where
  /-- R755; 1; false | EVR_SNAP_CTL.MODE -/
  snapMode : Bool := false
  /-- R755; 7; 0x10 | EVR_SNAP_CTL.LEN -/
  snapLen : BitVec 7 := 0x10
  /-- R755; 16; 0x0400 | EVR_SNAP_CTL.HOLDOFF -/
  snapHoldoff : BitVec 16 := 0x0400
  /-- R755; 12; 0xFFF | EVR_SNAP_TRIG.EN -/
  snapTrig : BitVec 12 := 0xFFF
  /-- R755; 8; 0 | EVR_SNAP_STAT.DROPPED (RC) -/
  snapDropped : BitVec 8 := 0
  /-- R755; 64 x 24; 0 | EVR_SNAP_LIST0 to 63 -/
  snapList : Table (BitVec 24) := []
  /-- R752, R755; 16 slots; free | the full snapshot slots (EVR_SNAP_STAT.FULL shows which) -/
  snaps : Table (Option Snapshot) := []
  /-- R754; - ; 0 | snapshots taken, and per trigger the tick of its last snapshot plus one (0: none) -/
  snapOrder : Nat := 0
  snapLast : Table Nat := []
  /-- R738, R755; 64 records; empty | records waiting to be sent to Cox, oldest first -/
  evrQ : List Record := []
  /-- R755; 16; 0 | EVR_PEND_STAT.OVERFLOW (RC) -/
  evrOverflow : BitVec 16 := 0
  /-- R738; - ; 0 | records discarded and not yet reported by a record of code 0x0003 -/
  evrLost : Nat := 0
  deriving DecidableEq, Repr

/-- The stored-data protection registers of a region (ECC_). -/
structure RegionEcc where
  /-- R485; 8; 0x40 | ECC_LB_DEPTH.DEPTH -/
  lbDepth : BitVec 8 := 0x40
  /-- R485; 16; 0x03E8 | ECC_LB_LEAK.PERIOD, ms -/
  lbPeriod : BitVec 16 := 0x03E8
  /-- R485; 8; 0 | ECC_LB_STAT.COUNT -/
  lbCount : BitVec 8 := 0
  /-- R485; 1; false | ECC_LB_STAT.OVF (W1C) -/
  lbOvf : Bool := false
  /-- R485; 16; 0 | ECC_LB_STAT.OVERFLOWS (RC) -/
  lbOverflows : BitVec 16 := 0
  /-- R485; - ; 0 | interrupts raised to the region control core since reset -/
  coreInts : Nat := 0
  /-- R483; 1; true | ECC_SCRUB_CTL.EN -/
  scrubEn : Bool := true
  /-- R483; 32; 0 | ECC_SCRUB_STAT.LONGEST (RC), ms -/
  scrubLongest : Word := 0
  /-- R497; - ; empty | scrub passes ended: the ms of its end and its length, newest first -/
  passLog : List (Nat × Nat) := []
  /-- R483; 16; 0 | ECC_PAGE_STAT.REBUILT, LOST (RC) -/
  pagesRebuilt : BitVec 16 := 0
  pagesLost : BitVec 16 := 0
  /-- R495; 4; 2 | ECC_REMAP_CFG.THRESH -/
  remapThresh : BitVec 4 := 2
  /-- R495; 16; 0 | ECC_REMAP_CFG.REMAPS -/
  remaps : BitVec 16 := 0
  /-- R488; 1; false | ECC_FILL_STAT.DONE -/
  fillDone : Bool := false
  /-- R487; 31; 0 | ECC_TW_CTL: X, Y, BANK, LINE, WORD, MODE as last written -/
  twCtl : BitVec 29 := 0
  /-- R487; 1; false | ECC_TW_CTL.GO -/
  twGo : Bool := false
  /-- R487; 10; 0 | ECC_TW_CHECK.CHECK -/
  twCheck : BitVec 10 := 0
  /-- R487; 2; 0 | ECC_TW_CHECK.OUTCOME -/
  twOutcome : BitVec 2 := 0
  /-- R487; 9; 0 | ECC_TW_CHECK.BIT -/
  twBit : BitVec 9 := 0
  /-- R487; 1; false | ECC_TW_CHECK.REFUSED (W1C) -/
  twRefused : Bool := false
  /-- R487; 256; 0 | ECC_TW_DATA0 to DATA7 -/
  twData : BitVec 256 := 0
  deriving DecidableEq, Repr

/-- One side of a region's seams (SEAM_CTL, SEAM_STAT, and the queues receiving on it). -/
structure SeamSide where
  /-- R530; 1; true | SEAM_CTL.HOLD -/
  hold : Bool := true
  /-- R530; 1; false | SEAM_CTL.AUTO (W1C) -/
  auto : Bool := false
  /-- R530; 5; 0 | SEAM_STAT.HIGH_WATER (RC) -/
  highWater : BitVec 5 := 0
  /-- R530; 16; 0 | SEAM_STAT.DROPS (RC) -/
  drops : BitVec 16 := 0
  /-- R520; 28 flits; empty | main queue of each channel, head first -/
  main : Table (List Flit) := []
  /-- R520; 4 flits; empty | lane-0 queue of each channel, head first -/
  lane0 : Table (List Flit) := []
  deriving DecidableEq, Repr

/-- The mesh and seam registers of a region (MSH_, SEAM_). -/
structure RegionMesh where
  /-- R530; 64 x 4; 0 before power-on, then under R517 | MSH_RTAB_W0 to W7: route by destination region -/
  rtab : Table (BitVec 4) := []
  /-- R530; 6; 4 | MSH_COX_REGION.REGION -/
  coxRegion : BitVec 6 := 4
  /-- R530; 8 each; 0 | MSH_STAT.PARITY, CRC, STRAY, UNREACH (RC) -/
  parity : BitVec 8 := 0
  crc : BitVec 8 := 0
  stray : BitVec 8 := 0
  unreach : BitVec 8 := 0
  /-- R530; - ; as its lines | sides: 0 north, 1 east, 2 south, 3 west (wafer sides) -/
  sides : Table SeamSide := []
  deriving DecidableEq, Repr

/-- One region. -/
structure Region where
  /-- R58, R126, R131; - ; as its lines | stroke contract registers -/
  clk : RegionClk := {}
  /-- R752; - ; as its lines | event recorder -/
  evr : RegionEvr := {}
  /-- R485; - ; as its lines | stored-data protection -/
  ecc : RegionEcc := {}
  /-- R511, R525; - ; as its lines | mesh and seams -/
  mesh : RegionMesh := {}
  /-- R285, R303; - ; as its lines | referee and mode vector -/
  ref : RegionRef := {}
  /-- R635, R646; - ; as its lines | loop, droop detector, monitors, block enables -/
  loop : RegionLoop := {}
  /-- R671; - ; as its lines | power and temperature -/
  pwr : RegionPower := {}
  deriving DecidableEq, Repr

end Sys2Proof.Machine
end

