-- ==== Sys2Proof/Parts/Tier.lean ====
section
/-! DEFINITION. State of the memory tiers, their controllers and flash (chapter 09). -/

namespace Sys2Proof.Machine

/-- A WRITE descriptor whose data lines are being collected (R472). -/
structure WaitingWrite where
  /-- R472; - ; none | the descriptor flit -/
  flit : Flit
  /-- R472; 128 B each; empty | data lines received, with poison -/
  lines : List (Bytes × Bool) := []
  deriving DecidableEq, Repr

/-- A descriptor carried out whose completion has not been sent (R470). -/
structure DoneDesc where
  flit : Flit
  /-- R471; 1; false | it was refused -/
  refused : Bool := false
  deriving DecidableEq, Repr

/-- The memory tiers. -/
structure Tier where
  /-- R455, R467; 48-bit byte addresses; 0 | stack-tier and module-tier bytes by device address, the check areas too; unlisted bytes read 0 -/
  mem : List Host.Cell := []
  /-- R466; 64 x 25; 0 | STK_CODED_PAGES of S0-S31 (keys 0-31), MDT_CODED_PAGES of D0-D31 (keys 32-63) -/
  coded : Table Nat := []
  /-- R469; 64 x 16; 0 | STK_ERR_STAT.CORRECTED and MDT_ERR_STAT.CORRECTED (RC), by the same keys -/
  corrected : Table (BitVec 16) := []
  /-- R469; 64 x 8; 0 | STK_ERR_STAT.REBUILT and MDT_ERR_STAT.RETRIED (RC) -/
  rebuilt : Table (BitVec 8) := []
  /-- R469; 64 x 8; 0 | STK_ERR_STAT.LOST and MDT_ERR_STAT.LOST (RC) -/
  lost : Table (BitVec 8) := []
  /-- R469; 32 x 16; 0 | FLT_ERR_STAT.RETRIES (RC), by flash channel -/
  flashRetries : Table (BitVec 16) := []
  /-- R469; 32 x 8; 0 | FLT_ERR_STAT.SOFT (RC) -/
  flashSoft : Table (BitVec 8) := []
  /-- R469; 32 x 8; 0 | FLT_ERR_STAT.UNREADABLE (RC) -/
  flashUnread : Table (BitVec 8) := []
  /-- R464, R497; - ; DC empty | retired flash blocks: channel, die, block -/
  retired : List (Nat × Nat × Nat) := []
  /-- R461, R692, R709; - ; DC empty | stack rows under soft post-package repair, as the pages they hold: stack and page -/
  repairs : List (Nat × Nat) := []
  /-- R462, R692, R709; - ; DC empty | retired module-tier pages: channel 32-63 and page -/
  badPages : List (Nat × Nat) := []
  /-- R464; - ; empty | blocks that needed a soft decode once -/
  softOnce : List (Nat × Nat × Nat) := []
  /-- R472; - ; empty | WRITE descriptors collecting data, in arrival order: edge index and descriptor -/
  waiting : List (Nat × WaitingWrite) := []
  /-- R470; - ; empty | descriptors whose completion is due: edge index and descriptor -/
  done : List (Nat × DoneDesc) := []
  /-- R473; - ; 0 | scheduled descriptors discarded as late -/
  lateDesc : Nat := 0
  /-- R470; 128 B; 0 | MSH_DMA_PORT of each region, byte by byte -/
  port : Table (List Byte) := []
  /-- R469; - ; 0 | per channel key: the page the patrol reads next -/
  patrol : Table Nat := []
  /-- R469, R364; - ; empty | lost pages of streamed weight stores to be rewritten from the refill copy: channel key, page -/
  refills : List (Nat × Nat) := []
  deriving DecidableEq, Repr

end Sys2Proof.Machine
end

