-- ==== Sys2Proof/Parts/Tile.lean ====
section
/-! DEFINITION. State of one logical tile (chapters 03, 04, 05 and 09): an unlisted tile of `State.tiles` is at reset. -/

namespace Sys2Proof.Machine

/-- A floating-point value: NaN, an infinity, or (-1)^neg * m * 2^e exactly (m = 0 is a signed zero). -/
inductive FP where
  | nan
  | inf (neg : Bool)
  | fin (neg : Bool) (m : Nat) (e : Int)
  deriving DecidableEq, Repr

/-- One FP32 lane file entry with its poison tag: a vector register of 128 lanes, an accumulator row of 64, or a pack element. -/
structure VReg where
  /-- R193; 128 x 32 (a register) or 64 x 32 (an accumulator row); DC 0 | the lanes, unlisted lanes zero -/
  lanes : Table Word := []
  /-- R193; 1; false | the poison tag, cleared at each catch (R199) -/
  poison : Bool := false
  deriving DecidableEq, Repr

/-- An operand-buffer line or a staged weight line. -/
structure TaggedLine where
  /-- R193; 128 B; DC 0 | the bytes, unlisted bytes zero -/
  bytes : Table Byte := []
  /-- R193; 1; false | the poison tag -/
  poison : Bool := false
  deriving DecidableEq, Repr

/-- A block register (R165, R222). -/
structure Block where
  /-- R222; 4; DC 0 | format code of the block, 0 while nothing was loaded -/
  fmt : BitVec 4 := 0
  /-- R224; K_w x 64 elements; DC empty | decoded elements in element order -/
  elems : List FP := []
  /-- R226; 1; false | a poisoned block -/
  poison : Bool := false
  /-- R225; 11; 0 | elements the block still lacks; ready when 0 -/
  missing : Nat := 0
  /-- R225; 1; true | ready: not being loaded -/
  ready : Bool := true
  /-- R225; 32; 0 | the cycle from which the block can be ready -/
  from_ : Nat := 0
  deriving DecidableEq, Repr

/-- A gather tag (R193, R218). -/
structure Gather where
  /-- R193; 1; false | outstanding (else complete) -/
  outstanding : Bool := false
  /-- R218; 15; 0 | the destination scratch line -/
  line : BitVec 15 := 0
  /-- R220; - ; 0 | serial number of the gather that holds the tag; data of an earlier one is discarded -/
  serial : Nat := 0
  /-- R212; 41; 0 | device line number of a gather -/
  addr : Nat := 0
  /-- R470; 16; 0 | lines of a tier READ still to land on the tag -/
  linesLeft : Nat := 0
  /-- R470; 16; 1 | lines of the destination -/
  lines : Nat := 1
  /-- R470; 1; false | a tier READ holds the tag -/
  read : Bool := false
  deriving DecidableEq, Repr

/-- What holds a sequencer (R182). -/
inductive Hold where
  | none
  | waitC (target : Nat)
  | waitG (tag : BitVec 4) (deadline : Nat)
  deriving DecidableEq, Repr

/-- Where a unit result goes when its latency ends (R248). -/
inductive Dest where
  | vreg (d : BitVec 5)
  | acc (row : BitVec 6)
  | opLine (n : BitVec 8)
  | staging
  | scratch (line : BitVec 15)
  | packStream
  | egress
  deriving DecidableEq, Repr

/-- How a finished result changes its destination. -/
inductive ResultValue where
  /-- Lanes written; lanes not listed keep their value unless `whole`. -/
  | lanes (whole : Bool) (ls : List (Nat × Word)) (poison : Bool)
  | line (bs : Bytes) (poison : Bool)
  | lines (ls : List (Bytes × Bool))
  /-- MUL: the exact sum of the products of each column, and INIT. -/
  | mac (init : Bool) (sums : List FP) (poison : Bool)
  | elems (es : List (Word × Bool))
  deriving DecidableEq, Repr

/-- A landing write that waits in the ingress queue (R178). -/
structure Landing where
  /-- R142; 15; 0 | scratch line -/
  line : BitVec 15 := 0
  /-- R178; 128 B; empty | data -/
  bytes : Bytes := []
  /-- R199; 1; false | poisoned -/
  poison : Bool := false
  /-- R489; 5; none | the gather tag of a READ or gather whose data it is -/
  tag : Option Nat := none
  /-- R220; - ; 0 | serial number of the READ that holds the tag -/
  serial : Nat := 0
  deriving DecidableEq, Repr

/-- A result in flight (R248). -/
structure Pending where
  id : Nat
  slot : Slot
  done : Nat
  dest : Dest
  value : ResultValue
  pc : BitVec 12
  /-- The cycle it was issued in. -/
  at_ : Nat := 0
  deriving DecidableEq, Repr

/-- A rotation block whose parts are being issued (R235). -/
structure RotBlock where
  /-- R234; 5; 0 | rotation descriptor -/
  desc : Nat := 0
  /-- R234; 4; 0 | MODE -/
  mode : Nat := 0
  /-- R234; 1; false | IROT -/
  inverse : Bool := false
  /-- R235; - ; 0 | the part last issued and the cycle it issued in -/
  part : Nat := 0
  cycle : Nat := 0
  /-- R271; - ; empty | the elements of the parts so far -/
  elems : List FP := []
  /-- R199; 1; false | a part was poisoned -/
  poison : Bool := false
  /-- R173; - ; empty | serial numbers of the results of the parts so far -/
  ids : List Nat := []
  /-- R254; 12; 0xFFFF | bundle of the part last issued -/
  pc : Nat := 0xFFFF
  deriving DecidableEq, Repr

/-- An unscheduled request to the cache (R152): of the control core, or of a gather. -/
structure CacheReq where
  /-- R153; 48; 0 | device address of the line -/
  addr : Nat := 0
  /-- R140; 7; 0 | first byte of a write within the line -/
  byte : Nat := 0
  /-- R140; 128 B; none | data of a write -/
  write : Option Bytes := none
  /-- R218; - ; none | the gather tag and serial number it serves -/
  gather : Option (Nat × Nat) := none
  deriving DecidableEq, Repr

/-- A line of the cache directory (R153): one way and set. -/
structure CacheLine where
  /-- R153; 31; 0 | tag: device address bits above [16:7] -/
  tag : Nat := 0
  /-- R153; 1; false | -/
  valid : Bool := false
  /-- R155; 1; false | -/
  dirty : Bool := false
  deriving DecidableEq, Repr

/-- The scrubber and rebuild state of one usable bank (R481, R482, R493). -/
structure Scrub where
  /-- R481; 10; 0 | next line to read -/
  line : Nat := 0
  /-- R481; 256; 0 | syndrome accumulated over the current page, byte lane b at bits [8b+7:8b] -/
  acc : BitVec 256 := 0
  /-- R148; 10 each; empty | lines queued for rewrite with corrected data -/
  rewrite : List Nat := []
  /-- R482; four pages; empty | pages queued for rebuild, oldest first: page, flagged words, whether a flag was cleared by a write -/
  rebuild : List (Nat × List Nat × Bool) := []
  /-- R493; counts by line; empty | consecutive passes in which a line had a single-bit error after its rewrite -/
  repeats : Table Nat := []
  /-- R493; words by index; empty | words rebuilt in the last pass -/
  rebuilt : List Nat := []
  /-- R493, R494; 8 each; empty | rows found hard and awaiting their remap -/
  hard : List Nat := []
  /-- R483; - ; 0 | milliseconds count at which the current pass began -/
  passStart : Nat := 0
  deriving DecidableEq, Repr

set_option maxRecDepth 2000 in
/-- One logical tile; an unlisted tile of `State.tiles` is at reset. -/
structure Tile where
  /-- R41; 7; none | the stage of the crew that holds the tile; none: in no crew, gated (R134) -/
  stage : Option Nat := none
  /-- R42; 11; 0 | seat number in the crew -/
  seat : Nat := 0
  /-- R32, R495; 1; false | the tile is failing -/
  failing : Bool := false
  /-- R136; 4 MiB; 0 | usable scratch by 22-bit byte address; unlisted bytes read 0 (R488) -/
  scratch : List Host.Cell := []
  /-- R137; 10 per word; 0 | stored check bits by word index (byte address / 32) -/
  chk : Table (BitVec 10) := []
  /-- R478; 32 B per page; 0 | check bytes by bank * 32 + page -/
  pageChk : Table (BitVec 256) := []
  /-- R209; 1 per line; false | scratch lines marked poisoned, cleared at each catch -/
  linePoison : Table Bool := []
  /-- R483; 1 per line; false | lines of a lost page, marked until a write replaces them -/
  lostLine : Table Bool := []
  /-- R193; 16 x 32; DC 0 | scalar registers s0-s15 (s0 reads zero, R194) -/
  s : Table Word := []
  /-- R193; 4 x 1; DC false | predicates p0-p3 (p0 reads 1, R194) -/
  p : Table Bool := []
  /-- R193; 32 x 128 x 32; DC 0 | vector registers v0-v31 -/
  v : Table VReg := []
  /-- R193; 64 x 64 x 32; DC 0 | accumulator rows a0-a63 -/
  acc : Table VReg := []
  /-- R193; - ; DC empty | block register in use -/
  blkUse : Block := {}
  /-- R193; - ; DC empty | loading block register -/
  blkLoad : Block := {}
  /-- R193; 256 x 128 B; DC 0 | operand buffer lines -/
  opbuf : Table TaggedLine := []
  /-- R193; 32 lines; empty | weight staging queue, oldest first -/
  wq : List TaggedLine := []
  /-- R224; 9; 0 | elements of the oldest staged line already taken -/
  wqTaken : Nat := 0
  /-- R216; 1; false | a WRD overflowed, so the next block loaded is poisoned -/
  wqOver : Bool := false
  /-- R193; 8 x 6 x 5; DC 0 | bank sets; an unlisted set holds bank 0 six times -/
  bankSets : Table (List (BitVec 5)) := []
  /-- R193; 16; complete | gather tags -/
  gtag : Table Gather := []
  /-- R220; - ; 0 | model's own serial number for gathers -/
  gatherSerial : Nat := 0
  /-- R193; 1024 x 32; empty | pack stream, oldest first, with poison -/
  pack : List (Word × Bool) := []
  /-- R238; 1; false | the stream overflowed; every burst packed is poisoned until PCLR or catch -/
  packOver : Bool := false
  /-- R193; 32; DC 0 | stochastic rounding position -/
  srPos : Word := 0
  /-- R193; 32; DC 0 | stochastic rounding element index -/
  srIdx : Word := 0
  /-- R193; 7; DC 0 | rounding image stage, loaded from RQU_SR_CFG at each catch -/
  srStage : BitVec 7 := 0
  /-- R197; 576; DC 0 | present-row mask -/
  present : BitVec 576 := 0
  /-- R195; 32; 0 | cycle counter -/
  cycle : Nat := 0
  /-- R193, R242; 256 entries; empty | send table -/
  send : Table SendEntry := []
  /-- R193, R197; 32 entries; empty | input list -/
  input : List InputEntry := []
  /-- R193, R267; 32; empty | rotation descriptors -/
  rot : Table RotDesc := []
  /-- R193, R319; 16; empty | rotary tables -/
  rotary : Table RotaryTable := []
  /-- R133; 4096 x 256; 0 | program store; unlisted bundles are NOPs (R488) -/
  prog : Table (BitVec 256) := []
  /-- R185, R476; 10 per bundle; none | stored check bits of a bundle, listed where they are not those of its data -/
  progChk : Table (Option (BitVec 10)) := []
  /-- R185; 2 per bundle; 0 | repairs made of a bundle that failed at fetch -/
  progRepairs : Table Nat := []
  /-- R187; 12; 0 | SEQ_STAT.PC, the bundle last issued -/
  pc : BitVec 12 := 0
  /-- R206; 12; 0 | address of the next bundle -/
  nextPc : Nat := 0
  /-- R187; 1; false | SEQ_CTL.RUN -/
  run : Bool := false
  /-- R183, R187; 1; false | the sequencer runs the stroke program: RUN as the last catch found it -/
  live : Bool := false
  /-- R187; 1; false | SEQ_STAT.DONE -/
  done : Bool := false
  /-- R187; 1; false | SEQ_STAT.ABANDON (W1C) -/
  abandon : Bool := false
  /-- R187; 1; false | SEQ_STAT.WITHHELD (W1C) -/
  withheldStat : Bool := false
  /-- R187; 1; false | SEQ_STAT.FETCH_ERR (W1C) -/
  fetchErr : Bool := false
  /-- R187; 16; 0 | SEQ_STAT.IDLE -/
  idle : BitVec 16 := 0
  /-- R187; 32; 0 | cycle at which END issued in this stroke -/
  endCycle : Nat := 0
  /-- R150; 1; false | the tile withholds its commits for the rest of this stroke -/
  withhold : Bool := false
  /-- R182; - ; none | what holds the sequencer -/
  hold : Hold := .none
  /-- R165, R182; 2; 0 | a BSW waits for its block: 1 in this bundle, 2 holds the sequencer -/
  bswWait : Nat := 0
  /-- R178, R182; 2; 0 | a NET injection waits for room in the egress queue: 1 in this bundle, 2 holds the sequencer -/
  netWait : Nat := 0
  /-- R187; 12; 0 | SEQ_PATCH_CTL.ADDR -/
  patchAddr : BitVec 12 := 0
  /-- R187; 1; false | SEQ_PATCH_CTL.GO -/
  patchGo : Bool := false
  /-- R187; 1; false | SEQ_PATCH_CTL.REFUSED (W1C) -/
  patchRefused : Bool := false
  /-- R187; 12; 0 | SEQ_PATCH_CTL.ERR_ADDR -/
  errAddr : BitVec 12 := 0
  /-- R187; 256; 0 | SEQ_PATCH_D0 to D7 -/
  patchD : BitVec 256 := 0
  /-- R187; 256; 0 | the staged bundle, taken when GO was set -/
  patchStaged : BitVec 256 := 0
  /-- R248; - ; empty | results in flight, in issue order -/
  inflight : List Pending := []
  /-- R248; - ; MODEL 0 | serial number of the next result -/
  nextId : Nat := 0
  /-- R235; - ; none | the rotation block being issued -/
  rotNow : Option RotBlock := none
  /-- R248; - ; empty | uses of this cycle: resource code of R255 and the slot using it -/
  uses : List (Nat × Slot) := []
  /-- R140, R144; - ; empty | banks that have served a landing write, an unscheduled access or the scrubber in this cycle -/
  bgUses : List Nat := []
  /-- R252; 32; none | cycle of the last VEXP, VRCP or VRSQ; cycle of the last PACK -/
  lastLong : Option Nat := none
  lastPack : Option Nat := none
  /-- R254; 12 each; empty | bundle of the last BLD (0x24), PACK (0x25) and long operation (0x27), and of each sent COMMIT, by resource code -/
  usePc : Table Nat := []
  /-- R178; 8 lines; empty | mesh ingress queue: landing writes waiting, line, bytes, poison, whether a gather or READ tag -/
  ingress : List Landing := []
  /-- R143, R178; - ; empty | lines of tier READs that mesh credits hold back while the ingress queue is full -/
  inWait : List Landing := []
  /-- R178; 8; empty | mesh egress queue: bursts from PACK awaiting SENDQ, with poison -/
  egress : List (Bytes × Bool) := []
  /-- R179; 16 flits; empty | control queue, head first -/
  ctlQ : List Flit := []
  /-- R179; - ; empty | control flits held at the port while the queue is full -/
  ctlWait : List Flit := []
  /-- R245; 256 x 1; empty | send-table entries whose COMMIT was sent in this stroke -/
  committed : List (BitVec 8) := []
  /-- R178; - ; none | the injection a full egress queue holds back -/
  netHeld : Option Flit := none
  /-- R507; 32 each; empty | data flits sent in this stroke, by send-table entry -/
  sentLines : Table Nat := []
  /-- R527; - ; empty | per delivery number: data flits accepted this stroke, and whether one was tainted -/
  gotLines : Table Nat := []
  gotTaint : Table Bool := []
  /-- R64; - ; empty | per delivery number: row mask of a commit that arrived on time; none otherwise -/
  onTime : Table (Option (BitVec 576)) := []
  /-- R64, R78; - ; empty | delivery numbers judged late in this stroke -/
  late : List (BitVec 8) := []
  /-- R150; 16; 0 | SCR_BANK_STAT.CONFLICT (RC) -/
  conflict : BitVec 16 := 0
  /-- R150; 16; 0 | SCR_BANK_STAT.POISON (RC) -/
  poisonCnt : BitVec 16 := 0
  /-- R163; 8; 0 | SCR_CACHE_CTL.MASK -/
  cacheMask : BitVec 8 := 0
  /-- R163; 1; true | SCR_CACHE_CTL.WALLOC -/
  walloc : Bool := true
  /-- R163; 1; false | SCR_CACHE_STAT.BUSY -/
  cacheBusy : Bool := false
  /-- R163; 1; false | SCR_CACHE_STAT.REFUSED (W1C) -/
  cacheRefused : Bool := false
  /-- R163; 1; false | SCR_CACHE_STAT.LOST (W1C) -/
  cacheLost : Bool := false
  /-- R163; 16; 0 | SCR_CACHE_STAT.MISSES (RC) -/
  misses : BitVec 16 := 0
  /-- R153; 8 x 1024; invalid | cache directory by 1024 * way + set -/
  cacheDir : Table CacheLine := []
  /-- R154; 1024; 0 | rotating victim pointer of each set -/
  victim : Table Nat := []
  /-- R160; 8; none | new mask of a change in progress -/
  maskPending : Option (BitVec 8) := none
  /-- R156; 2; 0 | whole-cache operation in progress -/
  cacheOp : BitVec 2 := 0
  /-- R157; 128 B; none | line last returned to the control core; none: an access fault, or nothing yet -/
  cacheOut : Option Bytes := none
  /-- R160; - ; empty | requests that wait while BUSY, oldest first -/
  cacheWait : List CacheReq := []
  /-- R157; - ; empty | misses outstanding, oldest first -/
  cacheMissQ : List CacheReq := []
  /-- R218; - ; empty | gathers whose data is back: tag, serial number, the line or none where it is poisoned -/
  gatherReady : List (Nat × Nat × Option Bytes) := []
  /-- R278; 32; DC 0 | RQU_SR_KEY0, KEY1 (write only) -/
  srKey0 : Word := 0
  srKey1 : Word := 0
  /-- R278; 7; 0 | RQU_SR_CFG.STAGE -/
  srCfg : BitVec 7 := 0
  /-- R296; 1; false | RQU_CHK_CTL.EN -/
  chkEn : Bool := false
  /-- R296; 9; 0 | RQU_CHK_CTL.MAPLEN -/
  mapLen : BitVec 9 := 0
  /-- R282; 256 x 32; empty | check map -/
  checkMap : List Word := []
  /-- R296; 20; 0 | RQU_CHK_TIME.SEND -/
  chkSend : BitVec 20 := 0
  /-- R291; 20; 0 | the plan's verdict read cycle for the tile -/
  verdictRead : Nat := 0
  /-- R296; 1; false | RQU_CHK_STAT.HELD, of the last completed stroke -/
  held : Bool := false
  /-- R296; 1; false | RQU_CHK_STAT.CRAB (W1C) -/
  crab : Bool := false
  /-- R296; 1; false | RQU_CHK_STAT.GRANTED (W1C) -/
  granted : Bool := false
  /-- R296; 1; false | RQU_CHK_STAT.REFUSED (W1C) -/
  refused : Bool := false
  /-- R296; 1; false | RQU_CHK_STAT.LATE_VERDICT (W1C) -/
  lateVerdict : Bool := false
  /-- R296; 1; false | RQU_CHK_STAT.PREDICTED -/
  predicted : Bool := false
  /-- R296; 2; 0 | RQU_CHK_STAT.LEVEL -/
  level : BitVec 2 := 0
  /-- R296; 12; 0 | RQU_CHK_STAT.CANDIDATE -/
  candidate : BitVec 12 := 0
  /-- R296; 32; 0 | RQU_CHK_SUM_ERR, RQU_CHK_SUM_REF of the last completed stroke -/
  sumErrReg : Word := 0
  sumRefReg : Word := 0
  /-- R283; 32; 0 | running sums of this stroke -/
  sumErr : Word := 0
  sumRef : Word := 0
  /-- R284; 1; false | the tile held part of the candidate this stroke; an element summed was poisoned -/
  heldNow : Bool := false
  chkPoison : Bool := false
  /-- R281; 16; 0 | marked packs counted in this stroke -/
  marked : Nat := 0
  /-- R283; - ; empty | retained pre-quantisation values of the sampled block -/
  retained : List Word := []
  /-- R293; 1; false | the replay scale rule is in force until the next catch -/
  replayRule : Bool := false
  /-- R284; 1; false | the check flit of this stroke was sent -/
  checkSent : Bool := false
  /-- R491; 32; 0xFFFFFFFF | SCR_BANK_PWR.ON -/
  bankPwr : Word := 0xFFFFFFFF
  /-- R491; 32; 0 | banks in their fill (FILLING is set while any is) -/
  filling : Word := 0
  /-- R491; 1; false | SCR_PWR_STAT.REFUSED (W1C) -/
  pwrRefused : Bool := false
  /-- R491; 1; false | SCR_PWR_STAT.FORCED (W1C) -/
  pwrForced : Bool := false
  /-- R491; 16; 0 | SCR_PWR_STAT.DISCARDS (RC) -/
  discards : BitVec 16 := 0
  /-- R481; 32 banks; idle | scrubbers and rebuild queues -/
  scrub : Table Scrub := []
  /-- R492; 32 x 16 entries; invalid | remap entries by 16 * bank + spare: row and VALID in bit 8 -/
  remap : Table (BitVec 9) := []
  /-- R138, R492; 32 x 2 x 5; invalid | remap entries of the sub-arrays' own rows 16-31 onto their rows 18 and 19, by 2 * bank + spare: row
  less 16, and VALID in bit 4 -/
  subRemap : Table (BitVec 5) := []
  /-- R483; 32; unused | roles the plan's bank map gives the banks -/
  roles : List BankRole := []
  /-- R125; - ; none | tick of the last lane-0 injection (one in every 8 ticks) -/
  lastLane0 : Option Nat := none
  deriving DecidableEq, Repr

end Sys2Proof.Machine
end

