-- ==== Sys2Proof/Parts/Weights.lean ====
section
/-! DEFINITION. State of weight images, swaps and adapters (chapter 07). -/

namespace Sys2Proof.Machine

/-- What a load of an image is for (R351, R385, R719). -/
inductive LoadKind where
  | boot | plan | swap
  deriving DecidableEq, Repr

/-- A load of an image in progress (R371-R375, R385-R390). -/
structure Load where
  /-- R385; - ; boot | what it is for -/
  kind : LoadKind := .boot
  /-- R385; 48 B; none | its source record; none for a load from a flash slot at boot -/
  src : Option SourceRecord := none
  /-- R357; - ; none | the manifest, once accepted -/
  man : Option Manifest := none
  /-- R386; 4 MiB each; empty | opened bytes of the shards whose tag was good, in pieces of 128 -/
  opened : Table (Option (List Bytes)) := []
  /-- R386; - ; empty | the sealed records of those shards -/
  records : Table (Option Bytes) := []
  /-- R359; 256; empty | the content key, once unwrapped -/
  key : Bytes := []
  /-- R374, R375; - ; 0 | failures of each shard -/
  fails : Table Nat := []
  /-- R374; - ; empty | shards to be sent or fetched again, oldest first -/
  again : List Nat := []
  /-- R372; 20; 0 | the next shard to read from a host -/
  asked : Nat := 0
  /-- R387; 1; false | staging is complete -/
  staged : Bool := false
  /-- R387; 48; none | the switch stroke named -/
  switchAt : Option Nat := none
  /-- R389; 1; false | the switch halt has begun and the refill runs -/
  refilling : Bool := false
  /-- R388; - ; 0 | ms at which staging completed -/
  stagedMs : Nat := 0
  /-- R388, R390; - ; empty | requests this switch marked epoch-crossed -/
  crossedNow : List (BitVec 64) := []
  /-- R371, R373; - ; empty | objects sent down the broadcast tree: kind and number -/
  sent : List (Nat × Nat) := []
  deriving DecidableEq, Repr

/-- A registered adapter (R379-R381). -/
structure Adapter where
  /-- R351; 32; 0 | ADAPTER_ID -/
  id : Word := 0
  /-- R351; 64; 0 | the base epoch it accepts; 0 for any -/
  epoch : BitVec 64 := 0
  /-- R351; 8; 0 | rank -/
  rank : Nat := 0
  /-- R381; 1; false | resident in the stack tier -/
  resident : Bool := false
  /-- R370, R380; - ; none | the sealed image in flash -/
  image : Option Image := none
  /-- R370; - ; empty | its opened bursts by shard, while resident -/
  opened : Table (Option (List Bytes)) := []
  /-- R381; - ; 0 | serial number of its last use -/
  used : Nat := 0
  deriving DecidableEq, Repr

/-- Weights. -/
structure Weights where
  /-- R394; 64; 0 | WeightEpoch 0x2300.01 -/
  epoch : BitVec 64 := 0
  /-- R394; 128; 0 | ImageId 0x2300.02 -/
  imageId : BitVec 128 := 0
  /-- R363; 256; 0 | layout digest of the image in service -/
  layout : BitVec 256 := 0
  /-- R277; 64; 0 | rounding key of the image in service -/
  roundingKey : BitVec 64 := 0
  /-- R454; 32; 0 | Vocabulary 0x3030.01 -/
  vocab : Nat := 0
  /-- R355; - ; empty | rotation keys of the image in service -/
  rotKeys : List RotKey := []
  /-- R394; 3; 0 | LoadState 0x2300.03 -/
  state : Nat := 0
  /-- R394; 4; 0 | LastLoadResult 0x2300.04 -/
  result : Nat := 0
  /-- R362; 64; 0 | EpochFloor 0x2300.05 -/
  floor : BitVec 64 := 0
  /-- R362; 128; 0 | IMAGE_ID recorded with the floor -/
  floorImage : BitVec 128 := 0
  /-- R389; - ; none | epoch and IMAGE_ID that go into service at the first catch after the resume -/
  newEpoch : Option (BitVec 64 × BitVec 128) := none
  /-- R370; 8; none | committed images in flash, by slot -/
  slots : Table (Option Image) := []
  /-- R391; - ; none | an image being written to a flash slot after the switch -/
  committing : Option (Nat × Image) := none
  /-- R394; 64; 0 | SwapStroke 0x2300.0D -/
  swapStroke : Nat := 0
  /-- R385; - ; none | the load in progress of a base image -/
  load : Option Load := none
  /-- R370; - ; empty | the refill copy of the running epoch: the opened bytes of each shard, its sealed record, and its manifest -/
  copy : Table (Option (List Bytes)) := []
  copyRecords : Table (Option Bytes) := []
  copyMan : Option Manifest := none
  /-- R359; 256; empty | the content key of the image in service -/
  key : Bytes := []
  /-- R379; 1,024; empty | registered adapters -/
  adapters : List Adapter := []
  deriving DecidableEq, Repr

end Sys2Proof.Machine
end

