-- ==== Sys2Proof/Machine/State.lean ====
section
/-! DEFINITION. The state of the module, its faults and refusals, and the state after reset. -/

namespace Sys2Proof.Machine

/-- Why the model stops with a fault: nothing does. An access fault (R457, R651) goes to the requester of the access and
the module runs on; `State.accessFault` shows it. No command raises a fault, which is safe: no behaviour is cut off. -/
inductive Fault where
  deriving DecidableEq, Repr

/-- Why the model refuses a command. -/
inductive Refusal where
  /-- The arm of a command that has no meaning yet. Safe: nothing is claimed about it. -/
  | notModelled (mnemonic : String)
  deriving DecidableEq, Repr

/-- The module. -/
structure State where
  /-- R53, R626; - ; MODEL 0 | elapsed time in nominal ticks (117,500 to the millisecond) -/
  now : Nat := 0
  /-- R740; - ; MODEL 0 | serial number of the next free value (Config.freeBits) -/
  free : Nat := 0
  /-- R9; - ; as its lines | identity of the module -/
  ident : Ident := {}
  /-- R54; - ; as its lines | stroke counter and easy-all -/
  clk : StrokeClock := {}
  /-- R11; - ; all at reset | logical tiles by TileId.key -/
  tiles : Table Tile := []
  /-- R26; - ; all at reset | regions by number -/
  regions : Table Region := []
  /-- R455; - ; as its lines | memory tiers and flash -/
  tier : Tier := {}
  /-- R620; - ; as its lines | reference loop -/
  ref : RefLoop := {}
  /-- R655; - ; as its lines | power and cooling -/
  power : Power := {}
  /-- R532; - ; as its lines | tensor links, partners, regatta and pair -/
  links : Links := {}
  /-- R579; - ; as its lines | host ports, management interfaces, connectors -/
  host : HostSide := {}
  /-- R302; - ; as its lines | mode controller -/
  mode : ModeCtl := {}
  /-- R395; - ; as its lines | serving -/
  serve : Serving := {}
  /-- R350; - ; as its lines | weight images -/
  weights : Weights := {}
  /-- R737; - ; as its lines | event recorder -/
  log : Recorder := {}
  /-- R735; - ; as its lines | bring-up, trust and plan loading -/
  boot : Boot := {}
  /-- R762; - ; catalogue defaults | numeric RW dictionary objects by 256 * index + subindex; an unlisted object holds its default -/
  dict : Table (Option Nat) := []
  /-- R762; - ; zeros | BLOB and STR RW dictionary objects by key -/
  blobs : Table (Option Bytes) := []
  /-- R498, R519; - ; empty | flits in the mesh: region, x, y of the router that holds each, oldest first -/
  transit : List (Nat × Nat × Nat × Flit) := []
  /-- R776; - ; zeros | counters the dictionary reports, by object key -/
  counts : Table Nat := []
  /-- R483; - ; empty | lost weight pages Cox has an ingress engine rewrite: tile key, bank, page, oldest first -/
  refills : List (Nat × Nat × Nat) := []
  /-- R494; - ; empty | remap entries recorded in the configuration record: tile key, bank, row, spare -/
  remapRecord : List (Nat × Nat × Nat × Nat) := []
  /-- R397; - ; empty | token-service messages received since the last finish, which the ports' receive rings keep -/
  ring : List Instr := []
  /-- R457; 32; MODEL none | the value that the last register read returned -/
  readOut : Option Word := none
  /-- R457, R651; 1; MODEL false | the last register access returned an access fault to its requester -/
  accessFault : Bool := false
  /-- R600; 8; MODEL 0 | the ISTATUS that the last write of a dictionary object was answered with -/
  istatus : Nat := 0
  /-- R21; - ; MODEL empty | commands that wait, first in first out -/
  pending : List Instr := []
  deriving DecidableEq, Repr

/-- The module right after its always-on domain gained power. -/
def State.reset : State := {}

end Sys2Proof.Machine
end

