-- ==== Sys2Proof/Machine/Ops.lean ====
section
/-! DEFINITION. The shared operations: sparse tables, bytes, time, tiles and regions, dictionary values, event records,
snapshots, and entering easy-all. -/

namespace Sys2Proof

/-- The value at a key; `d` where the table lists none. -/
def Table.get {α : Type} (d : α) : Table α → Nat → α
  | [], _ => d
  | (k', v) :: t, k => if k' = k then v else Table.get d t k

/-- The table with `v` at a key, in canonical form: the default is not listed. -/
def Table.put {α : Type} [DecidableEq α] (d : α) : Table α → Nat → α → Table α
  | [], k, v => if v = d then [] else [(k, v)]
  | (k', v') :: t, k, v =>
    if k < k' then (if v = d then (k', v') :: t else (k, v) :: (k', v') :: t)
    else if k = k' then (if v = d then t else (k, v) :: t)
    else (k', v') :: Table.put d t k v

/-- Canonical form: keys strictly rising from `lo`, no listed default. -/
def Table.wfFrom {α : Type} [DecidableEq α] (d : α) : Nat → Table α → Bool
  | _, [] => true
  | lo, (k, v) :: t => decide (lo ≤ k) && decide (v ≠ d) && Table.wfFrom d (k + 1) t

/-- The canonical form of a table. -/
def Table.wf {α : Type} [DecidableEq α] (d : α) (t : Table α) : Bool := Table.wfFrom d 0 t

/-- Put the values of a list at consecutive keys. -/
def Table.putList {α : Type} [DecidableEq α] (d : α) : Table α → Nat → List α → Table α
  | t, _, [] => t
  | t, k, v :: vs => Table.putList d (Table.put d t k v) (k + 1) vs

/-- The values at `n` consecutive keys. -/
def Table.getList {α : Type} (d : α) (t : Table α) (k : Nat) : Nat → List α
  | 0 => []
  | n + 1 => Table.get d t k :: Table.getList d t (k + 1) n

/-- Every listed value changed, in canonical form. -/
def Table.mapVals {α : Type} [DecidableEq α] (d : α) (f : α → α) (t : Table α) : Table α :=
  t.foldl (fun (m : Table α) (p : Nat × α) => Table.put d m p.1 (f p.2)) []

/-- Little-endian value of bytes (R15). -/
def leNat : Bytes → Nat
  | [] => 0
  | b :: bs => b.toNat + 256 * leNat bs

/-- `n` little-endian bytes of a value (R15). -/
def natLE : Nat → Nat → Bytes
  | 0, _ => []
  | n + 1, v => BitVec.ofNat 8 v :: natLE n (v / 256)

/-- `n` big-endian bytes of a value. -/
def natBE (n v : Nat) : Bytes := (natLE n v).reverse

/-- Bytes padded with zeros, or cut, to `n`. -/
def padTo (n : Nat) (bs : Bytes) : Bytes := (bs ++ List.replicate n 0).take n

/-- A field of bytes. -/
def Machine.slice (bs : Bytes) (off n : Nat) : Bytes := (bs.drop off).take n

/-- A little-endian field of bytes (R15). -/
def Machine.fieldNat (bs : Bytes) (off n : Nat) : Nat := leNat (Machine.slice bs off n)

/-- A signed little-endian field of bytes (R15). -/
def Machine.fieldInt (bs : Bytes) (off n : Nat) : Int := (BitVec.ofNat (8 * n) (Machine.fieldNat bs off n)).toInt

/-- Every byte of a field is zero. -/
def Machine.zeroField (bs : Bytes) (off n : Nat) : Bool := (Machine.slice bs off n).all (fun b => b = 0)

/-- Add, saturating at the largest value of a `w`-bit field. -/
def satAdd {w : Nat} (x : BitVec w) (n : Nat) : BitVec w :=
  if x.toNat + n < 2 ^ w then BitVec.ofNat w (x.toNat + n) else BitVec.allOnes w

/-- Field `[hi:lo]` of a word, as a number. -/
def bits (x : Word) (lo n : Nat) : Nat := x.toNat / 2 ^ lo % 2 ^ n

/-- Bit `i` of a word. -/
def bitAt (x : Word) (i : Nat) : Bool := x.getLsbD i

/-- A flag as a number. -/
def b2n (b : Bool) : Nat := if b then 1 else 0

/-- `a` is later than `b` modulo 2^w (R57). -/
def laterMod (w a b : Nat) : Bool :=
  let d := (a + 2 ^ w - b % 2 ^ w) % 2 ^ w
  decide (1 ≤ d) && decide (d ≤ 2 ^ (w - 1) - 1)

/-- Strokes from stroke `e` to stroke `n`, modulo 2^48 (R57). -/
def sinceStroke (n e : Nat) : Nat := (n + 2 ^ 48 - e % 2 ^ 48) % 2 ^ 48

/-- The later of two stroke numbers (R57). -/
def laterOf (a b : Nat) : Nat := if laterMod 48 a b then a % 2 ^ 48 else b % 2 ^ 48

/-- Division rounding up. -/
def ceilDiv (a b : Nat) : Nat := (a + b - 1) / b

/-- Insert a key and value, replacing an earlier value of the key. -/
def assocSet {β : Type} (l : List (Nat × β)) (k : Nat) (v : β) : List (Nat × β) :=
  if l.any (fun e => e.1 = k) then l.map (fun e => if e.1 = k then (k, v) else e) else l ++ [(k, v)]

/-- Stable insertion sort of a list by a number. -/
def insertBy {α : Type} (f : α → Nat) (x : α) : List α → List α
  | [] => [x]
  | y :: ys => if f x < f y then x :: y :: ys else y :: insertBy f x ys

/-- Stable sort by a number, smallest first. -/
def sortBy {α : Type} (f : α → Nat) (l : List α) : List α := l.foldr (insertByR f) []
where
  /-- Insertion that keeps earlier elements first when keys are equal. -/
  insertByR (f : α → Nat) (x : α) : List α → List α
    | [] => [x]
    | y :: ys => if f y < f x then y :: insertByR f x ys else x :: y :: ys

/-- Split a list into pieces of `n` (n > 0), `fuel` pieces at most. -/
def chunksOf {α : Type} (n : Nat) : Nat → List α → List (List α)
  | 0, _ => []
  | _ + 1, [] => []
  | f + 1, l => l.take n :: chunksOf n f (l.drop n)

namespace Machine

/-- Nominal ticks of a millisecond (R53). -/
def msTicks : Nat := 117500

/-- Cox's millisecond clock, which runs on holdover while the reference is lost (R626, R740). -/
def State.ms (s : State) : Nat := s.now / msTicks

/-- The tile of an identity. -/
def State.tile (s : State) (t : TileId) : Tile := Table.get {} s.tiles t.key

/-- The state with a tile replaced. -/
def State.setTile (s : State) (t : TileId) (v : Tile) : State := { s with tiles := Table.put {} s.tiles t.key v }

/-- The state with a tile changed. -/
def State.updTile (s : State) (t : TileId) (f : Tile → Tile) : State := s.setTile t (f (s.tile t))

/-- The region of a number. -/
def State.region (s : State) (r : Nat) : Region := Table.get {} s.regions r

/-- The state with a region replaced. -/
def State.setRegion (s : State) (r : Nat) (v : Region) : State := { s with regions := Table.put {} s.regions r v }

/-- The state with a region changed. -/
def State.updRegion (s : State) (r : Nat) (f : Region → Region) : State := s.setRegion r (f (s.region r))

/-- The state with the stroke registers of a region changed. -/
def State.updClk (s : State) (r : Nat) (f : RegionClk → RegionClk) : State :=
  s.updRegion r (fun g => { g with clk := f g.clk })

/-- The state with the stored-data registers of a region changed. -/
def State.updEcc (s : State) (r : Nat) (f : RegionEcc → RegionEcc) : State :=
  s.updRegion r (fun g => { g with ecc := f g.ecc })

/-- The state with the referee of a region changed. -/
def State.updRef (s : State) (r : Nat) (f : RegionRef → RegionRef) : State :=
  s.updRegion r (fun g => { g with ref := f g.ref })

/-- The state with the event recorder of a region changed. -/
def State.updEvr (s : State) (r : Nat) (f : RegionEvr → RegionEvr) : State :=
  s.updRegion r (fun g => { g with evr := f g.evr })

/-- `n` words the spec leaves open (log entry 5), from serial number `k`. -/
def freeWords (k n : Nat) : List Word := (List.range n).map (fun i => (Config.freeBits (k + i)).setWidth 32)

/-- Take `n` serial numbers of free values. -/
def State.useFree (s : State) (n : Nat) : State := { s with free := s.free + n }

/-- Region `r` has power-good (R664). -/
def State.powered (s : State) (r : Nat) : Bool := s.power.pg.getLsbD r

/-- An access to a register of region `r`: it faults while the region is unpowered (R651). -/
def State.regAccess (s : State) (r : Nat) (f : State → State) : State :=
  if s.powered r then f { s with accessFault := false } else { s with accessFault := true, readOut := none }

/-- The state with the loop of a region changed. -/
def State.updLoop (s : State) (r : Nat) (f : RegionLoop → RegionLoop) : State :=
  s.updRegion r (fun g => { g with loop := f g.loop })

/-- The state with the power registers of a region changed. -/
def State.updPwr (s : State) (r : Nat) (f : RegionPower → RegionPower) : State :=
  s.updRegion r (fun g => { g with pwr := f g.pwr })

/-- Change every region of 0 .. 63. -/
def State.eachRegion (s : State) (f : Nat → State → State) : State := (List.range 64).foldl (fun s r => f r s) s

/-- The value held in a numeric dictionary object (R762, R768). -/
def State.dictNat (s : State) (key : Nat) : Nat :=
  match Table.get none s.dict key with
  | some v => v
  | none => catalogDefault key

/-- Hold a value in a numeric dictionary object. -/
def State.setDict (s : State) (key v : Nat) : State :=
  { s with dict := Table.put none s.dict key (if v = catalogDefault key then none else some v) }

/-- The field section is written (R710): its sequence number rises by one. -/
def State.writeField (s : State) : State := { s with boot := { s.boot with recordSeq := s.boot.recordSeq + 1 } }

/-- Hold a numeric object's value, and write it to the field section at once (R708, R771). -/
def State.storeDict (s : State) (key v : Nat) : State :=
  let s := (s.setDict key v).writeField
  { s with host := { s.host with stored := Table.put none s.host.stored key (if v = catalogDefault key then none else some v) } }

/-- The value in force of a numeric object of classes E to I (R768). -/
def State.inForceNat (s : State) (key : Nat) : Nat := (Table.get none s.host.inForce key).getD (s.dictNat key)

/-- Values written come into force (R769): their entries, and the values they replace, are dropped. -/
def State.takeEffect (s : State) (keys : List Nat) : State :=
  { s with host := { s.host with
    pending := s.host.pending.filter (fun e => !keys.contains e.key)
    inForce := s.host.inForce.filter (fun e => !keys.contains e.1)
    inForceBlobs := s.host.inForceBlobs.filter (fun e => !keys.contains e.1) } }

/-- Add to a counter of the dictionary (R776). -/
def State.count (s : State) (key n : Nat) : State :=
  { s with counts := Table.put 0 s.counts key (Table.get 0 s.counts key + n) }

/-- The bytes of a BLOB object of length `n` whose default repeats a byte. -/
def State.blob (s : State) (key : Nat) : Bytes :=
  match Table.get none s.blobs key with
  | some bs => bs
  | none => match catalogFind key with
    | some e => if e.type = .str then [] else List.replicate e.len (BitVec.ofNat 8 e.fill)
    | none => []

/-- Hold the bytes of a BLOB or STR object. -/
def State.setBlob (s : State) (key : Nat) (bs : Bytes) : State :=
  { s with blobs := Table.put none s.blobs key (some bs) }

end Machine
end Sys2Proof
end

