-- ==== Sys2Proof/Machine/Num.lean ====
section
/-! DEFINITION. Exact arithmetic on FP32 and BF16: every result is an exact value rounded once (R228-R233). -/

namespace Sys2Proof.Machine

/-- The value of an FP32 word. -/
def fp32 (w : Word) : FP :=
  let neg := w.getLsbD 31
  let ex := bits w 23 8
  let fr := bits w 0 23
  if ex = 255 then (if fr = 0 then .inf neg else .nan)
  else if ex = 0 then .fin neg fr (-149)
  else .fin neg (fr + 0x800000) ((ex : Int) - 150)

/-- The value of a BF16 code: the upper half of an FP32 word. -/
def bf16 (h : BitVec 16) : FP := fp32 (h.setWidth 32 <<< 16)

/-- Canonical NaN (R229, R233). -/
def nan32 : Word := 0x7FC00000#32

/-- A magnitude m * 2^e (a little more when `sticky`) as an integer multiple of 2^q, rounded to nearest even, with at
most `p` bits and q at least `emin`: the multiple and q. -/
def roundMag (p : Nat) (emin : Int) (m : Nat) (e : Int) (sticky : Bool) : Nat × Int :=
  let q := max emin (e + (Nat.log2 m : Int) + 1 - (p : Int))
  if q ≤ e then (m * 2 ^ (e - q).toNat, q)
  else
    let k := (q - e).toNat
    let lo := m % 2 ^ k
    let hi := m / 2 ^ k
    let half := 2 ^ (k - 1)
    if half < lo || (lo = half && (sticky || hi % 2 = 1)) then (hi + 1, q) else (hi, q)

/-- FP32 bits of a sign and an exact magnitude, rounded to nearest even; above the maximum an infinity (R231). -/
def roundFP32 (neg : Bool) (m : Nat) (e : Int) (sticky : Bool) : Word :=
  let sg := if neg then 0x80000000 else 0
  if m = 0 then BitVec.ofNat 32 sg
  else
    let r := roundMag 24 (-149) m e sticky
    BitVec.ofNat 32 (sg + min 0x7F800000 ((r.2 + 149).toNat * 0x800000 + r.1))

/-- BF16 bits of a sign and an exact magnitude, rounded to nearest even (R217). -/
def roundBF16 (neg : Bool) (m : Nat) (e : Int) (sticky : Bool) : BitVec 16 :=
  let sg := if neg then 0x8000 else 0
  if m = 0 then BitVec.ofNat 16 sg
  else
    let r := roundMag 8 (-133) m e sticky
    BitVec.ofNat 16 (sg + min 0x7F80 ((r.2 + 133).toNat * 0x80 + r.1))

/-- The FP32 word of a value. -/
def toFP32 : FP → Word
  | .nan => nan32
  | .inf neg => if neg then 0xFF800000#32 else 0x7F800000#32
  | .fin neg m e => roundFP32 neg m e false

/-- The BF16 code of a value (R217). -/
def toBF16 : FP → BitVec 16
  | .nan => 0x7FC0#16
  | .inf neg => if neg then 0xFF80#16 else 0x7F80#16
  | .fin neg m e => roundBF16 neg m e false

/-- The signed mantissa of a value. -/
def signedM (neg : Bool) (m : Nat) : Int := if neg then -(m : Int) else m

/-- An exact dyadic n * 2^e. -/
abbrev Dy := Int × Int

/-- The sum of two dyadics. -/
def Dy.add (a b : Dy) : Dy :=
  let e := min a.2 b.2
  (a.1 * 2 ^ (a.2 - e).toNat + b.1 * 2 ^ (b.2 - e).toNat, e)

/-- The product of two dyadics. -/
def Dy.mul (a b : Dy) : Dy := (a.1 * b.1, a.2 + b.2)

/-- Whether a dyadic is below another. -/
def Dy.lt (a b : Dy) : Bool :=
  let e := min a.2 b.2
  decide (a.1 * 2 ^ (a.2 - e).toNat < b.1 * 2 ^ (b.2 - e).toNat)

/-- The FP32 rounding of a dyadic, with the sign a zero takes. -/
def Dy.round (a : Dy) (zeroNeg : Bool) : Word :=
  if a.1 = 0 then roundFP32 zeroNeg 0 0 false else roundFP32 (a.1 < 0) a.1.natAbs a.2 false

/-- a + b, rounded once (R231, R233). -/
def fpAdd (a b : FP) : Word :=
  match a, b with
  | .nan, _ => nan32
  | _, .nan => nan32
  | .inf x, .inf y => if x = y then toFP32 (.inf x) else nan32
  | .inf x, _ => toFP32 (.inf x)
  | _, .inf y => toFP32 (.inf y)
  | .fin s m e, .fin s' m' e' => Dy.round (Dy.add (signedM s m, e) (signedM s' m', e')) (m = 0 && m' = 0 && s && s')

/-- The negative of a value. -/
def FP.neg : FP → FP
  | .nan => .nan
  | .inf s => .inf (!s)
  | .fin s m e => .fin (!s) m e

/-- a * b exactly, as a value (an infinity times zero is NaN). -/
def FP.mul (a b : FP) : FP :=
  match a, b with
  | .nan, _ => .nan
  | _, .nan => .nan
  | .inf x, .inf y => .inf (x != y)
  | .inf x, .fin s m _ => if m = 0 then .nan else .inf (x != s)
  | .fin s m _, .inf y => if m = 0 then .nan else .inf (s != y)
  | .fin s m e, .fin s' m' e' => .fin (s != s') (m * m') (e + e')

/-- a * b, rounded once. -/
def fpMul (a b : FP) : Word := toFP32 (FP.mul a b)

/-- a * b + c, rounded once. -/
def fpFma (a b c : FP) : Word := fpAdd (FP.mul a b) c

/-- Whether a < b; false when either is NaN (R233). -/
def fpLt (a b : FP) : Bool :=
  match a, b with
  | .nan, _ => false
  | _, .nan => false
  | .inf true, .inf true => false
  | .inf true, _ => true
  | .inf false, _ => false
  | _, .inf true => false
  | _, .inf false => true
  | .fin s m e, .fin s' m' e' => Dy.lt (signedM s m, e) (signedM s' m', e')

/-- The sign of a value, of zeros too. -/
def FP.isNeg : FP → Bool
  | .nan => false
  | .inf s => s
  | .fin s _ _ => s

/-- The greater of two (R230, R233): NaN gives NaN, and +0 is above -0. -/
def fpMax (a b : FP) : Word :=
  if a = .nan || b = .nan then nan32
  else if fpLt a b then toFP32 b
  else if fpLt b a then toFP32 a
  else if a.isNeg then toFP32 b else toFP32 a

/-- The lesser of two (R230, R233): NaN gives NaN, and -0 is below +0. -/
def fpMin (a b : FP) : Word :=
  if a = .nan || b = .nan then nan32
  else if fpLt a b then toFP32 a
  else if fpLt b a then toFP32 b
  else if a.isNeg then toFP32 a else toFP32 b

/-- Integer square root from below, bit by bit from bit `n`. -/
def isqrtFrom : Nat → Nat → Nat → Nat
  | 0, v, r => if (r + 1) * (r + 1) ≤ v then r + 1 else r
  | n + 1, v, r => isqrtFrom n v (if (r + 2 ^ (n + 1)) * (r + 2 ^ (n + 1)) ≤ v then r + 2 ^ (n + 1) else r)

/-- The integer part of the square root. -/
def isqrt (v : Nat) : Nat := isqrtFrom (Nat.log2 v / 2 + 1) v 0

/-- 1 / a, correctly rounded (R230, R233). -/
def fpRcp (a : FP) : Word :=
  match a with
  | .nan => nan32
  | .inf s => roundFP32 s 0 0 false
  | .fin s m e =>
    if m = 0 then toFP32 (.inf s)
    else roundFP32 s (2 ^ 80 / m) (-80 - e) (2 ^ 80 % m ≠ 0)

/-- 1 / sqrt a, correctly rounded (R230, R233). -/
def fpRsq (a : FP) : Word :=
  match a with
  | .nan => nan32
  | .inf s => if s then nan32 else 0
  | .fin s m e =>
    if m = 0 then toFP32 (.inf s)
    else if s then nan32
    else
      let odd := e % 2 ≠ 0
      let m' := if odd then 2 * m else m
      let k := (if odd then e - 1 else e) / 2
      let r := isqrt (2 ^ 160 / m')
      roundFP32 false r (-80 - k) (r * r * m' ≠ 2 ^ 160)

/-- Fraction bits of the fixed-point bounds used for transcendental functions. -/
def fxBits : Nat := 256

/-- Taylor sum of e^y for y in [0, 1/2] in fixed point, from below: `n` more terms, at term `i` with value `t`. -/
def expTaylor : Nat → Nat → Nat → Nat → Nat
  | 0, _, _, _ => 0
  | n + 1, i, t, y => t + expTaylor n (i + 1) (t * y / 2 ^ fxBits / (i + 1)) y

/-- Square fixed-point bounds `h` times. -/
def squareBounds : Nat → Nat × Nat → Nat × Nat
  | 0, b => b
  | h + 1, (l, u) => squareBounds h (l * l / 2 ^ fxBits, u * u / 2 ^ fxBits + 1)

/-- Fixed-point bounds of e^x for x = m * 2^e in [0, 128). -/
def expBounds (m : Nat) (e : Int) : Nat × Nat :=
  let y := m * 2 ^ (e + fxBits - 8).toNat
  let l := expTaylor 60 0 (2 ^ fxBits) y
  squareBounds 8 (l, l + 200)

/-- Round a positive value between two fixed-point bounds: they round alike (log entry 6). -/
def roundBounds (neg : Bool) (b : Nat × Nat) : Word := roundFP32 neg b.1 (-(fxBits : Int)) true

/-- e^a, correctly rounded (R230, R231, R233). -/
def fpExp (a : FP) : Word :=
  match a with
  | .nan => nan32
  | .inf s => if s then 0 else toFP32 (.inf false)
  | .fin s m e =>
    if m = 0 then 0x3F800000#32
    else if Dy.lt (106, 0) (m, e) then (if s then 0 else toFP32 (.inf false))
    else
      let b := expBounds m e
      if s then roundBounds false (2 ^ (2 * fxBits) / (b.2 + 1), 2 ^ (2 * fxBits) / b.1 + 1) else roundBounds false b

/-- a * 2^k, rounded once (VSC2). -/
def fpScale (a : FP) (k : Int) : Word :=
  match a with
  | .fin s m e => toFP32 (.fin s m (e + k))
  | x => toFP32 x

/-- BF16 rounding in an FP32 container (VRND). -/
def fpRnd (a : FP) : Word := (toBF16 a).setWidth 32 <<< 16

end Sys2Proof.Machine
end

