-- ==== Sys2Proof/Machine/Burst.lean ====
section
/-! DEFINITION. Element formats, packed bursts, Philox, scale choice, quantisation and rotations (chapter 05). -/

namespace Sys2Proof.Machine

/-- Shape of a format in a burst (R262): element bits, elements per group (0 plain), group bytes, groups, n_f. -/
structure FmtShape where
  w : Nat
  gs : Nat
  gb : Nat
  groups : Nat
  nf : Nat
  deriving DecidableEq, Repr

/-- The burst shape of a format code (R262); `none` for codes that no burst carries. -/
def fmtShape : Nat → Option FmtShape
  | 1 => some ⟨8, 0, 0, 0, 126⟩
  | 2 => some ⟨8, 0, 0, 0, 126⟩
  | 3 => some ⟨6, 16, 13, 9, 144⟩
  | 4 => some ⟨6, 16, 13, 9, 144⟩
  | 5 => some ⟨4, 16, 9, 14, 224⟩
  | 6 => some ⟨8, 16, 17, 7, 112⟩
  | 7 => some ⟨4, 16, 9, 14, 224⟩
  | 8 => some ⟨3, 16, 7, 18, 288⟩
  | 9 => some ⟨2, 20, 5, 25, 500⟩
  | 10 => some ⟨2, 16, 5, 25, 400⟩
  | _ => none

/-- K_w of a format (R164, R200); 0 for reserved codes. -/
def kW (fmt : Nat) : Nat :=
  match fmt with
  | 1 => 32 | 2 => 32 | 3 => 32 | 4 => 32 | 6 => 32
  | 5 => 64 | 7 => 64 | 8 => 64
  | 9 => 128 | 10 => 128
  | 11 => 16
  | _ => 0

/-- Exponent bits, mantissa bits and bias of a floating-point element format (R257). -/
def floatShape : Nat → Option (Nat × Nat × Int)
  | 1 => some (4, 3, 7)
  | 2 => some (5, 2, 15)
  | 3 => some (3, 2, 3)
  | 4 => some (2, 3, 1)
  | 5 => some (2, 1, 1)
  | _ => none

/-- The magnitude of a floating-point code without its sign (R257). -/
def floatMag (eb mb : Nat) (bias : Int) (c : Nat) : Nat × Int :=
  let ex := c / 2 ^ mb % 2 ^ eb
  let m := c % 2 ^ mb
  if ex = 0 then (m, 1 - bias - mb) else (m + 2 ^ mb, (ex : Int) - bias - mb)

/-- A two's complement code of `w` bits. -/
def twosComp (w c : Nat) : FP :=
  if c < 2 ^ (w - 1) then .fin false c 0 else .fin true (2 ^ w - c) 0

/-- The code value of an element code (R257, R258); for T2 the code is the trit plus one (R259). -/
def codeValue (fmt c : Nat) : FP :=
  match floatShape fmt with
  | some (eb, mb, bias) =>
    let neg := c / 2 ^ (eb + mb) % 2 = 1
    let low := c % 2 ^ (eb + mb)
    if fmt = 1 && low = 0x7F then .nan
    else if fmt = 2 && low = 0x7C then .inf neg
    else if fmt = 2 && 0x7C < low then .nan
    else
      let p := floatMag eb mb bias low
      .fin neg p.1 p.2
  | none =>
    if fmt = 9 then (if c = 0 then .fin true 1 0 else .fin false (c - 1) 0)
    else match fmtShape fmt with
      | some sh => twosComp sh.w c
      | none => .nan

/-- The largest magnitude PACK writes (R257). -/
def qMax : Nat → Dy
  | 1 => (448, 0)
  | 2 => (57344, 0)
  | 3 => (28, 0)
  | 4 => (15, -1)
  | 5 => (6, 0)
  | 6 => (127, 0)
  | 7 => (7, 0)
  | 8 => (3, 0)
  | _ => (1, 0)

/-- Trit `j` of the bytes of a group, as 0, 1, 2 (R259). -/
def tritAt (bs : Bytes) (j : Nat) : Nat := (bs.getD (j / 5) 0).toNat / 3 ^ (j % 5) % 3

/-- The element codes of one group's element bytes (R263). -/
def groupCodes (fmt w n : Nat) (bs : Bytes) : List Nat :=
  if fmt = 9 then (List.range n).map (tritAt bs)
  else
    let v := leNat bs
    (List.range n).map (fun j => v / 2 ^ (j * w) % 2 ^ w)

/-- Decoded elements of one group (R265): code value times scale times 2^(XS - 127). -/
def decodeGroup (fmt : Nat) (sh : FmtShape) (xs : Nat) (bs : Bytes) : List FP :=
  let sc := FP.mul (codeValue 1 (bs.getD 0 0).toNat) (.fin false 1 ((xs : Int) - 127))
  (groupCodes fmt sh.w sh.gs (bs.drop 1)).map (fun c => FP.mul (codeValue fmt c) sc)

/-- The elements of a burst consumed as format `fmt` (R265); `none` when it is consumed as poisoned (R203, R259). -/
def decodeBurst (fmt : Nat) (bs : Bytes) : Option (List FP) :=
  match fmtShape fmt with
  | none => none
  | some sh =>
    let h := (bs.getD 0 0).toNat % 16
    let xs := (bs.getD 1 0).toNat
    if h ≠ fmt then none
    else if fmt = 9 && (List.range 25).any (fun g => (List.range 4).any (fun k =>
        decide (242 < (bs.getD (2 + 5 * g + 1 + k) 0).toNat))) then none
    else if xs = 255 then some (List.replicate sh.nf .nan)
    else if sh.gs = 0 then
      some ((List.range sh.nf).map (fun n =>
        FP.mul (codeValue fmt (bs.getD (2 + n) 0).toNat) (.fin false 1 ((xs : Int) - 127))))
    else some ((List.range sh.groups).flatMap (fun g => decodeGroup fmt sh xs ((bs.drop (2 + g * sh.gb)).take sh.gb)))

/-- The 64 values of a plain BF16 line (R202). -/
def decodePlain (bs : Bytes) : List FP :=
  (List.range 64).map (fun i => bf16 (BitVec.ofNat 16 (leNat ((bs.drop (2 * i)).take 2))))

/-- The elements of a line consumed as format `fmt`, plain BF16 included. -/
def decodeLine (fmt : Nat) (bs : Bytes) : Option (List FP) := if fmt = 11 then some (decodePlain bs) else decodeBurst fmt bs

/-- One round of Philox-4x32 (R270, R277). -/
def philoxRound (c : Nat × Nat × Nat × Nat) (k : Nat × Nat) : Nat × Nat × Nat × Nat :=
  let p0 := 0xD2511F53 * c.1
  let p1 := 0xCD9E8D57 * c.2.2.1
  let m := 2 ^ 32
  (Nat.xor (Nat.xor (p1 / m) c.2.1) k.1, p1 % m, Nat.xor (Nat.xor (p0 / m) c.2.2.2) k.2, p0 % m)

/-- `n` rounds, the key advanced between them. -/
def philoxRounds : Nat → Nat × Nat × Nat × Nat → Nat × Nat → Nat × Nat × Nat × Nat
  | 0, c, _ => c
  | n + 1, c, k => philoxRounds n (philoxRound c k) ((k.1 + 0x9E3779B9) % 2 ^ 32, (k.2 + 0xBB67AE85) % 2 ^ 32)

/-- Output word `i` of Philox-4x32-10. -/
def philox (c : Nat × Nat × Nat × Nat) (k : Nat × Nat) (i : Nat) : Nat :=
  let o := philoxRounds 10 c k
  match i with
  | 0 => o.1
  | 1 => o.2.1
  | 2 => o.2.2.1
  | _ => o.2.2.2

/-- Whether one dyadic is at most another. -/
def Dy.le (a b : Dy) : Bool := !Dy.lt b a

/-- The least k with a at most q * 2^k, for positive dyadics: ceil(log2(a / q)). -/
def ceilLog2 (a q : Dy) : Int :=
  let b := ((Nat.log2 a.1.natAbs : Int) + a.2) - ((Nat.log2 q.1.natAbs : Int) + q.2)
  if Dy.le a (q.1, q.2 + b) then b else b + 1

/-- The magnitude of a finite value. -/
def finMag : FP → Option Dy
  | .fin _ m e => some ((m : Int), e)
  | _ => none

/-- The largest magnitude among the finite elements. -/
def maxMag (xs : List FP) : Dy :=
  xs.foldl (fun (a : Dy) (x : FP) => match finMag x with
    | some d => if Dy.lt a d then d else a
    | none => a) (0, 0)

/-- Clamp an exponent offset (R275). -/
def clampE (e : Int) : Int := max (-127) (min 127 e)

/-- The exponent offset e of R275 from the largest magnitude. -/
def chooseE (fmt : Nat) (plain : Bool) (a : Dy) : Int :=
  if a.1 = 0 then 0
  else clampE (ceilLog2 a (if plain then qMax fmt else Dy.mul (qMax fmt) (448, 0)))

/-- The value of a positive E4M3 scale code. -/
def scaleVal (c : Nat) : Dy :=
  let p := floatMag 4 3 7 c
  ((p.1 : Int), p.2)

/-- The smallest E4M3 code whose value is at least a / (Qmax 2^e), within 0x01 to 0x7E (R275). -/
def chooseScale (fmt : Nat) (e : Int) (a : Dy) : Nat :=
  if a.1 = 0 then 0
  else match (List.range 126).find? (fun i => Dy.le a (Dy.mul (Dy.mul (scaleVal (i + 1)) (qMax fmt)) (1, e))) with
    | some i => i + 1
    | none => 0x7E

/-- The magnitude of grid value number `i` of a format: code order is value order. -/
def gridVal (fmt i : Nat) : Dy :=
  match floatShape fmt with
  | some (eb, mb, bias) =>
    let p := floatMag eb mb bias i
    ((p.1 : Int), p.2)
  | none => ((i : Int), 0)

/-- The number of the largest grid value PACK writes. -/
def gridTop : Nat → Nat
  | 1 => 0x7E
  | 2 => 0x7B
  | 3 => 31
  | 4 => 31
  | 5 => 7
  | 6 => 127
  | 7 => 7
  | 8 => 3
  | _ => 1

/-- The largest grid number in [lo, lo + 2^n) whose value times `s` is at most `a`, by bisection. -/
def gridFloor (fmt : Nat) (a s : Dy) : Nat → Nat → Nat
  | 0, lo => lo
  | n + 1, lo =>
    let mid := lo + 2 ^ n
    if mid ≤ gridTop fmt && Dy.le (Dy.mul (gridVal fmt mid) s) a then gridFloor fmt a s n mid else gridFloor fmt a s n lo

/-- The grid number of |x| / s (R276, R277): saturated, to nearest even, or stochastic with the draw `u`. -/
def quantise (fmt : Nat) (neg : Bool) (a s : Dy) (draw : Option Nat) : Nat :=
  let top := gridTop fmt
  let i := gridFloor fmt a s 7 0
  if i = top then top
  else
    let lo := Dy.mul (gridVal fmt i) s
    let hi := Dy.mul (gridVal fmt (i + 1)) s
    if Dy.le a lo then i
    else match draw with
      | none =>
        let twice : Dy := (2 * a.1, a.2)
        let sum := Dy.add lo hi
        if Dy.lt twice sum then i else if Dy.lt sum twice then i + 1 else if i % 2 = 0 then i else i + 1
      | some u =>
        let gap := Dy.add hi (-lo.1, lo.2)
        let lhs : Dy := (gap.1 * u, gap.2)
        if neg then
          let d := Dy.add hi (-a.1, a.2)
          if Dy.lt lhs (d.1 * 2 ^ 24, d.2) then i else i + 1
        else
          let d := Dy.add a (-lo.1, lo.2)
          if Dy.lt lhs (d.1 * 2 ^ 24, d.2) then i + 1 else i

/-- The code of a signed grid number (R257, R259). -/
def gridCode (fmt : Nat) (neg : Bool) (i : Nat) : Nat :=
  match floatShape fmt with
  | some (eb, mb, _) => (if neg then 2 ^ (eb + mb) else 0) + i
  | none =>
    if fmt = 9 then (if neg then 1 - i else 1 + i)
    else match fmtShape fmt with
      | some sh => if neg && i ≠ 0 then 2 ^ sh.w - i else i
      | none => 0

/-- The code of zero in a format. -/
def zeroCode (fmt : Nat) : Nat := if fmt = 9 then 1 else 0

/-- The code of one element under a scale (R240). -/
def elemCode (fmt : Nat) (s : Dy) (x : FP) (draw : Option Nat) : Nat :=
  match x with
  | .nan => if fmt = 1 || fmt = 2 then 0x7F else zeroCode fmt
  | .inf neg => if fmt = 2 then (if neg then 0xFC else 0x7C) else if fmt = 1 then 0x7F else zeroCode fmt
  | .fin neg m e => gridCode fmt neg (quantise fmt neg ((m : Int), e) s draw)

/-- Whether a value is NaN or an infinity. -/
def nonFinite : FP → Bool
  | .fin _ _ _ => false
  | _ => true

/-- The squared error of the finite elements under a scale, to nearest even (R293). -/
def groupError (fmt : Nat) (s : Dy) (xs : List FP) : Dy :=
  xs.foldl (fun (a : Dy) (x : FP) => match x with
    | .fin neg m e =>
      let i := quantise fmt neg ((m : Int), e) s none
      let d := Dy.add (Dy.mul (gridVal fmt i) s) (-(m : Int), e)
      Dy.add a (Dy.mul d d)
    | _ => a) (0, 0)

/-- The candidate of least error, the earlier one on a tie. -/
def leastError {α : Type} (f : α → Dy) : α → List α → α
  | best, [] => best
  | best, c :: cs => leastError f (if Dy.lt (f c) (f best) then c else best) cs

/-- The scale code of a group (R275), or under the replay scale rule (R293). -/
def groupScale (fmt : Nat) (e : Int) (replay : Bool) (xs : List FP) : Nat :=
  let c := chooseScale fmt e (maxMag xs)
  if !replay || c = 0 then c
  else leastError (fun k => groupError fmt (Dy.mul (scaleVal k) (1, e)) xs) c
    (((List.range 7).map (fun i => c - (i + 1))).filter (fun k => k ≠ 0))

/-- The bytes of element codes in a group (R263). -/
def packCodes (fmt w nbytes : Nat) (cs : List Nat) : Bytes :=
  if fmt = 9 then
    (List.range nbytes).map (fun b => BitVec.ofNat 8 ((List.range 5).foldl (fun v i => v + cs.getD (5 * b + i) 1 * 3 ^ i) 0))
  else natLE nbytes ((cs.zipIdx).foldl (fun v p => v + p.1 * 2 ^ (p.2 * w)) 0)

/-- The draw of element index `i` (R277, R97), if rounding is stochastic. -/
def srDraw (sr : Option (Nat × Nat × Nat × Nat × Nat)) (i : Nat) : Option Nat :=
  match sr with
  | none => none
  | some (pos, stage, key0, key1, first) =>
    let n := (first + i) % 2 ^ 32
    some (philox (n / 4, pos, stage, 0x5352) (key0, key1) (n % 4) / 256)

/-- The codes of a run of elements from index `i0` on. -/
def runCodes (fmt : Nat) (s : Dy) (sr : Option (Nat × Nat × Nat × Nat × Nat)) (i0 : Nat) (xs : List FP) : List Nat :=
  (xs.zipIdx i0).map (fun p => elemCode fmt s p.1 (srDraw sr p.2))

/-- One group's bytes: scale and elements (R240, R275). -/
def packGroup (fmt : Nat) (sh : FmtShape) (e : Int) (replay : Bool) (sr : Option (Nat × Nat × Nat × Nat × Nat)) (i0 : Nat)
    (xs : List FP) : Bytes :=
  if xs.any nonFinite then 0x7F#8 :: packCodes fmt sh.w (sh.gb - 1) (List.replicate sh.gs (zeroCode fmt))
  else
    let c := groupScale fmt e replay xs
    let codes := if c = 0 then List.replicate sh.gs (zeroCode fmt) else runCodes fmt (Dy.mul (scaleVal c) (1, e)) sr i0 xs
    BitVec.ofNat 8 c :: packCodes fmt sh.w (sh.gb - 1) codes

/-- Pack n_f elements into one burst (R275, R261, R264); `sr` gives position, stage, key words and first element index (R277). -/
def packBurst (fmt : Nat) (replay : Bool) (sr : Option (Nat × Nat × Nat × Nat × Nat)) (xs : List FP) : Bytes :=
  match fmtShape fmt with
  | none => List.replicate 128 0
  | some sh =>
    let h := BitVec.ofNat 8 (fmt + (if sr.isSome then 16 else 0))
    let a := maxMag xs
    if sh.gs = 0 then
      let e0 := chooseE fmt true a
      let e := if replay && a.1 ≠ 0 then leastError (fun k => groupError fmt (1, k) xs) e0
        ((if -127 < e0 then [e0 - 1] else [])) else e0
      h :: BitVec.ofNat 8 (e + 127).toNat :: (runCodes fmt (1, e) sr 0 xs).map (BitVec.ofNat 8)
    else
      let e := chooseE fmt false a
      padTo 128 (h :: BitVec.ofNat 8 (e + 127).toNat ::
        (List.range sh.groups).flatMap (fun g => packGroup fmt sh e replay sr (g * sh.gs) ((xs.drop (g * sh.gs)).take sh.gs)))

/-- Exact sum of two values, unrounded; a zero is negative only when both terms are. -/
def FP.add (a b : FP) : FP :=
  match a, b with
  | .nan, _ => .nan
  | _, .nan => .nan
  | .inf x, .inf y => if x = y then .inf x else .nan
  | .inf x, _ => .inf x
  | _, .inf y => .inf y
  | .fin s m e, .fin s' m' e' =>
    let d := Dy.add (signedM s m, e) (signedM s' m', e')
    if d.1 = 0 then .fin (m = 0 && m' = 0 && s && s') 0 0 else .fin (d.1 < 0) d.1.natAbs d.2

/-- Exact sum of the values of a list, the first aside. -/
def sumFP : List FP → FP
  | [] => .fin false 0 0
  | [x] => x
  | x :: xs => FP.add x (sumFP xs)

/-- Sylvester Hadamard transform of 2^k values, exactly (R271). -/
def hadamard : Nat → List FP → List FP
  | 0, xs => xs
  | k + 1, xs =>
    let l := xs.take (2 ^ k)
    let r := xs.drop (2 ^ k)
    hadamard k (List.zipWith FP.add l r) ++ hadamard k (List.zipWith (fun x y => FP.add x (FP.neg y)) l r)

/-- The permutation of a descriptor on a block of 2^k (R269). -/
def rotPerm (d : RotDesc) (k j : Nat) : Nat :=
  let b := 2 ^ k
  if d.flags.getLsbD 1 then
    (d.permA.toNat % b * Nat.xor j (d.permM.toNat % b) + d.permC.toNat % b) % b
  else j

/-- The sign bit of element j under a descriptor (R270). -/
def rotSign (d : RotDesc) (j : Nat) : Bool :=
  d.flags.getLsbD 0 &&
    decide (philox (j / 128, 0, 0, 0x5347) (d.signKey.toNat % 2 ^ 32, d.signKey.toNat / 2 ^ 32) (j % 128 / 32) / 2 ^ (j % 32) % 2 = 1)

/-- A value with its sign changed where asked. -/
def flipIf (b : Bool) (x : FP) : FP := if b then FP.neg x else x

/-- A value times 2^-n. -/
def scaleDown (n : Nat) : FP → FP
  | .fin s m e => .fin s m (e - n)
  | x => x

/-- ROT of a block of 2^k values, rounded once (R271, R272). -/
def rotBlock (d : RotDesc) (k : Nat) (xs : List FP) : List Word :=
  let u := (List.range (2 ^ k)).map (fun j => flipIf (rotSign d j) (xs.getD (rotPerm d k j) .nan))
  (hadamard k u).map (fun y => toFP32 (scaleDown ((k + 1) / 2) y))

/-- IROT of a block of 2^k values, rounded once (R271, R272). -/
def irotBlock (d : RotDesc) (k : Nat) (ys : List FP) : List Word :=
  let z := (hadamard k ys).map (scaleDown (k / 2))
  let t := (List.range (2 ^ k)).foldl (fun (t : Table Word) j =>
    Table.put 0 t (rotPerm d k j) (toFP32 (flipIf (rotSign d j) (z.getD j .nan)))) []
  (List.range (2 ^ k)).map (fun i => Table.get 0 t i)

end Sys2Proof.Machine
end

