-- ==== Sys2Proof/Machine/Digest.lean ====
section
/-! DEFINITION. The digests that the spec names: SHA-256, for block keys (R333), the CHECK of a completion record (R437), the device ID (R699)
and plan digests (R712), and SHA-384, for authorisations (R705), reports (R702), records (R360) and key derivation (R358, R698). The spec
names both without defining them: they are FIPS 180-4's, one compression function for both word widths. -/

namespace Sys2Proof.Machine

/-- What tells one digest from the other: its rounds, the amounts of its four mixing functions (the last of a message function's three is a
shift), its initial value as one number, and its bytes. -/
structure Sha (w : Nat) where
  rounds : Nat
  mixA : Nat × Nat × Nat
  mixE : Nat × Nat × Nat
  mixEarly : Nat × Nat × Nat
  mixLate : Nat × Nat × Nat
  start : Nat
  size : Nat

/-- The fraction bits of the cube roots of the first 80 primes, 64 bits each, eight to a number: SHA-256 takes the upper half of each. -/
def cubeRoots : List Nat :=
  [0x428a2f98d728ae227137449123ef65cdb5c0fbcfec4d3b2fe9b5dba58189dbbc3956c25bf348b53859f111f1b605d019923f82a4af194f9bab1c5ed5da6d8118,
   0xd807aa98a303024212835b0145706fbe243185be4ee4b28c550c7dc3d5ffb4e272be5d74f27b896f80deb1fe3b1696b19bdc06a725c71235c19bf174cf692694,
   0xe49b69c19ef14ad2efbe4786384f25e30fc19dc68b8cd5b5240ca1cc77ac9c652de92c6f592b02754a7484aa6ea6e4835cb0a9dcbd41fbd476f988da831153b5,
   0x983e5152ee66dfaba831c66d2db43210b00327c898fb213fbf597fc7beef0ee4c6e00bf33da88fc2d5a79147930aa72506ca6351e003826f142929670a0e6e70,
   0x27b70a8546d22ffc2e1b21385c26c9264d2c6dfc5ac42aed53380d139d95b3df650a73548baf63de766a0abb3c77b2a881c2c92e47edaee692722c851482353b,
   0xa2bfe8a14cf10364a81a664bbc423001c24b8b70d0f89791c76c51a30654be30d192e819d6ef5218d69906245565a910f40e35855771202a106aa07032bbd1b8,
   0x19a4c116b8d2d0c81e376c085141ab532748774cdf8eeb9934b0bcb5e19b48a8391c0cb3c5c95a634ed8aa4ae3418acb5b9cca4f7763e373682e6ff3d6b2b8a3,
   0x748f82ee5defb2fc78a5636f43172f6084c87814a1f0ab728cc702081a6439ec90befffa23631e28a4506cebde82bde9bef9a3f7b2c67915c67178f2e372532b,
   0xca273eceea26619cd186b8c721c0c207eada7dd6cde0eb1ef57d4f7fee6ed17806f067aa72176fba0a637dc5a2c898a6113f9804bef90dae1b710b35131c471b,
   0x28db77f523047d8432caab7b40c724933c9ebe0a15c9bebc431d67c49c100d4c4cc5d4becb3e42b6597f299cfc657e2a5fcb6fab3ad6faec6c44198c4a475817]

/-- Word `i` of a number that packs words of `b` bits, the first uppermost, eight in all. -/
def packedWord (b n i : Nat) : Nat := n / 2 ^ (b * (7 - i)) % 2 ^ b

/-- The constant of round `i`. -/
def roundWord (w i : Nat) : BitVec w := BitVec.ofNat w (packedWord 64 (cubeRoots.getD (i / 8) 0) (i % 8) / 2 ^ (64 - w))

/-- The exclusive or of three rotations. -/
def mixRot {w : Nat} (m : Nat × Nat × Nat) (x : BitVec w) : BitVec w := x.rotateRight m.1 ^^^ x.rotateRight m.2.1 ^^^ x.rotateRight m.2.2

/-- The exclusive or of two rotations and a shift. -/
def mixShift {w : Nat} (m : Nat × Nat × Nat) (x : BitVec w) : BitVec w := x.rotateRight m.1 ^^^ x.rotateRight m.2.1 ^^^ (x >>> m.2.2)

/-- The eight working variables after a round that adds `add`; a list of another length stays. -/
def shaMix {w : Nat} (k : Sha w) (add : BitVec w) : List (BitVec w) → List (BitVec w)
  | [a, b, c, d, e, f, g, h] =>
    let t := h + mixRot k.mixE e + (g ^^^ (e &&& (f ^^^ g))) + add
    [t + mixRot k.mixA a + ((a &&& b) ||| (c &&& (a ||| b))), a, b, c, d + t, e, f, g]
  | v => v

/-- Round `i`: the window of sixteen message words moves on by one, and its first word goes into the working variables. -/
def shaStep {w : Nat} (k : Sha w) (a : List (BitVec w) × List (BitVec w)) (i : Nat) : List (BitVec w) × List (BitVec w) :=
  let m (j : Nat) : BitVec w := a.1.getD j 0
  (a.1.drop 1 ++ [m 0 + mixShift k.mixEarly (m 1) + m 9 + mixShift k.mixLate (m 14)], shaMix k (m 0 + roundWord w i) a.2)

/-- A block absorbed. -/
def shaAbsorb {w : Nat} (k : Sha w) (v : List (BitVec w)) (block : Bytes) : List (BitVec w) :=
  let words := (chunksOf (w / 8) 16 block).map (fun b => BitVec.ofNat w (leNat b.reverse))
  v.zipWith (fun a b => a + b) ((List.range k.rounds).foldl (shaStep k) (words, v)).2

/-- A message filled up to whole blocks of 16 words: a set bit, zeros, and the length in bits as two words. -/
def shaPadded (w : Nat) (bs : Bytes) : Bytes :=
  let block := 2 * w
  let zeros := (2 * block - 1 - w / 4 - bs.length % block) % block
  bs ++ [0x80] ++ List.replicate zeros 0 ++ natBE (w / 4) (8 * bs.length)

/-- The words of a digest of bytes. -/
def shaWords {w : Nat} (k : Sha w) (bs : Bytes) : List (BitVec w) :=
  let m := shaPadded w bs
  (chunksOf (2 * w) (m.length / (2 * w)) m).foldl (shaAbsorb k) ((List.range 8).map (fun i => BitVec.ofNat w (packedWord w k.start i)))

/-- The digest of bytes. -/
def shaDigest {w : Nat} (k : Sha w) (bs : Bytes) : Bytes := padTo k.size ((shaWords k bs).flatMap (fun x => natBE (w / 8) x.toNat))

/-- SHA-256. -/
def sha256Of : Sha 32 := {
  rounds := 64, mixA := (2, 13, 22), mixE := (6, 11, 25), mixEarly := (7, 18, 3), mixLate := (17, 19, 10)
  start := 0x6a09e667bb67ae853c6ef372a54ff53a510e527f9b05688c1f83d9ab5be0cd19
  size := 32 }

/-- SHA-384. -/
def sha384Of : Sha 64 := {
  rounds := 80, mixA := (28, 34, 39), mixE := (14, 18, 41), mixEarly := (1, 8, 7), mixLate := (19, 61, 6)
  start := 0xcbbb9d5dc1059ed8629a292a367cd5079159015a3070dd17152fecd8f70e593967332667ffc00b318eb44a8768581511db0c2e0d64f98fa747b5481dbefa4fa4
  size := 48 }

/-- The SHA-256 digest of bytes. -/
def sha256 (bs : Bytes) : Bytes := shaDigest sha256Of bs

/-- The SHA-384 digest of bytes. -/
def sha384 (bs : Bytes) : Bytes := shaDigest sha384Of bs

/-- Token IDs as bytes, U32 each. -/
def tokenBytes (ts : List Word) : Bytes := ts.flatMap (fun w => natLE 4 w.toNat)

/-! ## Keyed digests and key derivation (RFC 2104 and RFC 5869 with SHA-384; R358, R698) -/

/-- A keyed digest: the key fills a block of 128 bytes, a longer one by its digest. -/
def hmac (key msg : Bytes) : Bytes :=
  let k := padTo 128 (if 128 < key.length then sha384 key else key)
  sha384 (k.map (fun b => b ^^^ 0x5C) ++ sha384 (k.map (fun b => b ^^^ 0x36) ++ msg))

/-- The blocks of an expansion, each keyed over the one before it. -/
def hkdfBlocks (prk info : Bytes) : Nat → Nat → Bytes → Bytes
  | 0, _, _ => []
  | n + 1, i, last =>
    let t := hmac prk (last ++ info ++ natLE 1 i)
    t ++ hkdfBlocks prk info n (i + 1) t

/-- HKDF-SHA-384: `n` bytes from a salt, keying material and an info string. -/
def hkdf (salt material info : Bytes) (n : Nat) : Bytes := padTo n (hkdfBlocks (hmac salt material) info (ceilDiv n 48) 1 [])

/-- The bytes of an ASCII string. -/
def ascii (t : String) : Bytes := t.toList.map (fun c => BitVec.ofNat 8 c.toNat)

end Sys2Proof.Machine
end

