-- ==== Sys2Proof/Machine/Image.lean ====
section
/-! DEFINITION. The byte strings that carry trust: the device's keys and identity, weight images and their manifests, shard records, and
firmware images (chapters 07 and 15). -/

namespace Sys2Proof.Machine

/-! ## The device's keys and identity -/

/-- The keying material of a label (R698): HKDF-SHA-384 of the root secret. -/
def Ident.derive (i : Ident) (label : String) (n : Nat) : Bytes := hkdf (ascii "TWH1 identity") (Config.identityRoot i.helper) (ascii label) n

/-- The seeds of the four device keys (R698). The bytes of an RSA seed are the model's choice (log entry 55): R698 gives those of ML-KEM, and
FIPS 205 three seeds of 24 bytes. -/
def Ident.encRsaSeed (i : Ident) : Bytes := i.derive "enc-rsa" 48
def Ident.encKemSeed (i : Ident) : Bytes := i.derive "enc-kem" 64
def Ident.sigRsaSeed (i : Ident) : Bytes := i.derive "sig-rsa" 48
def Ident.sigSlhSeed (i : Ident) : Bytes := i.derive "sig-slh" 72

/-- The identity block (R699): bytes 320 to 2,719 of the attestation report. -/
def Ident.block (i : Ident) : Bytes :=
  padTo 384 (Config.rsaModulus i.encRsaSeed) ++ padTo 1568 (Config.kemPublic i.encKemSeed) ++
    padTo 384 (Config.rsaModulus i.sigRsaSeed) ++ padTo 48 (Config.slhPublic i.sigSlhSeed) ++ List.replicate 16 0

/-- The device ID (R699): bytes 0 to 15 of the SHA-256 digest of the identity block. -/
def Ident.deviceId (i : Ident) : Bytes := (sha256 i.block).take 16

/-- The STEPPING byte (R702, R615). -/
def steppingByte (x : Stepping) : Nat := match x with
  | .a1 => 0xA1
  | .b0 => 0xB0

/-- The endorsement string (R700). -/
def Ident.endorsed (i : Ident) : Bytes := natLE 16 i.serial.toNat ++ i.deviceId ++ natLE 1 (steppingByte i.stepping) ++ i.block

/-- The endorsement that the factory section holds (R700, R709). -/
def Ident.endorsement (i : Ident) : Bytes := padTo 16608 (Config.makerSign i.endorsed)

/-- The two signatures of the device over a message (R698, R702), with random bits. -/
def Ident.sign (i : Ident) (random msg : Bytes) : Bytes :=
  padTo 384 (Config.rsaSign i.sigRsaSeed random msg) ++ padTo 16224 (Config.slhSign i.sigSlhSeed random msg)

/-! ## Firmware images -/

/-- The key block of a firmware image (R694). -/
def fwKeyBlock (f : Firmware) : Bytes := slice f.bytes 32 432

/-- FW_VERSION. -/
def fwVersionOf (f : Firmware) : Word := BitVec.ofNat 32 (fieldNat f.bytes 8 4)

/-- The signed bytes of a firmware image (R694). -/
def fwSigned (f : Firmware) : Bytes := f.bytes.take (fieldNat f.bytes 16 4)

/-- FIRMWARE_DIGEST (R702). -/
def fwDigestOf (f : Firmware) : Bytes := sha384 (fwSigned f)

/-- MAGIC, VERSION, LENGTH, SIG_OFFSET and every reserved field are as the header's table requires (R694). -/
def fwHeaderOk (f : Firmware) : Bool :=
  let n := f.bytes.length
  decide (fieldNat f.bytes 0 4 = 0x57465754) && decide (fieldNat f.bytes 4 2 = 1) && zeroField f.bytes 6 2 && decide (fieldNat f.bytes 12 4 = n) &&
    decide (17120 ≤ n) && decide (n ≤ 67108864) && decide (fieldNat f.bytes 16 4 + 16608 = n) && zeroField f.bytes 20 12 && zeroField f.bytes 464 48

/-- The key block's digest is one of the two that the boot ROM holds (R694). -/
def fwKeyKnown (f : Firmware) : Bool :=
  let d := sha256 (fwKeyBlock f)
  decide (d = Config.romDigest 0) || decide (d = Config.romDigest 1)

/-- The image is as Terard signed it: header, key block and both signatures (R694). -/
def fwGenuine (f : Firmware) : Bool := fwHeaderOk f && fwKeyKnown f && Config.verify (fwKeyBlock f) (fwSigned f) (f.bytes.drop (f.bytes.length - 16608))

/-- A firmware image passes R694. -/
def fwOk (floor : Word) (f : Firmware) : Bool := f.readable && fwGenuine f && decide (floor.toNat ≤ (fwVersionOf f).toNat)

/-! ## Manifests -/

/-- Entries of `size` bytes of a table at an offset. -/
def tableAt (bs : Bytes) (off size n : Nat) : List Bytes := (List.range n).map (fun i => slice bs (off + size * i) size)

/-- A tensor table entry from its 64 bytes (R352). -/
def tensorAt (b : Bytes) : TensorEntry := {
  id := fieldNat b 0 4
  stage := fieldNat b 4 2
  role := fieldNat b 6 1
  source := decide (fieldNat b 7 1 = 1)
  srcFmt := fieldNat b 8 1
  tgtFmt := fieldNat b 9 1
  rotDesc := fieldNat b 10 1
  raised := decide (fieldNat b 11 1 % 2 = 1)
  adapterA := decide (fieldNat b 11 1 / 2 % 2 = 1)
  adapterB := decide (fieldNat b 11 1 / 4 % 2 = 1)
  rows := fieldNat b 12 4
  cols := fieldNat b 16 4
  firstShard := fieldNat b 20 4
  shardCount := fieldNat b 24 4
  mapEntry := fieldNat b 28 4
  plainLength := fieldNat b 32 8 }

/-- The fields of a tensor table entry lie in the ranges of R352, and its reserved ones are zero. -/
def tensorFits (b : Bytes) (i : Nat) : Bool :=
  decide (fieldNat b 0 4 = i) && decide (fieldNat b 6 1 ≤ 10) && decide (fieldNat b 7 1 ≤ 1) && decide (fieldNat b 8 1 ≤ 4) &&
    decide (fieldNat b 7 1 = 0 ↔ fieldNat b 8 1 = 0) && (fmtShape (fieldNat b 9 1)).isSome && decide (fieldNat b 11 1 < 8) && zeroField b 40 24

/-- A shard table entry from its 16 bytes (R353). -/
def shardAt (b : Bytes) : ShardEntry := { offset := fieldNat b 0 8, length := fieldNat b 8 4, tensor := fieldNat b 12 4 }

/-- A rotation descriptor from the bytes of its fields (R267, R355): LOG2B, FLAGS and SIGN_KEY apart. -/
def rotAt (b : Bytes) : RotKey := {
  stage := fieldNat b 0 2
  desc := fieldNat b 2 1
  key := {
    log2b := BitVec.ofNat 8 (fieldNat b 3 1)
    flags := BitVec.ofNat 8 (fieldNat b 10 1)
    permA := BitVec.ofNat 16 (fieldNat b 4 2)
    permC := BitVec.ofNat 16 (fieldNat b 6 2)
    permM := BitVec.ofNat 16 (fieldNat b 8 2)
    signKey := BitVec.ofNat 64 (fieldNat b 16 8) } }

/-- Bytes of a sealed record around its ciphertext (R354). -/
def sealedBytes (length : Nat) : Nat := 48 + length

/-- A shard's place in the image (R350, R353): on a multiple of 4,096 behind the signature block, with 1 to 4,194,304 bytes of a tensor. -/
def shardFits (sigOffset imageLength tensors : Nat) (e : ShardEntry) : Bool :=
  decide (e.offset % 4096 = 0) && decide (sigOffset + 16608 ≤ e.offset) && decide (e.offset + sealedBytes e.length ≤ imageLength) &&
    decide (1 ≤ e.length) && decide (e.length ≤ 4194304) && decide (e.tensor < tensors)

/-- The shards of a tensor (R353): its own, each of 4 MiB but the last, holding the tensor's bytes. -/
def tensorShards (shards : List ShardEntry) (i : Nat) (t : TensorEntry) : Bool :=
  let own := (shards.drop t.firstShard).take t.shardCount
  decide (own.length = t.shardCount) && own.all (fun e => decide (e.tensor = i)) && own.dropLast.all (fun e => decide (e.length = 4194304)) &&
    decide ((own.map (fun e => e.length)).foldl (fun a b => a + b) 0 = t.plainLength)

/-- The fields of a manifest header that are numbers with ranges (R351), and its reserved field. -/
def headerFits (b : Bytes) : Bool :=
  let kind := fieldNat b 6 1
  let within (off n lo hi : Nat) : Bool := decide (lo ≤ fieldNat b off n) && decide (fieldNat b off n ≤ hi)
  decide (256 ≤ b.length) && decide (fieldNat b 0 4 = 0x4D495754) && decide (fieldNat b 4 2 = 1) && decide (kind ≤ 1) && within 7 1 0 7 &&
    within 80 4 1 65536 && within 84 4 1 1048576 && within 88 4 1 4096 && within 92 4 0 4096 && zeroField b 150 106 &&
    (if kind = 0 then within 8 8 1 (2 ^ 64) && zeroField b 144 6
     else zeroField b 64 8 && within 144 4 1 (2 ^ 32) && within 148 2 1 128)

/-- The manifest that the bytes at an image's start spell (R350-R358), little-endian. -/
def manifestOf (b : Bytes) : Manifest :=
  let tensors := tableAt b (fieldNat b 96 8) 64 (fieldNat b 80 4)
  let shards := (tableAt b (fieldNat b 104 8) 16 (fieldNat b 84 4)).map shardAt
  let rot := tableAt b (fieldNat b 112 8) 24 (fieldNat b 92 4)
  let envelopes := tableAt b (fieldNat b 120 8) 2048 (fieldNat b 88 4)
  let sig := fieldNat b 128 8
  let length := fieldNat b 136 8
  let entries := tensors.map tensorAt
  let inside (off n size : Nat) : Bool := decide (256 ≤ fieldNat b off 8) && decide (fieldNat b off 8 + size * fieldNat b n 4 ≤ sig)
  let good := headerFits b && decide (256 ≤ sig) && decide (sig + 16608 ≤ b.length) && inside 96 80 64 && inside 104 84 16 && inside 112 92 24 &&
    inside 120 88 2048 && (tensors.zipIdx).all (fun e => tensorFits e.1 e.2) && shards.all (shardFits sig length tensors.length) &&
    (entries.zipIdx).all (fun e => tensorShards shards e.2 e.1) && rot.all (fun e => zeroField e 11 5) &&
    envelopes.all (fun e => zeroField e 2008 40)
  { kind := fieldNat b 6 1
    keySlot := fieldNat b 7 1
    epoch := BitVec.ofNat 64 (fieldNat b 8 8)
    imageId := BitVec.ofNat 128 (fieldNat b 16 16)
    layout := BitVec.ofNat 256 (fieldNat b 32 32)
    roundingKey := BitVec.ofNat 64 (fieldNat b 64 8)
    noncePrefix := slice b 72 8
    tensors := entries
    shards := shards
    rotKeys := rot.map rotAt
    envelopes := envelopes
    imageLength := length
    adapterId := BitVec.ofNat 32 (fieldNat b 144 4)
    adapterRank := fieldNat b 148 2
    signed := b.take sig
    signature := slice b sig 16608
    bad := !good }

/-- The vocabulary of an image: the rows of its unembedding tensor, role 9 (DEDUCED, log entry 58: R454 and R352 name the two apart). -/
def manifestVocab (m : Manifest) : Nat := ((m.tensors.find? (fun t => t.role = 9)).map (fun t => t.rows)).getD 0

/-- An image from its bytes (R350, R354): the record of each shard lies at its OFFSET. -/
def imageOf (b : Bytes) : Image :=
  let m := manifestOf b
  { man := m
    records := (m.shards.zipIdx).foldl (fun (t : Table (Option Bytes)) e => Table.put none t e.2 (some (slice b e.1.offset (sealedBytes e.1.length)))) [] }

/-! ## Envelopes and shard records -/

/-- The key-encryption key of an envelope (R358), from the secrets that its two ciphertexts open to. -/
def envelopeKek (m : Manifest) (a b : Bytes) : Bytes := hkdf (natLE 16 m.imageId.toNat) (a ++ b) (ascii "TWH1 image kek") 32

/-- The content key that a device finds in an image (R358, R359): its own envelope, decapsulated and unwrapped. -/
def Ident.contentKey (i : Ident) (m : Manifest) : Option Bytes :=
  match m.envelopes.find? (fun e => slice e 0 16 = i.deviceId) with
  | none => none
  | some e =>
    match Config.oaepOpen i.encRsaSeed (slice e 16 384), Config.kemOpen i.encKemSeed (slice e 400 1568) with
    | some a, some b => Config.keyUnwrap (envelopeKek m a b) (slice e 1968 40)
    | _, _ => none

/-- The fields of a shard record agree with the manifest (R354). -/
def recordFits (m : Manifest) (i : Nat) (b : Bytes) : Bool :=
  match m.shards[i]? with
  | none => false
  | some e => decide (b.length = sealedBytes e.length) && decide (fieldNat b 0 4 = 0x48535754) && decide (fieldNat b 4 4 = i) &&
      decide (fieldNat b 8 16 = m.imageId.toNat) && decide (fieldNat b 24 4 = e.length) && zeroField b 28 4

/-- The associated data of a shard (R360). -/
def shardTies (m : Manifest) (i length : Nat) : Bytes := sha384 m.signed ++ natLE 4 i ++ natLE 4 length

/-- An ingress engine opens a shard record under the content key (R360, R365): none where its tag, or a field around it, fails. -/
def openShard (key : Bytes) (m : Manifest) (i : Nat) (b : Bytes) : Option Bytes :=
  let n := fieldNat b 24 4
  if recordFits m i b then Config.gcmOpen key (m.noncePrefix ++ natLE 4 i) (shardTies m i n) (slice b 32 n) (slice b (32 + n) 16) else none

end Sys2Proof.Machine
end

