-- ==== Sys2Proof/Machine/Topology.lean ====
section
/-! DEFINITION. The wafer's regions and sides, the blocks a region holds, and which of them are out of reset (chapters 01 and 13). -/

namespace Sys2Proof.Machine

/-- Wafer column and row of a region (R22). -/
def regionPos (r : Nat) : Nat × Nat :=
  if r < 4 then (3 + r, 0)
  else if r < 12 then (r - 3, 1)
  else if 60 ≤ r then (r - 57, 7)
  else if 52 ≤ r then (r - 51, 6)
  else ((r - 12) % 10, 2 + (r - 12) / 10)

/-- The region at a wafer position, if there is one (R22). -/
def regionAt (col row : Nat) : Option Nat :=
  (List.range 64).find? (fun r => decide (regionPos r = (col, row)))

/-- An edge region (R22). -/
def isEdge (r : Nat) : Bool :=
  let p := regionPos r
  p.1 = 0 || p.1 = 9 || p.2 = 0 || p.2 = 7

/-- The edge regions in order of edge index (R23). -/
def edgeRegions : List Nat := [0, 1, 2, 3, 12, 21, 22, 31, 32, 41, 42, 51, 60, 61, 62, 63]

/-- The edge index of an edge region. -/
def edgeIndex (r : Nat) : Option Nat := edgeRegions.findIdx? (fun q => q = r)

/-- Logical tiles of a region: rows of its array (R28, R31). -/
def regionRows (r : Nat) : Nat := if isEdge r then 8 else 16

/-- Physical rows of a region's columns (R28): one more than the logical array uses. -/
def physRows (r : Nat) : Nat := regionRows r + 1

/-- Physical tiles of a region (R28). -/
def physTiles (r : Nat) : Nat := 16 * physRows r

/-- The physical row of logical row `y` in a column whose mapped-out physical row is `out`, 0xFF for none (R29). -/
def physRow (out y : Nat) : Nat := if y < out then y else y + 1

/-- The physical row that no logical tile of the column uses (R29): the mapped-out one, or the top one, the spare. -/
def idleRow (r out : Nat) : Nat := if out < physRows r then out else physRows r - 1

/-- The neighbour on a wafer side: 0 north, 1 east, 2 south, 3 west. -/
def neighbour (r side : Nat) : Option Nat :=
  let p := regionPos r
  match side with
  | 0 => if p.2 = 0 then none else regionAt p.1 (p.2 - 1)
  | 1 => regionAt (p.1 + 1) p.2
  | 2 => regionAt p.1 (p.2 + 1)
  | _ => if p.1 = 0 then none else regionAt (p.1 - 1) p.2

/-- The opposite wafer side. -/
def opposite (side : Nat) : Nat := (side + 2) % 4

/-- The side of region `r` that faces region `q`. -/
def sideToward (r q : Nat) : Option Nat := (List.range 4).find? (fun d => neighbour r d = some q)

/-- A side's number. -/
def sideNat : Side → Nat
  | .north => 0
  | .east => 1
  | .south => 2
  | .west => 3

/-- A block of CLK_GATE has left reset (R648). -/
def State.blockReady (s : State) (r b : Nat) : Bool :=
  (s.region r).loop.gate.getLsbD b && decide (Table.get 0 (s.region r).loop.gateAt b ≤ s.now)

/-- A tensor link. -/
def State.link (s : State) (k : Nat) : Link := Table.get {} s.links.links k

/-- A tensor link's block has left reset (R648). -/
def State.linkReady (s : State) (k : Nat) : Bool := (s.link k).en && decide ((s.link k).readyAt ≤ s.now)

/-- A side of a region. -/
def State.seam (s : State) (r side : Nat) : SeamSide := Table.get {} (s.region r).mesh.sides side

/-- The wafer is running no strokes, so the lane table governs the mesh (R123). -/
def State.laneTableRules (s : State) : Bool := !s.clk.running

/-- The lane-table entry at a tick with window length `w` (R124). -/
def laneAt (tick : Nat) (w : Nat) : Nat := if w = 0 then 0 else tick / w % 32

/-- The window length in force at a tick (R127). -/
def RegionClk.window (c : RegionClk) (tick : Nat) : Nat := if c.winAt ≤ tick then c.laneWin.toNat else c.winNow

/-- A new window length is written (R127): it comes into force at the next tick that is a multiple of 32 times it. -/
def RegionClk.setWindow (c : RegionClk) (tick : Nat) (v : BitVec 6) : RegionClk :=
  if v = c.laneWin then c
  else { c with
    laneWin := v
    winNow := c.window tick
    winAt := if v = 0 then 0 else (tick / (32 * v.toNat) + 1) * (32 * v.toNat) }

/-- The lane-table entry in force in a region (R124). -/
def State.laneEntry (s : State) (r : Nat) : BitVec 8 :=
  let c := (s.region r).clk
  Table.get 0 c.lanes (laneAt s.clk.tick.toNat (c.window s.clk.tick.toNat))

/-- The number N that sets an arbiter's head of region `r`, (N + a) mod n (R102, R103): the stroke's while strokes run, else the passes
of the lane table since they halted. From when passes are counted the spec leaves open (log entry 44). -/
def State.arbNumber (s : State) (r : Nat) : Nat :=
  if s.clk.running then s.clk.stroke.toNat
  else
    let p := 32 * (s.region r).clk.window s.clk.tick.toNat
    if p = 0 then 0 else s.clk.tick.toNat / p - s.clk.lanePasses / p

/-- The channel key of CLK_GATE bits 0-3 of an edge region (R25, R646), 64 and up for the flash channels of bits 4 and 5; none for other
bits. -/
def gateChan (edge b : Nat) : Option Nat := if b < 2 then some (2 * edge + b) else if b < 4 then some (32 + 2 * edge + (b - 2)) else if b < 6 then some (64 + 2 * edge + (b - 4)) else none

/-- The blocks a region holds (R646): 0-6 in edge regions, 7 and 8 host ports, 9-14 the region's tensor links. -/
def holdsBlock (r b : Nat) : Bool :=
  if b = 7 || b = 8 then [4, 11, 52, 59].contains r else isEdge r && decide (b ≤ 14)

/-- The number of the tensor link of block `b` of an edge region. -/
def blockLink (r b : Nat) : Nat := 6 * (edgeIndex r).getD 0 + (b - 9)

/-- A candidate is ready (R617). -/
def State.candReady (s : State) (c : Nat) : Bool := decide (c < 128) && s.ref.ready.getLsbD c

/-- An access to a register of a tile: it faults while the region is unpowered or holds no such tile (R459, R651), and a tile in no
crew is gated, so that a write to it is discarded (R19, R134). -/
def State.tileAccess (s : State) (t : TileId) (f : State → State) : State :=
  s.regAccess t.region.toNat (fun s =>
    if regionRows t.region.toNat ≤ t.y.toNat then { s with accessFault := true }
    else if (s.tile t).stage.isSome then f s else s)

/-- The region of an edge index. -/
def edgeRegion (edge : Nat) : Nat := edgeRegions.getD edge 0

/-- The regions that the loss variant in force excludes (R727). -/
def State.variantMask (s : State) : BitVec 64 :=
  match s.boot.base with
  | some p => ((p.variants.find? (fun v => v.number = s.boot.variant)).map (fun v => v.mask)).getD 0
  | none => 0

/-- A region the module makes use of (R109, R517): in service, and not excluded by the loss variant in force (R65, R727). -/
def State.regionUsable (s : State) (r : Nat) : Bool :=
  s.ident.present.getLsbD r && !s.boot.excluded.getLsbD r && !s.variantMask.getLsbD r

/-- Bit r for every region `r` of a choice. -/
def maskOf (f : Nat → Bool) : BitVec 64 := (List.range 64).foldl (fun m r => if f r then m ||| (1#64 <<< r) else m) 0

/-- The mapped-out physical row of a column under the maps in force, 0xFF for none (R29, R32, R109). -/
def State.bypassOf (s : State) (r x : Nat) : Nat :=
  (Table.get (Table.get 0xFF s.ident.bypass (16 * r + x)) s.boot.mapNow (16 * r + x)).toNat

/-- The mapped-out physical row of a column once every recorded map is in force (R32). -/
def State.bypassNext (s : State) (r x : Nat) : Nat :=
  (Table.get (Table.get 0xFF s.ident.bypass (16 * r + x)) s.boot.fieldMap (16 * r + x)).toNat

/-- The physical tile of a logical tile: its column and physical row (R29). -/
def State.physTile (s : State) (t : TileId) : Nat × Nat :=
  (t.x.toNat, physRow (s.bypassOf t.region.toNat t.x.toNat) t.y.toNat)

/-- A column's tiles move up from logical row `y` on as a new map comes into force (R29, R32): each takes the physical tile above,
the top one the spare, with their remap records; the tile mapped out keeps its own under a key of no logical tile. -/
def State.shiftColumn (s : State) (r x y : Nat) : State :=
  let key (j : Nat) : Nat := TileId.key ⟨BitVec.ofNat 6 r, BitVec.ofNat 4 x, BitVec.ofNat 4 j⟩
  let rows := (List.range (regionRows r)).filter (fun j => decide (y ≤ j))
  { s with
    tiles := rows.foldl (fun (m : Table Tile) j =>
      Table.put {} m (key j) (if j + 1 < regionRows r then Table.get {} s.tiles (key (j + 1)) else {})) s.tiles
    remapRecord := s.remapRecord.map (fun e =>
      if e.1 = key y then (e.1 + 16384, e.2)
      else match rows.find? (fun j => decide (y < j) && e.1 = key j) with
        | some j => (key (j - 1), e.2)
        | none => e) }

/-- The recorded tile maps come into force at a plan load (R32). -/
def State.takeMaps (s : State) : State :=
  let fresh := s.boot.fieldMap.filter (fun e => Table.get 0xFF s.boot.mapNow e.1 ≠ e.2)
  let s := fresh.foldl (fun (s : State) e => s.shiftColumn (e.1 / 16) (e.1 % 16) e.2.toNat) s
  { s with boot := { s.boot with mapNow := s.boot.fieldMap } }

/-- The plan in service runs on a regatta (R555). -/
def State.inRegatta (s : State) : Bool :=
  match s.boot.plan with
  | some p => decide (1 < p.members)
  | none => false

/-- This module is its regatta's root (R555). -/
def State.isRoot (s : State) : Bool := s.inRegatta && decide (s.boot.member = 0)

/-- This module is a member other than the root, which is the home wafer (R46, R555): it holds no request and no slot table in use, and
serves no host port. -/
def State.isMember (s : State) : Bool := s.inRegatta && decide (s.boot.member ≠ 0)

end Sys2Proof.Machine
end

