-- ==== Sys2Proof/Machine/Apply.lean ====
section
/-! DEFINITION. The dictionary objects that Cox copies into region registers (R767, R774). -/

namespace Sys2Proof.Machine

/-- A field of CLK_MON_CFG replaced. -/
def setMonField (c : BitVec 25) (lsb width v : Nat) : BitVec 25 :=
  let n := c.toNat
  BitVec.ofNat 25 (n % 2 ^ lsb + v % 2 ^ width * 2 ^ lsb + n / 2 ^ (lsb + width) * 2 ^ (lsb + width))

/-- Cox copies one object into the registers of a region (R774); other objects govern no region register. Those of the monitors act from the
next window (R767). -/
def State.applyTo (s : State) (key r : Nat) : State :=
  let v := s.dictNat key
  match key with
  | 0x202001 => s.updLoop r (fun l => { l with monCfg := setMonField l.monCfg 0 8 v })
  | 0x202002 => s.updLoop r (fun l => { l with monCfg := setMonField l.monCfg 8 8 v })
  | 0x202003 => s.updLoop r (fun l => { l with monCfg := setMonField l.monCfg 16 4 v })
  | 0x202004 => s.updLoop r (fun l => { l with monCfg := setMonField l.monCfg 20 4 v })
  | 0x202005 => s.updLoop r (fun l => { l with monCfg := setMonField l.monCfg 24 1 v })
  | 0x202006 => s.updLoop r (fun l => { l with thresh := BitVec.ofNat 7 v })
  | 0x202007 => s.updLoop r (fun l => { l with droopEn := decide (v = 1) })
  | 0x212001 => s.updClk r (fun c => c.setWindow s.clk.tick.toNat (BitVec.ofNat 6 v))
  | 0x213002 => s.updClk r (fun c => { c with umpHalt := decide (v = 1) })
  | 0x401004 => s.updPwr r (fun p => { p with trip := BitVec.ofNat 12 (8 * v) })
  | 0x504001 => s.updEvr r (fun e => { e with snapTrig := BitVec.ofNat 12 v })
  | 0x504002 => s.updEvr r (fun e => { e with
      snapList := Table.putList 0 [] 0 ((chunksOf 4 64 (s.blob 0x504002)).map (fun b => BitVec.ofNat 24 (leNat b))) })
  | 0x504003 => s.updEvr r (fun e => { e with snapLen := BitVec.ofNat 7 v })
  | 0x504004 => s.updEvr r (fun e => { e with snapMode := decide (v = 1) })
  | 0x504005 => s.updEvr r (fun e => { e with snapHoldoff := BitVec.ofNat 16 v })
  | 0x701001 => s.updEcc r (fun e => { e with
      lbDepth := BitVec.ofNat 8 v
      lbCount := if v < e.lbCount.toNat then 0 else e.lbCount })
  | 0x701002 => s.updEcc r (fun e => { e with lbPeriod := BitVec.ofNat 16 v })
  | 0x701004 => s.updEcc r (fun e => { e with remapThresh := BitVec.ofNat 4 v })
  | _ => s

/-- The objects copied into region registers. -/
def regionObjects : List Nat :=
  [0x202001, 0x202002, 0x202003, 0x202004, 0x202005, 0x202006, 0x202007, 0x212001, 0x213002, 0x401004, 0x504001, 0x504002,
   0x504003, 0x504004, 0x504005, 0x701001, 0x701002, 0x701004]

/-- The umpire acts in debug mode only (R128, R132). -/
def State.umpObject (s : State) (key : Nat) : Bool := key ≠ 0x213002 || s.boot.debug

/-- Cox writes every region-level setting to one region (R774). -/
def State.configRegion (s : State) (r : Nat) : State :=
  ((regionObjects.filter s.umpObject).foldl (fun (s : State) k => s.applyTo k r) s).updLoop r (fun l => { l with monUse := l.monCfg })

/-- Cox writes one object to every powered region. -/
def State.applyAll (s : State) (key : Nat) : State :=
  if regionObjects.contains key && s.umpObject key then
    s.eachRegion (fun r s => if s.powered r then s.applyTo key r else s)
  else s

end Sys2Proof.Machine
end

