-- ==== Sys2Proof/Machine/Bundle.lean ====
section
/-! DEFINITION. The bundle (R189-R243): the six slots of a program word, the instruction each holds, the words of an
instruction, and the values the loader refuses (R191). -/

namespace Sys2Proof.Machine

/-! ## The words of each slot, field by field (bit 0 the lowest of the slot) -/

/-- CTL: OP, D, A, B, IMM (R204). -/
def ctlWord (op : BitVec 6) (d a b : BitVec 4) (imm : BitVec 22) : BitVec 40 := imm ++ b ++ a ++ d ++ op

/-- LSU: OP, PRED, V, A, LINE, EXT (R211). -/
def lsuWord (op : BitVec 6) (pred : BitVec 2) (v : BitVec 5) (a : BitVec 4) (line : BitVec 15) (ext : BitVec 16) : BitVec 48 :=
  ext ++ line ++ a ++ v ++ pred ++ op

/-- WSET: OP, PRED 0, the set in [10:8], and six bank numbers in [47:18] (R212, R213). -/
def wsetWord (set : BitVec 3) (banks : BitVec 30) : BitVec 48 := banks ++ (0 : BitVec 7) ++ set ++ (0 : BitVec 2) ++ (5 : BitVec 6)

/-- WRD: OP, PRED 0, the set in [10:8], A in [16:13], the line within the bank in [26:17] (R212, R213). -/
def wrdWord (set : BitVec 3) (a : BitVec 4) (line : BitVec 10) : BitVec 48 :=
  (0 : BitVec 16) ++ (0 : BitVec 5) ++ line ++ a ++ (0 : BitVec 2) ++ set ++ (0 : BitVec 2) ++ (6 : BitVec 6)

/-- MXU: OP, PRED, AROW, X, E, FMT, J, INIT (R222). -/
def mxuWord (op : BitVec 6) (pred : BitVec 2) (arow : BitVec 6) (x : BitVec 8) (e : BitVec 10) (fmt : BitVec 4) (j : BitVec 3)
    (init : BitVec 1) : BitVec 40 := init ++ j ++ fmt ++ e ++ x ++ arow ++ pred ++ op

/-- VEC: OP, PRED, D, A, B, C, four reserved bits, IMM (R230). -/
def vecWord (op : BitVec 6) (pred : BitVec 2) (d a b c : BitVec 5) (imm : BitVec 16) : BitVec 48 :=
  imm ++ (0 : BitVec 4) ++ c ++ b ++ a ++ d ++ pred ++ op

/-- RQU: OP, PRED, A, D, FMT, MODE, S, IMM (R234). -/
def rquWord (op : BitVec 6) (pred : BitVec 2) (a d : BitVec 5) (fmt mode sreg : BitVec 4) (imm : BitVec 10) : BitVec 40 :=
  imm ++ sreg ++ mode ++ fmt ++ d ++ a ++ pred ++ op

/-- NET: OP, PRED, S, LINE, ENTRY, five reserved bits (R242). -/
def netWord (op : BitVec 6) (pred : BitVec 2) (sreg : BitVec 4) (line : BitVec 15) (entry : BitVec 8) : BitVec 40 :=
  (0 : BitVec 5) ++ entry ++ line ++ sreg ++ pred ++ op

/-! ## The instruction a slot holds; a reserved opcode is executed as NOP (R190, R191) -/

/-- The CTL instruction (R204). -/
def decodeCtl (t : TileId) (w : BitVec 40) : Instr :=
  let d := w.extractLsb' 6 4
  let a := w.extractLsb' 10 4
  let b := w.extractLsb' 14 4
  let imm := w.extractLsb' 18 22
  match (w.extractLsb' 0 6).toNat with
  | 0x01 => .end_ t
  | 0x02 => .li t d imm
  | 0x03 => .addi t d a imm
  | 0x04 => .add t d a b
  | 0x05 => .sub t d a b
  | 0x06 => .and t d a b
  | 0x07 => .or t d a b
  | 0x08 => .xor t d a b
  | 0x09 => .shl t d a b
  | 0x0A => .shr t d a b
  | 0x0B => .scalarMul t d a b
  | 0x0C => .slt t d a b
  | 0x0D => .bnz t a imm
  | 0x0E => .bdec t a imm
  | 0x0F => .waitc t a imm
  | 0x10 => .waitg t a imm
  | 0x11 => .pred t d a imm
  | 0x12 => .rdcyc t d
  | 0x13 => .rdstk t d
  | 0x14 => .cqn t d
  | 0x15 => .cqrd t d imm
  | 0x16 => .cqpop t
  | _ => .nop t .ctl (w.extractLsb' 0 6) false

/-- The LSU instruction (R212). -/
def decodeLsu (t : TileId) (w : BitVec 48) : Instr :=
  let pred := w.extractLsb' 6 2
  let v := w.extractLsb' 8 5
  let set := w.extractLsb' 8 3
  let a := w.extractLsb' 13 4
  let line := w.extractLsb' 17 15
  match (w.extractLsb' 0 6).toNat with
  | 0x01 => .ld t pred v a line (w.extractLsb' 32 16)
  | 0x02 => .st t pred v a line (w.extractLsb' 32 16)
  | 0x03 => .ldx t pred a line (w.extractLsb' 32 8)
  | 0x04 => .clr t pred a line
  | 0x05 => .wset t set (w.extractLsb' 18 30)
  | 0x06 => .wrd t set a (w.extractLsb' 17 10)
  | 0x07 => .gath t pred a line (w.extractLsb' 32 4)
  | _ => .nop t .lsu (w.extractLsb' 0 6) false

/-- The MXU instruction (R222). -/
def decodeMxu (t : TileId) (w : BitVec 40) : Instr :=
  let pred := w.extractLsb' 6 2
  let arow := w.extractLsb' 8 6
  match (w.extractLsb' 0 6).toNat with
  | 0x01 => .bld t (w.extractLsb' 32 4)
  | 0x02 => .bsw t
  | 0x03 => .mul t pred arow (w.extractLsb' 14 8) (w.extractLsb' 22 10) (w.extractLsb' 32 4) (w.extractLsb' 36 3) (w.getLsbD 39)
  | 0x04 => .aclr t pred arow (w.extractLsb' 14 6)
  | 0x05 => .amov t pred arow (w.extractLsb' 14 5)
  | _ => .nop t .mxu (w.extractLsb' 0 6) false

/-- The VEC instruction (R230). -/
def decodeVec (t : TileId) (w : BitVec 48) : Instr :=
  let pred := w.extractLsb' 6 2
  let d := w.extractLsb' 8 5
  let a := w.extractLsb' 13 5
  let b := w.extractLsb' 18 5
  let c := w.extractLsb' 23 5
  let imm := w.extractLsb' 32 16
  match (w.extractLsb' 0 6).toNat with
  | 0x01 => .vadd t pred d a b
  | 0x02 => .vsub t pred d a b
  | 0x03 => .vmul t pred d a b
  | 0x04 => .vfma t pred d a b c
  | 0x05 => .vmax t pred d a b
  | 0x06 => .vmin t pred d a b
  | 0x07 => .vcmplt t pred d a b
  | 0x08 => .vsel t pred d a b c
  | 0x09 => .vaddi t pred d a imm
  | 0x0A => .vmuli t pred d a imm
  | 0x0B => .vexp t pred d a
  | 0x0C => .vrcp t pred d a
  | 0x0D => .vrsq t pred d a
  | 0x0E => .vrsum t pred d a imm
  | 0x0F => .vrmax t pred d a imm
  | 0x10 => .vbcast t pred d a imm
  | 0x11 => .vrnd t pred d a
  | 0x12 => .vmov t pred d a
  | 0x13 => .vsc2 t pred d a imm
  | _ => .nop t .vec (w.extractLsb' 0 6) false

/-- The RQU instruction (R234). -/
def decodeRqu (t : TileId) (w : BitVec 40) : Instr :=
  let pred := w.extractLsb' 6 2
  let a := w.extractLsb' 8 5
  let d := w.extractLsb' 13 5
  let fmt := w.extractLsb' 18 4
  let mode := w.extractLsb' 22 4
  let sreg := w.extractLsb' 26 4
  let imm := w.extractLsb' 30 10
  match (w.extractLsb' 0 6).toNat with
  | 0x01 => .rot t pred a d fmt mode imm
  | 0x02 => .irot t pred a d fmt mode imm
  | 0x03 => .pfeed t pred a
  | 0x04 => .pack t pred fmt mode sreg imm
  | 0x05 => .unpk t pred d fmt mode sreg imm
  | 0x06 => .sincos t pred d mode sreg
  | 0x07 => .srset t pred mode sreg
  | 0x08 => .pclr t pred
  | _ => .nop t .rqu (w.extractLsb' 0 6) false

/-- The NET instruction (R243). -/
def decodeNet (t : TileId) (w : BitVec 40) : Instr :=
  let pred := w.extractLsb' 6 2
  let sreg := w.extractLsb' 8 4
  let line := w.extractLsb' 12 15
  let entry := w.extractLsb' 27 8
  match (w.extractLsb' 0 6).toNat with
  | 0x01 => .send t pred sreg line entry
  | 0x02 => .sendq t pred sreg entry
  | 0x03 => .commit t pred entry
  | 0x04 => .dma t pred sreg line
  | _ => .nop t .net (w.extractLsb' 0 6) false

/-- The six instructions of a bundle (R189): the CTL instruction, whose results the next bundle sees first (R192), is last. -/
def decodeBundle (t : TileId) (w : BitVec 256) : List Instr :=
  [decodeLsu t (w.extractLsb' 40 48), decodeMxu t (w.extractLsb' 88 40), decodeVec t (w.extractLsb' 128 48),
   decodeRqu t (w.extractLsb' 176 40), decodeNet t (w.extractLsb' 216 40), decodeCtl t (w.extractLsb' 0 40)]

/-! ## The bundle that holds one instruction, every other slot NOP -/

/-- A word of a slot in its place of a bundle (R189). -/
def inSlot (sl : Slot) (w : Nat) : BitVec 256 :=
  BitVec.ofNat 256 w <<< (match sl with
    | .ctl => 0
    | .lsu => 40
    | .mxu => 88
    | .vec => 128
    | .rqu => 176
    | .net => 216)

/-- The slot and the slot word of a tile instruction; none for a command that is no instruction of a bundle. -/
def encodeSlot : Instr → Option (Slot × Nat)
  | .nop _ sl op _ => some (sl, op.toNat)
  | .end_ _ => some (.ctl, (ctlWord 0x01 0 0 0 0).toNat)
  | .li _ d imm => some (.ctl, (ctlWord 0x02 d 0 0 imm).toNat)
  | .addi _ d a imm => some (.ctl, (ctlWord 0x03 d a 0 imm).toNat)
  | .add _ d a b => some (.ctl, (ctlWord 0x04 d a b 0).toNat)
  | .sub _ d a b => some (.ctl, (ctlWord 0x05 d a b 0).toNat)
  | .and _ d a b => some (.ctl, (ctlWord 0x06 d a b 0).toNat)
  | .or _ d a b => some (.ctl, (ctlWord 0x07 d a b 0).toNat)
  | .xor _ d a b => some (.ctl, (ctlWord 0x08 d a b 0).toNat)
  | .shl _ d a b => some (.ctl, (ctlWord 0x09 d a b 0).toNat)
  | .shr _ d a b => some (.ctl, (ctlWord 0x0A d a b 0).toNat)
  | .scalarMul _ d a b => some (.ctl, (ctlWord 0x0B d a b 0).toNat)
  | .slt _ d a b => some (.ctl, (ctlWord 0x0C d a b 0).toNat)
  | .bnz _ a imm => some (.ctl, (ctlWord 0x0D 0 a 0 imm).toNat)
  | .bdec _ a imm => some (.ctl, (ctlWord 0x0E 0 a 0 imm).toNat)
  | .waitc _ a imm => some (.ctl, (ctlWord 0x0F 0 a 0 imm).toNat)
  | .waitg _ a imm => some (.ctl, (ctlWord 0x10 0 a 0 imm).toNat)
  | .pred _ d a imm => some (.ctl, (ctlWord 0x11 d a 0 imm).toNat)
  | .rdcyc _ d => some (.ctl, (ctlWord 0x12 d 0 0 0).toNat)
  | .rdstk _ d => some (.ctl, (ctlWord 0x13 d 0 0 0).toNat)
  | .cqn _ d => some (.ctl, (ctlWord 0x14 d 0 0 0).toNat)
  | .cqrd _ d imm => some (.ctl, (ctlWord 0x15 d 0 0 imm).toNat)
  | .cqpop _ => some (.ctl, (ctlWord 0x16 0 0 0 0).toNat)
  | .ld _ pred v a line ext => some (.lsu, (lsuWord 0x01 pred v a line ext).toNat)
  | .st _ pred v a line ext => some (.lsu, (lsuWord 0x02 pred v a line ext).toNat)
  | .ldx _ pred a line ext => some (.lsu, (lsuWord 0x03 pred 0 a line (ext.setWidth 16)).toNat)
  | .clr _ pred a line => some (.lsu, (lsuWord 0x04 pred 0 a line 0).toNat)
  | .wset _ set banks => some (.lsu, (wsetWord set banks).toNat)
  | .wrd _ set a line => some (.lsu, (wrdWord set a line).toNat)
  | .gath _ pred a line tag => some (.lsu, (lsuWord 0x07 pred 0 a line (tag.setWidth 16)).toNat)
  | .bld _ fmt => some (.mxu, (mxuWord 0x01 0 0 0 0 fmt 0 0).toNat)
  | .bsw _ => some (.mxu, (mxuWord 0x02 0 0 0 0 0 0 0).toNat)
  | .mul _ pred arow x e fmt j init => some (.mxu, (mxuWord 0x03 pred arow x e fmt j (BitVec.ofBool init)).toNat)
  | .aclr _ pred arow count => some (.mxu, (mxuWord 0x04 pred arow (count.setWidth 8) 0 0 0 0).toNat)
  | .amov _ pred arow v => some (.mxu, (mxuWord 0x05 pred arow (v.setWidth 8) 0 0 0 0).toNat)
  | .vadd _ pred d a b => some (.vec, (vecWord 0x01 pred d a b 0 0).toNat)
  | .vsub _ pred d a b => some (.vec, (vecWord 0x02 pred d a b 0 0).toNat)
  | .vmul _ pred d a b => some (.vec, (vecWord 0x03 pred d a b 0 0).toNat)
  | .vfma _ pred d a b c => some (.vec, (vecWord 0x04 pred d a b c 0).toNat)
  | .vmax _ pred d a b => some (.vec, (vecWord 0x05 pred d a b 0 0).toNat)
  | .vmin _ pred d a b => some (.vec, (vecWord 0x06 pred d a b 0 0).toNat)
  | .vcmplt _ pred d a b => some (.vec, (vecWord 0x07 pred d a b 0 0).toNat)
  | .vsel _ pred d a b c => some (.vec, (vecWord 0x08 pred d a b c 0).toNat)
  | .vaddi _ pred d a imm => some (.vec, (vecWord 0x09 pred d a 0 0 imm).toNat)
  | .vmuli _ pred d a imm => some (.vec, (vecWord 0x0A pred d a 0 0 imm).toNat)
  | .vexp _ pred d a => some (.vec, (vecWord 0x0B pred d a 0 0 0).toNat)
  | .vrcp _ pred d a => some (.vec, (vecWord 0x0C pred d a 0 0 0).toNat)
  | .vrsq _ pred d a => some (.vec, (vecWord 0x0D pred d a 0 0 0).toNat)
  | .vrsum _ pred d a imm => some (.vec, (vecWord 0x0E pred d a 0 0 imm).toNat)
  | .vrmax _ pred d a imm => some (.vec, (vecWord 0x0F pred d a 0 0 imm).toNat)
  | .vbcast _ pred d a imm => some (.vec, (vecWord 0x10 pred d a 0 0 imm).toNat)
  | .vrnd _ pred d a => some (.vec, (vecWord 0x11 pred d a 0 0 0).toNat)
  | .vmov _ pred d a => some (.vec, (vecWord 0x12 pred d a 0 0 0).toNat)
  | .vsc2 _ pred d a imm => some (.vec, (vecWord 0x13 pred d a 0 0 imm).toNat)
  | .rot _ pred a d fmt mode imm => some (.rqu, (rquWord 0x01 pred a d fmt mode 0 imm).toNat)
  | .irot _ pred a d fmt mode imm => some (.rqu, (rquWord 0x02 pred a d fmt mode 0 imm).toNat)
  | .pfeed _ pred a => some (.rqu, (rquWord 0x03 pred a 0 0 0 0 0).toNat)
  | .pack _ pred fmt mode sreg imm => some (.rqu, (rquWord 0x04 pred 0 0 fmt mode sreg imm).toNat)
  | .unpk _ pred d fmt mode sreg imm => some (.rqu, (rquWord 0x05 pred 0 d fmt mode sreg imm).toNat)
  | .sincos _ pred d mode sreg => some (.rqu, (rquWord 0x06 pred 0 d 0 mode sreg 0).toNat)
  | .srset _ pred mode sreg => some (.rqu, (rquWord 0x07 pred 0 0 0 mode sreg 0).toNat)
  | .pclr _ pred => some (.rqu, (rquWord 0x08 pred 0 0 0 0 0 0).toNat)
  | .send _ pred sreg line entry => some (.net, (netWord 0x01 pred sreg line entry).toNat)
  | .sendq _ pred sreg entry => some (.net, (netWord 0x02 pred sreg 0 entry).toNat)
  | .commit _ pred entry => some (.net, (netWord 0x03 pred 0 0 entry).toNat)
  | .dma _ pred sreg line => some (.net, (netWord 0x04 pred sreg line 0).toNat)
  | _ => none

/-- The bundle that holds one tile instruction. -/
def encodeBundle (i : Instr) : Option (BitVec 256) := (encodeSlot i).map (fun q => inSlot q.1 q.2)

/-- The instruction of one slot of a bundle. -/
def decodeSlot (t : TileId) (sl : Slot) (w : BitVec 256) : Instr :=
  match sl with
  | .ctl => decodeCtl t (w.extractLsb' 0 40)
  | .lsu => decodeLsu t (w.extractLsb' 40 48)
  | .mxu => decodeMxu t (w.extractLsb' 88 40)
  | .vec => decodeVec t (w.extractLsb' 128 48)
  | .rqu => decodeRqu t (w.extractLsb' 176 40)
  | .net => decodeNet t (w.extractLsb' 216 40)

/-! ## What the loader refuses (R191) -/

/-- A format code that is reserved in a field (R200). -/
def reservedFmt (f : Nat) : Bool := f = 0 || decide (12 ≤ f)

/-- CTL: a reserved opcode, BDEC of s0, or PRED with D[3:2] set (R204). -/
def ctlRefused (w : BitVec 40) : Bool :=
  let op := (w.extractLsb' 0 6).toNat
  decide (0x17 ≤ op) || (op = 0x0E && w.extractLsb' 10 4 = 0) || (op = 0x11 && w.extractLsb' 8 2 ≠ 0)

/-- The six banks of a WSET are distinct, and none is a cache-mode bank (R213). -/
def banksOk (cache : BitVec 8) (banks : BitVec 30) : Bool :=
  let bs := (List.range 6).map (fun i => banks.toNat / 32 ^ i % 32)
  bs.eraseDups.length = 6 && bs.all (fun b => !(decide (24 ≤ b) && cache.getLsbD (b - 24)))

/-- A scratch line that a program fixes, its base register being s0, stands in a cache-mode bank (R152, R211). A PACK and an UNPK fix
no such line: with s0, their IMM names a line of bank 0. -/
def fixedInCache (cache : BitVec 8) (base : BitVec 4) (line : BitVec 15) : Bool :=
  base = 0 && decide (24 ≤ line.toNat / 1024) && cache.getLsbD (line.toNat / 1024 - 24)

/-- LSU (R152, R212-R214): a reserved opcode, a mode of 6-7, a predicated WSET or WRD, banks WSET refuses, a nonzero reserved field of
WRD, a GATH with A odd or LINE in a cache-mode bank, an LD, ST, LDX or CLR of a line in such a bank. -/
def lsuRefused (cache : BitVec 8) (w : BitVec 48) : Bool :=
  let op := (w.extractLsb' 0 6).toNat
  (decide (1 ≤ op) && decide (op ≤ 4) && fixedInCache cache (w.extractLsb' 13 4) (w.extractLsb' 17 15)) ||
  decide (8 ≤ op) || ((op = 1 || op = 2) && decide (6 ≤ (w.extractLsb' 32 3).toNat)) ||
    ((op = 5 || op = 6) && w.extractLsb' 6 2 ≠ 0) || (op = 5 && !banksOk cache (w.extractLsb' 18 30)) ||
    (op = 6 && w.extractLsb' 27 5 ≠ 0) ||
    (op = 7 && (w.getLsbD 13 || (decide (24 ≤ (w.extractLsb' 27 5).toNat) && cache.getLsbD ((w.extractLsb' 27 5).toNat - 24))))

/-- MXU (R200, R222, R223): a reserved opcode or format, a predicated BLD or BSW, an ACLR past row 63, an AMOV of an odd row. -/
def mxuRefused (w : BitVec 40) : Bool :=
  let op := (w.extractLsb' 0 6).toNat
  decide (6 ≤ op) || ((op = 1 || op = 2) && w.extractLsb' 6 2 ≠ 0) || ((op = 1 || op = 3) && reservedFmt (w.extractLsb' 32 4).toNat) ||
    (op = 4 && decide (64 < (w.extractLsb' 8 6).toNat + (w.extractLsb' 14 6).toNat + 1)) || (op = 5 && w.getLsbD 8)

/-- VEC (R230): a reserved opcode or field. -/
def vecRefused (w : BitVec 48) : Bool := decide (0x14 ≤ (w.extractLsb' 0 6).toNat) || w.extractLsb' 28 4 ≠ 0

/-- RQU (R200, R234): a reserved opcode, format or field, a MODE of 7-15 of ROT and IROT, PACK in BF16, an SRSET past s15. -/
def rquRefused (w : BitVec 40) : Bool :=
  let op := (w.extractLsb' 0 6).toNat
  let fmt := (w.extractLsb' 18 4).toNat
  let mode := (w.extractLsb' 22 4).toNat
  let sreg := (w.extractLsb' 26 4).toNat
  decide (9 ≤ op) || ((op = 1 || op = 2) && (decide (7 ≤ mode) || decide (2 ≤ fmt))) ||
    (op = 4 && (decide (8 ≤ mode) || fmt = 11 || reservedFmt fmt)) || (op = 5 && reservedFmt fmt) ||
    (op = 7 && (decide (2 ≤ mode) || sreg = 15 || (sreg = 14 && mode = 1)))

/-- NET (R152, R243): a reserved opcode or field, a LINE of SENDQ, an ENTRY of DMA, a SEND or DMA of a line in a cache-mode bank. -/
def netRefused (cache : BitVec 8) (w : BitVec 40) : Bool :=
  let op := (w.extractLsb' 0 6).toNat
  ((op = 1 || op = 4) && fixedInCache cache (w.extractLsb' 8 4) (w.extractLsb' 12 15)) ||
  decide (5 ≤ op) || w.extractLsb' 35 5 ≠ 0 || (op = 2 && w.extractLsb' 12 15 ≠ 0) || (op = 4 && w.extractLsb' 27 8 ≠ 0)

/-- The loader refuses a bundle of a seat whose cache mask is `cache` (R191). -/
def bundleRefused (cache : BitVec 8) (w : BitVec 256) : Bool :=
  ctlRefused (w.extractLsb' 0 40) || lsuRefused cache (w.extractLsb' 40 48) || mxuRefused (w.extractLsb' 88 40) ||
    vecRefused (w.extractLsb' 128 48) || rquRefused (w.extractLsb' 176 40) || netRefused cache (w.extractLsb' 216 40)

/-- A send-table entry whose landing base stands in a cache-mode bank of the tile it names (R152). -/
def landsInCache (p : Plan) (e : SendEntry) : Bool :=
  e.valid && e.dkind = 0 && p.crews.any (fun c => c.seats.any (fun st =>
    decide (st.tile = ⟨e.dreg, e.dx, e.dy⟩) && fixedInCache st.cacheMask 0 e.base))

/-- A program of a plan holds a bundle the loader refuses (R191), or a send table an entry it refuses (R152). -/
def programRefused (p : Plan) : Bool :=
  p.crews.any (fun c => c.seats.any (fun st =>
    st.program.any (fun b => bundleRefused st.cacheMask b) || st.send.any (fun e => landsInCache p e.2)))

end Sys2Proof.Machine
end

