-- ==== Sys2Proof/Machine/Peek.lean ====
section
/-! DEFINITION. The value of every device register, by region and offset, without side effects (R16-R19, R458-R460). -/

namespace Sys2Proof.Machine

/-- A flag at a bit of a word. -/
def flagAt (i : Nat) (b : Bool) : Nat := if b then 2 ^ i else 0

/-- The regions whose windows hold the reference registers and the power-sequencing logic's (R634, R687, R36). -/
def coxRegion (r : Nat) : Bool := decide (r = 4 || r = 59)

/-- The registers of the stroke contract (R58). -/
def peekStroke (s : State) (r off : Nat) : Option Nat :=
  let c := (s.region r).clk
  match off with
  | 0x00 => some (s.clk.tick.toNat % 2 ^ 32)
  | 0x04 => some c.tickHi.toNat
  | 0x08 => some (s.clk.stroke.toNat % 2 ^ 32)
  | 0x0C => some c.strokeHi.toNat
  | 0x10 => some (s.clk.len % 65536 + 65536 * (s.clk.fin % 65536))
  | 0x14 => some (c.nextLen.toNat + 65536 * c.nextFin.toNat)
  | 0x18 => some (c.armAt.toNat + 2 ^ 24 * c.armStep.toNat + flagAt 30 c.armDone + flagAt 31 c.arm)
  | 0x1C => some (flagAt 0 (s.clk.easy ≠ 0) + flagAt 1 (s.clk.easy = 2) + flagAt 2 c.late + flagAt 3 c.replay + flagAt 4 c.forced +
      flagAt 5 c.armRefused + 256 * c.stretch.toNat + 65536 * c.margin.toNat)
  | 0x20 => some c.lateCount.toNat
  | _ => none

/-- The blocks of CLK_GATE that a region holds (R646). -/
def heldBlocks (r : Nat) : List Nat := (List.range 9).filter (fun b => holdsBlock r b)

/-- The region's loop, droop detector, monitors and block enables (R640-R648). -/
def peekLoop (s : State) (r off : Nat) : Option Nat :=
  let l := (s.region r).loop
  match off with
  | 0x40 => some (l.step.toNat + flagAt 5 l.stop)
  | 0x44 => some (l.stepAct.toNat + flagAt 4 l.lock + flagAt 5 l.coast + flagAt 6 l.target.isSome + flagAt 7 l.refused + 256 * l.unlocks.toNat)
  | 0x48 => some (l.thresh.toNat + flagAt 7 l.droopEn)
  | 0x4C => some l.droops.toNat
  | 0x50 => some l.monCfg.toNat
  | 0x54 => some (l.jitPeak.toNat + 256 * l.dutyDev.toNat + flagAt 12 l.monWarn + flagAt 13 l.monLimit)
  | 0x58 => some ((heldBlocks r).foldl (fun n b => n + flagAt b (l.gate.getLsbD b) + flagAt (16 + b) (s.blockReady r b)) 0)
  | _ => none

/-- The reference registers (R634), in regions 4 and 59. -/
def peekRef (s : State) (off : Nat) : Option Nat :=
  let q := s.ref
  match off with
  | 0x100 => some q.src.toNat
  | 0x104 => some (flagAt 2 q.autoAlt + flagAt 3 q.search + 65536 * q.bridge.toNat)
  | 0x108 => some (q.cur.toNat + flagAt 8 q.lock + flagAt 9 q.loss + flagAt 10 q.hang + flagAt 11 (q.swStep ≠ 0) + flagAt 12 q.refLost +
      flagAt 13 q.forced + flagAt 14 q.refused + 65536 * q.losses.toNat)
  | 0x10C => some (q.alt.toNat + flagAt 7 (s.candReady q.alt.toNat))
  | 0x110 => some (q.ready.toNat % 2 ^ 32)
  | 0x114 => some (q.ready.toNat / 2 ^ 32 % 2 ^ 32)
  | 0x118 => some (q.ready.toNat / 2 ^ 64 % 2 ^ 32)
  | 0x11C => some (q.ready.toNat / 2 ^ 96 % 2 ^ 32)
  | _ => none

/-- CLK_. -/
def peekClk (s : State) (r off : Nat) : Option Nat :=
  if off < 0x40 then peekStroke s r off
  else if off < 0x100 then peekLoop s r off
  else if coxRegion r then peekRef s off else none

/-- PWR_ (R671, R687). -/
def peekPwr (s : State) (r off : Nat) : Option Nat :=
  let g := (s.region r).pwr
  let p := s.power
  match off with
  | 0x000 => some g.vset.toNat
  | 0x004 => some g.monV.toNat
  | 0x008 => some g.monI.toNat
  | 0x00C => some (flagAt 0 g.ocWarn + flagAt 1 g.ocForced + 65536 * g.warns.toNat)
  | _ =>
    if !coxRegion r then none
    else match off with
      | 0x800 => some (p.on.toNat % 2 ^ 32)
      | 0x804 => some (p.on.toNat / 2 ^ 32)
      | 0x808 => some (p.pg.toNat % 2 ^ 32)
      | 0x80C => some (p.pg.toNat / 2 ^ 32)
      | 0x810 => some (p.latch.toNat % 2 ^ 32)
      | 0x814 => some (p.latch.toNat / 2 ^ 32)
      | 0x818 => some (p.vin.toNat + 1024 * p.iin.toNat + flagAt 20 p.pfail + flagAt 21 p.range)
      | 0x81C => some (p.convOk.toNat + 65536 * p.convFailed.toNat)
      | _ => none

/-- THM_ (R674-R685). -/
def peekThm (s : State) (r off : Nat) : Option Nat :=
  let g := (s.region r).pwr
  let p := s.power
  match off with
  | 0x000 => some (g.hot.toNat + 4096 * g.sensor.toNat + 65536 * g.peak.toNat)
  | 0x008 => some g.trip.toNat
  | 0x00C => some (flagAt 0 g.tripped + flagAt 1 g.rate)
  | _ =>
    if !coxRegion r then none
    else match off with
      | 0x800 => some (p.flow.toNat + 256 * p.inlet.toNat + 2 ^ 20 * p.outlet.toNat)
      | 0x804 => some (p.rth.toNat + 65536 * (p.cap / 10 % 65536))
      | 0x808 => some (p.faults.toNat + flagAt 3 p.active + flagAt 4 p.flowLow + flagAt 5 p.inletOver)
      | 0x80C => some (p.flowMin.toNat + 256 * p.rateMax.toNat + flagAt 16 p.faultEn)
      | _ => none

/-- ECC_ (R483-R495). -/
def peekEcc (s : State) (r off : Nat) : Option Nat :=
  let e := (s.region r).ecc
  match off with
  | 0x00 => some e.lbDepth.toNat
  | 0x04 => some e.lbPeriod.toNat
  | 0x08 => some (e.lbCount.toNat + flagAt 8 e.lbOvf + 65536 * e.lbOverflows.toNat)
  | 0x0C => some (flagAt 0 e.scrubEn)
  | 0x10 => some e.scrubLongest.toNat
  | 0x14 => some (e.pagesRebuilt.toNat + 65536 * e.pagesLost.toNat)
  | 0x18 => some (e.remapThresh.toNat + 65536 * e.remaps.toNat)
  | 0x1C => some (flagAt 0 e.fillDone)
  | 0x40 => some (e.twCtl.toNat + flagAt 31 e.twGo)
  | 0x44 => some (e.twCheck.toNat + 1024 * e.twOutcome.toNat + 4096 * e.twBit.toNat + flagAt 31 e.twRefused)
  | _ => if 0x60 ≤ off && off < 0x80 && off % 4 = 0 then some (e.twData.toNat / 2 ^ (8 * (off - 0x60)) % 2 ^ 32) else none

/-- PRESENT of a seam side (R530): the neighbour exists, is powered and has its loop locked. -/
def State.seamPresent (s : State) (r side : Nat) : Bool := match neighbour r side with
  | some q => s.powered q && (s.region q).loop.lock
  | none => false

/-- MSH_ and SEAM_ (R126, R470, R530). MSH_LANE_CTL.ACTIVE reads 0 while EN is 0: whether it could read 1 then the spec leaves open (R123;
log entry 52). -/
def peekMsh (s : State) (r off : Nat) : Option Nat :=
  let g := s.region r
  if off = 0 then some (flagAt 0 g.clk.laneEn + flagAt 1 (g.clk.laneEn && s.laneTableRules) + 256 * g.clk.laneWin.toNat)
  else if 0x080 ≤ off && off < 0x100 then some (Table.get 0 g.clk.lanes ((off - 0x080) / 4)).toNat
  else if 0x100 ≤ off && off < 0x120 then
    some ((List.range 8).foldl (fun n j => n + 16 ^ j * (Table.get 0 g.mesh.rtab (8 * ((off - 0x100) / 4) + j)).toNat) 0)
  else if off = 0x120 then some g.mesh.coxRegion.toNat
  else if off = 0x124 then
    some (g.mesh.parity.toNat + 256 * g.mesh.crc.toNat + 65536 * g.mesh.stray.toNat + 2 ^ 24 * g.mesh.unreach.toNat)
  else if 0x200 ≤ off && off < 0x280 then some (leNat (((padTo 128 (Table.get [] s.tier.port r)).drop (off - 0x200)).take 4))
  else if 0x300 ≤ off && off < 0x310 then
    let d := (off - 0x300) / 4
    let q := s.seam r d
    some (flagAt 0 q.hold + flagAt 1 (s.seamPresent r d) + flagAt 2 q.auto)
  else if 0x310 ≤ off && off < 0x320 then
    let q := s.seam r ((off - 0x310) / 4)
    some (q.highWater.toNat + 65536 * q.drops.toNat)
  else none

/-- SEQ_ and RQU_ of a region (R131, R296): the umpire is gated in service mode (R128). -/
def peekSeq (s : State) (r off : Nat) : Option Nat :=
  let g := s.region r
  match off with
  | 0 => some (if !s.boot.debug then 0
      else flagAt 0 g.clk.umpEn + flagAt 1 g.clk.umpHalt + 4 * g.clk.umpChecks.toNat + 65536 * g.clk.umpCount.toNat)
  | 4 => some (g.ref.crabs.toNat + 65536 * g.ref.refusals.toNat)
  | _ => none

/-- A word of a snapshot slot (R755), of the 272 bytes it holds; a free slot reads zero. -/
def snapWord (v : Option Snapshot) (w : Nat) : Nat := match v with
  | none => 0
  | some q =>
    match w with
    | 0 => q.tick.toNat % 2 ^ 32
    | 1 => q.tick.toNat / 2 ^ 32
    | 2 => q.stroke.toNat
    | 3 => q.mask.toNat + 65536 * q.len
    | _ => (q.vals.getD (w - 4) 0).toNat

/-- EVR_ (R755). -/
def peekEvr (s : State) (r off : Nat) : Option Nat :=
  let e := (s.region r).evr
  match off with
  | 0x000 => some (flagAt 0 e.snapMode + 2 * e.snapLen.toNat + 256 * e.snapHoldoff.toNat)
  | 0x004 => some e.snapTrig.toNat
  | 0x008 => some (e.snaps.foldl (fun n p => n + flagAt p.1 p.2.isSome) 0 + 65536 * e.snapDropped.toNat)
  | 0x00C => some 0
  | 0x010 => some (e.evrQ.length + 65536 * e.evrOverflow.toNat)
  | _ =>
    if 0x100 ≤ off && off < 0x200 then some (Table.get 0 e.snapList ((off - 0x100) / 4)).toNat
    else if 0x1000 ≤ off && off < 0x3000 && (off - 0x1000) % 0x200 < 272 then
      some (snapWord (Table.get none e.snaps ((off - 0x1000) / 0x200)) ((off - 0x1000) % 0x200 / 4))
    else none

/-- STK_ and MDT_ of an edge region (R466, R469): `c` is the channel of j = 0, `b` its block. -/
def peekChan (s : State) (r c b off : Nat) : Option Nat :=
  let j := off / 0x100
  if 1 < j then none
  else if off % 0x100 = 0 then some (if s.blockReady r (b + j) then Table.get 0 s.tier.coded (c + j) else 0)
  else if off % 0x100 = 4 then
    some (if s.blockReady r (b + j) then (Table.get 0 s.tier.corrected (c + j)).toNat + 65536 * (Table.get 0 s.tier.rebuilt (c + j)).toNat +
      2 ^ 24 * (Table.get 0 s.tier.lost (c + j)).toNat else 0)
  else none

/-- FLT_ of an edge region (R469). -/
def peekFlt (s : State) (r e off : Nat) : Option Nat :=
  let j := off / 0x100
  let c := 2 * e + j
  if 1 < j || off % 0x100 ≠ 0 then none
  else some (if s.blockReady r (4 + j) then (Table.get 0 s.tier.flashRetries c).toNat + 65536 * (Table.get 0 s.tier.flashSoft c).toNat +
    2 ^ 24 * (Table.get 0 s.tier.flashUnread c).toNat else 0)

/-- TL_ of an edge region (R542, R578): TL_CTL is an enable register and never gated (R646). -/
def peekTl (s : State) (e off : Nat) : Option Nat :=
  if 0x1000 ≤ off then
    let j := (off - 0x1000) / 0x400
    let k := 6 * e + j
    if 5 < j then none else some (if s.linkReady k then (Table.get 0 (s.link k).remote ((off - 0x1000) % 0x400 / 4)).toNat else 0)
  else
    let j := off / 0x100
    let k := 6 * e + j
    let l := s.link k
    let live (n : Nat) : Option Nat := some (if s.linkReady k then n else 0)
    if 5 < j then none
    else match off % 0x100 with
      | 0x00 => some (flagAt 0 l.en + 2 * l.gen.toNat + 8 * l.cls.toNat + flagAt 6 l.pair + flagAt 7 l.isolate)
      | 0x04 => live (l.state % 8 + 8 * l.genAct.toNat + flagAt 5 l.marker + flagAt 6 l.taint + flagAt 7 (s.linkReady k) +
          256 * l.peer.toNat + 65536 * l.flaps.toNat)
      | 0x08 => live (l.published.toNat + 65536 * l.exact_.toNat)
      | 0x0C => live (l.corrected.toNat + 65536 * l.uncorrectable.toNat)
      | 0x10 => live (l.retries.toNat + 65536 * (l.unacked.length % 256) + 2 ^ 24 * l.crcFail.toNat)
      | 0x14 => live (l.alt.toNat + flagAt 7 l.altActive)
      | _ => none

/-- The registers of a tile's control window (R150, R163, R187, R278, R296, R491). -/
def peekTile (x : Tile) (off : Nat) : Option Nat :=
  match off with
  | 0x00 => some (flagAt 0 x.run)
  | 0x04 => some (x.pc.toNat + flagAt 12 x.done + flagAt 13 x.abandon + flagAt 14 x.withheldStat + flagAt 15 x.fetchErr + 65536 * x.idle.toNat)
  | 0x10 => some (x.conflict.toNat + 65536 * x.poisonCnt.toNat)
  | 0x14 => some (x.cacheMask.toNat + flagAt 8 x.walloc)
  | 0x18 => some 0
  | 0x1C => some (flagAt 0 x.cacheBusy + flagAt 1 x.cacheRefused + flagAt 2 x.cacheLost + 65536 * x.misses.toNat)
  | 0x20 => some x.bankPwr.toNat
  | 0x24 => some 0
  | 0x28 => some (flagAt 0 x.pwrRefused + flagAt 1 x.pwrForced + flagAt 2 (x.filling ≠ 0) + 65536 * x.discards.toNat)
  | 0x40 => some 0
  | 0x44 => some 0
  | 0x48 => some x.srCfg.toNat
  | 0x50 => some (flagAt 0 x.chkEn + 256 * x.mapLen.toNat)
  | 0x54 => some x.chkSend.toNat
  | 0x58 => some (flagAt 0 x.held + flagAt 1 x.crab + flagAt 2 x.granted + flagAt 3 x.refused + flagAt 4 x.lateVerdict +
      flagAt 5 x.predicted + 64 * x.level.toNat + 65536 * x.candidate.toNat)
  | 0x5C => some x.sumErrReg.toNat
  | 0x60 => some x.sumRefReg.toNat
  | 0x80 => some (x.patchAddr.toNat + flagAt 12 x.patchGo + flagAt 13 x.patchRefused + 65536 * x.errAddr.toNat)
  | _ => if 0x84 ≤ off && off < 0xA4 && off % 4 = 0 then some (x.patchD.toNat / 2 ^ (8 * (off - 0x84)) % 2 ^ 32) else none

/-- The tile whose control window holds an offset of a region's window (R458), if there is one. -/
def tileAt (r off : Nat) : Option TileId :=
  let n := (off - 0x800000) / 0x400
  if off < 0x800000 || 256 ≤ n || (isEdge r && 128 ≤ n) then none
  else some ⟨BitVec.ofNat 6 r, BitVec.ofNat 4 (n % 16), BitVec.ofNat 4 (n / 16)⟩

/-- The value of the register at an offset of a region's window as a number. -/
def peekNat (s : State) (r off : Nat) : Option Nat :=
  let o := off % 0x10000
  if off % 4 ≠ 0 || 2 ^ 24 ≤ off then none
  else if 0x800000 ≤ off then
    match tileAt r off with
    | none => none
    | some t =>
      match peekTile (s.tile t) (off % 0x400) with
      | none => none
      | some n => some (if (s.tile t).stage.isSome then n else 0)
  else match off / 0x10000 with
    | 0 => peekClk s r o
    | 1 => peekPwr s r o
    | 2 => peekThm s r o
    | 3 => peekEcc s r o
    | 4 => peekMsh s r o
    | 5 => peekSeq s r o
    | 6 => peekEvr s r o
    | b =>
      match edgeIndex r with
      | none => none
      | some e =>
        match b with
        | 8 => peekChan s r (2 * e) 0 o
        | 9 => peekChan s r (32 + 2 * e) 2 o
        | 10 => peekFlt s r e o
        | 11 => peekTl s e o
        | _ => none

/-- The value of the register at an offset of a region's window (R458): none where there is no register, zero in a gated block (R19). -/
def peekReg (s : State) (r off : Nat) : Option Word := (peekNat s r off).map (fun n => BitVec.ofNat 32 n)

end Sys2Proof.Machine
end

