-- ==== Sys2Proof/Machine/Log.lean ====
section
/-! DEFINITION. Event records, rate limits, flushes and region snapshots (chapter 16), and naming an easy-all (R84). -/

namespace Sys2Proof.Machine

/-- The severity of an event code (R759). -/
def eventSev (code : Nat) : Nat :=
  if [0x0100, 0x0103, 0x0200, 0x0201, 0x0203, 0x0204, 0x0302, 0x0305, 0x0306, 0x0600, 0x0702, 0x0705,
      0x0A00, 0x0A01].contains code then 2
  else if [0x0304, 0x0A03].contains code then 3
  else if [0x0001, 0x0002, 0x0010, 0x0303, 0x0405, 0x0406, 0x0500, 0x0501, 0x0701, 0x0900].contains code then 0
  else 1

/-- The limit an override table gives a code, if it has an entry (R742). -/
def overrideOf : Nat → Bytes → Nat → Option Nat
  | 0, _, _ => none
  | n + 1, bs, code =>
    if leNat (bs.take 2) = code && code ≠ 0 then some (leNat ((bs.drop 2).take 2)) else overrideOf n (bs.drop 4) code

/-- Whether a record of `code` and severity `sev` is suppressed now (R740, R742). -/
def State.suppressed (s : State) (code sev : Nat) : Bool :=
  if sev = 3 || code = 2 then false
  else
    let n := (Table.get {} s.log.rates code).recorded
    match overrideOf 64 s.log.overrides code with
    | some 0 => false
    | some l => decide (l ≤ n)
    | none => decide (s.log.limit ≤ n)

/-- A flush starts: it writes every record numbered so far (R744). -/
def State.startFlush (s : State) : State :=
  { s with log := { s.log with flushing := some s.log.newest, lastFlush := s.ms } }

/-- One flash page of at most 256 records is written (R745); a full block is followed by the next, and the oldest of more than 64 full
blocks is erased (R747, log entry 30). -/
def flushPage (l : Recorder) (hi : Nat) : Recorder :=
  let lo := l.flushed + 1
  let last := min hi (l.flushed + 256)
  let rs := (List.range (last + 1 - lo)).map (fun i => Table.get {} l.ring ((lo + i) % 16384))
  let flash := rs.foldl (fun (t : Table Record) (r : Record) => if lo ≤ r.seq && r.seq ≤ last then Table.put {} t r.seq r else t) l.flash
  let l := { l with flash := flash, flushed := last }
  if last ≤ 4096 then l
  else if l.pages + 1 < 1024 then { l with pages := l.pages + 1 }
  else
    let ends := l.blockEnds ++ [last]
    match ends with
    | e :: rest =>
      if 64 < ends.length then
        { l with
          pages := 0
          blockEnds := rest
          erased := e
          flash := l.flash.filter (fun p => decide (p.1 ≤ 4096) || decide (e < p.1)) }
      else { l with pages := 0, blockEnds := ends }
    | [] => { l with pages := 0, blockEnds := ends }

/-- Pages are written until the records up to `hi` are in flash. -/
def flushTo : Nat → Recorder → Nat → Recorder
  | 0, l, _ => l
  | n + 1, l, hi => if hi ≤ l.flushed then l else flushTo n (flushPage l hi) hi

/-- A flush ends (R744, R745). -/
def State.endFlush (s : State) : State :=
  match s.log.flushing with
  | none => s
  | some hi => { s with log := { (flushTo 64 s.log hi) with flushing := none } }

/-- OldestSeq (R761): the lowest SEQ held above the founding area. -/
def State.oldestSeq (s : State) : Nat := if s.log.newest ≤ 4096 then 0 else s.log.erased + 1

/-- A record is exported (R751): an RDMA WRITE on the connection's queue pair, to the record's place in the host buffer. -/
def State.exportRecord (s : State) (r : Record) : State :=
  let e := s.blob 0x503001
  let addr := leNat ((e.drop 8).take 8)
  let len := leNat ((e.drop 16).take 8)
  match (Table.get none s.serve.conns (leNat (e.take 2))).bind (fun c => c.endpoint) with
  | some (.qp n) =>
    let qps := match Table.get none s.host.qps n with
      | some q => Table.put none s.host.qps n (some { q with
          psn := (q.psn + 1) % 2 ^ 24
          out := q.out ++ [{ psn := q.psn }] })
      | none => s.host.qps
    { s with
      host := { s.host with qps := qps }
      log := { s.log with exported := s.log.exported ++ [(addr + 64 * (r.seq % (len / 64)), r)] } }
  | _ => s

/-- Put a numbered record into the ring of both complexes (R743), export it (R751), and start a flush where R744 asks. An unflushed
record that it overwrites is lost (R746). -/
def State.ringPut (s : State) (r : Record) : State :=
  let l := s.log
  let old := r.seq - 16384
  let lost := decide (16384 < r.seq) && decide (l.flushed < old)
  let l := if lost then { l with
    lostFirst := if l.lostCount = 0 then old else l.lostFirst
    lostCount := l.lostCount + 1 } else l
  let s : State := { s with log := { l with ring := Table.put {} l.ring (r.seq % 16384) r, newest := r.seq } }
  let s := if s.log.exportState = 1 then s.exportRecord r else s
  if 2 ≤ r.sev || 8192 ≤ s.log.newest - s.log.flushed then s.startFlush else s

/-- A record reaches Cox: it is rate-limited, numbered and placed in the ring (R737, R740). -/
def State.recordMade (s : State) (r : Record) : State :=
  let rs := Table.get {} s.log.rates r.code
  if s.suppressed r.code r.sev then
    { s with log := { s.log with
        rates := Table.put {} s.log.rates r.code { rs with suppressed := rs.suppressed + 1 }
        suppressedTotal := s.log.suppressedTotal + 1 } }
  else
    let rates := if r.code = 2 then s.log.rates
      else Table.put {} s.log.rates r.code { recorded := rs.recorded + 1, suppressed := 0 }
    let r := { r with seq := s.log.newest + 1, suppressed := if r.code = 2 then 0 else min rs.suppressed 0xFFFF }
    State.ringPut { s with log := { s.log with rates := rates } } r

/-- The record of an event at this moment (R736). -/
def State.mkRecord (s : State) (code region : Nat) (payload : Bytes) : Record :=
  { tick := s.clk.tick, stroke := s.clk.stroke, code := code, region := region, sev := eventSev code,
    boot := s.boot.bootCount % 65536, flags := if s.clk.ticking then 0 else 2, payload := payload }

/-- Cox makes a record itself (R739). -/
def State.event (s : State) (code region : Nat) (payload : Bytes) : State :=
  s.recordMade (s.mkRecord code region payload)

/-- A region's recorder makes a record, which waits to be sent to Cox; a full queue discards and counts it (R738). -/
def State.regionEvent (s : State) (r code : Nat) (payload : Bytes) : State :=
  let rec_ := s.mkRecord code r payload
  s.updEvr r (fun e =>
    if e.evrQ.length < 64 then { e with evrQ := e.evrQ ++ [rec_] }
    else { e with evrOverflow := satAdd e.evrOverflow 1, evrLost := e.evrLost + 1 })

/-- The values a snapshot samples: the first LEN registers of the list; absent or gated ones are zero (R752, R753). -/
def State.snapVals (s : State) (r : Nat) : List Word :=
  let e := (s.region r).evr
  (List.range e.snapLen.toNat).map (fun i =>
    match peekReg s r (Table.get 0 e.snapList i).toNat with
    | some w => w
    | none => 0)

/-- The record of a snapshot taken or dropped (R754, code 0x0010). -/
def snapPayload (slot : Nat) (mask : BitVec 16) (vals : List Word) : Bytes :=
  natLE 1 slot ++ natLE 2 mask.toNat ++ (padTo 20 ((vals.take 5).flatMap (fun w => natLE 4 w.toNat)))

/-- The oldest full slot of a region's snapshots, by its order of filling. -/
def oldestSnap : Table (Option Snapshot) → Option (Nat × Nat)
  | [] => none
  | (k, some v) :: t => match oldestSnap t with
    | some (k', o) => if v.order < o then some (k, v.order) else some (k', o)
    | none => some (k, v.order)
  | (_, none) :: t => oldestSnap t

/-- Triggers fire in region `r` (R752-R755): those enabled and not held off take one snapshot between them, merged
into the snapshot of the same tick when there is one (R760); without a free slot MODE decides. -/
def State.trigger (s : State) (r : Nat) (fired : BitVec 16) : State :=
  let e := (s.region r).evr
  let now := s.clk.tick
  let held (i : Nat) : Bool :=
    match Table.get 0 e.snapLast i with
    | 0 => false
    | t + 1 => decide (now.toNat < t + e.snapHoldoff.toNat)
  let fired := (List.range 12).foldl (fun m i =>
    if fired.getLsbD i && e.snapTrig.getLsbD i && !held i then m ||| (1#16 <<< i) else m) 0#16
  if fired = 0 then s
  else
    let marks := (List.range 12).foldl (fun t i => if fired.getLsbD i then Table.put 0 t i (now.toNat + 1) else t) e.snapLast
    let same := e.snaps.find? (fun p => match p.2 with
      | some v => decide (v.tick = now) && decide (v.order = e.snapOrder)
      | none => false)
    match same with
    | some (k, some v) =>
      s.updEvr r (fun e => { e with snapLast := marks, snaps := Table.put none e.snaps k (some { v with mask := v.mask ||| fired }) })
    | _ =>
      let free := (List.range 16).find? (fun i => Table.get none e.snaps i = none)
      let slot := match free with
        | some i => some i
        | none => if e.snapMode then (oldestSnap e.snaps).map (·.1) else none
      match slot with
      | some i =>
        let vals := s.snapVals r
        let snap : Snapshot := { tick := now, stroke := s.clk.stroke.setWidth 32, mask := fired, len := e.snapLen.toNat,
                                 vals := vals, order := e.snapOrder + 1 }
        let s := s.updEvr r (fun e => { e with snapLast := marks, snapOrder := e.snapOrder + 1,
                                               snaps := Table.put none e.snaps i (some snap) })
        s.regionEvent r 0x0010 (snapPayload i fired vals)
      | none =>
        let s := s.updEvr r (fun e => { e with snapDropped := satAdd e.snapDropped 1 })
        s.regionEvent r 0x0010 (snapPayload 0xFF fired [])

/-- Bit `n` of a trigger mask. -/
def trig (n : Nat) : BitVec 16 := 1#16 <<< n

/-- Name an easy-all: it enters at the stroke given, or at the next catch (R84). -/
def State.nameEasy (s : State) (cause : Nat) (clearing : Bool) (at_ : Option (BitVec 48)) : State :=
  { s with clk := { s.clk with named := s.clk.named ++ [{ cause := cause, clearing := clearing, at_ := at_ }] } }

/-- The stroke Cox names when it chooses one itself: the step-change lead of 0x2100.07 ahead (R67, R84). -/
def State.nameStroke (s : State) : BitVec 48 := s.clk.stroke + BitVec.ofNat 48 (max 4 (s.dictNat 0x210007))

/-- An extreme: number, value, whether a higher value is the more extreme (R757). -/
def State.extreme (s : State) (n : Nat) (v : Int) (higher : Bool) (region : Nat) : State :=
  let take := match Table.get none s.log.extremes n with
    | none => true
    | some (old, _, _) => if higher then decide (old < v) else decide (v < old)
  if take then { s with log := { s.log with extremes := Table.put none s.log.extremes n (some (v, s.clk.tick, region)) } }
  else s

/-- The bin of a log2 histogram (R756). -/
def log2Bin (v : Nat) : Nat := if v = 0 then 0 else min 31 (Nat.log2 v + 1)

/-- The bin of a linear histogram with base b and width w (R756). -/
def linBin (b w v : Nat) : Nat := min 31 ((v - b) / w)

/-- Count a value into a bin of histogram 0x5100.`h`. -/
def State.histAdd (s : State) (h bin : Nat) : State :=
  let k := 32 * (h - 1) + bin
  { s with log := { s.log with hist := Table.put 0 s.log.hist k (Table.get 0 s.log.hist k + 1) } }

/-- Add one to a stage counter (R757), saturating: `which` 0 checked, 1 crabs, 2 refusals, 3 fallbacks. -/
def State.stageCount (s : State) (stage which : Nat) : State :=
  let k := 4 * stage + which
  let v := Table.get 0 s.log.stageCnt k
  { s with log := { s.log with stageCnt := Table.put 0 s.log.stageCnt k (min 0xFFFFFFFF (v + 1)) } }

end Sys2Proof.Machine
end

