-- ==== Sys2Proof/Machine/Code.lean ====
section
/-! DEFINITION. The word code (R476, R477), the page code (R478) and CRC-16 (R506). -/

namespace Sys2Proof.Machine

/-- Columns h_0 to h_63 (R476). -/
def hCols0 : List Nat :=
  [7, 11, 13, 14, 19, 21, 22, 25, 26, 28, 35, 37, 38, 41, 42, 44,
   49, 50, 52, 56, 67, 69, 70, 73, 74, 76, 81, 82, 84, 88, 97, 98,
   100, 104, 112, 131, 133, 134, 137, 138, 140, 145, 146, 148, 152, 161, 162, 164,
   168, 176, 193, 194, 196, 200, 208, 224, 259, 261, 262, 265, 266, 268, 273, 274]

/-- Columns h_64 to h_127 (R476). -/
def hCols1 : List Nat :=
  [276, 280, 289, 290, 292, 296, 304, 321, 322, 324, 328, 336, 352, 385, 386, 388,
   392, 400, 416, 448, 515, 517, 518, 521, 522, 524, 529, 530, 532, 536, 545, 546,
   548, 552, 560, 577, 578, 580, 584, 592, 608, 641, 642, 644, 648, 656, 672, 704,
   769, 770, 772, 776, 784, 800, 832, 896, 31, 47, 55, 59, 61, 62, 79, 87]

/-- Columns h_128 to h_191 (R476). -/
def hCols2 : List Nat :=
  [91, 93, 94, 103, 107, 109, 110, 115, 117, 118, 121, 122, 124, 143, 151, 155,
   157, 158, 167, 171, 173, 174, 179, 181, 182, 185, 186, 188, 199, 203, 205, 206,
   211, 213, 214, 217, 218, 220, 227, 229, 230, 233, 234, 236, 241, 242, 244, 248,
   271, 279, 283, 285, 286, 295, 299, 301, 302, 307, 309, 310, 313, 314, 316, 327]

/-- Columns h_192 to h_255 (R476). -/
def hCols3 : List Nat :=
  [331, 333, 334, 339, 341, 342, 345, 346, 348, 355, 357, 358, 361, 362, 364, 369,
   370, 372, 376, 391, 395, 397, 398, 403, 405, 406, 409, 410, 412, 419, 421, 422,
   425, 426, 428, 433, 434, 436, 440, 451, 453, 454, 457, 458, 460, 465, 466, 468,
   472, 481, 482, 484, 488, 496, 527, 535, 539, 541, 542, 551, 555, 557, 558, 563]

/-- The columns h_0 to h_255: the 120 values of weight 3, then the first 136 of weight 5, each ascending (R476). -/
def hCols : List Nat := hCols0 ++ hCols1 ++ hCols2 ++ hCols3

/-- XOR of the columns of the set bits of `w`, from its bit 0. -/
def xorCols : List Nat → Nat → Nat
  | [], _ => 0
  | c :: cs, w => Nat.xor (if w % 2 = 1 then c else 0) (xorCols cs (w / 2))

/-- The check bits of a 32-byte word (R476); data bit i is bit i of the little-endian value. -/
def checkBits (w : BitVec 256) : BitVec 10 := BitVec.ofNat 10 (xorCols hCols w.toNat)

/-- The outcome of reading a word (R477): BIT 0-255 a data bit, 256-265 a check bit. -/
inductive WordOutcome where
  | good
  | corrected (bit : Nat)
  | bad
  deriving DecidableEq, Repr

/-- The outcome of a syndrome (R477). -/
def syndromeOutcome (syn : BitVec 10) : WordOutcome :=
  if syn = 0 then .good
  else match hCols.findIdx? (fun c => c = syn.toNat) with
    | some i => .corrected i
    | none => match (List.range 10).find? (fun j => 2 ^ j = syn.toNat) with
      | some j => .corrected (256 + j)
      | none => .bad

/-- A word as read: corrected data, the stored data where uncorrectable (R148, R477, R149). -/
def decodeWord (w : BitVec 256) (chk : BitVec 10) : BitVec 256 × WordOutcome :=
  let o := syndromeOutcome (chk ^^^ checkBits w)
  match o with
  | .corrected i => (if i < 256 then w ^^^ (1#256 <<< i) else w, o)
  | _ => (w, o)

/-- Multiply each of the 32 byte lanes by alpha = 2 in GF(2^8) with x^8 + x^4 + x^3 + x^2 + 1 (R478). -/
def gfDouble (x : BitVec 256) : BitVec 256 :=
  let lo : BitVec 256 := 0x7f7f7f7f7f7f7f7f7f7f7f7f7f7f7f7f7f7f7f7f7f7f7f7f7f7f7f7f7f7f7f7f#256
  let one : BitVec 256 := 0x0101010101010101010101010101010101010101010101010101010101010101#256
  ((x &&& lo) <<< 1) ^^^ (((x >>> 7) &&& one) * 0x1d#256)

/-- The contribution alpha^w x of page word `w` (R478, R479). -/
def gfPow : Nat → BitVec 256 → BitVec 256
  | 0, x => x
  | n + 1, x => gfDouble (gfPow n x)

/-- The page check bytes of a page's words in order (R478), by Horner's rule. -/
def pageCheck : List (BitVec 256) → BitVec 256
  | [] => 0
  | w :: ws => w ^^^ gfDouble (pageCheck ws)

/-- Multiply the lanes by alpha^-1: alpha^254. -/
def gfDivPow (n : Nat) (x : BitVec 256) : BitVec 256 := gfPow (255 - n % 255) x

/-- The word of a page at position `i`, recomputed from the others and the check bytes (R482). -/
def rebuildWord (ws : List (BitVec 256)) (i : Nat) (chk : BitVec 256) : BitVec 256 :=
  gfDivPow i (chk ^^^ pageCheck (ws.set i 0))

/-- `n` bits of a division by the polynomial 0x1021, most significant bit first, on a 16-bit remainder (R506). -/
def crcStep : Nat → Nat → Nat
  | 0, c => c
  | n + 1, c => crcStep n (if c < 0x8000 then 2 * c else (2 * c) ^^^ 0x11021)

/-- CRC-16 of bytes onto a remainder (R506). The match has a kernel evaluate the remainder byte by byte. -/
def crcNat : Bytes → Nat → Nat
  | [], c => c
  | b :: bs, c =>
    match crcStep 8 (c ^^^ (256 * b.toNat)) with
    | 0 => crcNat bs 0
    | n + 1 => crcNat bs (n + 1)

/-- CRC-16 of bytes, initial value 0xFFFF (R506). -/
def crc16 (bs : Bytes) : BitVec 16 := BitVec.ofNat 16 (crcNat bs 0xFFFF)

end Sys2Proof.Machine
end

