-- ==== Sys2Proof/Machine/Words.lean ====
section
/-! DEFINITION. The 128 bytes of a tensor link's blocks: checks, control words, hails and markers (R537, R538, R546, R547, R552, R557). -/

namespace Sys2Proof.Machine

/-- A block passes its CRC-16 (R538): bytes 126-127, over bytes 0-125. -/
def blockCrcOk (b : Bytes) : Bool := decide (leNat (slice b 126 2) = (crc16 (b.take 126)).toNat)

/-- A checked block of the bytes given, zeros after them and the CRC-16 last (R538). -/
def blockOf (b : Bytes) : Bytes := padTo 126 b ++ natLE 2 (crc16 (padTo 126 b)).toNat

/-- The number of a control word's kind (R547). -/
def CtlWord.kind : CtlWord → Nat
  | .hail _ => 1
  | .ack => 2
  | .heartbeat _ => 3
  | .halt _ _ => 4
  | .resume _ _ _ _ _ => 5
  | .stake _ _ _ _ _ _ => 6
  | .strokeChange _ _ _ _ => 7
  | .modeReport _ _ => 8
  | .modeChange _ _ _ => 9
  | .rerequest _ _ => 10
  | .bulkNak _ _ _ => 11
  | .bulkAck _ _ => 12
  | .probe _ _ _ => 13
  | .takeover _ => 14

/-- The payload of a hail (R552), from offset 8. -/
def hailBytes (h : Hail) : Bytes :=
  natLE 16 h.serial.toNat ++ [h.stepping, h.role, h.link, h.gens] ++ natLE 4 h.regattaId.toNat ++ [h.hop, h.pairState, 0, 0] ++
    natLE 8 h.planId.toNat ++ natLE 8 h.epoch.toNat ++ natLE 8 h.tick.toNat ++ natLE 6 h.stroke.toNat ++ [h.easy]

/-- The payload of a control word (R547): its fields one after another, in the table's order (log entry 61). -/
def CtlWord.payload : CtlWord → Bytes
  | .hail h => hailBytes h
  | .ack => []
  | .heartbeat b => natLE 8 b
  | .halt serial stroke => natLE 16 serial.toNat ++ natLE 8 stroke
  | .resume tick s f step stroke => natLE 8 tick ++ natLE 2 s ++ natLE 2 f ++ natLE 1 step ++ natLE 8 stroke
  | .stake tick first stroke s f step => natLE 8 tick ++ natLE 8 first ++ natLE 8 stroke ++ natLE 2 s ++ natLE 2 f ++ natLE 1 step
  | .strokeChange stroke s f step => natLE 8 stroke ++ natLE 2 s ++ natLE 2 f ++ natLE 1 step
  | .modeReport stroke vs => natLE 8 stroke ++ (vs.take 16).flatMap (fun v => natLE 1 v.1 ++ natLE 1 v.2)
  | .modeChange stroke fall wide => natLE 8 stroke ++ natLE 16 fall.toNat ++ natLE 2 wide
  | .rerequest shard fails => natLE 4 shard ++ natLE 1 fails
  | .bulkNak kind object segment => natLE 1 kind ++ natLE 8 object ++ natLE 4 segment
  | .bulkAck kind object => natLE 1 kind ++ natLE 8 object
  | .probe n reply turn => natLE 1 n ++ natLE 1 (if reply then 1 else 0) ++ natLE 4 turn
  | .takeover serial => natLE 16 serial.toNat

/-- The block of a control word (R546). -/
def wordBlock (seq ack : BitVec 16) (w : CtlWord) : Bytes :=
  blockOf (natLE 1 w.kind ++ [0] ++ natLE 2 seq.toNat ++ natLE 2 ack.toNat ++ [0, 0] ++ w.payload)

/-- The SEQ and the ACK of a control word (R546). -/
def wordSeq (b : Bytes) : BitVec 16 := BitVec.ofNat 16 (fieldNat b 2 2)
def wordAck (b : Bytes) : BitVec 16 := BitVec.ofNat 16 (fieldNat b 4 2)

/-- A stroke number of a control word: the 48 bits that stroke numbers have of a U64 (R57, R547). -/
def wordStroke (b : Bytes) (i : Nat) : BitVec 48 := BitVec.ofNat 48 (fieldNat b i 8)

/-- S, F and the step, from their offset in a control word (R547). -/
def wordLen (b : Bytes) (i : Nat) : BitVec 16 := BitVec.ofNat 16 (fieldNat b i 2)
def wordFin (b : Bytes) (i : Nat) : BitVec 16 := BitVec.ofNat 16 (fieldNat b (i + 2) 2)
def wordStep (b : Bytes) (i : Nat) : BitVec 4 := BitVec.ofNat 4 (fieldNat b (i + 4) 1)

/-- A serial in a control word (R547). -/
def wordSerial (b : Bytes) : BitVec 128 := BitVec.ofNat 128 (fieldNat b 8 16)

/-- The pairs of stage and verdict of a mode report (R547): up to 16, the first always, and then those up to the last that is not all
zeros (log entry 61). -/
def reportPairs (b : Bytes) : List (Nat × Nat) :=
  let all := (List.range 16).map (fun i => (fieldNat b (16 + 2 * i) 1, fieldNat b (17 + 2 * i) 1))
  all.take 1 ++ ((all.drop 1).reverse.dropWhile (fun v => decide (v = (0, 0)))).reverse

/-- What a control word holds as a hail (R552). -/
def hailIn (b : Bytes) : Hail :=
  { serial := BitVec.ofNat 128 (fieldNat b 8 16)
    stepping := BitVec.ofNat 8 (fieldNat b 24 1)
    role := BitVec.ofNat 8 (fieldNat b 25 1)
    link := BitVec.ofNat 8 (fieldNat b 26 1)
    gens := BitVec.ofNat 8 (fieldNat b 27 1)
    regattaId := BitVec.ofNat 32 (fieldNat b 28 4)
    hop := BitVec.ofNat 8 (fieldNat b 32 1)
    pairState := BitVec.ofNat 8 (fieldNat b 33 1)
    planId := BitVec.ofNat 64 (fieldNat b 36 8)
    epoch := BitVec.ofNat 64 (fieldNat b 44 8)
    tick := BitVec.ofNat 64 (fieldNat b 52 8)
    stroke := BitVec.ofNat 48 (fieldNat b 60 6)
    easy := BitVec.ofNat 8 (fieldNat b 66 1) }

/-- The block of a stroke marker (R557). -/
def markerBlock (m : Marker) : Bytes :=
  blockOf (natLE 8 m.tick.toNat ++ natLE 6 m.stroke.toNat ++ [m.hop, m.easy] ++ natLE 4 m.regattaId.toNat)

/-- What a block holds as a stroke marker (R557). -/
def markerIn (b : Bytes) : Marker :=
  { tick := BitVec.ofNat 64 (fieldNat b 0 8)
    stroke := BitVec.ofNat 48 (fieldNat b 8 6)
    hop := BitVec.ofNat 8 (fieldNat b 14 1)
    easy := BitVec.ofNat 8 (fieldNat b 15 1)
    regattaId := BitVec.ofNat 32 (fieldNat b 16 4) }

end Sys2Proof.Machine
end

