-- ==== Sys2Proof/Machine/LinkOps.lean ====
section
/-! DEFINITION. What every part may do with the tensor links: the roles in a regatta, control words and hails sent
(R546-R566). -/

namespace Sys2Proof.Machine

/-- Change a tensor link. -/
def State.updLink (s : State) (k : Nat) (f : Link → Link) : State :=
  { s with links := { s.links with links := Table.put {} s.links.links k (f (s.link k)) } }

/-- Change links, partners, regatta and pair. -/
def State.updLinks (s : State) (f : Links → Links) : State := { s with links := f s.links }

/-- Links that are up (TL_STAT.STATE 2), ascending. -/
def State.upLinks (s : State) : List Nat := (List.range 96).filter (fun k => (s.link k).state = 2)

/-- The partner that hails on a link. -/
def State.partnerOn (s : State) (k : Nat) : Option Partner := s.links.partners.find? (fun p => decide (k < 96) && p.links.getLsbD k)

/-- The serial in an entry of a regatta map (R555). -/
def mapAt (bs : Bytes) (m : Nat) : BitVec 128 := BitVec.ofNat 128 (leNat ((bs.drop (16 * m)).take 16))

/-- The serial in an entry of the regatta map in force (R555). -/
def State.mapSerial (s : State) (m : Nat) : BitVec 128 := mapAt s.links.map m

/-- The depth of the marker tree (R555, R556): the largest HOP of this module and of the members in its partner table. -/
def State.regattaDepth (s : State) : Nat :=
  if !s.inRegatta then 0
  else
    let hops := (s.links.partners.filter (fun p => p.state = .member)).map (fun p => p.hail.hop.toNat)
    (s.links.hop :: hops).foldl (fun n h => if h = 0xFF then n else max n h) 0

/-- Up links to members of the regatta. -/
def State.memberLinks (s : State) : List Nat :=
  s.upLinks.filter (fun k => match s.partnerOn k with
    | some p => decide (p.state = .member)
    | none => false)

/-- The links to this module's children in the tree (log entry 23): every member link of the root, and of a member those
other than its parent whose module stands no nearer the root. -/
def State.children (s : State) : List Nat :=
  if s.isRoot then s.memberLinks
  else s.memberLinks.filter (fun k => some k ≠ s.links.parent && (match s.partnerOn k with
    | some p => decide (s.links.hop < p.hail.hop.toNat)
    | none => false))

/-- This module's links in the tree: its parent and its children. -/
def State.treeLinks (s : State) : List Nat :=
  (match s.links.parent with
    | some k => [k]
    | none => []) ++ s.children

/-- A partner may be sent a control word (R554): a bench partner only hails and kinds 2, 11 and 12. -/
def State.mayWord (s : State) (k kind : Nat) : Bool :=
  match s.partnerOn k with
  | some p => p.state ≠ .bench || [1, 2, 11, 12].contains kind
  | none => [1, 13].contains kind

/-- The SEQ after one (R546): 65,535 wraps to 1. -/
def nextSeq (q : BitVec 16) : BitVec 16 := if q = 0xFFFF then 1 else q + 1

/-- The words that wait are sent as far as the 64 unacknowledged allow (R548), oldest first. -/
def drainWords : Nat → Link → Link
  | 0, l => l
  | n + 1, l =>
    match l.waiting with
    | [] => l
    | w :: rest =>
      if 64 ≤ l.unacked.length then l
      else drainWords n { l with
        waiting := rest
        unacked := l.unacked ++ [{ seq := l.seq, word := w }]
        seq := nextSeq l.seq
        out := l.out ++ [.block 4 (wordBlock l.seq l.ack w)] }

/-- Send a control word on an up link, or a probe on one in training (R546, R548, R550, R554); kinds 1, 2 and 3 carry SEQ 0. -/
def State.sendWord (s : State) (k : Nat) (w : CtlWord) : State :=
  if !((s.link k).state = 2 || ((s.link k).state = 1 && w.kind = 13)) || !s.mayWord k w.kind then s
  else s.updLink k (fun l =>
    if w.kind ≤ 3 then { l with out := l.out ++ [.block 4 (wordBlock 0 l.ack w)] }
    else drainWords 64 { l with waiting := l.waiting ++ [w] })

/-- Send a control word on several links. -/
def State.sendWords (s : State) (ks : List Nat) (w : CtlWord) : State := ks.foldl (fun (s : State) k => s.sendWord k w) s

/-- The hail this module sends on a link (R552), TICK and STROKE as they now stand. -/
def State.hailOf (s : State) (k : Nat) : Hail :=
  let role := if s.isRoot then 1 else if s.isMember then 2
    else if [1, 2, 3].contains s.links.pairState then 3 else if [4, 5].contains s.links.pairState then 4 else 0
  { serial := s.ident.serial
    stepping := match s.ident.stepping with
      | .a1 => 0xA1
      | .b0 => 0xB0
    role := BitVec.ofNat 8 role
    link := BitVec.ofNat 8 k
    gens := if (s.link k).gen = 1 then 1 else if (s.link k).gen = 2 then 2 else 3
    regattaId := s.links.regattaId
    hop := BitVec.ofNat 8 (if s.isRoot then 0 else if s.isMember then s.links.hop else 0xFF)
    pairState := BitVec.ofNat 8 s.links.pairState
    planId := match s.boot.plan with
      | some p => p.digest.setWidth 64
      | none => 0
    epoch := s.weights.epoch
    tick := s.clk.tick
    stroke := s.clk.stroke
    easy := BitVec.ofNat 8 s.clk.easy }

/-- Send a hail on an up link. -/
def State.sendHail (s : State) (k : Nat) : State :=
  s.sendWord k (.hail (s.hailOf k))

/-- The block of a bulk header (R544). -/
def bulkHeaderBlock (h : BulkHeader) : Bytes :=
  blockOf (natLE 1 h.kind ++ natLE 1 h.count ++ natLE 2 h.lastBytes ++ natLE 4 h.segment ++ natLE 8 h.object.toNat ++ natLE 8 h.offset ++
    natLE 8 h.total)

/-- Bytes of a full segment: 48 data blocks (R544). -/
def segmentSize : Nat := 48 * 128

/-- Segment `n` of an object given by its bytes (R544): its header and its data blocks, 48 of them but in the last (log entry 64). -/
def segmentOut (kind object : Nat) (bytes : Bytes) (n : Nat) : List LinkOut :=
  let part := (bytes.drop (segmentSize * n)).take segmentSize
  let count := ceilDiv part.length 128
  let h : BulkHeader := { kind := kind, count := count, lastBytes := part.length - 128 * (count - 1), segment := n,
                          object := BitVec.ofNat 64 object, offset := segmentSize * n, total := bytes.length }
  .block 6 (bulkHeaderBlock h) :: (chunksOf 128 count part).map (fun b => .block 2 (padTo 128 b))

/-- What a link sends of a bulk object (R544): its segments; one whose bytes the spec does not lay out stands as one item (log entry 64). -/
def objectOut (kind object : Nat) : Option Bytes → List LinkOut
  | some b => (List.range (ceilDiv b.length segmentSize)).flatMap (segmentOut kind object b)
  | none => [.bulk kind object 0]

/-- A bulk object goes out on a link. -/
def State.sendObject (s : State) (k kind object : Nat) (bytes : Option Bytes) : State :=
  s.updLink k (fun l => { l with out := l.out ++ objectOut kind object bytes })

/-- The edge region that holds a tensor link (R23). -/
def linkRegion (k : Nat) : Nat := [0, 1, 2, 3, 12, 21, 22, 31, 32, 41, 42, 51, 60, 61, 62, 63].getD (k / 6) 0

/-- The fields of a remote delivery table entry in a head (R542, R578). -/
def redirect (w : Word) (h : FlitHead) : FlitHead :=
  { h with dreg := BitVec.ofNat 6 (bits w 0 6), dx := BitVec.ofNat 4 (bits w 6 4), dy := BitVec.ofNat 4 (bits w 10 4),
           dkind := BitVec.ofNat 2 (bits w 14 2) }

/-- The links of a pair (R568): those of 0x6200.02 marked in TL_CTL.PAIR. -/
def State.pairLinks (s : State) : List Nat := s.upLinks.filter (fun k => (s.link k).pair)

/-- Links to members, those nearest the root first, then by number (R556). -/
def State.rankedLinks (s : State) : List Nat :=
  sortBy (fun k => match s.partnerOn k with
    | some p => p.hail.hop.toNat
    | none => 0xFF) s.memberLinks

/-- A member takes its parent, standby parent and HOP (R556): the smallest HOP hailed, but once it is aligned a parent that is up
stays (log entry 27). -/
def State.chooseParent (s : State) : State :=
  if !s.isMember then s.updLinks (fun l => { l with parent := none, standby := none, hop := if s.isRoot then 0 else 0xFF })
  else
    let ks := s.rankedLinks
    let parent := match s.links.parent with
      | some k => if s.links.aligned && ks.contains k then some k else ks.head?
      | none => ks.head?
    let hop := match parent.bind s.partnerOn with
      | some p => min 0xFF (p.hail.hop.toNat + 1)
      | none => 0xFF
    s.updLinks (fun l => { l with parent := parent, standby := (ks.filter (fun k => some k ≠ parent)).head?, hop := hop })

/-- A serial is named by the regatta map of the plan in service (R555). -/
def State.namedMember (s : State) (serial : BitVec 128) : Bool :=
  match s.boot.plan with
  | some p => decide (1 < p.members) && (List.range p.members).any (fun m => s.mapSerial m = serial)
  | none => false

/-- The pair partner's serial (R568), 0 for none. -/
def State.pairSerial (s : State) : BitVec 128 := BitVec.ofNat 128 (leNat (s.blob 0x620001))

/-- Ticks the root allows for a word to reach every member and act (R560, R562): 2 D + 1,024 with D taken as its bound,
six hops of the longest delay a link may train at (log entry 23). -/
def State.treeTicks (s : State) : Nat := 2 * (6 * s.dictNat 0x600004) + 1024

end Sys2Proof.Machine
end

