-- ==== Sys2Proof/Machine/Message.lean ====
section
/-! DEFINITION. The bytes of the token service's messages (R423, R429-R440) and of source records (R385, R719). -/

namespace Sys2Proof.Machine

/-- The header at the start of a unit's remaining bytes (R423). -/
def headerOf (u : Bytes) : MsgHeader :=
  { magic := BitVec.ofNat 16 (fieldNat u 0 2)
    version := BitVec.ofNat 8 (fieldNat u 2 1)
    type := BitVec.ofNat 8 (fieldNat u 3 1)
    length := fieldNat u 4 2
    tag := BitVec.ofNat 16 (fieldNat u 6 2)
    seq := BitVec.ofNat 32 (fieldNat u 8 4) }

/-- The header of a message that has arrived. -/
def arrivedHeader (a : Arrival) : MsgHeader := headerOf a.unit

/-- The connection tag a message carries. -/
def arrivedTag (a : Arrival) : Nat := (arrivedHeader a).tag.toNat

/-- REQUEST_ID, at offset 16 of every message (R430, R439, R440). -/
def arrivedId (a : Arrival) : BitVec 64 := BitVec.ofNat 64 (fieldNat a.unit 16 8)

/-- U32 values that stand one after another. -/
def wordsOf (bs : Bytes) : List Word := (chunksOf 4 (bs.length / 4) bs).map (fun b => BitVec.ofNat 32 (leNat b))

/-- A request or resume (R430); a reserved byte is one that the table or the header calls so, and a stop place past STOP_COUNT. -/
def requestOf (u : Bytes) : RequestMsg :=
  let n := fieldNat u 34 1
  let count := fieldNat u 68 4
  { requestId := BitVec.ofNat 64 (fieldNat u 16 8)
    seed := BitVec.ofNat 64 (fieldNat u 24 8)
    cls := fieldNat u 32 1
    flags := BitVec.ofNat 8 (fieldNat u 33 1)
    stopCount := n
    reservedSet := !(zeroField u 12 4 && zeroField u 35 1 && zeroField u 38 2 && (8 < n || zeroField u (72 + 4 * n) (32 - 4 * n)))
    topK := fieldNat u 36 2
    temperature := BitVec.ofNat 32 (fieldNat u 40 4)
    topP := BitVec.ofNat 32 (fieldNat u 44 4)
    minP := BitVec.ofNat 32 (fieldNat u 48 4)
    maxNew := fieldNat u 52 4
    adapter := BitVec.ofNat 32 (fieldNat u 56 4)
    promptTotal := fieldNat u 60 4
    promptOffset := fieldNat u 64 4
    promptCount := count
    stopIds := wordsOf (slice u 72 32)
    tokens := wordsOf (slice u 104 (4 * count)) }

/-- The type of a message the module sends (R429). -/
def outType : OutMsg → Nat
  | .tokens .. => 2
  | .notice .. => 2
  | .completion .. => 3
  | .handOff .. => 7

/-- The bytes of a message after its header (R434, R435, R437, R440). FIRST_INDEX, EPOCH and STROKE of a notice, which has no entry, are
open. -/
def outBody : OutMsg → Bytes
  | .tokens id turn first epoch stroke es =>
    natLE 8 id.toNat ++ natLE 2 turn.toNat ++ natLE 2 0 ++ natLE 4 first ++ natLE 8 epoch.toNat ++ natLE 4 stroke.toNat ++
      natLE 1 es.length ++ natLE 3 0 ++ es.flatMap (fun e => natLE 4 e.1.toNat ++ natLE 1 e.2.toNat ++ natLE 3 0)
  | .notice id turn status detail rest =>
    natLE 8 id.toNat ++ natLE 2 turn.toNat ++ [status, detail] ++ natLE 16 rest.toNat ++ natLE 4 0
  | .completion id turn reason flags detail tokens prompt prefix_ epoch check queue first =>
    natLE 8 id.toNat ++ natLE 2 turn.toNat ++ [reason, flags] ++ natLE 2 detail.toNat ++ natLE 2 0 ++ natLE 4 tokens ++ natLE 4 prompt ++
      natLE 4 prefix_ ++ natLE 4 0 ++ natLE 8 epoch.toNat ++ natLE 8 check.toNat ++ natLE 4 queue ++ natLE 4 first
  | .handOff id kind result serial next turn =>
    natLE 8 id.toNat ++ [kind, result] ++ natLE 6 0 ++ natLE 16 serial.toNat ++ natLE 4 next ++ natLE 2 turn.toNat ++ natLE 2 0

/-- The bytes of a message on the wire (R429). -/
def msgBytes (m : OutMsg) : Nat := 16 + (outBody m).length

/-- A message the module sends, with its header (R423, R426). -/
def wireBytes (tag : Nat) (m : Word × OutMsg) : Bytes :=
  natLE 2 0x5754 ++ natLE 1 1 ++ natLE 1 (outType m.2) ++ natLE 2 (msgBytes m.2) ++ natLE 2 tag ++ natLE 4 m.1.toNat ++ natLE 4 0 ++
    outBody m.2

/-- The source record of a swap, an adapter registration or a firmware update (R385), or of a plan load (R719), from its bytes. -/
def parseSource (plan : Bool) (bs : Bytes) : SourceRecord :=
  let k := if plan then 0 else 1
  { kind := fieldNat bs 0 1
    slot := fieldNat bs 1 1
    connection := fieldNat bs 2 2
    rkey := fieldNat bs 4 4
    address := fieldNat bs 8 8
    length := fieldNat bs 16 8
    connections := fieldNat bs 24 1
    reservedSet := !zeroField bs 25 7 || !zeroField bs 35 5
    policy := if plan then 0 else fieldNat bs 32 1
    flags := fieldNat bs (32 + k) 1
    targetSlot := fieldNat bs (33 + k) 1
    imageSlot := if plan then fieldNat bs 34 1 else 0
    stroke := fieldNat bs 40 8 }

end Sys2Proof.Machine
end

