-- ==== Sys2Proof/Machine/Conn.lean ====
section
/-! DEFINITION. Connections of the token service, the messages sent on them, and the request table (R395, R421-R437). -/

namespace Sys2Proof.Machine

/-- The state with its serving part changed. -/
def State.updServe (s : State) (f : Serving → Serving) : State := { s with serve := f s.serve }

/-- The state with Cox's tables changed. -/
def State.updTables (s : State) (f : Tables → Tables) : State := s.updServe (fun v => { v with t := f v.t })

/-- The request-table entry of a request ID. -/
def State.req (s : State) (id : BitVec 64) : Option Request := s.serve.t.reqs.find? (fun r => r.id = id)

/-- Replace the entry of a request. -/
def State.setReq (s : State) (r : Request) : State :=
  s.updTables (fun t => { t with reqs := t.reqs.map (fun q => if q.id = r.id then r else q) })

/-- Change the entry of a request. -/
def State.updReq (s : State) (id : BitVec 64) (f : Request → Request) : State :=
  s.updTables (fun t => { t with reqs := t.reqs.map (fun q => if q.id = id then f q else q) })

/-- Free the entry of a request (R395). -/
def State.dropReq (s : State) (id : BitVec 64) : State :=
  s.updTables (fun t => { t with reqs := t.reqs.filter (fun q => q.id ≠ id) })

/-- The connection of a tag. -/
def State.conn (s : State) (tag : Nat) : Option Conn := Table.get none s.serve.conns tag

/-- Put or remove a connection. -/
def State.setConn (s : State) (tag : Nat) (c : Option Conn) : State :=
  s.updServe (fun v => { v with conns := Table.put none v.conns tag c })

/-- Send a message on a connection (R426, R428): it takes the next SEQ and waits for the finish; while the connection is
detached it is dropped. -/
def State.sendMsg (s : State) (tag : Nat) (m : OutMsg) : State :=
  match s.conn tag with
  | some c =>
    if c.endpoint.isSome then s.setConn tag (some { c with seq := c.seq + 1, outbox := c.outbox ++ [(c.seq, m)] }) else s
  | none => s

/-- Send a notice (R435); its fields that tell of a last entry are open (log entry 60). -/
def State.notice (s : State) (tag : Nat) (id : BitVec 64) (turn : BitVec 16) (status detail : Nat) : State :=
  (s.useFree 1).sendMsg tag (.notice id turn (BitVec.ofNat 8 status) (BitVec.ofNat 8 detail) ((Config.freeBits s.free).setWidth 128))

/-- The entries of a token record. -/
def recEntries (ts : List TokenRec) : List (Word × Byte) :=
  ts.map (fun r => (r.token, BitVec.ofNat 8 (b2n r.widened + 2 * b2n r.crossed)))

/-- A token record of the tokens of a turn from index `first` on (R434). -/
def tokenRecord (r : Request) (first : Nat) (ts : List TokenRec) : OutMsg :=
  let last := ts.getLast?.getD {}
  .tokens r.id r.turn first last.epoch last.stroke (recEntries ts)

/-- Send the tokens committed since the last record (R436): over UDP it repeats up to 0x3000.08 earlier ones. -/
def State.sendTokens (s : State) (r : Request) : State :=
  if r.committed.length ≤ r.recorded then s
  else
    let back := match (s.conn r.tag).bind (fun c => c.endpoint) with
      | some (.udp _ _) => min r.recorded (s.dictNat 0x300008)
      | _ => 0
    let first := r.recorded - back
    (s.sendMsg r.tag (tokenRecord r first (r.committed.drop first))).updReq r.id
      (fun q => { q with recorded := q.committed.length })

/-- Records of up to 64 entries with the tokens of the turn committed so far from index `first` on (R428, R451). -/
def State.resendTokens (s : State) (r : Request) (first : Nat) : State :=
  let rest := r.committed.drop first
  ((chunksOf 64 (rest.length / 64 + 1) rest).zipIdx).foldl (fun (s : State) (p : List TokenRec × Nat) =>
    s.sendMsg r.tag (tokenRecord r (first + 64 * p.2) p.1)) s

/-- Elapsed ticks as whole microseconds (R53: 117.5 ticks each). -/
def usOf (ticks : Nat) : Nat := ticks * 2 / 235

/-- The length a request or resume must have (R429). -/
def requestLength (m : RequestMsg) : Nat := ceilDiv (104 + 4 * m.promptCount) 8 * 8

/-- A header is good for a message of a type and length (R423, R424), with `left` bytes of its unit from the message's start. -/
def headerOk (h : MsgHeader) (left type length : Nat) : Bool :=
  h.magic = 0x5754 && h.version = 1 && h.type.toNat = type && h.length % 8 = 0 && decide (h.length ≤ left) && h.length = length

/-- A message is discarded and counted (R424, R425, R432). -/
def State.discardMsg (s : State) : State := s.count 0x300007 1

/-- A request is live: it holds an entry. -/
def State.requestsOf (s : State) (tag : Nat) : List Request := s.serve.t.reqs.filter (fun r => r.tag = tag)

/-- A connection reopens (R428): the tokens of the current turn of each of its live requests are sent again. -/
def State.reopen (s : State) (tag : Nat) : State :=
  (s.requestsOf tag).foldl (fun s r =>
    (s.resendTokens r 0).updReq r.id (fun q => { q with recorded := q.committed.length })) s

/-- A queue pair is connected (R586). -/
def State.qpConnected (s : State) (n : Nat) : Bool :=
  match Table.get none s.host.qps n with
  | some q => decide (q.state = .connected)
  | none => false

/-- The token service listens where a message arrived, on the home wafer of the plan (R46, R421, R454). -/
def State.listens (s : State) (a : Arrival) : Bool :=
  let ports := s.dictNat 0x300002
  let trans := s.dictNat 0x30000A
  !s.isMember && decide (ports / 2 ^ a.port.toNat % 2 = 1) &&
    (match a.endpoint with
     | .udp _ _ => trans % 2 = 1 && decide (a.udpPort.toNat = s.inForceNat 0x300001)
     | .qp n => trans / 2 % 2 = 1 && s.qpConnected n)

/-- Connections held (R425): the tags bound to an endpoint; a detached connection's tag is unbound (R428). -/
def State.connCount (s : State) : Nat :=
  (s.serve.conns.filter (fun e => match e.2 with
    | some c => c.endpoint.isSome
    | none => false)).length

/-- A message with a good header reaches its connection (R425): the connection, opened or reopened where needed, or
`none` where the message is discarded. -/
def State.bindMsg (s : State) (a : Arrival) : Option State :=
  let tag := arrivedTag a
  let other := match a.endpoint with
    | .qp _ => s.serve.conns.any (fun e => decide (e.1 ≠ tag) && (match e.2 with
      | some c => decide (c.endpoint = some a.endpoint)
      | none => false))
    | .udp _ _ => false
  if tag = 0 || other then none
  else match s.conn tag with
    | some c =>
      match c.endpoint with
      | some e => if e = a.endpoint then some (s.setConn tag (some { c with port := a.port, lastMs := s.ms })) else none
      | none => if s.dictNat 0x300003 ≤ s.connCount then none else some ((s.setConn tag (some { c with endpoint := some a.endpoint, port := a.port, lastMs := s.ms })).reopen tag)
    | none =>
      if s.connCount < s.dictNat 0x300003 then
        some (s.setConn tag (some { endpoint := some a.endpoint, port := a.port, lastMs := s.ms }))
      else none

/-- The largest unit of a connection (R422): the port's MTU less the IP and UDP headers, or 65,536 bytes. -/
def State.unitLimit (s : State) (e : Endpoint) (port : BitVec 3) : Nat :=
  match e with
  | .udp ip _ => s.dictNat (0x110004 + 256 * port.toNat) - (if ip < 2 ^ 32 then 28 else 48)
  | .qp _ => 65536

/-- Messages cut into units of at most `lim` bytes, in order. -/
def cutUnits (lim : Nat) : List (Word × OutMsg) → List (Word × OutMsg) → Nat → List (List (Word × OutMsg))
  | [], cur, _ => if cur = [] then [] else [cur]
  | m :: rest, cur, n =>
    if cur ≠ [] && decide (lim < n + msgBytes m.2) then cur :: cutUnits lim rest [m] (msgBytes m.2)
    else cutUnits lim rest (cur ++ [m]) (n + msgBytes m.2)

/-- Export stops with its connection (R751). -/
def State.stopExport (s : State) (tag : Nat) : State :=
  if s.log.exportState = 1 && leNat ((s.blob 0x503001).take 2) = tag then
    State.event { s with log := { s.log with exportState := 2 } } 0x0801 0xFF (natLE 2 tag)
  else s

/-- A connection detaches (R428): its tag is unbound, and its records are dropped. -/
def State.detach (s : State) (tag : Nat) : State :=
  match s.conn tag with
  | some c =>
    if c.endpoint.isSome then (s.setConn tag (some { c with
      endpoint := none
      detachedMs := s.ms
      outbox := [] })).stopExport tag
    else s
  | none => s

end Sys2Proof.Machine
end

