-- ==== Sys2Proof/Machine/HostOps.lean ====
section
/-! DEFINITION. What every part may do with the host ports and their queue pairs (R428, R579-R592). -/

namespace Sys2Proof.Machine

/-- A port of 0-7, or M0 as 8. -/
def State.port (s : State) (k : Nat) : Port := Table.get {} s.host.ports k

/-- Change the host side. -/
def State.updHost (s : State) (f : HostSide → HostSide) : State := { s with host := f s.host }

/-- Change a port. -/
def State.updPort (s : State) (k : Nat) (f : Port → Port) : State :=
  s.updHost (fun h => { h with ports := Table.put {} h.ports k (f (s.port k)) })

/-- A queue pair. -/
def State.qp (s : State) (n : Nat) : Option Qp := Table.get none s.host.qps n

/-- Put or remove a queue pair. -/
def State.setQp (s : State) (n : Nat) (q : Option Qp) : State := s.updHost (fun h => { h with qps := Table.put none h.qps n q })

/-- Change a queue pair that is there. -/
def State.updQp (s : State) (n : Nat) (f : Qp → Qp) : State :=
  match s.qp n with
  | some q => s.setQp n (some (f q))
  | none => s

/-- The marks of RoCEv2 frames (R589, R592). -/
def State.roceFrame (s : State) : FrameTag := { prio := s.dictNat 0x118002, dscp := s.dictNat 0x118003, ect := true }

/-- The marks of what a port sends (R589, R592): a CNP has its own, and what is not RoCEv2 has none. -/
def State.frameOf (s : State) : HostOut → FrameTag
  | .rep _ | .rej _ | .drep _ | .ack _ | .rnrNak _ | .nak _ _ | .read _ _ | .again _ _ => s.roceFrame
  | .cnp _ => { prio := 6, dscp := 48, ect := true }
  | .arp _ _ _ | .neighbour _ _ _ | .echo _ _ _ | .dhcp _ | .pfc _ _ _ | .dap _ _ | .can _ _ _ _ | .recovery _ _ => {}

/-- Something is sent by a host or management port, marked as R589 and R592 say. -/
def State.put (s : State) (m : HostOut) : State := s.updHost (fun h => { h with sent := h.sent ++ [m], frames := h.frames ++ [s.frameOf m] })

/-- The region of a host port (R23); M0's stands in the always-on domain. -/
def portRegion (k : Nat) : Nat := [4, 4, 11, 11, 52, 52, 59, 59].getD k 4

/-- The MAC address of a port (R582). -/
def State.portMac (s : State) (k : Nat) : BitVec 48 := s.ident.macBase + BitVec.ofNat 48 k

/-- A port's line rate, bit/s, from PortState (R579); M0 runs at 1 or 10 Gbit/s. -/
def lineRate (k state : Nat) : Nat :=
  if k = 8 then [0, 1000000000, 10000000000].getD state 0
  else [0, 100000000000, 200000000000, 400000000000, 800000000000].getD state 0

/-- A number of microseconds in nominal ticks (R53). -/
def usTicks (n : Nat) : Nat := n * 235 / 2

/-- The tags of the connections bound to an endpoint that satisfies a condition. -/
def State.boundTags (s : State) (f : Conn → Endpoint → Bool) : List Nat :=
  s.serve.conns.filterMap (fun e => match e.2 with
    | some c => match c.endpoint with
      | some ep => if f c ep then some e.1 else none
      | none => none
    | none => none)

/-- Connections detach (R428). -/
def State.detachAll (s : State) (tags : List Nat) : State := tags.foldl (fun (s : State) t => s.detach t) s

/-- A queue pair fails: its requests fail with it, and its connection detaches (R588, R428). -/
def State.failQp (s : State) (n : Nat) : State :=
  (s.updQp n (fun q => { q with state := .error, out := [], recv := [] })).detachAll
    (s.boundTags (fun _ e => decide (e = .qp n)))

/-- The queue pairs of a port. -/
def State.qpsOf (s : State) (k : Nat) : List Nat :=
  s.host.qps.filterMap (fun e => match e.2 with
    | some q => if q.port = k then some e.1 else none
    | none => none)

/-- The queue pairs of a port fail. -/
def State.failPortQps (s : State) (k : Nat) : State := (s.qpsOf k).foldl (fun (s : State) n => s.failQp n) s

/-- The UDP connections whose last message came through a port detach (R428); `v4` limits that to hosts reached over IPv4. -/
def State.detachPort (s : State) (k : Nat) (v4 : Bool) : State :=
  s.detachAll (s.boundTags (fun c e => match e with
    | .udp ip _ => decide (c.port.toNat = k) && (!v4 || decide (ip < 2 ^ 32))
    | .qp _ => false))

/-- A host port loses its link (R428, R614): its UDP connections detach, and its queue pairs and fetches fail. -/
def State.portDown (s : State) (k : Nat) : State :=
  let p := s.port k
  let s := s.updPort k (fun _ => { lowPower := p.lowPower, dropped := p.dropped })
  (s.detachPort k false).failPortQps k

/-- A port's IPv4 address changes (R583, R614): the connections of the old one detach. -/
def State.setAddr (s : State) (k addr : Nat) (leased : Bool) : State :=
  let old := (s.port k).addr
  let s := s.updPort k (fun p => { p with addr := addr, leased := leased })
  if old = 0 || old = addr then s else (s.detachPort k true).failPortQps k

/-- A priority is lossless on the ports (R589). -/
def State.lossless (s : State) (prio : Nat) : Bool :=
  decide (s.dictNat 0x11800A = 1) && decide (s.dictNat 0x118001 / 2 ^ prio % 2 = 1)

/-- Bytes of a port's receive buffer in use (R590): what its queue pairs have received and Cox has not taken. -/
def State.bufferUsed (s : State) (k : Nat) : Nat :=
  s.host.qps.foldl (fun n e => match e.2 with
    | some q => if q.port = k then n + q.recv.foldl (fun a b => a + b) 0 else n
    | none => n) 0

/-- XOFF and XON (R590): for each lossless priority, as the free space of the port's buffer asks. -/
def State.pfcBuffer (s : State) (k : Nat) : State :=
  let free := 8388608 - s.bufferUsed k
  let lim := s.dictNat 0x118004
  (List.range 8).foldl (fun (s : State) p =>
    let off := (s.port k).xoff.getLsbD p
    if !s.lossless p then s
    else if free < lim && !off then (s.updPort k (fun q => { q with xoff := q.xoff ||| (1#8 <<< p) })).put (.pfc k p true)
    else if 2 * lim < free && off then (s.updPort k (fun q => { q with xoff := q.xoff &&& ~~~(1#8 <<< p) })).put (.pfc k p false)
    else s) s

/-- The oldest SEND of a queue pair has been taken: its place and its bytes are free again (R587, R590). -/
def State.takeSend (s : State) (n : Nat) : State :=
  match s.qp n with
  | none => s
  | some q => (s.setQp n (some { q with recv := q.recv.drop 1 })).pfcBuffer q.port

/-- A request of the module goes out on a queue pair with the next packet sequence number (R585, R588). -/
def State.postQp (s : State) (n : Nat) (shard : Option Nat) : State :=
  s.updQp n (fun q => { q with psn := (q.psn + 1) % 2 ^ 24, out := q.out ++ [{ psn := q.psn, shard := shard }] })

/-- The marks of a unit's frames (R589, R592): UDP goes at priority 0 with DSCP 0, Not-ECT. -/
def State.unitFrame (s : State) : Endpoint → FrameTag
  | .udp _ _ => {}
  | .qp _ => s.roceFrame

/-- Close and send every connection's units (R427): on a queue pair each is a SEND. -/
def State.sendUnits (s : State) : State :=
  s.serve.conns.foldl (fun (s : State) (e : Nat × Option Conn) => match e.2 with
    | some c => match c.endpoint with
      | some ep =>
        let us := (cutUnits (s.unitLimit ep c.port) c.outbox [] 0).map (fun ms => SentUnit.mk e.1 ep c.port (ms.flatMap (wireBytes e.1)) (s.unitFrame ep))
        let s := (s.setConn e.1 (some { c with outbox := [] })).updServe (fun v =>
          { v with sent := v.sent ++ us, lastSent := v.lastSent ++ c.outbox.map (fun m => (e.1, m.2)) })
        match ep with
        | .qp n => us.foldl (fun (s : State) _ => s.postQp n none) s
        | .udp _ _ => s
      | none => s
    | none => s) (s.updServe (fun v => { v with lastSent := [] }))

/-- What a message's unit does to its port (R422, R581, R587): a UDP payload longer than the MTU allows is dropped and
counted; the last message of a SEND frees its place, and so does one with whose header the rest of the unit is discarded
(R424). -/
def State.takeUnit (s : State) (a : Arrival) (bad : Bool) : Option State :=
  match a.endpoint with
  | .udp _ _ =>
    if s.unitLimit a.endpoint a.port < a.unit.length then none else some s
  | .qp n => some (if bad || a.unit.length ≤ (arrivedHeader a).length then s.takeSend n else s)

/-- What every token-service message passes first (R424, R425). -/
def State.acceptMsg (s : State) (a : Arrival) (type length : Nat) (f : State → State) : State :=
  if !s.listens a then s
  else
    let good := headerOk (arrivedHeader a) a.unit.length type length
    match s.takeUnit a (!good) with
    | none => s.updPort a.port.toNat (fun p => { p with dropped := p.dropped + 1 })
    | some s =>
      if !good then s.discardMsg
      else match s.bindMsg a with
        | some s' => f s'
        | none => s.discardMsg

/-- READs a queue pair has outstanding. -/
def readsOut (q : Qp) : Nat := (q.out.filter (fun o => o.shard.isSome)).length

/-- The queue pair over which a shard is fetched (R372): that of the connection tagged CONNECTION + (i mod c). -/
def State.shardQp (s : State) (r : SourceRecord) (i : Nat) : Option Nat :=
  match (s.conn (r.connection + i % max 1 r.connections)).bind (fun c => c.endpoint) with
  | some (.qp n) => some n
  | _ => none

/-- READs are issued (R372, R588): shards to be fetched again first, then the next in ascending order, while the connection
of the next one has fewer than 16 outstanding. -/
def State.postReads (s : State) : Nat → State
  | 0 => s
  | fuel + 1 =>
    match s.weights.load with
    | none => s
    | some l => match l.src, l.man with
      | some r, some m =>
        let next : Option (Nat × Load) := match l.again with
          | i :: rest => some (i, { l with again := rest })
          | [] => if l.asked < m.shards.length then some (l.asked, { l with asked := l.asked + 1 }) else none
        match next with
        | none => s
        | some (i, l') =>
          if r.kind ≠ 1 then s
          else match s.shardQp r i with
            | none => s
            | some n => match s.qp n with
              | none => s
              | some q =>
                if q.state ≠ .connected || 16 ≤ readsOut q then s
                else
                  let s : State := { s with weights := { s.weights with load := some l' } }
                  ((s.postQp n (some i)).put (.read n i)).postReads fuel
      | _, _ => s

end Sys2Proof.Machine
end

