-- ==== Sys2Proof/Machine/Pool.lean ====
section
/-! DEFINITION. The page pool, the prefix tree and the boathouse (chapter 06). -/

namespace Sys2Proof.Machine

/-- Stacks in service, ascending: those whose edge region is in use (R23, R730). -/
def State.stacksUp (s : State) : List Nat :=
  (List.range 32).filter (fun k => s.regionUsable (edgeRegions.getD (k / 2) 0))

/-- Page slots of the pool (R807): over the stacks in service. -/
def State.slotsTotal (s : State) : Nat :=
  match s.boot.plan with
  | none => 0
  | some p =>
    if p.pageSlot = 0 then 0
    else (p.areas.filter (fun a => a.kind = 0 && a.tier = 0 && s.stacksUp.contains a.chan)).foldl (fun n a => n + a.size / p.pageSlot) 0

/-- Layers of the plan in service. -/
def State.layers (s : State) : Nat :=
  match s.boot.plan with
  | some p => p.nLayers
  | none => 0

/-- Page slots neither in use nor reserved (R340, 0x3100.04). -/
def State.slotsFree (s : State) : Nat :=
  let used := (s.serve.t.sets.filter (fun e => e.2.isSome)).length * s.layers
  let held := (s.serve.t.reqs.foldl (fun n r => n + r.reserved) 0) * s.layers
  s.slotsTotal - used - held

/-- A page set. -/
def State.set (s : State) (n : Nat) : Option PageSet := Table.get none s.serve.t.sets n

/-- Put or remove a page set. -/
def State.putSet (s : State) (n : Nat) (p : Option PageSet) : State :=
  s.updTables (fun t => { t with sets := Table.put none t.sets n p })

/-- Pages in use on a stack. -/
def State.pagesOn (s : State) (k : Nat) : Nat :=
  s.serve.t.sets.foldl (fun n e => match e.2 with
    | some p => n + (p.stackList.filter (fun x => x = k)).length
    | none => n) 0

/-- Allocate a page set (R326, R730): base stack with the fewest pages, the lowest among equals. -/
def State.allocSet (s : State) (adapter : Word) (epoch : BitVec 64) : State × Nat :=
  let up := s.stacksUp
  let base := ((sortBy (fun k => s.pagesOn k) up).head?).getD 0
  let n := up.length
  let stackList := (List.range s.layers).map (fun l => up.getD ((base + l) % n) 0)
  let k := s.serve.t.nextSet
  let set : PageSet := { base := base, refs := 1, adapter := adapter, epoch := epoch, stackList := stackList }
  ((s.putSet k (some set)).updTables (fun t => { t with nextSet := k + 1 }), k)

/-- Release one reference to a page set (R337): freed at zero unless it is in the tree. -/
def State.releaseSet (s : State) (n : Nat) : State :=
  match s.set n with
  | none => s
  | some p =>
    let p := { p with refs := p.refs - 1 }
    if p.refs = 0 && p.key.isNone then s.putSet n none else s.putSet n (some p)

/-- Release references to page sets. -/
def State.releaseSets (s : State) (ns : List Nat) : State := ns.foldl (fun s n => s.releaseSet n) s

/-- The key of a block (R333): bytes 0-15 of the digest, kept as a number of its 16 bytes. -/
def blockKey (prev : BitVec 128) (tokens : List Word) (adapter : Word) (epoch : BitVec 64) : BitVec 128 :=
  BitVec.ofNat 128 (leNat ((sha256 (natLE 16 prev.toNat ++ tokenBytes tokens ++ natLE 4 adapter.toNat ++ natLE 8 epoch.toNat)).take 16))

/-- The page set that holds a key in the tree. -/
def State.node (s : State) (key : BitVec 128) : Option Nat :=
  (s.serve.t.sets.find? (fun e => match e.2 with
    | some p => decide (p.key = some key)
    | none => false)).map (fun e => e.1)

/-- Nodes of the tree. -/
def State.nodes (s : State) : Nat :=
  (s.serve.t.sets.filter (fun e => match e.2 with
    | some p => p.key.isSome
    | none => false)).length

/-- Take one more block from the tree (R335): its count rises and it is marked as just used. -/
def State.takeNode (s : State) (n : Nat) : State :=
  match s.set n with
  | some p =>
    (s.putSet n (some { p with refs := p.refs + 1, used := s.serve.t.uses + 1 })).updTables (fun t => { t with uses := t.uses + 1 })
  | none => s

/-- The leading blocks of a token list that the tree holds (R334), at most `n`. -/
def State.matchBlocks (s : State) (tokens : List Word) (adapter : Word) (epoch : BitVec 64) : Nat → Nat → BitVec 128 → List Nat
  | 0, _, _ => []
  | n + 1, j, prev =>
    let blk := (tokens.drop (64 * j)).take 64
    if blk.length < 64 then []
    else
      let k := blockKey prev blk adapter epoch
      match s.node k with
      | some i => i :: s.matchBlocks tokens adapter epoch n (j + 1) k
      | none => []

/-- The keys of the first `n` blocks of a token list. -/
def blockKeys (tokens : List Word) (adapter : Word) (epoch : BitVec 64) : Nat → Nat → BitVec 128 → List (BitVec 128)
  | 0, _, _ => []
  | n + 1, j, prev =>
    let k := blockKey prev ((tokens.drop (64 * j)).take 64) adapter epoch
    k :: blockKeys tokens adapter epoch n (j + 1) k

/-- The adapter a request names. -/
def Request.adapter (r : Request) : Word := (r.par.map (fun m => m.adapter)).getD 0

/-- Complete pages of a sequence at each layer (R330): page `j` is flushed with a row above position 64j + 63, or by the chunk
that spans it. Its last token's keys and values are not computed (R331). -/
def Request.fullPages (r : Request) : Nat :=
  let rows := r.tokens.length - 1
  min (rows / 64) (max ((rows - 1) / 64) r.flushed)

/-- Bytes of a boathouse entry (R345): `blocks` pages as stored, `staged` staging rows of the open page, token IDs, and the 88
bytes of its request parameters (log entry 12). -/
def entryBytes (p : Plan) (blocks staged tokens : Nat) : Nat :=
  blocks * p.nLayers * p.pageBytes + staged * p.nLayers * p.stagingRow + 4 * tokens + 88

/-- Boathouse bytes on an edge region's channels of a tier. -/
def State.boatOn (s : State) (flash : Bool) (edge : Nat) : Nat :=
  s.serve.t.reqs.foldl (fun n r => match r.boat with
    | some b => if b.flash = flash && b.edge = edge then n + b.bytes else n
    | none => n) 0

/-- The edge region for a new entry (R810): the fewest boathouse bytes, the lowest index among equals. -/
def State.boatEdge (s : State) (flash : Bool) : Nat :=
  let up := (List.range 16).filter (fun e => s.regionUsable (edgeRegions.getD e 0))
  ((sortBy (fun e => s.boatOn flash e) up).head?).getD 0

/-- Boathouse bytes in a tier. -/
def State.boatTotal (s : State) (flash : Bool) : Nat :=
  s.serve.t.reqs.foldl (fun n r => match r.boat with
    | some b => if b.flash = flash then n + b.bytes else n
    | none => n) 0

/-- Image bytes a load keeps as a refill copy, each shard twice (R729). -/
def State.refillBytes (s : State) : Nat :=
  let inService := match s.weights.slots.find? (fun e => match e.2 with
      | some m => decide (m.man.imageId = s.weights.imageId)
      | none => false) with
    | some (_, some m) => m.man.imageLength
    | _ => 0
  let staged := match s.weights.load with
    | some l => (match l.man with
      | some m => m.imageLength
      | none => 0)
    | none => 0
  2 * (inService + staged)

/-- The boathouse's share of a tier (R345, R349): its limit, or every byte that no other use holds (log entry 12). -/
def State.boatShare (s : State) (flash : Bool) : Nat :=
  let lim := s.dictNat (if flash then 0x312005 else 0x312004)
  if lim ≠ 0 then lim
  else
    let up := ((List.range 16).filter (fun e => s.regionUsable (edgeRegions.getD e 0))).length
    if flash then
      let images := s.weights.slots.foldl (fun n e => match e.2 with
        | some m => n + 2 * m.man.imageLength
        | none => n) 0
      let plans := s.boot.planSlots.foldl (fun (n : Nat) (e : Nat × Option Plan) => match e.2 with
        | some p => n + p.file.length
        | none => n) 0
      let adapters := s.weights.adapters.foldl (fun (n : Nat) a => match a.image with
        | some m => n + m.man.imageLength
        | none => n) 0
      let firmware := match s.boot.fwFlash with
        | some f => f.bytes.length
        | none => 0
      let blocks := s.log.blockEnds.length + 3 + s.tier.retired.length
      up * 1000000000000 - images - plans - adapters - firmware - 16777216 * blocks
    else
      let areas := match s.boot.plan with
        | some p => (p.areas.filter (fun a => a.tier = 1)).foldl (fun n a => n + a.size) 0
        | none => 0
      let copies := s.serve.t.reqs.foldl (fun n r => if r.boat.isSome then n else n + 8 * r.tokens.length) 0
      up * 128000000000 - s.refillBytes - areas - copies - 4096 * s.tier.badPages.length

/-- Discard a boathouse entry and free its request (R345, R398, R442). -/
def State.discardEntry (s : State) (id : BitVec 64) : State :=
  match s.req id with
  | none => s
  | some r => (((s.notice r.tag id r.turn 4 0).count 0x312008 1).releaseSets r.sets).dropReq id

/-- The longest-parked entry of a tier. -/
def State.longestParked (s : State) (flash : Bool) : Option Request :=
  (sortBy (fun r => match r.boat with
    | some b => b.parkMs
    | none => 0) (s.serve.t.reqs.filter (fun r => (r.state = .parked) && (match r.boat with
      | some b => b.flash = flash
      | none => false)))).head?

/-- An entry moves to flash, or is discarded when 0x3120.03 is 0 (R344). -/
def State.toFlash (s : State) (id : BitVec 64) : State :=
  if s.dictNat 0x312003 = 0 then s.discardEntry id
  else
    let e := s.boatEdge true
    match s.req id with
    | some r =>
      (s.updReq id (fun q => { q with boat := q.boat.map (fun b => { b with flash := true, edge := e, tierMs := s.ms }) })).notice
        r.tag id r.turn 3 0
    | none => s

/-- Keep the boathouse within its shares (R345): the longest-parked module-tier entries move to flash early, and the
longest-parked flash entries are discarded. -/
def State.boatFit (s : State) : Nat → State
  | 0 => s
  | n + 1 =>
    if s.boatShare false < s.boatTotal false then
      match s.longestParked false with
      | some r => (s.toFlash r.id).boatFit n
      | none => s
    else if s.boatShare true < s.boatTotal true then
      match s.longestParked true with
      | some r => (s.discardEntry r.id).boatFit n
      | none => s
    else s

/-- Park a sequence to the module tier (R343): its entry is written, every reference is released, and notice 2 is sent. -/
def State.parkNow (s : State) (id : BitVec 64) : State :=
  match s.req id, s.boot.plan with
  | some r, some p =>
    let full := r.fullPages
    let blocks := match r.redo with
      | some q => min full (q / 64)
      | none => full
    let staged := min 64 (r.tokens.length - 1 - 64 * full)
    let b : BoatEntry := { flash := false, edge := s.boatEdge false, bytes := entryBytes p blocks staged r.tokens.length,
                           parkMs := s.ms, tierMs := s.ms, epoch := r.epoch, numerics := p.numerics, pageSlot := p.pageSlot,
                           blocks := blocks, redo := r.redo, turn := r.turn, par := r.par, tokens := r.tokens }
    let s := s.releaseSets r.sets
    let s := s.updReq id (fun q => { q with state := .parked, sets := [], reserved := 0, spill := false, retention := false,
                                            slot := none, boat := some b, inPrefill := false, redo := none,
                                            privateTo := 0 })
    (s.notice r.tag id r.turn 2 0).boatFit 65536
  | _, _ => s

/-- A cached page set R341 may reclaim now: step 1 those of another epoch, step 2 unused leaves, least recently used. The node
`keep`, under which a set is about to be inserted (R336), is not one. -/
def State.reclaimable (s : State) (keep : Option (BitVec 128)) : Option Nat :=
  let idle := s.serve.t.sets.filterMap (fun e => match e.2 with
    | some p => if p.refs = 0 && p.key.isSome && p.key ≠ keep then some (e.1, p) else none
    | none => none)
  match idle.find? (fun e => e.2.epoch ≠ s.weights.epoch) with
  | some e => some e.1
  | none =>
    let leaf (p : PageSet) : Bool := !s.serve.t.sets.any (fun e => match e.2 with
      | some q => q.key.isSome && some q.parent = p.key
      | none => false)
    ((sortBy (fun e => e.2.used) (idle.filter (fun e => leaf e.2))).head?).map (fun e => e.1)

/-- One step of reclaim (R341): a cached page set is freed, or the retained sequence idle longest is parked early. -/
def State.reclaimOne (s : State) (keep : Option (BitVec 128)) : Option State :=
  match s.reclaimable keep with
  | some k => some (s.putSet k none)
  | none =>
    ((sortBy (fun (r : Request) => r.idleMs) (s.serve.t.reqs.filter (fun r => r.state = .retained))).head?).map
      (fun r => s.parkNow r.id)

/-- Reclaim until `need` page slots are free (R341), or nothing is left to reclaim. -/
def State.reclaim (s : State) (need : Nat) : Nat → State
  | 0 => s
  | n + 1 =>
    if need ≤ s.slotsFree then s
    else match s.reclaimOne none with
      | some s' => s'.reclaim need n
      | none => s

/-- Make room for one more node of the tree (R336, R341, R349), under the node `keep`. -/
def State.nodeRoom (s : State) (keep : Option (BitVec 128)) : Nat → State
  | 0 => s
  | n + 1 =>
    if s.nodes < s.dictNat 0x311003 || s.dictNat 0x311003 = 0 then s
    else match s.reclaimOne keep with
      | some s' => s'.nodeRoom keep n
      | none => s

/-- Insert complete page sets of a sequence into the tree (R336): keys and sets in block order after the block with key
`prev`; a set whose key the tree holds stays private, and insertion stops at the first that finds no room. -/
def State.insertBlocks (s : State) (prev : BitVec 128) : List (BitVec 128 × Nat) → State
  | [] => s
  | (k, i) :: rest =>
    if (s.node k).isSome then s.insertBlocks k rest
    else
      let s := s.nodeRoom (some prev) (s.serve.t.sets.length + s.serve.t.reqs.length + 1)
      match s.set i with
      | some p =>
        if s.nodes < s.dictNat 0x311003 && p.key.isNone then
          ((s.putSet i (some { p with key := some k, parent := prev, used := s.serve.t.uses + 1 })).updTables
            (fun t => { t with uses := t.uses + 1 })).insertBlocks k rest
        else s
      | none => s

/-- Insert the page sets of a request from block `before` on into the tree (R336, R338, R348), once each: every earlier block's key
must be there, and the sets that stay private are left. -/
def State.insertSets (s : State) (id : BitVec 64) (before : Nat) : State :=
  match s.req id with
  | none => s
  | some r =>
    if r.crossed || s.dictNat 0x311001 = 0 then s
    else
      let keys := blockKeys r.tokens r.adapter r.epoch r.sets.length 0 0
      let j := max before r.privateTo
      if (keys.take j).all (fun k => (s.node k).isSome) then
        s.insertBlocks (((keys.take j).getLast?).getD 0) ((keys.zip r.sets).drop j)
      else s

/-- A request is active (R388): in prefill, generating or parking. -/
def Request.active (r : Request) : Bool := r.state = .prefill || r.state = .generating || r.state = .parking

/-- A request is in prefill (R441, R446), or re-prefills (R348, R452). -/
def Request.prefilling (r : Request) : Bool :=
  r.state = .prefill || (r.state = .parking && r.inPrefill) || r.again

end Sys2Proof.Machine
end

