-- ==== Sys2Proof/Machine/Reprefill.lean ====
section
/-! DEFINITION. What lost pages take from the sequences (R348, R469, R483). Which sequence's content lies in a page is Cox's
own placement, which the spec does not give: it is drawn from the free bits (log entry 33). -/

namespace Sys2Proof.Machine

/-- A sequence gives up its page sets from block `j` on (R348): an active or queued one re-prefills from that block, a retained
one at its resume. -/
def State.dropFrom (s : State) (r : Request) (j : Nat) : State :=
  let gone := r.sets.drop j
  let s := s.releaseSets gone
  s.updReq r.id (fun q =>
    if q.state = .retained then { q with sets := q.sets.take j, redo := some (min (q.redo.getD (64 * j)) (64 * j)) }
    else { q with
      sets := q.sets.take j
      nextPos := if q.prefilling || q.state = .queued then min q.nextPos (64 * j) else 64 * j
      donePos := min q.donePos (64 * j)
      flushed := min q.flushed j
      privateTo := min q.privateTo j
      reserved := if q.active then q.reserved + gone.length else q.reserved
      again := q.again || q.state = .generating || (q.state = .parking && !q.inPrefill) })

/-- Page sets leave the tree and the sequences that hold them (R348, R469). -/
def State.loseSets (s : State) (bad : Nat → Bool) : State :=
  let s1 := s.serve.t.sets.foldl (fun (u : State) (e : Nat × Option PageSet) => match e.2 with
    | some p => if bad e.1 && p.key.isSome then u.putSet e.1 (if p.refs = 0 then none else some { p with key := none }) else u
    | none => u) s
  s1.serve.t.reqs.foldl (fun (u : State) r => match r.sets.findIdx? bad with
    | some j => u.dropFrom r j
    | none => u) s1

/-- Page sets with a page on lost stacks leave the tree and their sequences (R348, R730). -/
def State.loseStacks (s : State) (ks : List Nat) : State :=
  s.loseSets (fun n => match s.set n with
    | some p => p.stackList.any (fun k => ks.contains k)
    | none => false)

/-- A sequence re-prefills its open page, positions 64k to p - 1 (R348, R452). -/
def State.reopenPage (s : State) (r : Request) : State :=
  s.updReq r.id (fun q =>
    if q.prefilling then
      let k := 64 * (min q.donePos q.nextPos / 64)
      { q with nextPos := k, donePos := k }
    else
      let k := 64 * ((q.tokens.length - 1) / 64)
      { q with
        nextPos := k
        donePos := k
        again := q.again || q.state = .generating || q.state = .parking })

/-- The open pages of every active sequence are re-prefilled. -/
def State.reopenAll (s : State) : State := (s.serve.t.reqs.filter (fun r => r.active)).foldl (fun (s : State) r => s.reopenPage r) s

/-- Cox re-prefills the open-page positions of each sequence whose staging rows lay in a lost page (R483); a plan that
spills staging keeps none in scratch (R328). -/
def State.stagingLost (s : State) : State :=
  match s.boot.plan with
  | none => s
  | some p =>
    if p.spillsAll then s
    else
      let v := Config.freeBits s.free
      let ids := (s.serve.t.reqs.filter (fun r => r.active)).zipIdx
      (ids.foldl (fun (s : State) r => if v.getLsbD (r.2 % 512) then s.reopenPage r.1 else s) s).useFree 1

/-- A boathouse entry lost a page of the module tier (R469): it keeps its token IDs, and its resume re-prefills the whole
context; a resume that was copying it back does so at once. -/
def State.boatPageLost (s : State) (r : Request) : State :=
  if r.copying then
    (s.releaseSets r.sets).updReq r.id (fun q => { q with
      sets := []
      reserved := q.reserved + q.sets.length
      boat := none
      copying := false
      nextPos := 0
      donePos := 0
      flushed := 0
      privateTo := 0 })
  else s.updReq r.id (fun q => { q with boat := q.boat.map (fun b => { b with pagesOk := false }) })

/-- Cox answers the loss of a tier page according to its content (R469): a page set with a page on the stack, a page of a
streamed weight store, a boathouse entry on the channel's edge region, or nothing that needs an answer now. The shards of
a sealed copy fail their tags when they are read. -/
def State.tierContentLost (s : State) (chan page : Nat) : State :=
  let v := (Config.freeBits s.free).toNat
  let s := s.useFree 1
  if chan < 32 then
    if v % 3 = 0 then
      let on := s.serve.t.sets.filterMap (fun e => match e.2 with
        | some p => if p.stackList.contains chan then some e.1 else none
        | none => none)
      match on[(v / 3) % on.length]? with
      | some n => s.loseSets (fun m => decide (m = n))
      | none => s
    else if v % 3 = 1 then { s with tier := { s.tier with refills := s.tier.refills ++ [(chan, page)] } }
    else s
  else if v % 3 = 0 then
    let on := s.serve.t.reqs.filter (fun r => match r.boat with
      | some b => !b.flash && decide (b.edge = chan % 32 / 2)
      | none => false)
    match on[(v / 3) % on.length]? with
    | some r => s.boatPageLost r
    | none => s
  else s

end Sys2Proof.Machine
end

