-- ==== Sys2Proof/Machine/Scratch.lean ====
section
/-! DEFINITION. Scratch: physical placement, word and page codes, reads and writes of whole lines, poison, rebuild queues,
the leaky bucket and lost pages (chapters 03 and 09). -/

namespace Sys2Proof.Machine

/-- The byte position of a line's storage: a remapped row is served from its spare row in the sub-array (R139, R492), the
highest where a row was remapped again, kept above the 4 MiB of the data banks. -/
def physBase (t : Tile) (line : Nat) : Nat :=
  let bank := line / 1024 % 32
  let row := line % 1024 / 4
  match (List.range 16).reverse.find? (fun i => Table.get 0 t.remap (16 * bank + i) = BitVec.ofNat 9 (256 + row)) with
  | some i => 0x400000 + (16 * bank + i) * 512 + line % 4 * 128
  | none => line % 32768 * 128

/-- A stored word. -/
def rawWord (t : Tile) (line w : Nat) : BitVec 256 :=
  BitVec.ofNat 256 (leNat (Table.getList 0 t.scratch (physBase t line + 32 * w) 32))

/-- The stored check bits of a word. -/
def rawCheck (t : Tile) (line w : Nat) : BitVec 10 := Table.get 0 t.chk (physBase t line / 32 + w)

/-- Store a word and check bits as given. -/
def setRawWord (t : Tile) (line w : Nat) (d : BitVec 256) (c : BitVec 10) : Tile :=
  { t with scratch := Table.putList 0 t.scratch (physBase t line + 32 * w) (natLE 32 d.toNat)
           chk := Table.put 0 t.chk (physBase t line / 32 + w) c }

/-- A word after the word code (R477). -/
def readWord (t : Tile) (line w : Nat) : BitVec 256 × WordOutcome := decodeWord (rawWord t line w) (rawCheck t line w)

/-- The bank of a line address (R135). -/
def bankOf (line : Nat) : Nat := line / 1024 % 32

/-- The page of a line within its bank. -/
def pageOf (line : Nat) : Nat := line % 1024 / 32

/-- The position of word `w` of a line within its page (R478). -/
def pageWord (line w : Nat) : Nat := 4 * (line % 32) + w

/-- A bank in cache mode (R151). -/
def cacheBank (t : Tile) (bank : Nat) : Bool := decide (24 ≤ bank) && t.cacheMask.getLsbD (bank - 24)

/-- A bank that can be read and written: powered and not being filled (R489, R491). -/
def bankUp (t : Tile) (bank : Nat) : Bool := t.bankPwr.getLsbD bank && !t.filling.getLsbD bank

/-- The scrubber of a bank. -/
def Tile.scrubOf (t : Tile) (bank : Nat) : Scrub := Table.get {} t.scrub bank

/-- Change the scrubber of a bank. -/
def Tile.updScrub (t : Tile) (bank : Nat) (f : Scrub → Scrub) : Tile :=
  { t with scrub := Table.put {} t.scrub bank (f (t.scrubOf bank)) }

/-- Where a page's check bytes are held: rows 16 and 17 of the bank's sub-array, or the row 18 or 19 that serves one of them (R138,
R492), kept above the 32 x 32 pages. -/
def pageKey (t : Tile) (bank page : Nat) : Nat :=
  match [1, 0].find? (fun i => Table.get 0 t.subRemap (2 * bank + i) = BitVec.ofNat 5 (16 + page / 16)) with
  | some i => 1024 + 32 * bank + 16 * i + page % 16
  | none => 32 * bank + page

/-- The check bytes of a page. -/
def Tile.pageCheckOf (t : Tile) (bank page : Nat) : BitVec 256 := Table.get 0 t.pageChk (pageKey t bank page)

/-- Set the check bytes of a page. -/
def Tile.setPageCheck (t : Tile) (bank page : Nat) (c : BitVec 256) : Tile :=
  { t with pageChk := Table.put 0 t.pageChk (pageKey t bank page) c }

/-- The 128 words of a page, corrected. -/
def pageWords (t : Tile) (bank page : Nat) : List (BitVec 256) :=
  (List.range 128).map (fun i => (readWord t (1024 * bank + 32 * page + i / 4) (i % 4)).1)

/-- The tile holds its commits back for the rest of the stroke (R150); SEQ_STAT.WITHHELD and snapshot trigger 2. -/
def State.withhold (s : State) (t : TileId) : State :=
  if (s.tile t).withhold then s
  else (s.updTile t (fun x => { x with withhold := true, withheldStat := true })).trigger t.region.toNat (trig 2)

/-- The tile's sequencer issues bundles (R60, R182, R187): a crew tile whose catch found RUN set, strokes running, no hold, no end,
its region's clock not stopped (R640). -/
def issuing (s : State) (t : TileId) : Bool :=
  let x := s.tile t
  x.stage.isSome && x.live && s.clk.running && decide (x.hold = .none) && decide (x.bswWait ≠ 2) && decide (x.netWait ≠ 2) && !x.done &&
    !(s.region t.region.toNat).loop.stop

/-- A bank cannot serve an access that is not scheduled (R140, R143, R144): a scheduled access uses it in this cycle, or while bundles
issue, another such access has. While the sequencer is held or idle, each command is in a cycle of its own. -/
def State.bankBusy (s : State) (t : TileId) (bank : Nat) : Bool :=
  (s.tile t).uses.any (fun u => u.1 = bank) || (issuing s t && (s.tile t).bgUses.contains bank)

/-- A landing write, an unscheduled access or the scrubber uses a bank in this cycle. -/
def State.useBackground (s : State) (t : TileId) (bank : Nat) : State := s.updTile t (fun x => { x with bgUses := x.bgUses ++ [bank] })

/-- Count corrections into a region's leaky bucket, one by one (R485). -/
def State.bucket (s : State) (r : Nat) : Nat → State
  | 0 => s
  | n + 1 =>
    let e := (s.region r).ecc
    let depth := max 1 e.lbDepth.toNat
    let s :=
      if e.lbCount.toNat = depth then
        let s := s.updEcc r (fun e => { e with lbCount := 0, lbOvf := true, lbOverflows := satAdd e.lbOverflows 1,
                                               coreInts := e.coreInts + 1 })
        let s := s.count 0x701003 1
        let s := s.regionEvent r 0x0400 (natLE 2 (s.region r).ecc.lbOverflows.toNat)
        s.trigger r (trig 3)
      else s.updEcc r (fun e => { e with lbCount := e.lbCount + 1 })
    s.bucket r n

/-- A role's number in a record (R483, code 0x0401). -/
def roleNat : BankRole → Nat
  | .unused => 0
  | .weights => 1
  | .staging => 2
  | .other => 3

/-- The role the loaded plan gives a bank. -/
def Tile.roleOf (t : Tile) (bank : Nat) : BankRole := t.roles.getD bank .unused

/-- A weight bank of the loaded plan (R364, R483): besides the ingress engines, only the crew's tier DMA writes it; another write is discarded (log
entry 54). -/
def Tile.weightBank (t : Tile) (bank : Nat) : Bool := t.roleOf bank = .weights

/-- A page is lost (R483). -/
def State.losePage (s : State) (t : TileId) (bank page : Nat) : State :=
  let r := t.region.toNat
  let s := s.updTile t (fun x =>
    let x := x.setPageCheck bank page (pageCheck (pageWords x bank page))
    let x := x.updScrub bank (fun q => { q with rebuild := q.rebuild.filter (fun e => e.1 ≠ page) })
    { x with lostLine := (List.range 32).foldl (fun m i => Table.put false m (1024 * bank + 32 * page + i) true) x.lostLine })
  let role := (s.tile t).roleOf bank
  let s := s.updEcc r (fun e => { e with pagesLost := satAdd e.pagesLost 1 })
  let s := s.count 0x702002 1
  let s := s.regionEvent r 0x0401
    (natLE 1 t.x.toNat ++ natLE 1 t.y.toNat ++ natLE 1 bank ++ natLE 1 page ++ natLE 1 (roleNat role))
  let s := s.trigger r (trig 4)
  match role with
  | .weights => { s with refills := s.refills ++ [(t.key, bank, page)] }
  | .staging => s.stagingLost
  | _ => s

/-- Queue a page for rebuild with words flagged (R148, R482); a fifth page of the bank is lost. Cache-mode banks have
no page code (R158). -/
def State.queueRebuild (s : State) (t : TileId) (bank page : Nat) (words : List Nat) : State :=
  let q := (s.tile t).scrubOf bank
  if cacheBank (s.tile t) bank then s
  else match q.rebuild.find? (fun e => e.1 = page) with
    | some (_, ws, c) =>
      s.updTile t (fun x => x.updScrub bank (fun q => { q with rebuild := q.rebuild.map (fun e =>
        if e.1 = page then (page, ws ++ words.filter (fun w => !ws.contains w), c) else e) }))
    | none =>
      if q.rebuild.length < 4 then
        s.updTile t (fun x => x.updScrub bank (fun q => { q with rebuild := q.rebuild ++ [(page, words, false)] }))
      else s.losePage t bank page

/-- What a read of a line returns: its bytes as the word code gives them, the corrected words and the uncorrectable ones
(as page words), and whether the line was poisoned by a mark. -/
structure LineRead where
  bytes : Bytes
  fixed : List Nat
  bad : List Nat
  marked : Bool
  deriving DecidableEq, Repr

/-- Read a line through the word code, without effects. -/
def lineRead (t : Tile) (line : Nat) : LineRead :=
  let ws := (List.range 4).map (fun w => (w, readWord t line w))
  { bytes := ws.flatMap (fun p => natLE 32 p.2.1.toNat)
    fixed := (ws.filter (fun p => match p.2.2 with
      | .corrected _ => true
      | _ => false)).map (fun p => pageWord line p.1)
    bad := (ws.filter (fun p => p.2.2 = .bad)).map (fun p => pageWord line p.1)
    marked := Table.get false t.linePoison line || Table.get false t.lostLine line }

/-- The effects of a read's outcome (R148): corrected lines are queued for rewriting and counted in the bucket;
uncorrectable words queue their page for rebuild. -/
def State.readEffects (s : State) (t : TileId) (line : Nat) (o : LineRead) : State :=
  let bank := bankOf line
  let s := if o.fixed = [] then s else
    let s := s.updTile t (fun x => x.updScrub bank (fun q =>
      if q.rewrite.contains (line % 1024) then q else { q with rewrite := q.rewrite ++ [line % 1024] }))
    s.bucket t.region.toNat o.fixed.length
  if o.bad = [] then s else s.queueRebuild t bank (pageOf line) o.bad

/-- A scheduled port reads a line (R146-R148, R215, R491): its bytes, and whether they are poisoned. A poisoned line
makes the tile withhold its commits (R150) and is counted. -/
def State.schedRead (s : State) (t : TileId) (line : Nat) : State × Bytes × Bool :=
  let x := s.tile t
  let bank := bankOf line
  let poisoned (s : State) : State :=
    (s.updTile t (fun x => { x with poisonCnt := satAdd x.poisonCnt 1 })).withhold t
  if !bankUp x bank || cacheBank x bank then (poisoned s, (lineRead x line).bytes, true)
  else
    let o := lineRead x line
    let s := s.readEffects t line o
    if o.bad ≠ [] || o.marked then (poisoned s, o.bytes, true) else (s, o.bytes, false)

/-- An unscheduled requester reads a line (R148): `none` where it receives an access fault or a poisoned result. -/
def State.unschedRead (s : State) (t : TileId) (line : Nat) : State × Option Bytes :=
  let o := lineRead (s.tile t) line
  let s := s.readEffects t line o
  if o.bad ≠ [] || o.marked then (s, none) else (s, some o.bytes)

/-- Write one word of a line with its check bits, updating the page code unless the word is flagged (R479, R480, R496). -/
def writeWord (t : Tile) (line w : Nat) (d : BitVec 256) : Tile :=
  let bank := bankOf line
  let page := pageOf line
  let pw := pageWord line w
  let q := t.scrubOf bank
  let flagged := q.rebuild.any (fun e => e.1 = page && e.2.1.contains pw)
  let contrib := gfPow pw ((readWord t line w).1 ^^^ d)
  let t1 := setRawWord t line w d (checkBits d)
  if cacheBank t bank then t1
  else if flagged then
    t1.updScrub bank (fun q => { q with rebuild := q.rebuild.map (fun e =>
      if e.1 = page then (e.1, e.2.1.filter (fun x => x ≠ pw), true) else e) })
  else
    let t2 := t1.setPageCheck bank page (t.pageCheckOf bank page ^^^ contrib)
    if page = q.line / 32 && line % 1024 < q.line then
      t2.updScrub bank (fun q => { q with acc := q.acc ^^^ contrib })
    else t2

/-- The four words of a line of bytes. -/
def lineWords (bs : Bytes) : List (BitVec 256) :=
  (List.range 4).map (fun i => BitVec.ofNat 256 (leNat ((bs.drop (32 * i)).take 32)))

/-- Write a whole line (R480): its words, its marks as given, and the scrubber's pending rewrite cancelled (R145). -/
def writeLine (t : Tile) (line : Nat) (bs : Bytes) (poison : Bool) : Tile :=
  let ws := lineWords (padTo 128 bs)
  let t := (List.range 4).foldl (fun t w => writeWord t line w (ws.getD w 0)) t
  let t := t.updScrub (bankOf line) (fun q => { q with rewrite := q.rewrite.filter (fun l => l ≠ line % 1024) })
  { t with linePoison := Table.put false t.linePoison line poison, lostLine := Table.put false t.lostLine line false }

/-- A scheduled write of a line: a bank that is off, filling or in cache mode discards it and R150 applies (R215, R491); a weight bank discards it
(R364). -/
def State.schedWrite (s : State) (t : TileId) (line : Nat) (bs : Bytes) (poison : Bool) : State :=
  let x := s.tile t
  let s := if poison then s.withhold t else s
  if !bankUp x (bankOf line) || cacheBank x (bankOf line) then s.withhold t
  else if x.weightBank (bankOf line) then s
  else s.updTile t (fun x => writeLine x line bs poison)

end Sys2Proof.Machine
end

