-- ==== Sys2Proof/Machine/Ecc.lean ====
section
/-! DEFINITION. Scrubbing, rebuild, row remapping, the leaky bucket, bank power and the check-bit test window (chapter 09). -/

namespace Sys2Proof.Machine

/-- A plan is loaded. -/
def State.planLoaded (s : State) : Bool := s.boot.plan.isSome

/-- What the scrubber learns of a row from one line read (R493): the repeats of the line and whether the row is hard. -/
def scrubHard (q : Scrub) (thresh line : Nat) (o : LineRead) : Scrub :=
  let n := Table.get 0 q.repeats line
  let again := o.bad.any (fun w => q.rebuilt.contains (128 * (line / 32) + w))
  let q := { q with rebuilt := q.rebuilt.filter (fun i => i / 4 ≠ line) }
  let n' := if o.fixed = [] then 0 else if n = 0 then 0 else n + 1
  let q := { q with repeats := Table.put 0 q.repeats line n' }
  if (n' ≠ 0 && decide (max 1 thresh + 1 ≤ n')) || again then
    if q.hard.contains (line / 4) then q else { q with hard := q.hard ++ [line / 4], repeats := Table.put 0 q.repeats line 0 }
  else q

/-- The contribution of a line's words, as read, to its page's syndrome (R478, R481). -/
def lineSyndrome (line : Nat) (bs : Bytes) : BitVec 256 :=
  let ws := lineWords bs
  (List.range 4).foldl (fun a w => a ^^^ gfPow (pageWord line w) (ws.getD w 0)) 0

/-- The end of a complete pass of a bank (R483, R497). -/
def State.passEnd (s : State) (t : TileId) (bank : Nat) : State :=
  let d := s.ms - ((s.tile t).scrubOf bank).passStart
  let now := s.ms
  let s := s.updTile t (fun x => x.updScrub bank (fun q => { q with line := 0, passStart := now }))
  let s := s.updEcc t.region.toNat (fun e =>
    { e with scrubLongest := BitVec.ofNat 32 (min 0xFFFFFFFF (max e.scrubLongest.toNat d))
             passLog := (now, d) :: e.passLog.filter (fun p => now < p.1 + 60000) })
  s.extreme 6 d true t.region.toNat

/-- The scrubber compares a page's check bytes with the accumulated syndrome (R481, R483). -/
def State.scrubCompare (s : State) (t : TileId) (bank page : Nat) : State :=
  let x := s.tile t
  let q := x.scrubOf bank
  let flagged := q.rebuild.any (fun e => e.1 = page && e.2.1 ≠ [])
  let lose := q.acc ≠ x.pageCheckOf bank page && !flagged
  let s := s.updTile t (fun x => x.updScrub bank (fun q => { q with acc := 0 }))
  if lose then s.losePage t bank page else s

/-- Whether the scrubber of a bank reads (R481, R482, R486). -/
def scrubReady (s : State) (t : TileId) (bank : Nat) : Bool :=
  let x := s.tile t
  (s.region t.region.toNat).ecc.scrubEn && !cacheBank x bank && bankUp x bank && decide ((x.scrubOf bank).rebuild = []) &&
    !s.bankBusy t bank

/-- SCRUB_READ (R481): the next line is read and corrected, and its words join the page's syndrome; the last line of
a page brings the comparison, the last line of the bank ends the pass. -/
def execScrubRead (t : TileId) (bank : BitVec 5) (s : State) : Host.Outcome State Fault Refusal :=
  if scrubReady s t bank.toNat then
    let b := bank.toNat
    let n := ((s.tile t).scrubOf b).line
    let line := 1024 * b + n
    let o := lineRead (s.tile t) line
    let th := (s.region t.region.toNat).ecc.remapThresh.toNat
    let s := s.updTile t (fun x => x.updScrub b (fun q =>
      let h := scrubHard q th n o
      { h with line := n + 1, acc := q.acc ^^^ lineSyndrome line o.bytes }))
    let s := (s.readEffects t line o).useBackground t b
    let s := if n % 32 = 31 then s.scrubCompare t b (n / 32) else s
    .next (if n = 1023 then s.passEnd t b else s)
  else .next s

/-- SCRUB_WRITE_BACK (R148): the oldest queued line is rewritten with its corrected words; the page code is unchanged (R479). -/
def execScrubWriteBack (t : TileId) (bank : BitVec 5) (s : State) : Host.Outcome State Fault Refusal :=
  let b := bank.toNat
  match ((s.tile t).scrubOf b).rewrite with
  | [] => .next s
  | n :: rest =>
    let line := 1024 * b + n
    if s.bankBusy t b then .next s
    else .next ((s.useBackground t b).updTile t (fun x =>
      let x := (List.range 4).foldl (fun x w =>
        match readWord x line w with
        | (d, .corrected _) => setRawWord x line w d (checkBits d)
        | _ => x) x
      x.updScrub b (fun q => { q with
        rewrite := rest
        repeats := if Table.get 0 q.repeats n = 0 then Table.put 0 q.repeats n 1 else q.repeats })))

/-- The uncorrectable words of a page. -/
def badWords (t : Tile) (bank page : Nat) : List Nat :=
  (List.range 128).filter (fun i => (readWord t (1024 * bank + 32 * page + i / 4) (i % 4)).2 = .bad)

/-- PAGE_REBUILD (R482): the oldest queued page of the bank has its one flagged word rebuilt, or is resealed, or lost. -/
def execPageRebuild (t : TileId) (bank : BitVec 5) (s : State) : Host.Outcome State Fault Refusal :=
  let b := bank.toNat
  let x := s.tile t
  match (x.scrubOf b).rebuild with
  | [] => .next s
  | (page, flags, cleared) :: rest =>
    if s.bankBusy t b then .next s
    else
    let s := s.useBackground t b
    let ws := flags ++ (badWords x b page).filter (fun w => !flags.contains w)
    let done (s : State) : State :=
      (s.updEcc t.region.toNat (fun e => { e with pagesRebuilt := satAdd e.pagesRebuilt 1 })).count 0x702001 1
    match ws with
    | [w] =>
      let d := rebuildWord (pageWords x b page) w (x.pageCheckOf b page)
      .next (done (s.updTile t (fun x =>
        (setRawWord x (1024 * b + 32 * page + w / 4) (w % 4) d (checkBits d)).updScrub b (fun q =>
          { q with rebuild := rest, rebuilt := q.rebuilt ++ [128 * page + w] }))))
    | [] =>
      if cleared then
        .next (done (s.updTile t (fun x =>
          (x.setPageCheck b page (pageCheck (pageWords x b page))).updScrub b (fun q => { q with rebuild := rest }))))
      else .next (s.losePage t b page)
    | _ => .next (s.losePage t b page)

/-- BUCKET_LEAK (R485): COUNT falls by one if it is above 0; with PERIOD 0 it never falls. -/
def execBucketLeak (r : BitVec 6) (s : State) : Host.Outcome State Fault Refusal :=
  let e := (s.region r.toNat).ecc
  if e.lbPeriod = 0 || e.lbCount = 0 then .next s
  else .next (s.updEcc r.toNat (fun e => { e with lbCount := e.lbCount - 1 }))

/-- ECC_LB_DEPTH is written (R485): DEPTH, 0 taken as 1, below COUNT sets COUNT to 0 with no overflow. -/
def State.writeLbDepth (s : State) (r : Nat) (d : BitVec 8) : State :=
  s.updEcc r (fun e => { e with lbDepth := d, lbCount := if max 1 d.toNat < e.lbCount.toNat then 0 else e.lbCount })

/-- ECC_LB_DEPTH_WRITE (R485). -/
def execEccLbDepthWrite (r : BitVec 6) (depth : BitVec 8) (s : State) : Host.Outcome State Fault Refusal :=
  .next (s.regAccess r.toNat (fun s => s.writeLbDepth r.toNat depth))

/-- The bank loses its contents, its spare rows and its check bytes, and its scrubber stops (R489). -/
def loseBank (t : Tile) (b : Nat) : Tile :=
  let own (a : Nat) : Bool := (b * 131072 ≤ a && a < (b + 1) * 131072) ||
    (0x400000 + b * 8192 ≤ a && a < 0x400000 + (b + 1) * 8192)
  let line (l : Nat) : Bool := l / 1024 = b
  { t with scratch := t.scratch.filter (fun c => !own c.1)
           chk := t.chk.filter (fun c => !own (32 * c.1))
           pageChk := t.pageChk.filter (fun c => c.1 / 32 % 32 ≠ b)
           linePoison := t.linePoison.filter (fun c => !line c.1)
           lostLine := t.lostLine.filter (fun c => !line c.1)
           scrub := Table.put {} t.scrub b {} }

/-- The landing writes to a bank that have reached the tile from a READ or gather. -/
def landingsTo (t : Tile) (b : Nat) : List Landing := (t.ingress ++ t.inWait).filter (fun e => bankOf e.line.toNat = b && e.tag.isSome)

/-- The gathers whose line is still to come to a bank. -/
def gathersTo (t : Tile) (b : Nat) : List (Nat × Gather) :=
  t.gtag.filter (fun g => g.2.outstanding && !g.2.read && bankOf g.2.line.toNat = b && !(landingsTo t b).any (fun e => e.tag = some g.1))

/-- A landing write to a bank is outstanding from a READ or gather (R489). -/
def landingOutstanding (t : Tile) (b : Nat) : Bool := landingsTo t b ≠ [] || gathersTo t b ≠ []

/-- Power a bank down under R489, or refuse. -/
def State.bankDown (s : State) (t : TileId) (b : Nat) : State :=
  let x := s.tile t
  if !x.bankPwr.getLsbD b then s
  else if cacheBank x b || x.roleOf b ≠ .unused || landingOutstanding x b then
    s.updTile t (fun x => { x with pwrRefused := true })
  else s.updTile t (fun x => { (loseBank x b) with bankPwr := x.bankPwr &&& ~~~(1#32 <<< b), filling := x.filling &&& ~~~(1#32 <<< b) })

/-- Power a bank up and start its fill (R491). -/
def State.bankUpNow (s : State) (t : TileId) (b : Nat) : State :=
  if (s.tile t).bankPwr.getLsbD b then s
  else s.updTile t (fun x =>
    { (loseBank x b) with
      bankPwr := x.bankPwr ||| (1#32 <<< b)
      filling := x.filling ||| (1#32 <<< b) })

/-- The tags of discarded landing writes (R490): each discarded line is one fewer to wait for, and a tag with none left completes. -/
def gatherDropped (tags : Table Gather) (gone : List Landing) : Table Gather :=
  gone.foldl (fun (m : Table Gather) (e : Landing) => match e.tag with
    | none => m
    | some k =>
      let g := Table.get {} m k
      let left := if g.read then g.linesLeft - 1 else 0
      if g.serial ≠ e.serial then m else Table.put {} m k { g with outstanding := g.outstanding && decide (0 < left), linesLeft := left }) tags

/-- Force a bank off (R490): outstanding landing writes are discarded and counted, and the reads and gathers concerned
complete with their lines poisoned. -/
def State.bankForce (s : State) (t : TileId) (b : Nat) : State :=
  let x := s.tile t
  if !x.bankPwr.getLsbD b then s
  else
  let gone := (x.ingress ++ x.inWait).filter (fun e => bankOf e.line.toNat = b)
  let tags := gathersTo x b
  let n := gone.length + tags.length
  let s := s.updTile t (fun x =>
    let x := { (loseBank x b) with
      bankPwr := x.bankPwr &&& ~~~(1#32 <<< b)
      filling := x.filling &&& ~~~(1#32 <<< b)
      pwrForced := true
      discards := satAdd x.discards n
      ingress := x.ingress.filter (fun e => bankOf e.line.toNat ≠ b)
      inWait := x.inWait.filter (fun e => bankOf e.line.toNat ≠ b) }
    { x with
      gtag := tags.foldl (fun (g : Table Gather) (p : Nat × Gather) =>
        Table.put {} g p.1 { p.2 with outstanding := false, linesLeft := 0 }) (gatherDropped x.gtag gone)
      linePoison := tags.foldl (fun (m : Table Bool) (p : Nat × Gather) => Table.put false m (p.2 : Gather).line.toNat true)
        (gone.foldl (fun (m : Table Bool) (e : Landing) => Table.put false m e.line.toNat true) x.linePoison) })
  s.regionEvent t.region.toNat 0x0402
    (natLE 1 t.x.toNat ++ natLE 1 t.y.toNat ++ natLE 1 b ++ natLE 2 (s.tile t).discards.toNat)

/-- BANK_POWER_DOWN (R489). -/
def execBankPowerDown (t : TileId) (bank : BitVec 5) (s : State) : Host.Outcome State Fault Refusal :=
  .next (s.tileAccess t (fun s => s.bankDown t bank.toNat))

/-- BANK_POWER_UP (R491). -/
def execBankPowerUp (t : TileId) (bank : BitVec 5) (s : State) : Host.Outcome State Fault Refusal :=
  .next (s.tileAccess t (fun s => s.bankUpNow t bank.toNat))

/-- BANK_FILL_DONE (R491). -/
def execBankFillDone (t : TileId) (bank : BitVec 5) (s : State) : Host.Outcome State Fault Refusal :=
  .next (s.updTile t (fun x => { x with filling := x.filling &&& ~~~(1#32 <<< bank.toNat) }))

/-- BANK_FORCE_OFF (R490). -/
def execBankForceOff (t : TileId) (bank : BitVec 5) (s : State) : Host.Outcome State Fault Refusal :=
  .next (s.tileAccess t (fun s => s.bankForce t bank.toNat))

/-- Scratch of a tile after a fill: zeros with valid codes and an all-NOP program store (R488). -/
def fillTile (t : Tile) : Tile :=
  { t with scratch := [], chk := [], pageChk := [], linePoison := [], lostLine := [], scrub := [], prog := [], progChk := [] }

/-- Load the remap entries of the configuration record, of test and of the field, into the tiles (R492, R493, R709). -/
def State.loadRemaps (s : State) : State :=
  let s := (s.ident.testRemaps ++ s.remapRecord.filter (fun e => decide (e.1 < 16384))).foldl (fun s (k, b, row, sp) =>
    s.updTile (TileId.ofKey k) (fun x => { x with remap := Table.put 0 x.remap (16 * b + sp) (BitVec.ofNat 9 (256 + row)) })) s
  s.ident.testSubRemaps.foldl (fun s (k, b, row, sp) =>
    s.updTile (TileId.ofKey k) (fun x => { x with subRemap := Table.put 0 x.subRemap (2 * b + sp) (BitVec.ofNat 5 row) })) s

/-- The scratch fill ends (R488, R492): every bank holds zeros, DONE and 0x7000.01 are set, and boot loads the remap entries. -/
def State.scratchFilled (s : State) : State :=
  let s := { s with tiles := Table.mapVals {} fillTile s.tiles
                    boot := { s.boot with filling := false } }
  (s.eachRegion (fun r s => if s.powered r then s.updEcc r (fun e => { e with fillDone := true }) else s)).loadRemaps

/-- Whether the test window runs a mode on a tile (R486, R487). -/
def twAllowed (s : State) (t : TileId) (mode : Nat) : Bool :=
  if regionRows t.region.toNat ≤ t.y.toNat then false
  else if !s.planLoaded then decide (mode ≤ 8)
  else !s.clk.running && decide (s.clk.easy ≠ 0) && (s.tile t).stage.isSome && [2, 3, 4, 7].contains mode

/-- One run of the test window (R486, R487): ECC_TW_CTL is set, and the operation done, or refused with REFUSED. -/
def State.testWindow (s : State) (r mode x y bank line word : Nat) (op : TileId → Nat → State → State) : State :=
  s.regAccess r (fun s =>
    let ctl := BitVec.ofNat 29 (x + 16 * y + 256 * bank + 8192 * line + 0x800000 * word + 0x2000000 * mode)
    let s := s.updEcc r (fun e => { e with twCtl := ctl, twGo := false })
    let t : TileId := ⟨BitVec.ofNat 6 r, BitVec.ofNat 4 x, BitVec.ofNat 4 y⟩
    if twAllowed s t mode then op t (1024 * bank + line) s
    else s.updEcc r (fun e => { e with twRefused := true }))

/-- Mode 0: the word is written with computed check bits, and the page code updated. -/
def twNormalWrite (r word : Nat) (t : TileId) (line : Nat) (s : State) : State :=
  let d := (s.region r).ecc.twData
  s.updTile t (fun x => writeWord x line word d)

/-- Mode 1: data and check bits as given. -/
def twRawWrite (r word : Nat) (t : TileId) (line : Nat) (s : State) : State :=
  let e := (s.region r).ecc
  s.updTile t (fun x => setRawWord x line word e.twData e.twCheck)

/-- Mode 2: the word as an unscheduled requester reads it, with its effects; OUTCOME and BIT report it. -/
def twCheckedRead (r word : Nat) (t : TileId) (line : Nat) (s : State) : State :=
  let p := readWord (s.tile t) line word
  let o : LineRead := match p.2 with
    | .good => { bytes := [], fixed := [], bad := [], marked := false }
    | .corrected _ => { bytes := [], fixed := [pageWord line word], bad := [], marked := false }
    | .bad => { bytes := [], fixed := [], bad := [pageWord line word], marked := false }
  let s := s.readEffects t line o
  s.updEcc r (fun e => { e with
    twData := p.1
    twOutcome := match p.2 with
      | .good => 0
      | .corrected _ => 1
      | .bad => 2
    twBit := match p.2 with
      | .corrected i => BitVec.ofNat 9 i
      | _ => 0 })

/-- Mode 3: stored data and check bits. -/
def twRawRead (r word : Nat) (t : TileId) (line : Nat) (s : State) : State :=
  let x := s.tile t
  s.updEcc r (fun e => { e with twData := rawWord x line word, twCheck := rawCheck x line word })

/-- Mode 4: the 32 check bytes of the page. -/
def twCheckBytesRead (r : Nat) (t : TileId) (line : Nat) (s : State) : State :=
  let c := (s.tile t).pageCheckOf (bankOf line) (pageOf line)
  s.updEcc r (fun e => { e with twData := c })

/-- Mode 5: the check bytes written. -/
def twCheckBytesWrite (r : Nat) (t : TileId) (line : Nat) (s : State) : State :=
  let d := (s.region r).ecc.twData
  s.updTile t (fun x => x.setPageCheck (bankOf line) (pageOf line) d)

/-- Mode 6: the page queued for rebuild with the word flagged. -/
def twQueue (word : Nat) (t : TileId) (line : Nat) (s : State) : State :=
  s.queueRebuild t (bankOf line) (pageOf line) [pageWord line word]

/-- Mode 7: a remap entry, its row, VALID and spare row index. -/
def twRemapRead (r : Nat) (t : TileId) (line : Nat) (s : State) : State :=
  let i := line % 16
  let e := Table.get 0 (s.tile t).remap (16 * bankOf line + i)
  s.updEcc r (fun g => { g with twData := BitVec.ofNat 256 (e.toNat + 512 * i) ||| (g.twData &&& ~~~(0xFFFFFFFF#256)) })

/-- Mode 8: a remap entry written. -/
def twRemapWrite (r : Nat) (t : TileId) (line : Nat) (s : State) : State :=
  let d := (s.region r).ecc.twData
  s.updTile t (fun x => { x with remap := Table.put 0 x.remap (16 * bankOf line + line % 16) (d.setWidth 9) })

/-- TW_NORMAL_WRITE (R487, mode 0). -/
def execTwNormalWrite (r : BitVec 6) (x y : BitVec 4) (bank : BitVec 5) (line : BitVec 10) (word : BitVec 2) (s : State) :
    Host.Outcome State Fault Refusal :=
  .next (s.testWindow r.toNat 0 x.toNat y.toNat bank.toNat line.toNat word.toNat (twNormalWrite r.toNat word.toNat))

/-- TW_RAW_WRITE (R487, mode 1). -/
def execTwRawWrite (r : BitVec 6) (x y : BitVec 4) (bank : BitVec 5) (line : BitVec 10) (word : BitVec 2) (s : State) :
    Host.Outcome State Fault Refusal :=
  .next (s.testWindow r.toNat 1 x.toNat y.toNat bank.toNat line.toNat word.toNat (twRawWrite r.toNat word.toNat))

/-- TW_CHECKED_READ (R487, mode 2). -/
def execTwCheckedRead (r : BitVec 6) (x y : BitVec 4) (bank : BitVec 5) (line : BitVec 10) (word : BitVec 2) (s : State) :
    Host.Outcome State Fault Refusal :=
  .next (s.testWindow r.toNat 2 x.toNat y.toNat bank.toNat line.toNat word.toNat (twCheckedRead r.toNat word.toNat))

/-- TW_RAW_READ (R487, mode 3). -/
def execTwRawRead (r : BitVec 6) (x y : BitVec 4) (bank : BitVec 5) (line : BitVec 10) (word : BitVec 2) (s : State) :
    Host.Outcome State Fault Refusal :=
  .next (s.testWindow r.toNat 3 x.toNat y.toNat bank.toNat line.toNat word.toNat (twRawRead r.toNat word.toNat))

/-- TW_CHECK_BYTES_READ (R487, mode 4). -/
def execTwCheckBytesRead (r : BitVec 6) (x y : BitVec 4) (bank : BitVec 5) (line : BitVec 10) (s : State) :
    Host.Outcome State Fault Refusal :=
  .next (s.testWindow r.toNat 4 x.toNat y.toNat bank.toNat line.toNat 0 (twCheckBytesRead r.toNat))

/-- TW_CHECK_BYTES_WRITE (R487, mode 5). -/
def execTwCheckBytesWrite (r : BitVec 6) (x y : BitVec 4) (bank : BitVec 5) (line : BitVec 10) (s : State) :
    Host.Outcome State Fault Refusal :=
  .next (s.testWindow r.toNat 5 x.toNat y.toNat bank.toNat line.toNat 0 (twCheckBytesWrite r.toNat))

/-- TW_QUEUE_REBUILD (R487, mode 6). -/
def execTwQueueRebuild (r : BitVec 6) (x y : BitVec 4) (bank : BitVec 5) (line : BitVec 10) (word : BitVec 2) (s : State) :
    Host.Outcome State Fault Refusal :=
  .next (s.testWindow r.toNat 6 x.toNat y.toNat bank.toNat line.toNat word.toNat (twQueue word.toNat))

/-- TW_REMAP_READ (R487, mode 7). -/
def execTwRemapRead (r : BitVec 6) (x y : BitVec 4) (bank : BitVec 5) (line : BitVec 10) (s : State) :
    Host.Outcome State Fault Refusal :=
  .next (s.testWindow r.toNat 7 x.toNat y.toNat bank.toNat line.toNat 0 (twRemapRead r.toNat))

/-- TW_REMAP_WRITE (R487, mode 8). -/
def execTwRemapWrite (r : BitVec 6) (x y : BitVec 4) (bank : BitVec 5) (line : BitVec 10) (s : State) :
    Host.Outcome State Fault Refusal :=
  .next (s.testWindow r.toNat 8 x.toNat y.toNat bank.toNat line.toNat 0 (twRemapWrite r.toNat))

/-- TW_RESERVED_MODE (R487): modes 9 to 15 are refused; a GO with a lower mode is another command's. -/
def execTwReservedMode (r : BitVec 6) (mode : BitVec 4) (s : State) : Host.Outcome State Fault Refusal :=
  if mode.toNat ≤ 8 then .next s
  else .next (s.regAccess r.toNat (fun s => s.updEcc r.toNat (fun e => { e with
    twCtl := (e.twCtl &&& 0x1FFFFFF#29) ||| BitVec.ofNat 29 (0x2000000 * mode.toNat), twGo := false, twRefused := true })))

end Sys2Proof.Machine
end

