-- ==== Sys2Proof/Machine/Issue.lean ====
section
/-! DEFINITION. How a bundle's instructions issue: the sequencer, operands, resources of a cycle, results in flight, and
the umpire (chapter 04). -/

namespace Sys2Proof.Machine

/-- The stepping latencies (R105, R188), by symbol number 1 to 15. -/
def latency (st : Stepping) (sym : Nat) : Nat :=
  match st with
  | .a1 => [0, 2, 3, 6, 3, 2, 2, 1, 9, 6, 4, 12, 4, 6, 10, 14].getD sym 0
  | .b0 => [0, 2, 3, 5, 3, 2, 2, 1, 8, 6, 4, 10, 3, 5, 8, 12].getD sym 0

/-- The latency of a symbol on this module. -/
def State.lat (s : State) (sym : Nat) : Nat := latency s.ident.stepping sym

/-- A scalar register; s0 reads zero (R194). -/
def sreg (x : Tile) (n : Nat) : Word := if n = 0 then 0 else Table.get 0 x.s n

/-- Write a scalar register; writes to s0 are discarded (R194). -/
def setSreg (x : Tile) (n : Nat) (v : Word) : Tile := if n = 0 then x else { x with s := Table.put 0 x.s n v }

/-- A predicate; p0 reads 1 (R194). -/
def preg (x : Tile) (n : Nat) : Bool := if n = 0 then true else Table.get false x.p n

/-- Write a predicate; writes to p0 are discarded (R194). -/
def setPreg (x : Tile) (n : Nat) (v : Bool) : Tile := if n = 0 then x else { x with p := Table.put false x.p n v }

/-- The 128 lanes of a vector register. -/
def lanesOf (x : Tile) (v : Nat) : List Word := Table.getList 0 (Table.get {} x.v v).lanes 0 128

/-- The values of a vector register's lanes. -/
def valsOf (x : Tile) (v : Nat) : List FP := (lanesOf x v).map fp32

/-- Whether a vector register is poisoned. -/
def vPoison (x : Tile) (v : Nat) : Bool := (Table.get {} x.v v).poison

/-- The 64 words of an accumulator row. -/
def accOf (x : Tile) (a : Nat) : List Word := Table.getList 0 (Table.get {} x.acc a).lanes 0 64

/-- The next bundle's stored code holds a double-bit error (R185, R476): every slot of it issues empty. -/
def bundleBad (x : Tile) : Bool :=
  match Table.get none x.progChk x.nextPc with
  | some c => decide ((decodeWord (Table.get 0 x.prog x.nextPc) c).2 = .bad)
  | none => false

/-- Run a slot's instruction when the sequencer issues, the bundle can be read (R185) and its predicate holds (R198). -/
def slotRun (s : State) (t : TileId) (pred : Nat) (f : State → State) : State :=
  if issuing s t && !bundleBad (s.tile t) && preg (s.tile t) pred then f s else s

/-- The umpire records a violation (R130, R131, R254, R129): in debug mode, with EN and the kind's check set; `pc` and `other` are the bundles of
the use reported and of the use it meets. -/
def State.umpireAt (s : State) (t : TileId) (kind slot res pc other detail : Nat) : State :=
  let r := t.region.toNat
  let c := (s.region r).clk
  let x := s.tile t
  if s.boot.debug && c.umpEn && c.umpChecks.getLsbD (kind - 1) then
    let s := s.updClk r (fun c => { c with umpCount := satAdd c.umpCount 1, umpHit := c.umpHit || c.umpHalt })
    let s := s.regionEvent r 0x0B00
      (natLE 1 kind ++ natLE 1 slot ++ natLE 2 res ++ natLE 1 r ++ natLE 1 t.x.toNat ++ natLE 1 t.y.toNat ++ natLE 1 0 ++
       natLE 4 x.cycle ++ natLE 2 pc ++ natLE 2 other ++ natLE 4 (s.clk.stroke.toNat % 2 ^ 32) ++ natLE 2 detail ++ natLE 2 0)
    s.trigger r (trig 10)
  else s

/-- The umpire records a violation by the bundle that issues. -/
def State.umpire (s : State) (t : TileId) (kind slot res other detail : Nat) : State :=
  s.umpireAt t kind slot res (s.tile t).nextPc other detail

/-- The bundle of the last use of a resource (R254); 0xFFFF when there is none. -/
def lastUse (x : Tile) (res : Nat) : Nat := Table.get 0xFFFF x.usePc res

/-- The issuing bundle uses a resource. -/
def markUse (x : Tile) (res : Nat) : Tile := { x with usePc := Table.put 0xFFFF x.usePc res x.nextPc }

/-- The number of a slot (R254). -/
def slotNat : Slot → Nat
  | .ctl => 0
  | .lsu => 1
  | .mxu => 2
  | .vec => 3
  | .rqu => 4
  | .net => 5

/-- Use a resource of this cycle (R248, R252): false, with a slot collision, when another use has it. -/
def State.useRes (s : State) (t : TileId) (slot : Slot) (res : Nat) : State × Bool :=
  let x := s.tile t
  if x.uses.any (fun u => u.1 = res) then (s.umpire t 2 (slotNat slot) res x.nextPc 0, false)
  else (s.updTile t (fun x => { x with uses := x.uses ++ [(res, slot)] }), true)

/-- Use a bank in this cycle (R146, R100): a second scheduled use is not served, is counted in CONFLICT, and R150 applies. -/
def State.useBank (s : State) (t : TileId) (slot : Slot) (bank : Nat) : State × Bool :=
  let x := s.tile t
  if x.uses.any (fun u => u.1 = bank) then
    let s := s.umpire t 1 (slotNat slot) bank x.nextPc 0
    ((s.updTile t (fun x => { x with conflict := satAdd x.conflict 1 })).withhold t, false)
  else (s.updTile t (fun x => { x with uses := x.uses ++ [(bank, slot)] }), true)

/-- The umpire's stale-read check: the last result issued before this bundle to what is read is still in flight (R249, R252, R256); the old
value is returned. -/
def State.staleRead (s : State) (t : TileId) (slot : Slot) (d : Dest) (res : Nat) : State :=
  let x := s.tile t
  match x.inflight.reverse.find? (fun p => p.dest = d && p.at_ ≠ x.cycle) with
  | some p => s.umpire t 3 (slotNat slot) res p.pc.toNat (p.done - x.cycle)
  | none => s

/-- A unit consumes operands (R199): poison makes the tile withhold its commits. -/
def State.consume (s : State) (t : TileId) (poison : Bool) : State := if poison then s.withhold t else s

/-- Put a result in flight: it is written `lat` cycles after this one (R248). -/
def State.launch (s : State) (t : TileId) (slot : Slot) (lat : Nat) (d : Dest) (v : ResultValue) : State :=
  s.updTile t (fun x => { x with
    nextId := x.nextId + 1
    inflight := x.inflight ++ [{ id := x.nextId, slot := slot, done := x.cycle + lat, dest := d, value := v,
                                 pc := BitVec.ofNat 12 x.nextPc, at_ := x.cycle }] })

/-- A scheduled read that is not served returns its line poisoned (R146, R150, R252). -/
def State.unserved (s : State) (t : TileId) : State := (s.updTile t (fun x => { x with poisonCnt := satAdd x.poisonCnt 1 })).withhold t

/-- A scratch line read through a port in this cycle (R146, R147, R252): the port's resource, then the bank. -/
def State.portRead (s : State) (t : TileId) (slot : Slot) (port : Nat) (line : Nat) : State × Bytes × Bool :=
  let p := s.useRes t slot port
  let q := if p.2 then p.1.useBank t slot (bankOf line) else (p.1, false)
  let s := q.1.staleRead t slot (.scratch (BitVec.ofNat 15 line)) (0x8000 + line)
  if q.2 then s.schedRead t line
  else (s.unserved t, (lineRead (s.tile t) line).bytes, true)

/-- A scratch line written through the activation port in this cycle; an unserved write is discarded (R146, R252). -/
def State.portWrite (s : State) (t : TileId) (slot : Slot) (line : Nat) (bs : Bytes) (poison : Bool) : State :=
  let p := s.useRes t slot 0x20
  let q := if p.2 then p.1.useBank t slot (bankOf line) else (p.1, false)
  if q.2 then q.1.schedWrite t line bs poison else q.1.withhold t

/-- The scratch line address (s[A] + LINE) mod 2^15 (R211). -/
def lineAddr (x : Tile) (a line : Nat) : Nat := ((sreg x a).toNat + line) % 32768

/-- Add to the 32-bit cycle counter, saturating (R195). -/
def cycleAdd (c n : Nat) : Nat := min 0xFFFFFFFF (c + n)

/-- The bundle of this cycle has issued (R192, R206, R207): the pc names it, the next bundle follows, a new cycle
begins, and past bundle 4,095 the program ends. -/
def closeBundle (x : Tile) (target : Option Nat) : Tile :=
  let next := match target with
    | some n => n
    | none => x.nextPc + 1
  let x := { x with pc := BitVec.ofNat 12 x.nextPc, nextPc := next % 4096, cycle := cycleAdd x.cycle 1, uses := [], bgUses := [],
                    bswWait := if x.bswWait = 1 then 2 else x.bswWait, netWait := if x.netWait = 1 then 2 else x.netWait }
  if 4096 ≤ next then { x with done := true, endCycle := x.cycle - 1 } else x

/-- A rotation block that no part joins in this cycle is broken (R235, R252). -/
def State.rotGap (s : State) (t : TileId) : State :=
  match (s.tile t).rotNow with
  | some b => if b.cycle = (s.tile t).cycle then s else (s.umpireAt t 2 4 0x29 b.pc 0xFFFF 0).updTile t (fun x => { x with rotNow := none })
  | none => s

/-- A bundle whose fetch found a double-bit error (R185): it issues empty, FETCH_ERR and ERR_ADDR are set, and R150 applies. -/
def State.fetchFault (s : State) (t : TileId) : State :=
  (s.updTile t (fun x => { x with fetchErr := true, errAddr := BitVec.ofNat 12 x.nextPc })).withhold t

/-- A CTL instruction: its own effect on the tile, then the bundle closes. -/
def ctlRun (s : State) (t : TileId) (f : Tile → Tile) (target : Tile → Option Nat) : State :=
  if !issuing s t then s
  else
    let s := s.rotGap t
    if bundleBad (s.tile t) then (s.fetchFault t).updTile t (fun x => closeBundle x none)
    else s.updTile t (fun x => closeBundle (f x) (target x))

/-- Results of one cycle in the order of precedence VEC, MXU, RQU, LSU (R252). -/
def byPrecedence (ps : List Pending) : List Pending :=
  ps.filter (fun p => p.slot = .vec) ++ ps.filter (fun p => p.slot = .mxu) ++ ps.filter (fun p => p.slot = .rqu) ++
    ps.filter (fun p => p.slot = .lsu)

/-- Write lanes into a register. -/
def writeLanes (g : VReg) (whole : Bool) (ls : List (Nat × Word)) (poison : Bool) : VReg :=
  { lanes := ls.foldl (fun (t : Table Word) (p : Nat × Word) => Table.put 0 t p.1 p.2) (if whole then [] else g.lanes)
    poison := poison }

/-- Take elements from the staging queue into the loading block (R224-R226): `n` lines at most. A line leaves the queue when its first
element is taken (log entry 46). A burst that cannot be decoded under the block's format supplies the number of elements of that
format, as NaN (log entry 47: the spec does not say how many). -/
def fillBlock : Nat → Tile → Tile
  | 0, x => x
  | n + 1, x =>
    if x.blkLoad.missing = 0 then x
    else match x.wq with
      | [] => x
      | l :: rest =>
        let bs := Table.getList 0 l.bytes 0 128
        let dec := decodeLine x.blkLoad.fmt.toNat bs
        let es := (match dec with
          | some es => es
          | none => List.replicate (match fmtShape x.blkLoad.fmt.toNat with
            | some sh => sh.nf
            | none => 64) .nan).drop x.wqTaken
        let take := min es.length x.blkLoad.missing
        let b := { x.blkLoad with elems := x.blkLoad.elems ++ es.take take, missing := x.blkLoad.missing - take, from_ := x.cycle + 1,
                                  poison := x.blkLoad.poison || l.poison || dec.isNone }
        if take = es.length then fillBlock n { x with blkLoad := b, wq := rest, wqTaken := 0 }
        else { x with blkLoad := b, wqTaken := x.wqTaken + take }

/-- Staged lines that stand in the queue whole (R216): the one whose elements are being taken has left it. -/
def staged (x : Tile) : Nat := x.wq.length - b2n (decide (0 < x.wqTaken))

/-- The loading block fills; a poisoned or undecodable line that it takes makes the tile withhold its commits (R150, R199, R226). -/
def State.fill (s : State) (t : TileId) : State :=
  let was := (s.tile t).blkLoad.poison
  let s := s.updTile t (fun x => fillBlock 38 x)
  s.consume t (!was && (s.tile t).blkLoad.poison)

/-- The accumulator row after a MUL (R228, R229): its products added exactly to the row and rounded once. With INIT the row is not read,
and a poisoned row does not poison the result (log entry 48). -/
def accAfter (x : Tile) (row : Nat) (init : Bool) (sums : List FP) (poison : Bool) : VReg :=
  let g := Table.get {} x.acc row
  let old := (accOf x row).map fp32
  { lanes := Table.putList 0 [] 0 ((List.range 64).map (fun c =>
      fpAdd (sums.getD c (.fin false 0 0)) (if init then .fin false 0 0 else old.getD c (.fin false 0 0))))
    poison := poison || (!init && g.poison) }

/-- Append elements to the pack stream; the excess over 1,024 is discarded and the stream marked (R238). -/
def packPush (x : Tile) (es : List (Word × Bool)) : Tile :=
  let n := 1024 - x.pack.length
  { x with pack := x.pack ++ es.take n, packOver := x.packOver || decide (n < es.length) }

/-- Write one finished result that is not a vector register's. A PACK burst that finds the egress queue full is dropped (log entry 49: the
spec gives no rule). -/
def State.writeOther (s : State) (t : TileId) (p : Pending) : State :=
  match p.dest, p.value with
  | .acc row, .mac init sums poison =>
    let s := s.consume t (!init && (Table.get {} (s.tile t).acc row.toNat).poison)
    s.updTile t (fun x => { x with acc := Table.put {} x.acc row.toNat (accAfter x row.toNat init sums poison) })
  | .acc row, .lanes whole ls poison =>
    s.updTile t (fun x => { x with acc := Table.put {} x.acc row.toNat (writeLanes (Table.get {} x.acc row.toNat) whole ls poison) })
  | .opLine n, .line bs poison =>
    s.updTile t (fun x => { x with opbuf := Table.put {} x.opbuf n.toNat { bytes := Table.putList 0 [] 0 bs, poison := poison } })
  | .staging, .lines ls =>
    (s.updTile t (fun x => { x with wq := x.wq ++ ls.map (fun l => { bytes := Table.putList 0 [] 0 l.1, poison := l.2 }) })).fill t
  | .scratch line, .line bs poison => s.schedWrite t line.toNat bs poison
  | .packStream, .elems es => s.updTile t (fun x => packPush x es)
  | .egress, .line bs poison =>
    s.updTile t (fun x => if x.egress.length < 8 then { x with egress := x.egress ++ [(bs, poison)] } else x)
  | _, _ => s

/-- Write the vector-register results of one cycle in precedence (R252): at most three writes, and one per register; a
register written twice, or one whose write is discarded, is marked poisoned. -/
def State.writeVregs (s : State) (t : TileId) : List (Nat × Nat) → List Pending → State
  | _, [] => s
  | served, p :: ps =>
    match p.dest, p.value with
    | .vreg d, .lanes whole ls poison =>
      let mark (s : State) : State :=
        s.updTile t (fun x => { x with v := Table.put {} x.v d.toNat { (Table.get {} x.v d.toNat) with poison := true } })
      match served.find? (fun e => e.1 = d.toNat) with
      | some e => ((mark s).umpireAt t 2 (slotNat p.slot) (0x100 + d.toNat) p.pc.toNat e.2 0).writeVregs t served ps
      | none =>
        if 3 ≤ served.length then
          ((mark s).umpireAt t 2 (slotNat p.slot) 0x28 p.pc.toNat ((served.head?.map Prod.snd).getD 0xFFFF) 0).writeVregs t served ps
        else
          (s.updTile t (fun x => { x with v := Table.put {} x.v d.toNat (writeLanes (Table.get {} x.v d.toNat) whole ls poison) })).writeVregs
            t ((d.toNat, p.pc.toNat) :: served) ps
    | _, _ => s.writeVregs t served ps

/-- The earliest cycle in which a result is due. -/
def earliestDone : List Pending → Option Nat
  | [] => none
  | p :: ps => match earliestDone ps with
    | some d => some (min p.done d)
    | none => some p.done

/-- A vector-register result. -/
def isVregResult (p : Pending) : Bool :=
  match p.dest with
  | .vreg _ => true
  | _ => false

/-- RESULT_WRITEBACK (R248, R252): the results whose latency ends first are written, when their cycle has come; a held
or ended sequencer lets the cycles pass. -/
def execResultWriteback (t : TileId) (s : State) : Host.Outcome State Fault Refusal :=
  let x := s.tile t
  match earliestDone x.inflight with
  | none => .next s
  | some d =>
    if x.cycle < d && issuing s t then .next s
    else
      let now := x.inflight.filter (fun p => p.done = d)
      let s := if x.cycle < d then s.rotGap t else s
      let s := s.updTile t (fun x => { x with inflight := x.inflight.filter (fun p => p.done ≠ d), cycle := max x.cycle d })
      let s := s.writeVregs t [] (byPrecedence (now.filter isVregResult))
      .next ((now.filter (fun p => !isVregResult p)).foldl (fun s p => s.writeOther t p) s)

end Sys2Proof.Machine
end

