-- ==== Sys2Proof/Machine/Mesh.lean ====
section
/-! DEFINITION. Flit heads and checks, routing, injection, seam queues and credits (chapters 01 and 10). -/

namespace Sys2Proof.Machine

/-- The head of a flit as a 96-bit number (R503). -/
def headNat (h : FlitHead) : Nat :=
  h.dreg.toNat + h.dx.toNat * 2 ^ 6 + h.dy.toNat * 2 ^ 10 + h.dkind.toNat * 2 ^ 14 + h.lane.toNat * 2 ^ 16 +
  h.kind.toNat * 2 ^ 20 + b2n h.poison * 2 ^ 23 + b2n h.sched * 2 ^ 24 + b2n h.taint * 2 ^ 25 + h.sreg.toNat * 2 ^ 26 +
  h.sx.toNat * 2 ^ 32 + h.sy.toNat * 2 ^ 36 + h.lineOrCrc.toNat * 2 ^ 40 + h.deliv.toNat * 2 ^ 56 +
  h.stroke.toNat * 2 ^ 64 + b2n h.par * 2 ^ 80 + h.rsvd.toNat * 2 ^ 81

/-- The head that 12 bytes hold (R503). -/
def headOf (b : Bytes) : FlitHead :=
  let w := BitVec.ofNat 96 (leNat (b.take 12))
  { dreg := w.extractLsb' 0 6, dx := w.extractLsb' 6 4, dy := w.extractLsb' 10 4, dkind := w.extractLsb' 14 2
    lane := w.extractLsb' 16 4, kind := w.extractLsb' 20 3, poison := w.getLsbD 23, sched := w.getLsbD 24, taint := w.getLsbD 25
    sreg := w.extractLsb' 26 6, sx := w.extractLsb' 32 4, sy := w.extractLsb' 36 4, lineOrCrc := w.extractLsb' 40 16
    deliv := w.extractLsb' 56 8, stroke := w.extractLsb' 64 16, par := w.getLsbD 80, rsvd := w.extractLsb' 81 15 }

/-- The number of ones of a number of `n` bits. -/
def ones : Nat → Nat → Nat
  | 0, _ => 0
  | n + 1, v => v % 2 + ones n (v / 2)

/-- The head's ones are even in number (R503, R504). -/
def parityOk (h : FlitHead) : Bool := ones 96 (headNat h) % 2 = 0

/-- The CRC-16 of a flit (R506). -/
def flitCrc (f : Flit) : BitVec 16 := crc16 (padTo 128 f.body ++ natLE 12 (headNat { f.head with lineOrCrc := 0, par := false }))

/-- Whether a commit, control or descriptor flit passes its CRC-16 (R506). -/
def crcOk (f : Flit) : Bool := f.head.lineOrCrc = flitCrc f

/-- The head with PAR set for even parity. -/
def withParity (h : FlitHead) : FlitHead :=
  let h := { h with par := false }
  { h with par := decide (ones 96 (headNat h) % 2 = 1) }

/-- A flit with its CRC, where its kind carries one, and PAR set. -/
def sealFlit (f : Flit) : Flit :=
  let f := { f with body := padTo 128 f.body }
  let h := if f.head.kind = 0 then f.head else { f.head with lineOrCrc := flitCrc f }
  { f with head := withParity h }

/-- A head with every field zero. -/
def zeroHead : FlitHead :=
  { dreg := 0, dx := 0, dy := 0, dkind := 0, lane := 0, kind := 0, poison := false, sched := false, taint := false,
    sreg := 0, sx := 0, sy := 0, lineOrCrc := 0, deliv := 0, stroke := 0, par := false, rsvd := 0 }

/-- A control flit of lane 0: CKIND and payload words (R508, R510). -/
def ctlFlit (src : TileId) (dkind : BitVec 2) (dst : TileId) (stroke : BitVec 48) (sched : Bool) (ckind : Nat) (ws : List Word) : Flit :=
  sealFlit { head := { zeroHead with dreg := dst.region, dx := dst.x, dy := dst.y, dkind := dkind, kind := 2, sched := sched,
                                     sreg := src.region, sx := src.x, sy := src.y, stroke := stroke.setWidth 16 }
             body := natLE 4 ckind ++ ws.flatMap (fun w => natLE 4 w.toNat) }

/-- The route of a region toward a destination: 0 local, 1 north .. 4 west, 15 unreachable (R511, R530). -/
def State.route (s : State) (r dest : Nat) : Nat := (Table.get 0 (s.region r).mesh.rtab dest).toNat

/-- Change the mesh registers of a region. -/
def State.updMesh (s : State) (r : Nat) (f : RegionMesh → RegionMesh) : State :=
  s.updRegion r (fun g => { g with mesh := f g.mesh })

/-- Change a side of a region. -/
def State.updSeam (s : State) (r side : Nat) (f : SeamSide → SeamSide) : State :=
  s.updMesh r (fun m => { m with sides := Table.put {} m.sides side (f (Table.get {} m.sides side)) })

/-- A mesh port injects a flit (R516, R518): a flit for Cox goes to the region in MSH_COX_REGION, and one toward an
unreachable region is discarded and counted. -/
def State.inject (s : State) (f : Flit) : State :=
  let r := f.head.sreg.toNat
  let f := if f.head.dkind = 3 then sealFlit { f with head := { f.head with dreg := (s.region r).mesh.coxRegion } } else f
  if s.route r f.head.dreg.toNat = 15 then s.updMesh r (fun m => { m with unreach := satAdd m.unreach 1 })
  else { s with transit := s.transit ++ [(r, f.head.sx.toNat, f.head.sy.toNat, f)] }

/-- The flits of a tile's stroke program that still wait at its mesh port, in issue order (R178, R247): they stand at their source and are
not for it. -/
def State.atMeshPort (s : State) (t : TileId) : List Flit :=
  (s.transit.filter (fun e =>
    let h := e.2.2.2.head
    (e.1, e.2.1, e.2.2.1) = (t.region.toNat, t.x.toNat, t.y.toNat) && (h.sreg, h.sx, h.sy) = (t.region, t.x, t.y) && h.sched &&
      h.kind ≠ 2 && !(h.dkind = 0 && (h.dreg, h.dx, h.dy) = (t.region, t.x, t.y)))).map (fun e => e.2.2.2)

/-- The logical exit of a region toward a wafer side (R34, R512): on logical x, and at the high end. -/
def logicalExit (r side : Nat) : Bool × Bool :=
  let p := regionPos r
  if !isEdge r then
    match side with
    | 0 => (false, false)
    | 1 => (true, true)
    | 2 => (false, true)
    | _ => (true, false)
  else if p.2 = 0 then (if side = 1 then (true, true) else if side = 3 then (true, false) else if side = 2 then (false, true) else (false, false))
  else if p.2 = 7 then (if side = 1 then (true, true) else if side = 3 then (true, false) else if side = 0 then (false, true) else (false, false))
  else if p.1 = 0 then (if side = 2 then (true, true) else if side = 0 then (true, false) else if side = 1 then (false, true) else (false, false))
  else (if side = 2 then (true, true) else if side = 0 then (true, false) else if side = 3 then (false, true) else (false, false))

/-- The tile a flit heads for inside region `r`, from column `x` and row `y` (R512-R514). -/
def State.regionTarget (s : State) (r x y : Nat) (h : FlitHead) : Nat × Nat :=
  if h.dreg.toNat = r then
    if h.dkind = 0 then (h.dx.toNat, h.dy.toNat)
    else if h.dkind = 1 then (if isEdge r then (x, 0) else (h.dx.toNat, 0))
    else (0, 0)
  else
    match logicalExit r (s.route r h.dreg.toNat - 1) with
    | (true, hi) => (if hi then 15 else 0, y)
    | (false, hi) => (x, if hi then regionRows r - 1 else 0)

/-- Where a flit that leaves (x, y) of region `r` over a wafer side enters the neighbour: the paired line (R501). -/
def pairedEntry (r q x y : Nat) (side : Nat) : Nat × Nat :=
  let out := logicalExit r side
  let line := if out.1 then y else x
  let inn := logicalExit q (opposite side)
  if inn.1 then (if inn.2 then 15 else 0, line) else (line, if inn.2 then regionRows q - 1 else 0)

/-- The channel of a seam crossing (R501). -/
def seamChannel (r q x y side : Nat) (h : FlitHead) : Nat :=
  let out := logicalExit r side
  let line := if out.1 then y else x
  let k := (h.sreg.toNat + h.sx.toNat + h.sy.toNat) % 3
  if isEdge r && isEdge q then 2 * line + k % 2
  else if isEdge r || isEdge q then 3 * line + k
  else line

/-- Whether a side of a region is open for a lane (R125, R126, R522): always while strokes run, and for lane 0. -/
def State.sideOpen (s : State) (r side : Nat) (lane : Nat) : Bool :=
  let g := s.region r
  let e := s.laneEntry r
  !s.laneTableRules || lane = 0 || (g.clk.laneEn && decide (e.toNat % 16 = lane) && e.getLsbD (4 + side))

/-- Take the first entry of a list that satisfies a condition. -/
def eraseFirst {α : Type} (p : α → Bool) : List α → List α
  | [] => []
  | x :: xs => if p x then xs else x :: eraseFirst p xs

/-- A flit crosses a seam into region `q` (R520, R525): a held side discards and counts it; without a credit it is not
sent; otherwise it joins its queue. -/
def State.crossSeam (s : State) (r q x y side : Nat) (f : Flit) : State :=
  let back := opposite side
  let ch := seamChannel r q x y side f.head
  let here : Nat × Nat × Nat × Flit := (r, x, y, f)
  if (s.seam q back).hold || (s.seam r side).hold then
    let s := { s with transit := eraseFirst (fun e => decide (e = here)) s.transit }
    if (s.seam r side).hold then s.updSeam r side (fun d => { d with drops := satAdd d.drops 1 })
    else s.updSeam q back (fun d => { d with drops := satAdd d.drops 1 })
  else
    let d := s.seam q back
    let q0 := Table.get [] d.lane0 ch
    let qm := Table.get [] d.main ch
    if f.head.lane = 0 then
      if q0.length < 4 then
        { (s.updSeam q back (fun d => { d with lane0 := Table.put [] d.lane0 ch (q0 ++ [f]) })) with
          transit := eraseFirst (fun e => decide (e = here)) s.transit }
      else s
    else if qm.length < 28 then
      { (s.updSeam q back (fun d => { d with main := Table.put [] d.main ch (qm ++ [f]),
                                             highWater := BitVec.ofNat 5 (max d.highWater.toNat (qm.length + 1)) })) with
        transit := eraseFirst (fun e => decide (e = here)) s.transit }
    else s

/-- A port that a flit or send-table entry names is gated (R515, R646, R647): DKIND 1 with this region and DX. -/
def State.portGated (s : State) (r x : Nat) : Bool :=
  match edgeIndex r with
  | some e =>
    if x = 0 then !(s.blockReady r 0 || s.blockReady r 1)
    else if x = 1 then !s.blockReady r 6
    else if x = 2 then !(s.blockReady r 4 || s.blockReady r 5)
    else if 8 ≤ x && x ≤ 13 then !s.linkReady (6 * e + x - 8)
    else true
  | none => if [4, 11, 52, 59].contains r then !s.blockReady r (if x = 0 then 7 else 8) else true

/-- The blocks of a flow's data flits (R541): a header and up to 48 data blocks at a time. The head's TAINT stands for all of its blocks,
so a flit of another TAINT begins a new header (log entry 62). -/
def flowBlocks : Nat → List Flit → List LinkOut
  | 0, _ => []
  | _ + 1, [] => []
  | n + 1, f :: fs =>
    let same := f :: fs.takeWhile (fun g => g.head.taint = f.head.taint)
    let now := same.take 48
    let poison := (List.range 48).foldl (fun a i => a + (if (now.getD i f).head.poison && decide (i < now.length) then 2 ^ i else 0)) 0
    let header := natLE 12 (headNat { f.head with lineOrCrc := 0, par := false }) ++ natLE 1 now.length ++ [0] ++ natLE 6 poison ++
      now.flatMap (fun g => natLE 2 g.head.lineOrCrc.toNat)
    [LinkOut.block 1 (padTo 128 header)] ++ now.map (fun g => LinkOut.block 2 (padTo 128 g.body)) ++
      flowBlocks n ((f :: fs).drop now.length)

/-- The trailer of a flow (R543): the rewritten commit's head and body bytes 0-79. -/
def trailerBlock (c : Flit) : LinkOut := .block 3 (blockOf (natLE 12 (headNat c.head) ++ c.body.take 80))

/-- A flit reaches a tensor-link port (R541-R543, R564): an invalid entry discards and counts it, a commit that fails its check is
discarded, data flits wait for their flow, and the commit sends it on the link, or on its alternate: the data flits of its delivery and
stroke, then the trailer. A flit that is neither data nor commit has no block (log entry 62). -/
def State.linkTakes (s : State) (r k : Nat) (f : Flit) : State :=
  let w := Table.get 0 (s.link k).remote f.head.deliv.toNat
  if !w.getLsbD 16 || 2 ≤ f.head.kind.toNat then s.updMesh r (fun m => { m with stray := satAdd m.stray 1 })
  else if f.head.kind = 1 && !crcOk f then s.updMesh r (fun m => { m with crc := satAdd m.crc 1 })
  else
    let g := sealFlit { f with head := redirect w f.head }
    let rest := (s.link k).packing.filter (fun h => h.head.deliv ≠ g.head.deliv)
    let mine := (s.link k).packing.filter (fun h => h.head.deliv = g.head.deliv && h.head.stroke = g.head.stroke)
    if g.head.kind = 0 then s.updLink k (fun l => { l with packing := rest ++ mine ++ [g] })
    else
      let s := s.updLink k (fun l => { l with packing := rest })
      let out := if (s.link k).altActive then (s.link k).alt.toNat else k
      if (s.link out).state = 2 then s.updLink out (fun l => { l with out := l.out ++ flowBlocks mine.length mine ++ [trailerBlock g] }) else s

/-- A flit has arrived at its target tile for an edge port (R513, R647): a gated port discards and counts it, a tensor link
takes it, and any other port's flit waits for the port's own command. -/
def State.atPort (s : State) (r x y : Nat) (f : Flit) : State :=
  let here : Nat × Nat × Nat × Flit := (r, x, y, f)
  let s' : State := { s with transit := eraseFirst (fun e => decide (e = here)) s.transit }
  let dx := f.head.dx.toNat
  if s.portGated r dx then s'.updMesh r (fun m => { m with stray := satAdd m.stray 1 })
  else match edgeIndex r with
    | some e => if 8 ≤ dx && dx ≤ 13 then s'.linkTakes r (6 * e + dx - 8) f else { s' with transit := s'.transit ++ [here] }
    | none => { s' with transit := s'.transit ++ [here] }

/-- A flit at its source tile waits in the mesh port (R123, R125, R247): behind the flits the tile issued before it, and while no strokes
run, until its lane is granted by the entry in force; a tile injects one lane-0 flit in every 8 ticks. -/
def State.portWaits (s : State) (r x y : Nat) (f : Flit) : Bool :=
  let src : TileId := ⟨f.head.sreg, f.head.sx, f.head.sy⟩
  let ahead := (s.atMeshPort src).head?
  if (r, x, y) ≠ (f.head.sreg.toNat, f.head.sx.toNat, f.head.sy.toNat) then false
  else if (s.atMeshPort src).contains f && ahead ≠ some f then true
  else if !s.laneTableRules then false
  else if f.head.lane = 0 then
    match (s.tile src).lastLane0 with
    | some m => decide (s.now < m + 8)
    | none => false
  else
    let c := (s.region r).clk
    !(c.laneEn && decide ((s.laneEntry r).toNat % 16 = f.head.lane.toNat))

/-- A lane-0 flit that leaves its source tile is the tile's last (R125). -/
def State.portSends (s : State) (r x y : Nat) (f : Flit) : State :=
  if s.laneTableRules && f.head.lane = 0 && decide ((r, x, y) = (f.head.sreg.toNat, f.head.sx.toNat, f.head.sy.toNat)) then
    s.updTile ⟨f.head.sreg, f.head.sx, f.head.sy⟩ (fun t => { t with lastLane0 := some s.now })
  else s

/-- FLIT_RECEIVE (R125, R504, R512): the router of tile (r, x, y) receives a flit. A head failing parity is discarded and
counted; otherwise the flit moves one hop along logical x, then y, toward its region target, crosses the seam its route
names, or has arrived. -/
def execFlitReceive (r : BitVec 6) (x y : BitVec 4) (f : Flit) (s : State) : Host.Outcome State Fault Refusal :=
  let rn := r.toNat
  let xn := x.toNat
  let yn := y.toNat
  let here : Nat × Nat × Nat × Flit := (rn, xn, yn, f)
  if !parityOk f.head then
    let s := { s with transit := eraseFirst (fun e => decide (e = here)) s.transit }
    .next (s.updMesh rn (fun m => { m with parity := satAdd m.parity 1 }))
  else if s.portWaits rn xn yn f then .next s
  else
    let s := s.portSends rn xn yn f
    let tg := s.regionTarget rn xn yn f.head
    let move (x' y' : Nat) : State :=
      { s with transit := eraseFirst (fun e => decide (e = here)) s.transit ++ [(rn, x', y', f)] }
    if xn < tg.1 then .next (move (xn + 1) yn)
    else if tg.1 < xn then .next (move (xn - 1) yn)
    else if yn < tg.2 then .next (move xn (yn + 1))
    else if tg.2 < yn then .next (move xn (yn - 1))
    else if f.head.dreg.toNat = rn then .next (if f.head.dkind = 1 then s.atPort rn xn yn f else move xn yn)
    else
      let side := s.route rn f.head.dreg.toNat - 1
      match neighbour rn side with
      | none => .next { s with transit := eraseFirst (fun e => decide (e = here)) s.transit }
      | some q => .next (s.crossSeam rn q xn yn side f)

/-- The line of a channel on its receiving side, in the receiving region's own coordinates (R501). -/
def channelEntry (q side ch : Nat) : Nat × Nat :=
  let inn := logicalExit q side
  let line := match neighbour q side with
    | some r => if isEdge r && isEdge q then ch / 2 else if isEdge r || isEdge q then ch / 3 else ch
    | none => ch
  if inn.1 then (if inn.2 then 15 else 0, line) else (line, if inn.2 then regionRows q - 1 else 0)

/-- Whether the lane-0 queue of a channel is the one dequeued (R523): a SCHED head goes first, then lane 0; a main queue whose head
waits (`!open_`) does not compete. -/
def takesLane0 (l0 m : List Flit) (open_ : Bool) : Bool :=
  match l0, m with
  | [], _ => false
  | _, [] => true
  | f :: _, g :: _ => !open_ || f.head.sched || !g.head.sched

/-- Whether a side of a region opens the main queue's head flit of a channel (R522). -/
def State.mainOpen (s : State) (r side ch : Nat) : Bool :=
  match Table.get [] (s.seam r side).main ch with
  | [] => false
  | f :: _ => s.sideOpen r side f.head.lane.toNat

/-- SEAM_CREDIT_RETURN (R520, R522, R523): the receiving router takes the head flit of one queue of a channel and the
sender regains a credit; while no strokes run, a main-queue flit whose lane the side does not open waits; when both queues hold a flit,
the one that R523 puts second waits. -/
def execSeamCreditReturn (r : BitVec 6) (side : Side) (ch : BitVec 6) (lane0 : Bool) (s : State) : Host.Outcome State Fault Refusal :=
  let rn := r.toNat
  let d := s.seam rn (sideNat side)
  let e := channelEntry rn (sideNat side) ch.toNat
  let first := takesLane0 (Table.get [] d.lane0 ch.toNat) (Table.get [] d.main ch.toNat) (s.mainOpen rn (sideNat side) ch.toNat)
  if lane0 then
    match Table.get [] d.lane0 ch.toNat with
    | [] => .next s
    | f :: rest =>
      if first then
        .next { (s.updSeam rn (sideNat side) (fun d => { d with lane0 := Table.put [] d.lane0 ch.toNat rest })) with
                transit := s.transit ++ [(rn, e.1, e.2, f)] }
      else .next s
  else
    match Table.get [] d.main ch.toNat with
    | [] => .next s
    | f :: rest =>
      if s.mainOpen rn (sideNat side) ch.toNat && !first then
        .next { (s.updSeam rn (sideNat side) (fun d => { d with main := Table.put [] d.main ch.toNat rest })) with
                transit := s.transit ++ [(rn, e.1, e.2, f)] }
      else .next s

/-- Distances in seam crossings to a destination over the usable regions, after `n` rounds of relaxation. -/
def distRounds (usable : Nat → Bool) : Nat → Table Nat → Table Nat
  | 0, t => t
  | n + 1, t =>
    distRounds usable n ((List.range 64).foldl (fun (t : Table Nat) r =>
      if !usable r then t
      else
        let best := (List.range 4).foldl (fun b d => match neighbour r d with
          | some q => if usable q then min b (Table.get 99 t q + 1) else b
          | none => b) (Table.get 99 t r)
        Table.put 99 t r best) t)

/-- A directed seam, as a number. -/
def seamId (r side : Nat) : Nat := 4 * r + side

/-- Whether `goal` can be reached from the seams of a frontier along dependences, within `n` rounds. -/
def reaches (deps : Table (List Nat)) (goal : Nat) : Nat → List Nat → List Nat → Bool
  | 0, _, _ => false
  | n + 1, seen, fr =>
    if fr.contains goal then true
    else
      let next := (fr.flatMap (fun e => Table.get [] deps e)).filter (fun e => !seen.contains e)
      let next := next.eraseDups
      if next = [] then false else reaches deps goal n (seen ++ next) next

/-- What the route builder holds: routes by 64 * region + destination, crossings of each route, seam dependences. -/
structure RouteBuild where
  routes : Table Nat
  hops : Table Nat
  deps : Table (List Nat)
  deriving DecidableEq, Repr

/-- The order in which Cox prefers sides: east, west, south, north (R517). -/
def sideOrder : List Nat := [1, 3, 2, 0]

/-- Choose the side of region `r` toward destination `d` (R517). -/
def chooseSide (usable : Nat → Bool) (dist : Table Nat) (d r : Nat) (b : RouteBuild) : RouteBuild :=
  if r = d then { b with routes := Table.put 15 b.routes (64 * r + d) 0, hops := Table.put 99 b.hops (64 * r + d) 0 }
  else
    let free (side q : Nat) : Bool :=
      let nx := Table.get 15 b.routes (64 * q + d)
      nx = 0 || !reaches b.deps (seamId r side) 256 [] [seamId q (nx - 1)]
    let cands := sideOrder.filterMap (fun side => match neighbour r side with
      | some q => if usable q && Table.get 15 b.routes (64 * q + d) ≠ 15 then some (side, q) else none
      | none => none)
    let ok := cands.filter (fun c => free c.1 c.2)
    let fewest := ok.find? (fun c => Table.get 99 dist c.2 + 1 = Table.get 99 dist r &&
      Table.get 99 b.hops (64 * c.2 + d) + 1 = Table.get 99 dist r)
    let pick := match fewest with
      | some c => some c
      | none => (sortBy (fun c => Table.get 99 b.hops (64 * c.2 + d)) ok).head?
    match pick with
    | none => b
    | some (side, q) =>
      let nx := Table.get 15 b.routes (64 * q + d)
      let me := seamId r side
      let l := Table.get [] b.deps me
      let deps := if nx = 0 || l.contains (seamId q (nx - 1)) then b.deps else Table.put [] b.deps me (l ++ [seamId q (nx - 1)])
      { routes := Table.put 15 b.routes (64 * r + d) (side + 1)
        hops := Table.put 99 b.hops (64 * r + d) (Table.get 99 b.hops (64 * q + d) + 1)
        deps := deps }

/-- The route tables over the usable regions (R517), by 64 * region + destination; 15 unreachable. -/
def buildRoutes (usable : Nat → Bool) : Table Nat :=
  ((List.range 64).foldl (fun b d =>
    if !usable d then b
    else
      let dist := distRounds usable 20 (Table.put 99 [] d 0)
      let order := sortBy (fun r => 64 * Table.get 99 dist r + r) ((List.range 64).filter usable)
      order.foldl (fun b r => chooseSide usable dist d r b) b) ({ routes := [], hops := [], deps := [] } : RouteBuild)).routes

/-- Cox, or hardware at power-on, writes every region's route table (R517). -/
def State.rewriteRoutes (s : State) (usable : Nat → Bool) : State :=
  let t := buildRoutes usable
  s.eachRegion (fun r s =>
    let row := Table.putList 0 [] 0 ((List.range 64).map (fun d => BitVec.ofNat 4 (Table.get 15 t (64 * r + d))))
    s.updMesh r (fun m => { m with rtab := row }))

/-- HOLD is set on a seam side (R525): its queues are emptied and held in reset; AUTO when hardware did it. -/
def State.holdSide (s : State) (r side : Nat) (auto : Bool) : State :=
  s.updSeam r side (fun d => { d with hold := true, auto := d.auto || auto, main := [], lane0 := [] })

end Sys2Proof.Machine
end

