-- ==== Sys2Proof/Machine/Tier.lean ====
section
/-! DEFINITION. The device address map, tier memory and its page code, tier DMA, patrol and flash (chapter 09). -/

namespace Sys2Proof.Machine

/-- The channel key of a device address and its offset in the window: stacks 0-31, module-tier channels 32-63 (R455). -/
def addrChan (a : Nat) : Option (Nat × Nat) :=
  if a < 0x40000000000 then some (a / 0x2000000000, a % 0x2000000000)
  else if a < 0x60000000000 then some (32 + (a - 0x40000000000) / 0x1000000000, (a - 0x40000000000) % 0x1000000000)
  else none

/-- Populated bytes of a window (R455). -/
def popBytes (chan : Nat) : Nat := if chan < 32 then 96000000000 else 64000000000

/-- The device address of byte 0 of a window. -/
def chanBase (chan : Nat) : Nat := if chan < 32 then chan * 0x2000000000 else 0x40000000000 + (chan - 32) * 0x1000000000

/-- Coded pages of a window (R466). -/
def State.codedPages (s : State) (chan : Nat) : Nat := Table.get 0 s.tier.coded chan

/-- The first byte of the check area of a window (R466). -/
def State.checkArea (s : State) (chan : Nat) : Nat := popBytes chan - ceilDiv (s.codedPages chan) 128 * 4096

/-- An address inside the tiers: populated, and not in a check area (R457). -/
def State.inTier (s : State) (a : Nat) : Bool :=
  match addrChan a with
  | some (c, off) => decide (off < s.checkArea c)
  | none => false

/-- The edge index that holds a channel (R23). -/
def chanEdge (chan : Nat) : Nat := chan % 32 / 2

/-- Read bytes of tier memory. -/
def State.tierBytes (s : State) (a n : Nat) : Bytes := Table.getList 0 s.tier.mem a n

/-- Write bytes of tier memory. -/
def State.tierStore (s : State) (a : Nat) (bs : Bytes) : State :=
  { s with tier := { s.tier with mem := Table.putList 0 s.tier.mem a bs } }

/-- The HBM channel of a stack that holds an offset of its window, and the pseudo-channel (R456). -/
def hbmChannel (off : Nat) : Nat × Nat := (off / 4096 % 32, off / 32 % 2)

/-- The sub-channel of a module-tier channel that holds an offset of its window (R456). -/
def moduleSubChannel (off : Nat) : Nat := off / 32 % 4

/-- Where the check bytes of coded page `p` stand (R466). -/
def checkAddr (chan p : Nat) : Nat := chanBase chan + popBytes chan - (p / 128 + 1) * 4096 + 32 * (p % 128)

/-- A page of a window is coded (R466). -/
def State.isCoded (s : State) (chan page : Nat) : Bool := decide (page < s.codedPages chan)

/-- The words of a tier page. -/
def State.tierPageWords (s : State) (chan page : Nat) : List (BitVec 256) :=
  (List.range 128).map (fun i => BitVec.ofNat 256 (leNat (s.tierBytes (chanBase chan + 4096 * page + 32 * i) 32)))

/-- The check bytes of a tier page. -/
def State.tierCheck (s : State) (chan page : Nat) : BitVec 256 := BitVec.ofNat 256 (leNat (s.tierBytes (checkAddr chan page) 32))

/-- Write the check bytes of a coded page from its contents (R468). -/
def State.tierReseal (s : State) (chan page : Nat) : State :=
  s.tierStore (checkAddr chan page) (natLE 32 (pageCheck (s.tierPageWords chan page)).toNat)

/-- A tier page is lost (R468, R469). -/
def State.tierLose (s : State) (chan page : Nat) : State :=
  let r := edgeRegions.getD (chanEdge chan) 0
  let s := { s with tier := { s.tier with lost := Table.put 0 s.tier.lost chan (satAdd (Table.get 0 s.tier.lost chan) 1) } }
  let s := s.count 0x703005 1
  let s := s.regionEvent r 0x0404 (natLE 1 chan ++ natLE 4 page)
  s.tierContentLost chan page

/-- A read of a coded page finds it lost (R468): words reported uncorrectable and the check decide. -/
def State.pageLost (s : State) (chan page : Nat) (erased : List Nat) : Bool :=
  if chan < 32 && erased ≠ [] then decide (2 ≤ erased.length)
  else decide (pageCheck (s.tierPageWords chan page) ≠ s.tierCheck chan page)

/-- A whole-page read of a coded page (R468): words reported uncorrectable (`erased`, by word number) and a check
mismatch decide; one erased stack word is rebuilt and written back. -/
def State.tierPageRead (s : State) (chan page : Nat) (erased : List Nat) : State :=
  if !s.isCoded chan page then s
  else
    let ws := s.tierPageWords chan page
    let chk := s.tierCheck chan page
    if chan < 32 then
      match erased with
      | [] => if pageCheck ws = chk then s else s.tierLose chan page
      | [w] =>
        let d := rebuildWord ws w chk
        let s := s.tierStore (chanBase chan + 4096 * page + 32 * w) (natLE 32 d.toNat)
        let s := { s with tier := { s.tier with rebuilt := Table.put 0 s.tier.rebuilt chan (satAdd (Table.get 0 s.tier.rebuilt chan) 1) } }
        s.count 0x703004 1
      | _ => s.tierLose chan page
    else if pageCheck ws = chk then s
    else
      let s := { s with tier := { s.tier with rebuilt := Table.put 0 s.tier.rebuilt chan (satAdd (Table.get 0 s.tier.rebuilt chan) 1) } }
      s.tierLose chan page

/-- A controller's corrected reports are counted, and in the leaky bucket (R461, R462, R484). -/
def State.tierCorrected (s : State) (chan n : Nat) : State :=
  if n = 0 then s
  else
    let s : State := { s with tier := { s.tier with
      corrected := Table.put 0 s.tier.corrected chan (satAdd (Table.get 0 s.tier.corrected chan) n) } }
    s.bucket (edgeRegions.getD (chanEdge chan) 0) n

/-- TIER_PAGE_READ (R461, R462, R468): a read of a page, the words reported uncorrectable and the number of corrected reports. -/
def execTierPageRead (chan : BitVec 6) (page : Nat) (erased : List Nat) (corrected : Nat) (s : State) : Host.Outcome State Fault Refusal :=
  .next ((s.tierCorrected chan.toNat corrected).tierPageRead chan.toNat page erased)

/-- TIER_PATROL (R469): the controller reads the next coded page of a channel. -/
def execTierPatrol (chan : BitVec 6) (erased : List Nat) (corrected : Nat) (s : State) : Host.Outcome State Fault Refusal :=
  let c := chan.toNat
  let n := s.codedPages c
  if n = 0 then .next s
  else
    let p := Table.get 0 s.tier.patrol c % n
    let s := (s.tierCorrected c corrected).tierPageRead c p erased
    .next { s with tier := { s.tier with patrol := Table.put 0 s.tier.patrol c ((p + 1) % n) } }

/-- The coded page whose check bytes hold address `a`, in a window that ends at `stop` (R466). -/
def checkedPage (stop a : Nat) : Nat := (stop - 1 - a) / 4096 * 128 + (4095 - (stop - 1 - a) % 4096) / 32

/-- CODED_PAGES_WRITE (R466, R467): N is set; the pages that enter the coded range are zeroed, and their check bytes with
them. N above its limit is held at the limit. -/
def State.setCoded (s : State) (chan n : Nat) : State :=
  let n := min n (if chan < 32 then 23255813 else 15503875)
  let old := s.codedPages chan
  let lo := chanBase chan + 4096 * old
  let hi := chanBase chan + 4096 * n
  let area := chanBase chan + popBytes chan - ceilDiv n 128 * 4096
  let stop := chanBase chan + popBytes chan
  let drop (a : Nat) : Bool := (lo ≤ a && a < hi) || (area ≤ a && a < stop && decide (old ≤ checkedPage stop a))
  let mem := if old < n then s.tier.mem.filter (fun c => !drop c.1) else s.tier.mem
  { s with tier := { s.tier with coded := Table.put 0 s.tier.coded chan n, mem := mem } }

/-- CODED_PAGES_WRITE (R19, R466, R467): a write of STK_CODED_PAGES or MDT_CODED_PAGES; a gated controller discards it. -/
def execCodedPagesWrite (chan : BitVec 6) (count : BitVec 25) (s : State) : Host.Outcome State Fault Refusal :=
  let c := chan.toNat
  let r := edgeRegion (chanEdge c)
  let b := if c < 32 then c % 2 else 2 + c % 2
  .next (s.regAccess r (fun s => if s.blockReady r b then s.setCoded c count.toNat else s))

/-- The descriptor of 128 bytes (R470, R509). -/
def parseDesc (bs : Bytes) : Descriptor :=
  let bs := padTo 128 bs
  let at_ (o n : Nat) : Nat := leNat ((bs.drop o).take n)
  let n := at_ 3 1
  { op := at_ 0 1, notify := bs.getD 1 0 |>.getLsbD 0, fence := bs.getD 1 0 |>.getLsbD 1, tag := at_ 2 1, count := n,
    line := BitVec.ofNat 15 (at_ 4 2), region := bs.getD 6 0, tile := bs.getD 7 0, dest := at_ 8 8,
    extents := (List.range (min n 8)).map (fun i => (at_ (32 + 12 * i) 8, at_ (40 + 12 * i) 4)),
    reservedSet := decide (3 < at_ 1 1) || decide (at_ 16 16 ≠ 0) || decide (0x7FFF < at_ 4 2) || n = 0 || decide (8 < n) ||
      (decide (at_ 0 1 ≠ 3) && decide (at_ 8 8 ≠ 0)) || !([1, 2, 3].contains (at_ 0 1)) }

/-- The lines a descriptor names. -/
def descLines (d : Descriptor) : Nat := d.extents.foldl (fun n e => n + e.2) 0

/-- The tile a descriptor acts on: the issuer, or the one it names (R470). -/
def descTile (d : Descriptor) (f : Flit) : TileId :=
  if d.region = 0xFF then ⟨f.head.sreg, f.head.sx, f.head.sy⟩
  else ⟨d.region.setWidth 6, d.tile.setWidth 4, (d.tile >>> 4).setWidth 4⟩

/-- A run of `n` lines at address `a` covers only whole coded pages. -/
def State.wholeCoded (s : State) (a n : Nat) : Bool :=
  match addrChan a with
  | none => true
  | some (c, off) =>
    let stop := off + 128 * n
    (off % 4096 = 0 || !s.isCoded c (off / 4096)) && (stop % 4096 = 0 || !s.isCoded c (stop / 4096))

/-- A run of `n` lines lies within the tiers, on the controller of edge index `edge`. -/
def State.onEdge (s : State) (edge a n : Nat) : Bool :=
  match addrChan a with
  | none => false
  | some (c, off) => chanEdge c = edge && decide (off + 128 * n ≤ s.checkArea c) && decide (off % 128 = 0) && decide (0 < n)

/-- Why the controller refuses a descriptor (R471): 1 an extent elsewhere, 2 part of a coded page, 3 a reserved field. -/
def State.descRefusal (s : State) (edge : Nat) (d : Descriptor) : Option Nat :=
  if !d.extents.all (fun e => s.onEdge edge e.1 e.2) then some 1
  else if d.op = 3 && !s.onEdge edge d.dest (descLines d) then some 1
  else if (d.op = 2 && !d.extents.all (fun e => s.wholeCoded e.1 e.2)) || (d.op = 3 && !s.wholeCoded d.dest (descLines d)) then some 2
  else if d.reservedSet || decide (32768 < descLines d) then some 3
  else none

/-- A refusal is reported to Cox and recorded (R471, code 0x0403). -/
def State.refuseDesc (s : State) (edge : Nat) (d : Descriptor) (f : Flit) (why : Nat) : State :=
  let s := s.regionEvent (edgeRegion edge) 0x0403
    (natLE 1 d.op ++ natLE 8 (match d.extents with
      | e :: _ => e.1
      | [] => 0) ++ natLE 1 why)
  { s with tier := { s.tier with done := s.tier.done ++ [(edge, { flit := f, refused := true })] } }

/-- A descriptor handed to the wrong unit of the controller: one whose OP is reserved is refused (R470, R471), another is its own
unit's. -/
def State.badOp (s : State) (edge : Nat) (d : Descriptor) (f : Flit) : State :=
  if [1, 2, 3].contains d.op then s else s.refuseDesc edge d f 3

/-- A scheduled descriptor that comes after the catch following its stroke, with which the next stroke begins (R473, R509). -/
def State.descLate (s : State) (f : Flit) : Bool :=
  f.head.sched && laterMod 16 (s.clk.stroke.toNat % 65536) (f.head.stroke.toNat % 65536)

/-- An earlier descriptor of the same issuer at the controller is not complete (R470, FENCE). -/
def State.fenceHolds (s : State) (edge : Nat) (d : Descriptor) (f : Flit) : Bool :=
  let same (h : FlitHead) : Bool := h.sreg = f.head.sreg && h.sx = f.head.sx && h.sy = f.head.sy
  d.fence && (s.tier.waiting.any (fun w => w.1 = edge && same w.2.flit.head && decide (w.2.flit ≠ f)) ||
    s.tier.done.any (fun w => w.1 = edge && same w.2.flit.head))

/-- The coded pages of an extent list are lost, as Cox treats a discarded WRITE (R473). -/
def State.loseExtents (s : State) (es : List (Nat × Nat)) : State :=
  es.foldl (fun s e => match addrChan e.1 with
    | none => s
    | some (c, off) =>
      (List.range (ceilDiv (off % 4096 + 128 * e.2) 4096)).foldl (fun s i =>
        let p := off / 4096 + i
        if s.isCoded c p then s.tierLose c p else s) s) s

/-- The pages an extent covers whole are checked as it is read, and so is a stack page with a word reported uncorrectable (R468). -/
def State.readChecks (s : State) (es : List (Nat × Nat)) (erased : List Nat) : State :=
  es.foldl (fun s e => match addrChan e.1 with
    | none => s
    | some (c, off) =>
      (List.range (ceilDiv (off % 4096 + 128 * e.2) 4096)).foldl (fun s i =>
        let p := off / 4096 + i
        let base := chanBase c + 4096 * p
        let ws := (erased.filter (fun a => base ≤ a && a < base + 4096)).map (fun a => (a - base) / 32) |>.eraseDups
        let whole := off ≤ 4096 * p && 4096 * (p + 1) ≤ off + 128 * e.2
        if whole || (decide (c < 32) && ws ≠ []) then s.tierPageRead c p ws else s) s) s

/-- The lines of an extent list, in order. -/
def State.extentLines (s : State) (es : List (Nat × Nat)) : List Bytes :=
  es.flatMap (fun e => (List.range e.2).map (fun i => s.tierBytes (e.1 + 128 * i) 128))

/-- The lines of an extent list that a read does not give (R461, R468): on a coded page that the read finds lost, or with a
word of a plain stack page reported uncorrectable. -/
def State.lostLines (s : State) (es : List (Nat × Nat)) (erased : List Nat) : List Bool :=
  es.flatMap (fun e => (List.range e.2).map (fun i =>
    let a := e.1 + 128 * i
    match addrChan a with
    | none => true
    | some (c, off) =>
      let p := off / 4096
      let base := chanBase c + 4096 * p
      let ws := ((erased.filter (fun b => base ≤ b && b < base + 4096)).map (fun b => (b - base) / 32)).eraseDups
      let whole := decide (e.1 ≤ base) && decide (base + 4096 ≤ e.1 + 128 * e.2)
      if !s.isCoded c p then decide (c < 32) && erased.any (fun b => decide (a ≤ b) && decide (b < a + 128))
      else if whole || (decide (c < 32) && ws ≠ []) then s.pageLost c p ws
      else false))

/-- Store lines over an extent list, resealing the coded pages (R468). -/
def State.storeExtents (s : State) (es : List (Nat × Nat)) (ls : List Bytes) : State :=
  let addrs := es.flatMap (fun e => (List.range e.2).map (fun i => e.1 + 128 * i))
  let s := (addrs.zip ls).foldl (fun s p => s.tierStore p.1 (padTo 128 p.2)) s
  es.foldl (fun s e => match addrChan e.1 with
    | none => s
    | some (c, off) =>
      (List.range (ceilDiv (128 * e.2) 4096)).foldl (fun s i =>
        if s.isCoded c (off / 4096 + i) then s.tierReseal c (off / 4096 + i) else s) s) s

/-- DMA_READ (R143, R220, R468, R470-R473, R647, R474, R475): the descriptor's lines are read and sent to the tile, whose ingress queue takes 8, and
where they land on its tag unless a gather has taken that over,
those of a lost page poisoned (log entry 33); a refused READ lands its lines poisoned and completes its tag; a late or corrupt descriptor is discarded. -/
def execDmaRead (edge : BitVec 4) (f : Flit) (erased : List Nat) (s : State) : Host.Outcome State Fault Refusal :=
  let e := edge.toNat
  let d := parseDesc f.body
  if s.portGated (edgeRegion e) 0 then .next (s.updMesh (edgeRegion e) (fun m => { m with stray := satAdd m.stray 1 }))
  else if !crcOk f then .next (s.updMesh (edgeRegion e) (fun m => { m with crc := satAdd m.crc 1 }))
  else if d.op ≠ 1 then .next (s.badOp e d f)
  else if s.fenceHolds e d f then .next s
  else if s.descLate f then .next { s with tier := { s.tier with lateDesc := s.tier.lateDesc + 1 } }
  else
    let t := descTile d f
    let n := descLines d
    let g := Table.get {} (s.tile t).gtag (d.tag % 16)
    let mine := if f.head.sched then g.outstanding && g.read && decide (g.line = d.line) else !g.outstanding || g.read
    let keep (x : Tile) (v : Gather) : Table Gather := if mine then Table.put {} x.gtag (d.tag % 16) v else x.gtag
    match s.descRefusal e d with
    | some why =>
      let s := s.updTile t (fun x => { x with
        linePoison := (List.range (min n 32768)).foldl (fun m i => Table.put false m ((d.line.toNat + i) % 32768) true) x.linePoison
        gtag := keep x { g with outstanding := false, linesLeft := 0 } })
      .next (s.refuseDesc e d f why)
    | none =>
      let gone := s.lostLines d.extents erased
      let s := s.readChecks d.extents erased
      let ls := s.extentLines d.extents
      let landings : List Landing := (ls.zipIdx).map (fun p =>
        { line := d.line + BitVec.ofNat 15 p.2, bytes := p.1, poison := gone.getD p.2 false, tag := if mine then some (d.tag % 16) else none,
          serial := g.serial })
      let s := s.updTile t (fun x =>
        let room := if x.inWait = [] then 8 - x.ingress.length else 0
        { x with
          ingress := x.ingress ++ landings.take room
          inWait := x.inWait ++ landings.drop room
          gtag := keep x { g with outstanding := true, line := d.line, linesLeft := n, lines := n, read := true } })
      .next { s with tier := { s.tier with done := s.tier.done ++ [(e, { flit := f })] } }

/-- DMA_WRITE (R472): data lines join the descriptor; once all are there the WRITE is carried out whole, or discarded
when a line is poisoned. -/
def execDmaWrite (edge : BitVec 4) (f : Flit) (lines : List (Bytes × Bool)) (s : State) : Host.Outcome State Fault Refusal :=
  let e := edge.toNat
  let d := parseDesc f.body
  if s.portGated (edgeRegion e) 0 then .next (s.updMesh (edgeRegion e) (fun m => { m with stray := satAdd m.stray 1 }))
  else if !crcOk f then .next (s.updMesh (edgeRegion e) (fun m => { m with crc := satAdd m.crc 1 }))
  else if d.op ≠ 2 then .next (s.badOp e d f)
  else if s.fenceHolds e d f then .next s
  else if s.descLate f then
    let s : State := { s with tier := { s.tier with lateDesc := s.tier.lateDesc + 1 } }
    .next (s.loseExtents d.extents)
  else
    match s.descRefusal e d with
    | some why => .next (s.refuseDesc e d f why)
    | none =>
      let had : List (Bytes × Bool) := match s.tier.waiting.find? (fun w => w.1 = e && decide (w.2.flit = f)) with
        | some w => w.2.lines
        | none => []
      let rest := s.tier.waiting.filter (fun w => !(w.1 = e && decide (w.2.flit = f)))
      let ls := had ++ lines
      let n := descLines d
      if ls.length < n then .next { s with tier := { s.tier with waiting := rest ++ [(e, { flit := f, lines := ls })] } }
      else
        let s : State := { s with tier := { s.tier with waiting := rest, done := s.tier.done ++ [(e, { flit := f })] } }
        if (ls.take n).any (fun (l : Bytes × Bool) => l.2) then .next (s.loseExtents d.extents)
        else .next (s.storeExtents d.extents ((ls.take n).map (fun (l : Bytes × Bool) => l.1)))

/-- At a catch a controller discards the WRITEs of the stroke before whose data is incomplete (R472). -/
def State.discardWrites (s : State) : State :=
  let gone := s.tier.waiting.filter (fun w => w.2.flit.head.sched)
  let s := { s with tier := { s.tier with waiting := s.tier.waiting.filter (fun w => !w.2.flit.head.sched) } }
  gone.foldl (fun s w => s.loseExtents (parseDesc w.2.flit.body).extents) s

/-- DMA_COPY (R470, R471): tiers to tiers, for control cores only; it writes nothing when a line it reads is lost (log entry 33). -/
def execDmaCopy (edge : BitVec 4) (f : Flit) (erased : List Nat) (s : State) : Host.Outcome State Fault Refusal :=
  let e := edge.toNat
  let d := parseDesc f.body
  if s.portGated (edgeRegion e) 0 then .next (s.updMesh (edgeRegion e) (fun m => { m with stray := satAdd m.stray 1 }))
  else if !crcOk f then .next (s.updMesh (edgeRegion e) (fun m => { m with crc := satAdd m.crc 1 }))
  else if d.op ≠ 3 then .next (s.badOp e d f)
  else if s.fenceHolds e d f then .next s
  else if f.head.sched then .next (s.refuseDesc e d f 3)
  else
    match s.descRefusal e d with
    | some why => .next (s.refuseDesc e d f why)
    | none =>
      let gone := s.lostLines d.extents erased
      let s := s.readChecks d.extents erased
      let s := if gone.contains true then s else s.storeExtents [(d.dest, descLines d)] (s.extentLines d.extents)
      .next { s with tier := { s.tier with done := s.tier.done ++ [(e, { flit := f })] } }

/-- DMA_COMPLETE (R470, R508): the oldest finished descriptor of the controller completes; a READ's tag completes once its
lines have landed, and NOTIFY sends a completion flit with TAG and the refused flag to the issuer. -/
def execDmaComplete (edge : BitVec 4) (s : State) : Host.Outcome State Fault Refusal :=
  match s.tier.done.find? (fun w => w.1 = edge.toNat) with
  | none => .next s
  | some w =>
    let f := w.2.flit
    let d := parseDesc f.body
    let s := { s with tier := { s.tier with done := eraseFirst (fun v => decide (v = w)) s.tier.done } }
    let src : TileId := ⟨BitVec.ofNat 6 (edgeRegion edge.toNat), 0, 0⟩
    let dst : TileId := ⟨f.head.sreg, f.head.sx, f.head.sy⟩
    if d.notify then
      .next (s.inject (ctlFlit src (if f.head.dkind = 2 then 2 else 0) dst 0 false 4
        [BitVec.ofNat 32 (d.tag + 256 * b2n w.2.refused), 0, 0, 0]))
    else .next s

/-- A flash block is retired (R464, code 0x0406). -/
def State.retireBlock (s : State) (chan die block : Nat) : State :=
  if s.tier.retired.contains (chan, die, block) then s
  else
    let s := State.writeField { s with tier := { s.tier with retired := s.tier.retired ++ [(chan, die, block)] } }
    s.event 0x0406 (edgeRegion (chan / 2)) (natLE 1 chan ++ natLE 1 die ++ natLE 4 block)

end Sys2Proof.Machine
end

