-- ==== Sys2Proof/Machine/Cache.lean ====
section
/-! DEFINITION. Cache mode: the directory, misses, fills, mask changes and whole-cache operations (R151-R163). -/

namespace Sys2Proof.Machine

/-- The set of a device address (R153): bits [16:7]. -/
def cacheSet (a : Nat) : Nat := a / 128 % 1024

/-- The tag of a device address (R153). -/
def cacheTag (a : Nat) : Nat := a / 131072

/-- The ways of a tile: the numbers, from 0, of its cache-mode banks, lowest first (R151, R153). -/
def cacheWays (x : Tile) : List Nat := (List.range 8).filter (fun i => x.cacheMask.getLsbD i)

/-- The directory line of a way and set. -/
def cacheLineOf (x : Tile) (way set : Nat) : CacheLine := Table.get {} x.cacheDir (1024 * way + set)

/-- Change the directory line of a way and set. -/
def setCacheLine (x : Tile) (way set : Nat) (c : CacheLine) : Tile :=
  { x with cacheDir := Table.put {} x.cacheDir (1024 * way + set) c }

/-- The scratch line that holds a way and set. -/
def cacheScratch (way set : Nat) : Nat := 1024 * (24 + way) + set

/-- The way that holds a device address. -/
def cacheHit (x : Tile) (a : Nat) : Option Nat :=
  (cacheWays x).find? (fun w => (cacheLineOf x w (cacheSet a)).valid && decide ((cacheLineOf x w (cacheSet a)).tag = cacheTag a))

/-- The data of a request goes back to its requester: a gather's line waits for its write (R218); a control core gets the
line, or an access fault (R148). -/
def State.cacheReturn (s : State) (t : TileId) (q : CacheReq) (d : Option Bytes) : State :=
  s.updTile t (fun x => match q.gather with
    | some (tag, n) => { x with gatherReady := x.gatherReady ++ [(tag, n, d)] }
    | none => { x with cacheOut := d })

/-- A line with the bytes of a write put in their place (R155). -/
def CacheReq.merge (q : CacheReq) (line bs : Bytes) : Bytes := padTo 128 (line.take q.byte ++ bs ++ line.drop (q.byte + bs.length))

/-- A dirty line of a way and set is written back to its tier and becomes clean; one whose word code fails is lost
(R155, R158). -/
def State.cacheWriteBack (s : State) (t : TileId) (way set : Nat) : State :=
  let c := cacheLineOf (s.tile t) way set
  if !(c.valid && c.dirty) then s
  else
    let o := lineRead (s.tile t) (cacheScratch way set)
    let s := s.readEffects t (cacheScratch way set) o
    if o.bad = [] then
      (s.tierStore (131072 * c.tag + 128 * set) o.bytes).updTile t (fun x => setCacheLine x way set { c with dirty := false })
    else s.updTile t (fun x => { (setCacheLine x way set {}) with cacheLost := true })

/-- A miss (R155, R157): it is counted; a write that does not allocate goes to the tier; the rest wait for their fill. -/
def State.cacheMiss (s : State) (t : TileId) (q : CacheReq) : State :=
  let s := s.updTile t (fun x => { x with misses := satAdd x.misses 1 })
  match q.write with
  | some bs =>
    if (s.tile t).walloc then s.updTile t (fun x => { x with cacheMissQ := x.cacheMissQ ++ [q] })
    else s.tierStore (q.addr + q.byte) bs
  | none => s.updTile t (fun x => { x with cacheMissQ := x.cacheMissQ ++ [q] })

/-- A hit (R157, R158): a write makes the line dirty; a read returns it, a double-bit error of a clean line is refetched,
and one of a dirty line loses the data. -/
def State.cacheServeHit (s : State) (t : TileId) (way : Nat) (q : CacheReq) : State :=
  let set := cacheSet q.addr
  let c := cacheLineOf (s.tile t) way set
  match q.write with
  | some bs =>
    let o := lineRead (s.tile t) (cacheScratch way set)
    let part := decide (bs.length < 128)
    let s := if part then s.readEffects t (cacheScratch way set) o else s
    if part && o.bad ≠ [] then
      let s := s.updTile t (fun x => setCacheLine x way set {})
      if c.dirty then (s.updTile t (fun x => { x with cacheLost := true })).cacheReturn t q none else s.cacheMiss t q
    else s.updTile t (fun x => setCacheLine (writeLine x (cacheScratch way set) (q.merge o.bytes bs) false) way set { c with dirty := true })
  | none =>
    let o := lineRead (s.tile t) (cacheScratch way set)
    let s := s.readEffects t (cacheScratch way set) o
    if o.bad = [] then s.cacheReturn t q (some o.bytes)
    else
      let s := s.updTile t (fun x => setCacheLine x way set {})
      if c.dirty then (s.updTile t (fun x => { x with cacheLost := true })).cacheReturn t q none
      else s.cacheMiss t q

/-- An unscheduled request reaches the tile (R152, R157, R160): it waits while BUSY is set; outside the tiers it is
answered with an access fault (R457). -/
def State.cacheServe (s : State) (t : TileId) (q : CacheReq) : State :=
  if !s.inTier q.addr then s.cacheReturn t q none
  else if (s.tile t).cacheBusy then s.updTile t (fun x => { x with cacheWait := x.cacheWait ++ [q] })
  else match cacheHit (s.tile t) q.addr with
    | some w => s.cacheServeHit t w q
    | none => s.cacheMiss t q

/-- CACHE_ACCESS (R157): the region control core reads a line of tier memory through the tile's cache, or writes bytes of one. -/
def execCacheAccess (t : TileId) (addr : Nat) (write : Option Bytes) (s : State) : Host.Outcome State Fault Refusal :=
  .next (s.cacheServe t { addr := addr / 128 * 128, byte := addr % 128, write := write })

/-- The way a fill takes (R154): the lowest invalid way, else the one the set's rotating pointer gives. -/
def fillWay (x : Tile) (set : Nat) : Option Nat :=
  let ws := cacheWays x
  match ws.find? (fun w => !(cacheLineOf x w set).valid) with
  | some w => some w
  | none => ws[Table.get 0 x.victim set % ws.length]?

/-- Put a line into the cache (R154, R155): the way it takes is written back first, and the victim pointer advances. -/
def State.cacheFillLine (s : State) (t : TileId) (a : Nat) (bs : Bytes) (dirty : Bool) : State :=
  let set := cacheSet a
  match fillWay (s.tile t) set with
  | none => if dirty then s.tierStore a bs else s
  | some w =>
    (s.cacheWriteBack t w set).updTile t (fun x =>
      { (setCacheLine (writeLine x (cacheScratch w set) bs false) w set { tag := cacheTag a, valid := true, dirty := dirty }) with
        victim := Table.put 0 x.victim set ((Table.get 0 x.victim set + 1) % (cacheWays x).length) })

/-- CACHE_FILL (R154, R155): the oldest miss outstanding comes back from its tier, `lost` when the tier lost its page; a
gather still outstanding at a catch fills the cache too (R163). -/
def execCacheFill (t : TileId) (lost : Bool) (s : State) : Host.Outcome State Fault Refusal :=
  match (s.tile t).cacheMissQ with
  | [] => .next s
  | q :: rest =>
    let s := s.updTile t (fun x => { x with cacheMissQ := rest })
    match cacheHit (s.tile t) q.addr, q.write with
    | some w, _ => .next (s.cacheServeHit t w q)
    | none, some bs =>
      if lost && decide (bs.length < 128) then .next (s.cacheReturn t q none)
      else .next (s.cacheFillLine t q.addr (q.merge (s.tierBytes q.addr 128) bs) true)
    | none, none =>
      if lost then .next (s.cacheReturn t q none)
      else
        let d := s.tierBytes q.addr 128
        .next ((s.cacheFillLine t q.addr d false).cacheReturn t q (some d))

/-- Once neither a mask change nor a whole-cache operation is in progress, BUSY clears (R163) and the requests that waited are served in
order (R160). -/
def State.cacheResume (s : State) (t : TileId) : State :=
  let w := (s.tile t).cacheWait
  if (s.tile t).maskPending.isSome || (s.tile t).cacheOp ≠ 0 then s
  else w.foldl (fun s q => s.cacheServe t q) (s.updTile t (fun x => { x with cacheBusy := false, cacheWait := [] }))

/-- CACHE_MASK_WRITE (R159, R160): a mask change begins during easy-all or while no plan is loaded, else it is refused. One written while
BUSY is set replaces the change still pending (log entry 45: the spec gives no rule). -/
def execCacheMaskWrite (t : TileId) (mask : BitVec 8) (s : State) : Host.Outcome State Fault Refusal :=
  .next (s.tileAccess t (fun s => s.updTile t (fun x =>
    if s.clk.running && s.boot.plan.isSome then { x with cacheRefused := true }
    else { x with cacheBusy := true, maskPending := some mask })))

/-- A bank of zeros with valid check bits and check bytes, nothing marked, its scrubber idle (R160, R489). -/
def zeroBank (x : Tile) (bank : Nat) : Tile :=
  let gone (line : Nat) : Bool := decide (bankOf line = bank)
  let spare (k : Nat) : Bool := decide (k / 16 = bank)
  { x with
    scratch := x.scratch.filter (fun c => !(if c.1 < 0x400000 then gone (c.1 / 128) else spare ((c.1 - 0x400000) / 512)))
    chk := x.chk.filter (fun c => !(if c.1 < 131072 then gone (c.1 / 4) else spare ((c.1 - 131072) / 16)))
    pageChk := x.pageChk.filter (fun c => decide (c.1 / 32 % 32 ≠ bank))
    linePoison := x.linePoison.filter (fun c => !gone c.1)
    lostLine := x.lostLine.filter (fun c => !gone c.1)
    scrub := Table.put {} x.scrub bank {} }

/-- A mask takes effect (R160): dirty lines of leaving banks are written back and the banks zeroed, entering banks are invalid
throughout, and a bank that stays keeps its lines. -/
def State.takeMask (s : State) (t : TileId) (m : BitVec 8) : State :=
  let x := s.tile t
  let leaving := (List.range 8).filter (fun i => x.cacheMask.getLsbD i && !m.getLsbD i)
  let entering := (List.range 8).filter (fun i => !x.cacheMask.getLsbD i && m.getLsbD i)
  let s := leaving.foldl (fun s w => (List.range 1024).foldl (fun s set => s.cacheWriteBack t w set) s) s
  s.updTile t (fun x =>
    let x := leaving.foldl (fun x w => zeroBank x (24 + w)) x
    { x with
      cacheDir := x.cacheDir.filter (fun c => !(leaving ++ entering).contains (c.1 / 1024))
      scrub := entering.foldl (fun (u : Table Scrub) w => Table.put {} u (24 + w) {}) x.scrub
      cacheMask := m })

/-- CACHE_MASK_CHANGE_DONE (R159, R160): once no miss is outstanding, the new mask takes effect and BUSY clears; one still pending when
strokes resume waits for the next easy-all (log entry 45: the spec gives no rule). -/
def execCacheMaskChangeDone (t : TileId) (s : State) : Host.Outcome State Fault Refusal :=
  let x := s.tile t
  match x.maskPending, x.cacheMissQ with
  | some m, [] =>
    if s.clk.running && s.boot.plan.isSome then .next s
    else .next (((s.takeMask t m).updTile t (fun x => { x with maskPending := none })).cacheResume t)
  | _, _ => .next s

/-- A write of SCR_CACHE_OP (R156, R161). -/
def State.startCacheOp (s : State) (t : TileId) (op : BitVec 2) : State :=
  s.tileAccess t (fun s => s.updTile t (fun x =>
    if x.cacheBusy then { x with cacheRefused := true } else { x with cacheBusy := true, cacheOp := op }))

/-- CACHE_OP_WRITE_BACK (R156, R161): every dirty line is to be written back. -/
def execCacheOpWriteBack (t : TileId) (s : State) : Host.Outcome State Fault Refusal := .next (s.startCacheOp t 1)

/-- CACHE_OP_INVALIDATE (R156, R161): every line is to be invalidated, dirty data discarded. -/
def execCacheOpInvalidate (t : TileId) (s : State) : Host.Outcome State Fault Refusal := .next (s.startCacheOp t 2)

/-- CACHE_OP_WRITE_BACK_INVALIDATE (R156, R161): every dirty line written back, then every line invalidated. -/
def execCacheOpWriteBackInvalidate (t : TileId) (s : State) : Host.Outcome State Fault Refusal := .next (s.startCacheOp t 3)

/-- CACHE_OP_COMPLETE (R156, R160): the operation in progress is complete on every line, and BUSY clears. -/
def execCacheOpComplete (t : TileId) (s : State) : Host.Outcome State Fault Refusal :=
  let x := s.tile t
  if x.cacheOp = 0 then .next s
  else
    let s := if x.cacheOp.getLsbD 0 then
        (cacheWays x).foldl (fun s w => (List.range 1024).foldl (fun s set => s.cacheWriteBack t w set) s) s
      else s
    let s := s.updTile t (fun y => { y with cacheDir := if x.cacheOp.getLsbD 1 then [] else y.cacheDir, cacheOp := 0 })
    .next (s.cacheResume t)

end Sys2Proof.Machine
end

