-- ==== Sys2Proof/Machine/Ctl.lean ====
section
/-! DEFINITION. The CTL slot (R204-R210) and NOP (R190). -/

namespace Sys2Proof.Machine

/-- The sign-extended 22-bit immediate. -/
def sext22 (imm : BitVec 22) : Word := imm.signExtend 32

/-- The tile after the cycle counter's wait conditions: whether gather tag `g` is complete. -/
def tagComplete (x : Tile) (g : Nat) : Bool := !(Table.get {} x.gtag g).outstanding

/-- END (R204): no bundle issues until the next catch. -/
def execEnd (t : TileId) (s : State) : Host.Outcome State Fault Refusal :=
  .next (ctlRun s t (fun x => { x with done := true, endCycle := x.cycle }) (fun _ => none))

/-- LI (R204): s[D] gets the sign-extended immediate. -/
def execLi (t : TileId) (d : BitVec 4) (imm : BitVec 22) (s : State) : Host.Outcome State Fault Refusal :=
  .next (ctlRun s t (fun x => setSreg x d.toNat (sext22 imm)) (fun _ => none))

/-- ADDI (R204, R205): s[D] gets s[A] plus the sign-extended immediate. -/
def execAddi (t : TileId) (d a : BitVec 4) (imm : BitVec 22) (s : State) : Host.Outcome State Fault Refusal :=
  .next (ctlRun s t (fun x => setSreg x d.toNat (sreg x a.toNat + sext22 imm)) (fun _ => none))

/-- ADD (R204, R205): s[D] gets s[A] + s[B]. -/
def execAdd (t : TileId) (d a b : BitVec 4) (s : State) : Host.Outcome State Fault Refusal :=
  .next (ctlRun s t (fun x => setSreg x d.toNat (sreg x a.toNat + sreg x b.toNat)) (fun _ => none))

/-- SUB (R204, R205): s[D] gets s[A] - s[B]. -/
def execSub (t : TileId) (d a b : BitVec 4) (s : State) : Host.Outcome State Fault Refusal :=
  .next (ctlRun s t (fun x => setSreg x d.toNat (sreg x a.toNat - sreg x b.toNat)) (fun _ => none))

/-- AND (R204, R205): s[D] gets s[A] AND s[B]. -/
def execAnd (t : TileId) (d a b : BitVec 4) (s : State) : Host.Outcome State Fault Refusal :=
  .next (ctlRun s t (fun x => setSreg x d.toNat (sreg x a.toNat &&& sreg x b.toNat)) (fun _ => none))

/-- OR (R204, R205): s[D] gets s[A] OR s[B]. -/
def execOr (t : TileId) (d a b : BitVec 4) (s : State) : Host.Outcome State Fault Refusal :=
  .next (ctlRun s t (fun x => setSreg x d.toNat (sreg x a.toNat ||| sreg x b.toNat)) (fun _ => none))

/-- XOR (R204, R205): s[D] gets s[A] XOR s[B]. -/
def execXor (t : TileId) (d a b : BitVec 4) (s : State) : Host.Outcome State Fault Refusal :=
  .next (ctlRun s t (fun x => setSreg x d.toNat (sreg x a.toNat ^^^ sreg x b.toNat)) (fun _ => none))

/-- SHL (R204, R205): s[D] gets s[A] shifted left by s[B][4:0]. -/
def execShl (t : TileId) (d a b : BitVec 4) (s : State) : Host.Outcome State Fault Refusal :=
  .next (ctlRun s t (fun x => setSreg x d.toNat (sreg x a.toNat <<< ((sreg x b.toNat).toNat % 32))) (fun _ => none))

/-- SHR (R204, R205): s[D] gets s[A] shifted right logically by s[B][4:0]. -/
def execShr (t : TileId) (d a b : BitVec 4) (s : State) : Host.Outcome State Fault Refusal :=
  .next (ctlRun s t (fun x => setSreg x d.toNat (sreg x a.toNat >>> ((sreg x b.toNat).toNat % 32))) (fun _ => none))

/-- SCALAR_MUL (R204, R205): s[D] gets the low 32 bits of s[A] times s[B]. -/
def execScalarMul (t : TileId) (d a b : BitVec 4) (s : State) : Host.Outcome State Fault Refusal :=
  .next (ctlRun s t (fun x => setSreg x d.toNat (sreg x a.toNat * sreg x b.toNat)) (fun _ => none))

/-- SLT (R204, R205): s[D] gets 1 if s[A] < s[B] as signed values, else 0. -/
def execSlt (t : TileId) (d a b : BitVec 4) (s : State) : Host.Outcome State Fault Refusal :=
  .next (ctlRun s t (fun x => setSreg x d.toNat (if (sreg x a.toNat).slt (sreg x b.toNat) then 1 else 0)) (fun _ => none))

/-- BNZ (R204, R206): if s[A] is nonzero, the next bundle is IMM[11:0]. -/
def execBnz (t : TileId) (a : BitVec 4) (imm : BitVec 22) (s : State) : Host.Outcome State Fault Refusal :=
  .next (ctlRun s t id (fun x => if sreg x a.toNat = 0 then none else some (imm.toNat % 4096)))

/-- BDEC (R204, R206): s[A] is decremented, and the program branches to IMM[11:0] if the result is nonzero. -/
def execBdec (t : TileId) (a : BitVec 4) (imm : BitVec 22) (s : State) : Host.Outcome State Fault Refusal :=
  .next (ctlRun s t (fun x => setSreg x a.toNat (sreg x a.toNat - 1))
    (fun x => if sreg x a.toNat - 1 = 0 then none else some (imm.toNat % 4096)))

/-- The sequencer holds when the condition does not hold in the next cycle either. -/
def holdUnless (x : Tile) (h : Hold) (c : Bool) : Tile := if c then x else { x with hold := h }

/-- WAITC (R204, R208): the bundle issues; then no bundle until the cycle counter reaches s[A] + IMM. -/
def execWaitc (t : TileId) (a : BitVec 4) (imm : BitVec 22) (s : State) : Host.Outcome State Fault Refusal :=
  let target := (sreg (s.tile t) a.toNat + imm.setWidth 32).toNat
  if issuing s t && !bundleBad (s.tile t) then
    .next ((s.rotGap t).updTile t (fun x =>
      let x := closeBundle x none
      holdUnless x (.waitC target) (decide (target ≤ x.cycle))))
  else .next (ctlRun s t id (fun _ => none))

/-- A WAITG ends at its deadline with the tag outstanding (R163, R209): the destination, every line of it for a tier READ, is marked
poisoned and the tile withholds its commits. -/
def State.gatherMissed (s : State) (t : TileId) (g : Nat) : State :=
  (s.updTile t (fun x =>
    let e := Table.get {} x.gtag g
    { x with linePoison := (List.range e.lines).foldl (fun m i => Table.put false m ((e.line.toNat + i) % 32768) true) x.linePoison })).withhold t

/-- WAITG (R204, R208, R209): the bundle issues; then no bundle until the tag is complete or the deadline passes. -/
def execWaitg (t : TileId) (a : BitVec 4) (imm : BitVec 22) (s : State) : Host.Outcome State Fault Refusal :=
  let g := imm.toNat % 16
  let deadline := (sreg (s.tile t) a.toNat + BitVec.ofNat 32 (imm.toNat / 16)).toNat
  if issuing s t && !bundleBad (s.tile t) then
    let s := (s.rotGap t).updTile t (fun x => closeBundle x none)
    let x := s.tile t
    if tagComplete x g then .next s
    else if deadline ≤ x.cycle then .next (s.gatherMissed t g)
    else .next (s.updTile t (fun x => { x with hold := .waitG (BitVec.ofNat 4 g) deadline }))
  else .next (ctlRun s t id (fun _ => none))

/-- The block registers swap roles (R222). -/
def swapBlocks (x : Tile) : Tile := { x with blkUse := x.blkLoad, blkLoad := x.blkUse }

/-- The cycle in which a sequencer resumes that has been held `n` cycles, at the latest cycle `limit` (R195, R208). -/
def heldTo (x : Tile) (n limit : Nat) : Nat := min 0xFFFFFFFF (max x.cycle (min (x.cycle + n) limit))

/-- The sequencer resumes from a CTL wait, for a gather whose tag is complete after `n` cycles. -/
def State.endWait (s : State) (t : TileId) (n : Nat) : State :=
  let x := s.tile t
  match x.hold with
  | .none => s
  | .waitC target => s.updTile t (fun x => { x with hold := .none, cycle := max x.cycle (min 0xFFFFFFFF target) })
  | .waitG g deadline =>
    if tagComplete x g.toNat then s.updTile t (fun x => { x with hold := .none, cycle := heldTo x n deadline })
    else (s.updTile t (fun x => { x with hold := .none, cycle := max x.cycle (min 0xFFFFFFFF deadline) })).gatherMissed t g.toNat

/-- PRED (R204): p[D[1:0]] gets bit s[A] + sext(IMM) of the present-row mask, or 0 when the index lies outside 0-575. -/
def execPred (t : TileId) (d a : BitVec 4) (imm : BitVec 22) (s : State) : Host.Outcome State Fault Refusal :=
  .next (ctlRun s t (fun x =>
    let i := (sreg x a.toNat + sext22 imm).toNat
    setPreg x (d.toNat % 4) (decide (i < 576) && x.present.getLsbD i)) (fun _ => none))

/-- RDCYC (R204): s[D] gets the cycle counter. -/
def execRdcyc (t : TileId) (d : BitVec 4) (s : State) : Host.Outcome State Fault Refusal :=
  .next (ctlRun s t (fun x => setSreg x d.toNat (BitVec.ofNat 32 x.cycle)) (fun _ => none))

/-- RDSTK (R204): s[D] gets stroke number [31:0] of the current stroke. -/
def execRdstk (t : TileId) (d : BitVec 4) (s : State) : Host.Outcome State Fault Refusal :=
  .next (ctlRun s t (fun x => setSreg x d.toNat (s.clk.stroke.setWidth 32)) (fun _ => none))

/-- CQN (R204): s[D] gets the number of flits in the control queue. -/
def execCqn (t : TileId) (d : BitVec 4) (s : State) : Host.Outcome State Fault Refusal :=
  .next (ctlRun s t (fun x => setSreg x d.toNat (BitVec.ofNat 32 x.ctlQ.length)) (fun _ => none))

/-- Payload word `i` of a control flit: body bytes 4 + 4i on (R508). -/
def flitWord (f : Flit) (i : Nat) : Word := BitVec.ofNat 32 (leNat ((f.body.drop (4 + 4 * i)).take 4))

/-- CQRD (R204): s[D] gets word IMM[1:0] of the head flit's payload, or 0 when the queue is empty. -/
def execCqrd (t : TileId) (d : BitVec 4) (imm : BitVec 22) (s : State) : Host.Outcome State Fault Refusal :=
  .next (ctlRun s t (fun x => setSreg x d.toNat (match x.ctlQ with
    | [] => 0
    | f :: _ => flitWord f (imm.toNat % 4))) (fun _ => none))

/-- Control flits that wait at the port enter the queue while it has room (R179). -/
def admitCtl (x : Tile) : Tile :=
  let n := 16 - x.ctlQ.length
  { x with ctlQ := x.ctlQ ++ x.ctlWait.take n, ctlWait := x.ctlWait.drop n }

/-- CQPOP (R204): the head flit is removed; nothing happens when the queue is empty. -/
def execCqpop (t : TileId) (s : State) : Host.Outcome State Fault Refusal :=
  .next (ctlRun s t (fun x => admitCtl { x with ctlQ := x.ctlQ.drop 1 }) (fun _ => none))

end Sys2Proof.Machine
end

