-- ==== Sys2Proof/Machine/Idle.lean ====
section
/-! DEFINITION. The passing of time. -/

namespace Sys2Proof.Machine

/-- Time passes to the moment `m` (elapsed nominal ticks); the tick count rises with it while it advances (R55). -/
def State.advanceTo (s : State) (m : Nat) : State :=
  if m ≤ s.now then s
  else { s with now := m, clk := { s.clk with tick := if s.clk.ticking then s.clk.tick + BitVec.ofNat 64 (m - s.now) else s.clk.tick } }

/-- Time passes until the tick count reaches `k`, when it advances and `k` lies ahead. -/
def State.advanceToTick (s : State) (k : Nat) : State :=
  if s.clk.ticking && decide (s.clk.tick.toNat < k) then s.advanceTo (s.now + (k - s.clk.tick.toNat)) else s

/-- One tick of an idle block (log entry 1). -/
def State.idleTick (s : State) : State := s.advanceTo (s.now + 1)

end Sys2Proof.Machine
end

