-- ==== Sys2Proof/Machine/Net.lean ====
section
/-! DEFINITION. The NET slot (R242-R247), the end of waits, and what arrives at a tile's mesh port (R142, R179, R527-R530). -/

namespace Sys2Proof.Machine

/-- The flit head of a tile's send-table entry (R242, R503, R510). -/
def sendHead (s : State) (t : TileId) (e : SendEntry) (kind : BitVec 3) : FlitHead :=
  { zeroHead with dreg := e.dreg, dx := e.dx, dy := e.dy, dkind := e.dkind, lane := e.lane, kind := kind, sched := true,
                  sreg := t.region, sx := t.x, sy := t.y, deliv := if kind = 3 then 0 else e.deliv, stroke := s.clk.stroke.setWidth 16 }

/-- The egress queue has room (R178): it holds the bursts of PACK, and the flits that still wait at the tile's mesh port. -/
def State.egressRoom (s : State) (t : TileId) : Bool := decide ((s.tile t).egress.length + (s.atMeshPort t).length < 8)

/-- Inject a flit, or hold it back while the egress queue is full (R178). -/
def State.sendFlit (s : State) (t : TileId) (f : Flit) : State :=
  if s.egressRoom t then s.inject f
  else s.updTile t (fun x => { x with netWait := 1, netHeld := some f })

/-- A data flit of an entry (R243, R245): not sent after the entry's COMMIT. -/
def State.sendData (s : State) (t : TileId) (entry : Nat) (sr : Nat) (bs : Bytes) (poison : Bool) : State :=
  let x := s.tile t
  let e := Table.get {} x.send entry
  if x.committed.contains (BitVec.ofNat 8 entry) then s.umpire t 2 5 (0x1000 + entry) (lastUse x (0x1000 + entry)) 0
  else
    let line := BitVec.ofNat 15 (e.base.toNat + (sreg x sr).toNat)
    let f := sealFlit { head := { sendHead s t e 0 with poison := poison, lineOrCrc := line.setWidth 16 }, body := bs }
    (s.updTile t (fun x => { x with sentLines := Table.put 0 x.sentLines entry (Table.get 0 x.sentLines entry + 1) })).sendFlit t f

/-- SEND (R243): a scratch line as a data flit, landing at base + s[S]. -/
def execSend (t : TileId) (pred : BitVec 2) (sr : BitVec 4) (line : BitVec 15) (entry : BitVec 8) (s : State) :
    Host.Outcome State Fault Refusal :=
  .next (slotRun s t pred.toNat (fun s =>
    let u := s.useRes t .net 0x2A
    if !u.2 then u.1
    else
      let q := u.1.portRead t .net 0x22 (lineAddr (s.tile t) sr.toNat line.toNat)
      q.1.sendData t entry.toNat sr.toNat q.2.1 q.2.2))

/-- SENDQ (R243, R246): the oldest burst of the egress queue as a data flit. -/
def execSendq (t : TileId) (pred : BitVec 2) (sr : BitVec 4) (entry : BitVec 8) (s : State) : Host.Outcome State Fault Refusal :=
  .next (slotRun s t pred.toNat (fun s =>
    let u := s.useRes t .net 0x2A
    if !u.2 then u.1
    else match (s.tile t).egress with
      | [] => u.1.umpire t 3 5 0x2A 0xFFFF 0
      | b :: rest =>
        ((u.1.updTile t (fun x => { x with egress := rest })).consume t b.2).sendData t entry.toNat sr.toNat b.1 b.2))

/-- The bits of a mask that lie in an entry's rows. -/
def maskRows (m : BitVec 576) (first n : Nat) : BitVec 576 := m &&& (BitVec.ofNat 576 ((2 ^ n - 1) * 2 ^ first))

/-- The body of a commit flit (R507). -/
def commitBody (lines first n : Nat) (mask : BitVec 576) : Bytes :=
  padTo 128 (natLE 4 lines ++ natLE 2 first ++ natLE 2 n ++ natLE 72 mask.toNat)

/-- COMMIT (R243-R245): the entry's commit flit; nothing while the tile withholds its commits, and only once a stroke, sent or not. -/
def execCommit (t : TileId) (pred : BitVec 2) (entry : BitVec 8) (s : State) : Host.Outcome State Fault Refusal :=
  .next (slotRun s t pred.toNat (fun s =>
    let u := s.useRes t .net 0x2A
    let x := u.1.tile t
    if !u.2 then u.1
    else if x.committed.contains entry then u.1.umpire t 2 5 (0x1000 + entry.toNat) (lastUse x (0x1000 + entry.toNat)) 0
    else if x.withhold then u.1.updTile t (fun x => { (markUse x (0x1000 + entry.toNat)) with committed := x.committed ++ [entry] })
    else
      let e := Table.get {} x.send entry.toNat
      let f := sealFlit { head := sendHead s t e 1
                          body := commitBody (Table.get 0 x.sentLines entry.toNat) e.firstRow e.rows (maskRows x.present e.firstRow e.rows) }
      (u.1.updTile t (fun x => { (markUse x (0x1000 + entry.toNat)) with committed := x.committed ++ [entry] })).sendFlit t f))

/-- DMA (R243, R470, R471, R473, R180): the descriptor in a scratch line goes to the controller of its first extent; the tag of
a READ is outstanding from now. -/
def execDma (t : TileId) (pred : BitVec 2) (sr : BitVec 4) (line : BitVec 15) (s : State) : Host.Outcome State Fault Refusal :=
  .next (slotRun s t pred.toNat (fun s =>
    let u := s.useRes t .net 0x2A
    if !u.2 then u.1
    else
      let q := u.1.portRead t .net 0x22 (lineAddr (s.tile t) sr.toNat line.toNat)
      let s := q.1.consume t q.2.2
      let d := parseDesc q.2.1
      let edge := match d.extents with
        | e :: _ => (match addrChan e.1 with
          | some (c, _) => chanEdge c
          | none => 0)
        | [] => 0
      let h := sendHead s t { (Table.get {} (s.tile t).send 0) with dkind := 1, dreg := BitVec.ofNat 6 (edgeRegion edge), dx := 0, dy := 0 } 3
      let s := if d.op = 1 then
          s.updTile t (fun x => { x with
            gatherSerial := x.gatherSerial + 1
            gtag := Table.put {} x.gtag (d.tag % 16)
              { outstanding := true, line := d.line, serial := x.gatherSerial + 1, linesLeft := descLines d, lines := descLines d,
                read := true } })
        else s
      s.sendFlit t (sealFlit { head := h, body := q.2.1 })))

/-- WAIT_RELEASE (R182, R208, R209): a held sequencer, held `n` cycles by now, resumes in the first cycle in which its wait condition holds;
a BSW that waited takes effect once its block is ready, and an injection once the egress queue has room. -/
def execWaitRelease (t : TileId) (n : Nat) (s : State) : Host.Outcome State Fault Refusal :=
  let x := s.tile t
  if !s.clk.running then .next s
  else if x.bswWait = 2 then
    if x.blkLoad.ready then .next (s.updTile t (fun x => { (swapBlocks x) with bswWait := 0, cycle := cycleAdd x.cycle n })) else .next s
  else if x.netWait = 2 then
    if s.egressRoom t then
      let s := s.updTile t (fun x => { x with netWait := 0, netHeld := none, cycle := cycleAdd x.cycle n })
      match x.netHeld with
      | some f => .next (s.inject f)
      | none => .next s
    else .next s
  else .next (s.endWait t n)

/-- A flit leaves the mesh at its destination tile. -/
def State.eject (s : State) (t : TileId) (f : Flit) : State :=
  { s with transit := eraseFirst (fun e => decide (e = (t.region.toNat, t.x.toNat, t.y.toNat, f))) s.transit }

/-- Count a stray flit (R527, R530). -/
def State.stray (s : State) (r : Nat) : State := s.updMesh r (fun m => { m with stray := satAdd m.stray 1 })

/-- The input-list entry of a delivery number. -/
def inputOf (x : Tile) (deliv : BitVec 8) : Option InputEntry := x.input.find? (fun e => e.deliv = deliv)

/-- The due tick of an entry (R62, R64). -/
def State.dueTick (s : State) (e : InputEntry) : Nat := s.clk.catchTick + e.due.ticks s.clk.len s.clk.fin

/-- A delivery is late (R64, R78): CLK_STROKE_STAT.LATE sets, with snapshot trigger 0. -/
def State.markLate (s : State) (t : TileId) (deliv : BitVec 8) : State :=
  if (s.tile t).late.contains deliv then s
  else
    let r := t.region.toNat
    let s := s.updTile t (fun x => { x with late := x.late ++ [deliv], onTime := Table.put none x.onTime deliv.toNat none })
    let s := s.updClk r (fun c => { c with late := true })
    s.trigger r (trig 0)

/-- DATA_FLIT_ACCEPT (R143, R527, R529, R530, R505, R531): a data flit at its destination tile. While the ingress queue is full it
waits in the mesh. -/
def execDataFlitAccept (t : TileId) (f : Flit) (s : State) : Host.Outcome State Fault Refusal :=
  let x := s.tile t
  let land (s : State) : State :=
    s.updTile t (fun x => { x with ingress := x.ingress ++ [{ line := f.head.lineOrCrc.setWidth 15, bytes := padTo 128 f.body, poison := f.head.poison }] })
  if f.head.kind ≠ 0 then .next s
  else if x.stage.isNone then .next ((s.eject t f).stray t.region.toNat)
  else if 8 ≤ x.ingress.length then .next s
  else if !f.head.sched then .next (land (s.eject t f))
  else
    let s := s.eject t f
    match inputOf x f.head.deliv with
    | none => .next (s.stray t.region.toNat)
    | some e =>
      if f.head.stroke ≠ s.clk.stroke.setWidth 16 then .next (s.stray t.region.toNat)
      else if s.dueTick e ≤ s.clk.tick.toNat then .next (s.markLate t f.head.deliv)
      else
        let k := f.head.deliv.toNat
        .next (land (s.updTile t (fun x => { x with
          gotLines := Table.put 0 x.gotLines k (Table.get 0 x.gotLines k + 1)
          gotTaint := Table.put false x.gotTaint k (Table.get false x.gotTaint k || f.head.taint) })))

/-- COMMIT_FLIT_ARRIVE (R64, R79, R506, R528, R530, R61, R63): a commit flit at its destination tile; the delivery is judged. -/
def execCommitFlitArrive (t : TileId) (f : Flit) (s : State) : Host.Outcome State Fault Refusal :=
  let r := t.region.toNat
  if f.head.kind ≠ 1 then .next s
  else
    let s := s.eject t f
    let x := s.tile t
    if x.stage.isNone then .next (s.stray r)
    else if !crcOk f then .next (s.updMesh r (fun m => { m with crc := satAdd m.crc 1 }))
    else match inputOf x f.head.deliv with
      | none => .next s
      | some e =>
        let k := f.head.deliv.toNat
        let lines := leNat (f.body.take 4)
        let mask := BitVec.ofNat 576 (leNat ((f.body.drop 8).take 72))
        let due := s.dueTick e
        if f.head.stroke ≠ s.clk.stroke.setWidth 16 || x.late.contains f.head.deliv then .next s
        else if s.clk.tick.toNat ≤ due && lines = Table.get 0 x.gotLines k && !Table.get false x.gotTaint k && !f.head.taint then
          let s := s.updTile t (fun x => { x with onTime := Table.put none x.onTime k (some mask) })
          .next (s.updClk r (fun c => { c with marginNow := min c.marginNow (min 0xFFFF (due - s.clk.tick.toNat)) }))
        else .next (s.markLate t f.head.deliv)

/-- DUE_TICK (R64): the due tick of an input-list entry passes; without its commit the delivery is late. -/
def execDueTick (t : TileId) (deliv : BitVec 8) (s : State) : Host.Outcome State Fault Refusal :=
  let x := s.tile t
  match inputOf x deliv with
  | none => .next s
  | some e =>
    if !s.clk.running then .next s
    else
      let s := s.advanceToTick (s.dueTick e)
      if (Table.get none x.onTime deliv.toNat).isSome then .next s else .next (s.markLate t deliv)

/-- CONTROL_FLIT_ENQUEUE (R179, R506, R530): a control flit of lane 0 at its destination tile. -/
def execControlFlitEnqueue (t : TileId) (f : Flit) (s : State) : Host.Outcome State Fault Refusal :=
  let r := t.region.toNat
  if f.head.kind ≠ 2 then .next s
  else
    let s := s.eject t f
    if (s.tile t).stage.isNone then .next (s.stray r)
    else if !crcOk f then .next (s.updMesh r (fun m => { m with crc := satAdd m.crc 1 }))
    else .next (s.updTile t (fun x => admitCtl { x with ctlWait := x.ctlWait ++ [f] }))

/-- LANDING_WRITE (R140, R142, R143, R178, R471, R490): the oldest line of the ingress queue, which held-back lines of READs have filled up,
is written once its bank is free in this cycle; one for a bank that is off or being filled is discarded and counted, and one that no tier
DMA brings to a weight bank is discarded (R364). A READ's tag
completes with its last line, unless it has been taken over (R220). -/
def execLandingWrite (t : TileId) (s : State) : Host.Outcome State Fault Refusal :=
  let x := s.tile t
  match x.ingress ++ x.inWait.take (8 - x.ingress.length) with
  | [] => .next s
  | l :: rest =>
    let bank := bankOf l.line.toNat
    if s.bankBusy t bank then .next s
    else
      let s := (s.updTile t (fun x => { x with ingress := rest, inWait := x.inWait.drop (8 - x.ingress.length) })).useBackground t bank
      let s :=
        if cacheBank x bank then s.withhold t
        else if bankUp x bank then
          (if l.tag.isNone && x.weightBank bank then s else s.updTile t (fun x => writeLine x l.line.toNat l.bytes l.poison))
        else (s.updTile t (fun x => { x with discards := satAdd x.discards 1 })).withhold t
      match l.tag with
      | none => .next s
      | some g => .next (s.updTile t (fun x =>
          let e := Table.get {} x.gtag g
          if e.serial ≠ l.serial || !e.read then x
          else { x with gtag := Table.put {} x.gtag g { e with linesLeft := e.linesLeft - 1, outstanding := e.outstanding && decide (1 < e.linesLeft) } }))

/-- Write the staged bundle (R185, R187) with its computed check bits; the repair of a bundle with an error is counted. -/
def applyPatch (x : Tile) : Tile :=
  { x with
    prog := Table.put 0 x.prog x.patchAddr.toNat x.patchStaged
    progRepairs := if (Table.get none x.progChk x.patchAddr.toNat).isNone then x.progRepairs
      else Table.put 0 x.progRepairs x.patchAddr.toNat (Table.get 0 x.progRepairs x.patchAddr.toNat + 1)
    progChk := Table.put none x.progChk x.patchAddr.toNat none
    patchGo := false }

/-- SEQ_PATCH_GO (R187): a write of SEQ_PATCH_CTL with GO set stages the bundle of SEQ_PATCH_D0-D7; with RUN clear it is
written at once, else at the next catch; while GO is set the write is refused. -/
def execSeqPatchGo (t : TileId) (addr : BitVec 12) (s : State) : Host.Outcome State Fault Refusal :=
  .next (s.tileAccess t (fun s => s.updTile t (fun x =>
    if x.patchGo then { x with patchRefused := true }
    else
      let x := { x with patchAddr := addr, patchGo := true, patchStaged := x.patchD }
      if x.run then x else applyPatch x)))

end Sys2Proof.Machine
end

