-- ==== Sys2Proof/Machine/Widen.lean ====
section
/-! DEFINITION. Where a pass stands, and widened passes (R305, R400). -/

namespace Sys2Proof.Machine

/-- The stage a pass is at in stroke `n` (R399, R400): none before its entry and after its path. -/
def stageAt (p : Plan) (q : Pass) (n : Nat) : Option Nat :=
  let d := sinceStroke n q.entry
  if 2 ^ 47 ≤ d then none
  else if q.sampled || decide (d ≤ p.lastLayer) then p.path[d]? else none

/-- The passes at a stage in stroke `n` become widened (R305): replayed, or run at the FP8 level. -/
def State.widenAt (s : State) (stage n : Nat) : State :=
  match s.boot.plan with
  | none => s
  | some p =>
    { s with serve := { s.serve with t := { s.serve.t with
        passes := s.serve.t.passes.map (fun q => if stageAt p q n = some stage then { q with widened := true } else q) } } }

/-- The passes at a stage in this stroke become widened. -/
def State.widenStage (s : State) (stage : Nat) : State := s.widenAt stage s.clk.stroke.toNat

end Sys2Proof.Machine
end

