-- ==== Sys2Proof/Machine/Check.lean ====
section
/-! DEFINITION. The sampled check, repechage, and the mode vector (R279-R307). -/

namespace Sys2Proof.Machine

/-- The crew of a stage in the plan in service. -/
def State.crewOf (s : State) (stage : Nat) : Option Crew :=
  match s.boot.plan with
  | some p => p.crews.find? (fun c => c.stage = stage)
  | none => none

/-- The check data of a stage (R279, R285). -/
def State.checkOf (s : State) (stage : Nat) : Option StageCheck :=
  match s.boot.plan with
  | some p => p.checks.find? (fun c => c.stage = stage && c.enabled)
  | none => none

/-- The home region of a stage: the region of its seat 0 (R285). -/
def crewHome (c : Crew) : Nat :=
  match c.seats with
  | st :: _ => st.tile.region.toNat
  | [] => 0

/-- CHECK_FLIT_SEND (R284): at the cycle SEND each tile whose EN is set sends its check flit to its stage's referee. -/
def execCheckFlitSend (t : TileId) (s : State) : Host.Outcome State Fault Refusal :=
  let x := s.tile t
  match x.stage with
  | none => .next s
  | some stage =>
    if !s.clk.running || !x.chkEn || x.checkSent || (x.cycle < x.chkSend.toNat && issuing s t) then .next s
    else
      let home := match s.crewOf stage with
        | some c => crewHome c
        | none => t.region.toNat
      let w0 := BitVec.ofNat 32 (stage + 128 * b2n x.chkPoison + 256 * b2n x.heldNow + 65536 * x.seat)
      let f := ctlFlit t 2 ⟨BitVec.ofNat 6 home, 1, 0⟩ s.clk.stroke true 1 [w0, s.clk.stroke.setWidth 32, x.sumErr, x.sumRef]
      .next ((s.updTile t (fun x => { x with checkSent := true, cycle := max x.cycle x.chkSend.toNat })).inject f)

/-- The check flits of a stage that have reached the referee of region `home`, good ones of this stroke. -/
def State.checkFlits (s : State) (home stage : Nat) : List Flit :=
  (s.transit.filterMap (fun e =>
    if e.1 = home && e.2.1 = 0 && e.2.2.1 = 0 then some e.2.2.2 else none)).filter (fun f =>
      f.head.kind = 2 && f.head.dkind = 2 && f.head.dx = 1 && f.head.dreg.toNat = home && f.body.getD 0 0 = 1 &&
      crcOk f && bits (flitWord f 0) 0 7 = stage && flitWord f 1 = s.clk.stroke.setWidth 32)

/-- The seat of a check flit. -/
def chkSeat (f : Flit) : Nat := bits (flitWord f 0) 16 16

/-- The judgement of a stage's stroke: no check, passed, or a crab. -/
inductive Judgement where
  | noCheck | good | crab
  deriving DecidableEq, Repr

/-- FP32 sums in seat order of the flits that carry the held flag (R286). -/
def sumHeld (i : Nat) (fs : List Flit) : Word :=
  fs.foldl (fun a f => fpAdd (fp32 a) (fp32 (flitWord f i))) 0

/-- Whether the summed error exceeds the threshold (R286): compared exactly. -/
def exceeds (err ref : Word) (t : Nat) : Bool :=
  match fp32 err, fp32 ref with
  | .fin _ m e, .fin _ m' e' => Dy.lt ((t * t * m' : Nat), e') ((4096 * 4096 * m : Nat), e)
  | _, _ => true

/-- Judge a stage (R285-R288): as many check flits are due as the referee's table counts tiles. -/
def State.judge (s : State) (c : StageCheck) (crew : Crew) : Judgement :=
  let home := crewHome crew
  let fs := sortBy chkSeat (s.checkFlits home c.stage)
  let held := fs.filter (fun f => (flitWord f 0).getLsbD 8)
  if fs.any (fun f => (flitWord f 0).getLsbD 7) then .noCheck
  else if (fs.map chkSeat).eraseDups.length < c.tiles then .crab
  else if held = [] then .noCheck
  else if exceeds (sumHeld 2 held) (sumHeld 3 held) c.threshold.toNat then .crab
  else .good

/-- The mode stroke of a change decided now (R301): the next stroke, or one at least four ahead in a regatta. -/
def State.modeStroke (s : State) : BitVec 48 :=
  match s.boot.plan with
  | some p => if 1 < p.members then s.clk.stroke + 4 else s.clk.stroke + 1
  | none => s.clk.stroke + 1

/-- The fixed arithmetic policy is in force (R99, R306). -/
def State.fixedPolicy (s : State) : Bool := s.boot.policyFixed

/-- A referee of a member reports to the root's mode controller (R563). -/
def State.reportMode (s : State) (stage verdict : Nat) : State :=
  match s.links.parent with
  | some k => s.sendWord k (.modeReport s.clk.stroke.toNat [(stage, verdict)])
  | none => s

/-- The root tells the members of a change (R301, R563). -/
def State.sendModeChange (s : State) (m : BitVec 48) (fall : BitVec 128) (wide : Nat) : State :=
  if s.isRoot then s.sendWords s.children (.modeChange m.toNat fall wide) else s

/-- The mode controller learns a stage's crab (R298): two in a row begin or restart its fallback. -/
def State.modeCrab (s : State) (stage : Nat) : State :=
  let n := Table.get 0 s.mode.crabRun stage + 1
  if s.fixedPolicy then s
  else if s.isMember then s.reportMode stage 1
  else if n < 2 then { s with mode := { s.mode with crabRun := Table.put 0 s.mode.crabRun stage n } }
  else
    let m := s.modeStroke
    let s := { s with mode := { s.mode with crabRun := Table.put 0 s.mode.crabRun stage 0
                                            changes := s.mode.changes ++ [ModeChange.mk m (some stage) (s.dictNat 0x211002)] } }
    let s := (s.stageCount stage 3).sendModeChange m (1#128 <<< stage) 0
    s.event 0x0501 0xFF (natLE 1 stage ++ natLE 8 m.toNat)

/-- The mode controller learns a refusal (R299): a wide run begins or restarts. -/
def State.modeRefusal (s : State) (stage : Nat) : State :=
  if s.isMember then s.reportMode stage 2
  else
  let m := s.modeStroke
  let s := { s with mode := { s.mode with changes := s.mode.changes ++ [ModeChange.mk m none (s.dictNat 0x211003)] } }
  let s := s.sendModeChange m 0 (s.dictNat 0x211003)
  s.event 0x0502 0xFF (natLE 1 stage ++ natLE 8 m.toNat)

/-- A referee sends the verdict of a crabbing stage to each of its tiles (R290). -/
def State.sendVerdict (s : State) (home stage : Nat) (granted : Bool) (crew : Crew) : State :=
  crew.seats.foldl (fun s st =>
    s.inject (ctlFlit ⟨BitVec.ofNat 6 home, 1, 0⟩ 0 st.tile s.clk.stroke false 2
      [BitVec.ofNat 32 ((if granted then 1 else 2) + 4 * stage), s.clk.stroke.setWidth 32, 0, 0])) s

/-- The regions that hold tiles of a crew. -/
def crewRegions (c : Crew) : List Nat := (c.seats.map (fun st => st.tile.region.toNat)).eraseDups

/-- The outcome of a crab at the referee (R289-R294, R306, R75, R76). -/
def State.refereeCrab (s : State) (home stage : Nat) (grant : Bool) (crew : Crew) : State :=
  let s := s.updRef home (fun q => { q with crabs := satAdd q.crabs 1 })
  let s := s.stageCount stage 1
  let s := s.count 0x211006 1
  let s := s.modeCrab stage
  if s.fixedPolicy then s
  else if grant then
    let s := s.updRef home (fun q => { q with granted := true })
    let s := (crewRegions crew).foldl (fun s r =>
      (s.updClk r (fun c => { c with replay := true })).trigger r (trig 1)) s
    (s.sendVerdict home stage true crew).widenStage stage
  else
    let s := s.updRef home (fun q => { q with refusals := satAdd q.refusals 1 })
    let s := s.stageCount stage 2
    let s := s.count 0x211007 1
    (s.sendVerdict home stage false crew).modeRefusal stage

/-- REFEREE_VERDICT (R286-R290): the verdict cycle of a stage. The stages homed in its region that share the cycle are
judged together, and the first crabbing one in rotating order is granted the region's repechage of the stroke. -/
def execRefereeVerdict (stage : BitVec 7) (s : State) : Host.Outcome State Fault Refusal :=
  match s.crewOf stage.toNat, s.checkOf stage.toNat, s.boot.plan with
  | some crew, some c, some plan =>
    let home := crewHome crew
    let homed := sortBy id (((plan.crews.filter (fun k => crewHome k = home)).map (fun k => k.stage)))
    let q := (s.region home).ref
    let now := homed.filter (fun k => !q.judged.contains k && (match s.checkOf k with
      | some c' => decide (c'.verdictCycle = c.verdictCycle)
      | none => false))
    if !s.clk.running || now = [] then .next s
    else
      let head := (s.arbNumber home + home) % homed.length
      let order := homed.drop head ++ homed.take head
      let verdictOf (k : Nat) : Judgement := match s.checkOf k, s.crewOf k with
        | some c', some w => s.judge c' w
        | _, _ => .noCheck
      let crabs := now.filter (fun k => verdictOf k = .crab)
      let pick := if q.granted then none else order.find? (fun k => crabs.contains k)
      let gone := s.checkFlits home
      let used := now.flatMap gone
      let bad := s.transit.filter (fun e => e.1 = home && e.2.2.2.head.kind = 2 && e.2.2.2.head.dkind = 2 && e.2.2.2.head.dx = 1 &&
        e.2.2.2.head.dreg.toNat = home && e.2.1 = 0 && e.2.2.1 = 0 && !crcOk e.2.2.2)
      let s' := s.updMesh home (fun m => { m with crc := satAdd m.crc bad.length })
      let s' : State := { s' with transit := s.transit.filter (fun e => !used.contains e.2.2.2 && !bad.contains e) }
      let s' := s'.updRef home (fun q => { q with judged := q.judged ++ now })
      .next (now.foldl (fun (u : State) k =>
        match verdictOf k with
        | .noCheck => u
        | .good =>
          let u := u.stageCount k 0
          if u.isMember then u.reportMode k 0
          else { u with mode := { u.mode with crabRun := Table.put 0 u.mode.crabRun k 0 } }
        | .crab => match s.crewOf k with
          | some w => (u.stageCount k 0).refereeCrab home k (pick = some k) w
          | none => u) s')
  | _, _, _ => .next s

/-- VERDICT_FLIT_ARRIVE (R290-R295, R506): a verdict flit reaches a tile of the stage; after the verdict read cycle it is
late and the tile withholds its commits. -/
def execVerdictFlitArrive (t : TileId) (f : Flit) (s : State) : Host.Outcome State Fault Refusal :=
  if f.head.kind ≠ 2 || f.body.getD 0 0 ≠ 2 then .next s
  else
    let s := s.eject t f
    let x := s.tile t
    if x.stage.isNone then .next (s.stray t.region.toNat)
    else if !crcOk f then .next (s.updMesh t.region.toNat (fun m => { m with crc := satAdd m.crc 1 }))
    else
      let w := flitWord f 0
      let mine := x.stage = some (bits w 2 7) && decide (flitWord f 1 = s.clk.stroke.setWidth 32)
      let granted := mine && decide (bits w 0 2 = 1)
      let refused := mine && decide (bits w 0 2 = 2)
      let late := decide (x.verdictRead < x.cycle)
      let s := s.updTile t (fun x => admitCtl { x with
        ctlWait := x.ctlWait ++ [f]
        crab := x.crab || mine
        granted := x.granted || granted
        refused := x.refused || refused
        replayRule := x.replayRule || granted
        lateVerdict := x.lateVerdict || late })
      .next (if late || refused then s.withhold t else s)

/-- Every count of a vector advanced by one stroke (R303). -/
def ModeVec.advance (v : ModeVec) : ModeVec :=
  { wide := v.wide - 1, fall := Table.mapVals 0 (fun n => n - 1) v.fall }

/-- A change is due at a stroke (R301): its mode stroke has come, or was skipped at a resume (R562). -/
def ModeChange.due (c : ModeChange) (stroke : BitVec 48) : Bool := !laterMod 48 c.stroke.toNat stroke.toNat

/-- The vector of a stroke: the last one advanced, with the changes that are due (R298-R301). -/
def vecAfter (v : ModeVec) (changes : List ModeChange) (stroke : BitVec 48) : ModeVec :=
  (changes.filter (fun c => c.due stroke)).foldl (fun (v : ModeVec) (c : ModeChange) =>
    match c.stage with
    | some k => { v with fall := Table.put 0 v.fall k c.count }
    | none => { v with wide := c.count }) v.advance

/-- The mode controller's vector of a stroke; under the fixed policy every stage stays narrow (R306). -/
def State.nextVec (s : State) (stroke : BitVec 48) : ModeVec :=
  if s.fixedPolicy then {} else vecAfter s.mode.vec s.mode.changes stroke

/-- A stage runs at the FP8 level (R300). -/
def ModeVec.fp8 (v : ModeVec) (stage : Nat) : Bool := decide (0 < v.wide) || decide (0 < Table.get 0 v.fall stage)

/-- Any stage runs at the FP8 level (R302). -/
def ModeVec.anyFp8 (v : ModeVec) : Bool := decide (0 < v.wide) || v.fall.any (fun p => decide (0 < p.2))

/-- The stroke that the next catch begins: the one a resume names, or the next. -/
def State.comingStroke (s : State) : BitVec 48 :=
  match s.clk.resume with
  | some e => if s.clk.running then s.clk.stroke + 1 else BitVec.ofNat 48 e.stroke
  | none => if s.clk.begun then s.clk.stroke + 1 else s.clk.stroke

/-- MODE_VECTOR_SEND (R303): the controller sends the next stroke's vector to every region, while strokes run and while they are halted. -/
def execModeVectorSend (s : State) : Host.Outcome State Fault Refusal :=
  if s.boot.plan.isNone then .next s
  else
    let v := s.nextVec s.comingStroke
    .next (s.eachRegion (fun r s => s.updRef r (fun q => { q with next := some v })))

end Sys2Proof.Machine
end

