-- ==== Sys2Proof/Machine/Mxu.lean ====
section
/-! DEFINITION. The MXU slot (R222-R229). -/

namespace Sys2Proof.Machine

/-- BLD (R222-R226): the loading block starts to fill from the staging stream; during a load it is discarded. -/
def execBld (t : TileId) (fmt : BitVec 4) (s : State) : Host.Outcome State Fault Refusal :=
  .next (slotRun s t 0 (fun s =>
    let x := s.tile t
    if !x.blkLoad.ready then s.umpire t 2 2 0x24 (lastUse x 0x24) 0
    else (s.updTile t (fun x =>
      { (markUse x 0x24) with
        blkLoad := { fmt := fmt, elems := [], poison := x.wqOver, missing := kW fmt.toNat * 64, ready := false, from_ := x.cycle + 1 }
        wqOver := false })).fill t))

/-- BLOCK_READY (R225): the loading block is ready in the cycle after the staging line of its last element has left the queue, and never
before the cycle after its BLD. -/
def execBlockReady (t : TileId) (s : State) : Host.Outcome State Fault Refusal :=
  let x := s.tile t
  if x.blkLoad.missing = 0 && (decide (x.blkLoad.from_ ≤ x.cycle) || !issuing s t) then .next (s.updTile t (fun x => { x with blkLoad := { x.blkLoad with ready := true } }))
  else .next s

/-- BSW (R222, R223): the block registers swap; before the loading block is ready the sequencer holds (R165, R182). -/
def execBsw (t : TileId) (s : State) : Host.Outcome State Fault Refusal :=
  .next (slotRun s t 0 (fun s => s.updTile t (fun x =>
    if x.blkLoad.ready then swapBlocks x else { x with bswWait := 1 })))

/-- The activation stream from operand-buffer line `x0` on (R227), `n` lines, wrapping at 255; `none` in a line is poison. -/
def actStream (x : Tile) (fmt x0 : Nat) : Nat → List (Option (List FP))
  | 0 => []
  | n + 1 =>
    let l := Table.get {} x.opbuf (x0 % 256)
    (if l.poison then none else decodeLine fmt (Table.getList 0 l.bytes 0 128)) :: actStream x fmt (x0 + 1) n

/-- The number of elements a line of a format holds. -/
def lineElems (fmt : Nat) : Nat :=
  match fmtShape fmt with
  | some sh => sh.nf
  | none => 64

/-- The slice of `k` activation elements from element `e` on, and whether a line it reads is poisoned (R227). The elements
of a poisoned line are taken as NaN: the value that a poisoned MUL leaves in its row the spec does not give (R229, log entry 48). -/
def actSlice (x : Tile) (fmt x0 e k : Nat) : List FP × Bool :=
  let n := lineElems fmt
  let first := e / n
  let last := (e + k - 1) / n
  let ls := actStream x fmt (x0 + first) (last + 1 - first)
  let flat := ls.flatMap (fun l => match l with
    | some es => es
    | none => List.replicate n .nan)
  ((flat.drop (e % n)).take k, ls.any Option.isNone)

/-- The products of one column summed exactly (R228). -/
def columnSum (xs ws : List FP) (row0 c : Nat) : FP :=
  sumFP ((xs.zipIdx).map (fun p => FP.mul p.1 (ws.getD ((row0 + p.2) * 64 + c) (.fin false 0 0))))

/-- The grant of a window of a region (R119). -/
def State.grantOf (s : State) (r w : Nat) : Nat :=
  match s.boot.plan with
  | some p => (Table.get [] p.grants r).getD w 0
  | none => 0

/-- One more matrix unit is active in this cycle of the region; the umpire compares it with the grant (R118, R130, R252, R122, R170). The units of
the cycle are all known only once every tile has run it, so the record of the window is made as the stroke ends (log entry 39). -/
def State.mxuActive (s : State) (t : TileId) : State :=
  let r := t.region.toNat
  let cyc := (s.tile t).cycle
  let n := Table.get 0 (s.region r).clk.mxuActive cyc + 1
  let s := s.updClk r (fun c => { c with mxuActive := Table.put 0 c.mxuActive cyc n })
  let c := (s.region r).clk
  if s.boot.debug && c.umpEn && c.umpChecks.getLsbD 3 && decide (s.grantOf r (cyc / 128) < n) && !c.heavyDone.contains (cyc / 128) then
    let s := s.updClk r (fun c => { c with umpCount := satAdd c.umpCount 1, umpHit := c.umpHit || c.umpHalt,
                                           heavyDone := c.heavyDone ++ [cyc / 128] })
    s.trigger r (trig 10)
  else s

/-- The record of a window whose grant was exceeded (R254): CYCLE is the window's first cycle, DETAIL the units active in the first
cycle that exceeded its grant. -/
def State.heavyRecord (s : State) (r w : Nat) : State :=
  let grant := s.grantOf r w
  let units := (((s.region r).clk.mxuActive.filter (fun e => decide (e.1 / 128 = w) && decide (grant < e.2))).map (fun e => e.2)).headD 0
  s.regionEvent r 0x0B00
    (natLE 1 4 ++ natLE 1 0xFF ++ natLE 2 0x30 ++ natLE 1 r ++ natLE 1 0xFF ++ natLE 1 0xFF ++ natLE 1 0 ++ natLE 4 (128 * w) ++
     natLE 2 0xFFFF ++ natLE 2 0xFFFF ++ natLE 4 (s.clk.stroke.toNat % 2 ^ 32) ++ natLE 2 units ++ natLE 2 grant)

/-- MUL (R222, R227-R229, R167, R169): an activation slice times the block in use, added exactly into an accumulator row. -/
def execMul (t : TileId) (pred : BitVec 2) (arow : BitVec 6) (x : BitVec 8) (e : BitVec 10) (fmt : BitVec 4) (j : BitVec 3)
    (init : Bool) (s : State) : Host.Outcome State Fault Refusal :=
  .next (slotRun s t pred.toNat (fun s =>
    let s := s.mxuActive t
    let tl := s.tile t
    let kb := kW tl.blkUse.fmt.toNat
    let k := min (kW fmt.toNat) kb
    let row0 := (if k = 0 then 0 else j.toNat % (kb / k)) * k
    let sl := actSlice tl fmt.toNat x.toNat e.toNat k
    let poison := sl.2 || tl.blkUse.poison
    let sums := (List.range 64).map (columnSum sl.1 tl.blkUse.elems row0)
    let n := lineElems fmt.toNat
    let s := (List.range ((e.toNat + k - 1) / n + 1 - e.toNat / n)).foldl (fun (s : State) i =>
      let l := (x.toNat + e.toNat / n + i) % 256
      s.staleRead t .mxu (.opLine (BitVec.ofNat 8 l)) (0x300 + l)) s
    (s.consume t poison).launch t .mxu (s.lat 8) (.acc arow) (.mac init sums poison)))

/-- ACLR (R222): rows AROW to AROW + count - 1 become +0 (COUNT holds the count less one). -/
def execAclr (t : TileId) (pred : BitVec 2) (arow : BitVec 6) (count : BitVec 6) (s : State) : Host.Outcome State Fault Refusal :=
  .next (slotRun s t pred.toNat (fun s =>
    if 64 < arow.toNat + count.toNat + 1 then s
    else (List.range (count.toNat + 1)).foldl (fun s i =>
      s.launch t .mxu (s.lat 8) (.acc (arow + BitVec.ofNat 6 i)) (.lanes true [] false)) s))

/-- AMOV (R222, R168): lanes 0-63 of v[V] get a[AROW], lanes 64-127 a[AROW + 1]. -/
def execAmov (t : TileId) (pred : BitVec 2) (arow : BitVec 6) (v : BitVec 5) (s : State) : Host.Outcome State Fault Refusal :=
  .next (slotRun s t pred.toNat (fun s =>
    if arow.getLsbD 0 then s
    else
      let s := s.staleRead t .mxu (.acc arow) (0x200 + arow.toNat)
      let s := s.staleRead t .mxu (.acc (arow + 1)) (0x200 + arow.toNat + 1)
      let x := s.tile t
      let a := arow.toNat
      let poison := (Table.get {} x.acc a).poison || (Table.get {} x.acc (a + 1)).poison
      let ws := accOf x a ++ accOf x (a + 1)
      (s.consume t poison).launch t .mxu (s.lat 9) (.vreg v)
        (.lanes true ((ws.zipIdx).map (fun (p : Word × Nat) => (p.2, p.1))) poison)))

end Sys2Proof.Machine
end

