-- ==== Sys2Proof/Machine/Life.lean ====
section
/-! DEFINITION. How a request ends: slots, completion, retention, moves (R342, R401, R419, R437-R450). -/

namespace Sys2Proof.Machine

/-- No image is in service, nor about to be (R385, R690). -/
def State.noImage (s : State) : Bool := decide (s.weights.epoch = 0) && s.weights.newEpoch.isNone

/-- The stroke number as a natural number. -/
def State.strokeNat (s : State) : Nat := s.clk.stroke.toNat

/-- A generation row of the request is in the pipeline. -/
def State.inPipe (s : State) (id : BitVec 64) : Bool :=
  s.serve.t.passes.any (fun p => p.id = id && p.slot.isSome && !laterMod 48 p.entry s.strokeNat)

/-- Rows decided for a coming stroke are taken back. -/
def State.unplan (s : State) (id : BitVec 64) : State :=
  s.updTables (fun t => { t with passes := t.passes.filter (fun p => !(p.id = id && laterMod 48 p.entry s.strokeNat)) })

/-- Remove every pass of a request from the pipeline (R81, R442). -/
def State.withdraw (s : State) (id : BitVec 64) : State :=
  s.updTables (fun t => { t with passes := t.passes.filter (fun p => p.id ≠ id) })

/-- Put a generation slot into a state. -/
def State.putSlot (s : State) (k : Nat) (v : SlotState) : State :=
  s.updTables (fun t => { t with slots := Table.put .free t.slots k v })

/-- The slot of a request is given up (R401, R445): it is releasing while a pass is in the pipeline, and the request's page
sets are released when it becomes free. -/
def State.giveUpSlot (s : State) (r : Request) (sets : List Nat) : State :=
  match r.slot with
  | none => (s.withdraw r.id).releaseSets sets
  | some k =>
    if s.inPipe r.id then (s.unplan r.id).putSlot k (.releasing r.id sets)
    else ((s.withdraw r.id).putSlot k .free).releaseSets sets

/-- The entry is freed, and its connection is quiet from now if it was its last (R428). -/
def State.freeEntry (s : State) (r : Request) : State :=
  let s := s.dropReq r.id
  match s.conn r.tag with
  | some c => if s.requestsOf r.tag = [] then s.setConn r.tag (some { c with lastMs := s.ms }) else s
  | none => s

/-- The CHECK of a turn (R437). -/
def turnCheck (r : Request) : BitVec 64 :=
  BitVec.ofNat 64 (leNat ((sha256 (tokenBytes (r.committed.map (fun c => c.token)))).take 8))

/-- Send a completion record (R437); QUEUE_US is open where no chunk ever entered (log entry 5). -/
def State.sendCompletion (s : State) (r : Request) (reason detail : Nat) (late retained : Bool) : State :=
  let flags := b2n late + 2 * b2n r.crossed + 4 * b2n retained + 8 * b2n (r.committed.any (fun c => c.widened))
  let q := match r.firstEntry with
    | some e => usOf (e - r.joined)
    | none => (Config.freeBits s.free).toNat % 2 ^ 32
  let f := match r.firstCommit with
    | some e => usOf (e - r.joined)
    | none => 0xFFFFFFFF
  let s := if r.firstEntry.isNone then s.useFree 1 else s
  let s := s.histAdd 6 (log2Bin f)
  let s := s.histAdd 7 (log2Bin q)
  let s := s.count (0x30200800 + reason) 1
  s.sendMsg r.tag (.completion r.id r.turn (BitVec.ofNat 8 reason) (BitVec.ofNat 8 flags) (BitVec.ofNat 16 detail)
    r.committed.length r.promptCount r.prefixCount s.weights.epoch (turnCheck r) q f)

/-- A hand-off answer (R440). -/
def State.sendMoved (s : State) (r : Request) (serial : BitVec 128) (result : Nat) : State :=
  s.sendMsg r.tag (.handOff r.id 1 (BitVec.ofNat 8 result) serial 0 r.turn)

/-- A parked request starts to move to a partner (R449). -/
def State.startMove (s : State) (id : BitVec 64) (serial : BitVec 128) : State :=
  let s := (s.updReq id (fun q => { q with state := .moving, moveTo := none })).updServe (fun v => { v with moves := v.moves ++ [(id, serial)] })
  match s.upLinks.find? (fun k => match s.partnerOn k with
    | some p => decide (p.hail.serial = serial)
    | none => false) with
  | some k => s.updLink k (fun l => { l with out := l.out ++ [.bulk 4 id.toNat 0] })
  | none => s

/-- The request keeps its context (R342): staging rows to a retention slot, the pipeline slot released. -/
def State.retain (s : State) (r : Request) : State :=
  let s := s.giveUpSlot r []
  let s := s.updReq r.id (fun q => { q with state := .retained, slot := none, reserved := 0, retention := true, idleMs := s.ms,
                                            inPrefill := false })
  match r.moveTo with
  | some serial => (s.parkNow r.id).startMove r.id serial
  | none => if s.dictNat 0x312001 = 0 then s.parkNow r.id else s

/-- A request completes (R342, R419, R437, R441, R444): its last tokens, its completion record, then retention or the
freeing of its entry. A hand-off that waits for it, or a cancel that it leaves nothing of and that is not late (R442), gets
notice 5. -/
def State.complete (s : State) (id : BitVec 64) (reason detail : Nat) : State :=
  match s.req id with
  | none => s
  | some r0 =>
    let s := s.sendTokens r0
    let r := (s.req id).getD r0
    let keep := match r.par with
      | some p => p.flags.getLsbD 0
      | none => false
    let natural := [0, 1, 3, 4].contains reason
    let any := r.committed ≠ [] || r.turn ≠ 0
    let retained := keep && natural && any && !r.cancel
    let late := r.cancel && [0, 1, 3].contains reason
    let s := s.sendCompletion r reason detail late retained
    if retained then s.retain r
    else
      let s := if r.moveTo.isSome then s.notice r.tag id r.turn 5 0 else s
      let s := if r.cancel && !late && reason ≠ 2 then s.notice r.tag id r.turn 5 0 else s
      (s.giveUpSlot r r.sets).freeEntry r

/-- A request that never held an entry is refused (R403). -/
def State.refuse (s : State) (tag : Nat) (m : RequestMsg) (detail : Nat) : State :=
  s.sendCompletion { id := m.requestId, tag := tag, par := some m } 5 detail false false

end Sys2Proof.Machine
end

