-- ==== Sys2Proof/Machine/Sampler.lean ====
section
/-! DEFINITION. The sampler (R416-R418). -/

namespace Sys2Proof.Machine

/-- NaN logits rank as minus infinity (R418). -/
def rankValue (w : Word) : FP :=
  match fp32 w with
  | .nan => .inf true
  | v => v

/-- The positions of the `k` best of a list, best first: larger first, equal values by lower position (R416). -/
def bestOf (xs : List (Nat × FP)) : Nat → List (Nat × FP)
  | 0 => []
  | k + 1 =>
    match xs with
    | [] => []
    | x :: rest =>
      let b := rest.foldl (fun b y => if fpLt b.2 y.2 then y else b) x
      b :: bestOf (xs.filter (fun y => y.1 ≠ b.1)) k

/-- The exact quotient of two finite values, rounded once (R416): z / T for T > 0. -/
def fpDiv (a t : FP) : Word :=
  match a, t with
  | .fin s m e, .fin _ m' e' =>
    if m = 0 then toFP32 (.fin s 0 0)
    else
      let q := m * 2 ^ 300 / m'
      roundFP32 s q (e - e' - 300) (m * 2 ^ 300 % m' ≠ 0)
  | x, _ => toFP32 x

/-- A value is plus infinity. -/
def isPInf (w : Word) : Bool := w = 0x7F800000#32

/-- The weight of a candidate after the first, whose weight is 1 (R416, R418); where x[0] is minus infinity it is NaN, which
is at least no min_p. -/
def candWeight (x0 x : Word) : Word :=
  if isPInf x0 then (if isPInf x then 0x3F800000#32 else 0)
  else fpExp (fp32 (fpAdd (fp32 x) (FP.neg (fp32 x0))))

/-- Value order on FP32 words: a <= b, false with NaN. -/
def fpLe (a b : Word) : Bool :=
  match fp32 a, fp32 b with
  | .nan, _ => false
  | _, .nan => false
  | x, y => !fpLt y x

/-- Running sums, rounded at each step. -/
def runSums (a : Word) : List (Nat × Word) → List (Nat × Word)
  | [] => []
  | (c, e) :: r => let s := fpAdd (fp32 a) (fp32 e); (c, s) :: runSums s r

/-- The shortest leading run whose last sum reaches a value; all of it when none does. -/
def runTo (v : Word) : List (Nat × Word) → List (Nat × Word)
  | [] => []
  | (c, s) :: r => if !fpLt (fp32 s) (fp32 v) then [(c, s)] else (c, s) :: runTo v r

/-- The token a sampler chooses from logits (R416-R418): none when every logit is NaN or minus infinity. -/
def sampleToken (logits : List Word) (topK : Nat) (temp topP minP : Word) (seed : BitVec 64) (turn : BitVec 16) (index : Nat) : Option Nat :=
  let xs := (logits.zipIdx).map (fun (p : Word × Nat) => (p.2, rankValue p.1))
  if xs.all (fun p => decide (p.2 = .inf true)) then none
  else if temp = 0 || temp = 0x80000000#32 then (bestOf xs 1).head?.map (fun p => p.1)
  else
    let k := min (if topK = 0 then 256 else topK) logits.length
    let cs := bestOf xs k
    let x := cs.map (fun p => (p.1, fpDiv p.2 (fp32 temp)))
    let x0 := match x with
      | p :: _ => p.2
      | [] => 0
    let e := match x with
      | [] => []
      | p :: rest => (p.1, 0x3F800000#32) :: rest.map (fun (q : Nat × Word) => (q.1, candWeight x0 q.2))
    let kept := e.filter (fun p => fpLe minP p.2)
    let sums := runSums 0 kept
    let s := (sums.getLast?.map (fun p => p.2)).getD 0
    let run := runTo (fpMul (fp32 topP) (fp32 s)) sums
    let s2 := (run.getLast?.map (fun p => p.2)).getD 0
    let u := philox (index, turn.toNat, 0, 0x534D) (seed.toNat % 2 ^ 32, seed.toNat / 2 ^ 32) 0 / 256
    let v := toFP32 (match fp32 s2 with
      | .fin n m q => .fin n (m * u) (q - 24)
      | w => w)
    match run.find? (fun p => fpLt (fp32 v) (fp32 p.2)) with
    | some p => some p.1
    | none => run.getLast?.map (fun p => p.1)

end Sys2Proof.Machine
end

