-- ==== Sys2Proof/Machine/TokenService.lean ====
section
/-! DEFINITION. The token service's messages and timers (R398, R403, R404, R407, R421-R450). -/

namespace Sys2Proof.Machine

/-- Free request-table entries. -/
def State.freeEntries (s : State) : Nat := 65536 - s.serve.t.reqs.length

/-- Discard boathouse entries so that the table keeps its free-entry floor with one entry more (R398). -/
def State.restoreFloor (s : State) : Nat → State
  | 0 => s
  | n + 1 =>
    if s.dictNat 0x301004 + 1 ≤ s.freeEntries then s
    else match s.longestParked true with
      | some r => (s.discardEntry r.id).restoreFloor n
      | none => match s.longestParked false with
        | some r => (s.discardEntry r.id).restoreFloor n
        | none => s

/-- The context limit (R339). -/
def State.contextLimit (s : State) : Nat :=
  match s.boot.plan with
  | some p => min 262144 p.contextLimit
  | none => 0

/-- An FP32 zero of either sign. -/
def fpZero (w : Word) : Bool := w = 0 || w = 0x80000000#32

/-- Every field of a request lies in its range (R403, R430). -/
def fieldsOk (m : RequestMsg) : Bool :=
  m.requestId ≠ 0 && decide (m.cls ≤ 3) && decide (m.flags.toNat ≤ 1) && decide (m.stopCount ≤ 8) && !m.reservedSet &&
  decide (m.topK ≤ 256) && (fpZero m.temperature || (fpLe 0x3C23D70A m.temperature && fpLe m.temperature 0x42C80000)) &&
  fpLe m.topP 0x3F800000 && fpLt (fp32 0) (fp32 m.topP) && fpLe 0 m.minP && fpLe m.minP 0x3F800000 &&
  decide (1 ≤ m.maxNew) && decide (m.maxNew ≤ 262144) && decide (1 ≤ m.promptTotal) && decide (m.promptTotal ≤ 262143) &&
  decide (1 ≤ m.promptCount) && decide (m.promptOffset + m.promptCount ≤ m.promptTotal)

/-- A registered adapter usable at the running epoch (R380). -/
def State.adapterUsable (s : State) (id : Word) : Bool :=
  id = 0 || s.weights.adapters.any (fun a => a.id = id && (a.epoch = 0 || a.epoch = s.weights.epoch))

/-- Requests in the admission queue. -/
def State.queueLen (s : State) : Nat := (s.serve.t.reqs.filter (fun r => r.state = .queued)).length

/-- The first check of R403 that fails, for parameters `m`, the tokens sent and the length of the whole prompt; entries
are checked where one is taken. -/
def State.admitCheck (s : State) (m : RequestMsg) (tokens : List Word) (total : Nat) : Option Nat :=
  if s.boot.plan.isNone || s.noImage then some 8
  else if s.dictNat 0x301003 ≤ s.queueLen then some 3
  else if !fieldsOk m then some 4
  else if !(tokens ++ m.stopIds.take m.stopCount).all (fun t => decide (t.toNat < s.weights.vocab)) then some 5
  else if s.contextLimit ≤ total then some 6
  else if !s.adapterUsable m.adapter then some 7
  else none

/-- The request joins the admission queue (R403, R404, R435). -/
def State.joinQueue (s : State) (id : BitVec 64) (cls : Nat) : State :=
  match s.req id with
  | none => s
  | some r =>
    (s.setReq { r with state := .queued, cls := cls, joined := s.now, clsMs := s.ms, firstEntry := none, firstCommit := none }).notice
      r.tag id r.turn 1 0

/-- Two parts overlap. -/
def partsClash (ps : List (Nat × List Word)) (off n : Nat) : Bool :=
  ps.any (fun p => decide (off < p.1 + p.2.length) && decide (p.1 < off + n))

/-- The repeated fields of a part equal those of the first (R431). -/
def sameFields (a b : RequestMsg) : Bool :=
  decide ({ a with promptOffset := 0, promptCount := 0, tokens := [] } = { b with promptOffset := 0, promptCount := 0, tokens := [] })

/-- The tokens of complete parts in order. -/
def joinParts (ps : List (Nat × List Word)) : List Word := (sortBy (fun p => p.1) ps).flatMap (fun p => p.2)

/-- Tokens the parts hold. -/
def partsLen (ps : List (Nat × List Word)) : Nat := ps.foldl (fun n p => n + p.2.length) 0

/-- A refusal of a request that holds an entry (R431): the completion record, and the entry freed. -/
def State.refuseEntry (s : State) (id : BitVec 64) (detail : Nat) : State := s.complete id 5 detail

/-- All parts of a new request are there: it is checked and queued (R403, R431). -/
def State.partsDone (s : State) (id : BitVec 64) : State :=
  match s.req id with
  | none => s
  | some r => match r.par with
    | none => s
    | some m =>
      if partsLen r.parts < m.promptTotal then s
      else
        let ts := joinParts r.parts
        match s.admitCheck m ts m.promptTotal with
        | some d => s.refuseEntry id d
        | none =>
          (s.setReq { r with parts := [], tokens := ts, promptEnd := ts.length }).joinQueue id m.cls

/-- A part of a request reaches the table (R403, R431, R432). -/
def State.takeRequest (s : State) (tag : Nat) (m : RequestMsg) : State :=
  match s.req m.requestId with
  | some r =>
    if r.state ≠ .receiving then s.discardMsg
    else match r.par with
      | none => s
      | some first =>
        if !sameFields first m || partsClash r.parts m.promptOffset m.promptCount || m.promptCount = 0 ||
            decide (m.promptTotal < m.promptOffset + m.promptCount) then
          s.refuseEntry m.requestId 4
        else (s.setReq { r with parts := r.parts ++ [(m.promptOffset, m.tokens)] }).partsDone m.requestId
  | none =>
    let s := if s.boot.plan.isNone then s else s.restoreFloor 65536
    if s.boot.plan.isNone then s.refuse tag m 8
    else if s.freeEntries = 0 then s.refuse tag m 2
    else if m.requestId = 0 || m.promptCount = 0 || decide (m.promptTotal < m.promptOffset + m.promptCount) then s.refuse tag m 4
    else
      let r : Request := { id := m.requestId, tag := tag, par := some { m with tokens := [] }, parts := [(m.promptOffset, m.tokens)],
                           partsMs := s.ms, cls := m.cls }
      (s.updTables (fun t => { t with reqs := t.reqs ++ [r] })).partsDone m.requestId

/-- A received message stays in its port's receive ring until the finish (R397). -/
def State.keep (s : State) (i : Instr) : State := { s with ring := s.ring ++ [i] }

/-- REQUEST (R421-R432): a request, or a part of one. -/
def execRequest (a : Arrival) (s : State) : Host.Outcome State Fault Refusal :=
  let m := requestOf a.unit
  .next ((s.keep (.request a)).acceptMsg a 1 (requestLength m) (fun s => s.takeRequest (arrivedTag a) m))

/-- CANCEL (R442): held for the next catch; of a request that is not there, notice 5. -/
def execCancel (a : Arrival) (s : State) : Host.Outcome State Fault Refusal :=
  let id := arrivedId a
  .next ((s.keep (.cancel a)).acceptMsg a 4 32 (fun s => match s.req id with
    | some r => s.setReq { r with cancel := true }
    | none => s.notice (arrivedTag a) id 0 5 0))

/-- PARK (R446, R453). -/
def execPark (a : Arrival) (s : State) : Host.Outcome State Fault Refusal :=
  let id := arrivedId a
  let tag := arrivedTag a
  .next ((s.keep (.park a)).acceptMsg a 5 32 (fun s => match s.req id with
    | none => s.notice tag id 0 5 0
    | some r =>
      if r.cancel then s.notice tag id r.turn 5 0
      else match r.state with
        | .prefill => s.setReq { r with state := .parking, inPrefill := true, parkStroke := some s.clk.stroke }
        | .generating => s.setReq { r with state := .parking, parkStroke := some s.clk.stroke }
        | .retained => s.parkNow id
        | .parked => s.notice r.tag id r.turn (match r.boat with
          | some b => if b.flash then 3 else 2
          | none => 2) 0
        | .parking => s
        | .receiving => s.notice tag id r.turn 6 12
        | .queued => s.notice tag id r.turn 6 12
        | .moving => s.notice tag id r.turn 6 12))

/-- The boathouse entry or retained context a resume starts from (R346, R347): position to prefill from, blocks taken from
the tree, and whether pages must be copied back. -/
def State.resumeContext (s : State) (r : Request) : State :=
  let last := r.tokens.length - 1
  let fresh (s : State) : State :=
    (s.releaseSets r.sets).updReq r.id (fun q => { q with sets := [], boat := none, nextPos := 0, donePos := 0, copying := false,
                                                          retention := false, redo := none, epoch := s.weights.epoch, flushed := 0,
                                                          privateTo := 0 })
  match r.boat, s.boot.plan with
  | some b, some p =>
    if b.epoch ≠ s.weights.epoch || b.numerics ≠ p.numerics || b.pageSlot ≠ p.pageSlot || !b.pagesOk then fresh s
    else
      let adapter := (r.par.map (fun m => m.adapter)).getD 0
      let got := if s.dictNat 0x311001 = 0 then [] else s.matchBlocks r.tokens adapter s.weights.epoch b.blocks 0 0
      let s := got.foldl (fun s n => s.takeNode n) s
      let s := s.count 0x311004 got.length
      let start := match b.redo with
        | some q => min last (max q (64 * got.length))
        | none => last
      s.updReq r.id (fun q => { q with sets := got, prefixCount := 64 * got.length, nextPos := start, donePos := start, copying := true,
                                       flushed := 0 })
  | _, _ =>
    if r.epoch ≠ s.weights.epoch then fresh s
    else
      let start := match r.redo with
        | some q => min last q
        | none => last
      s.updReq r.id (fun q => { q with nextPos := start, donePos := start, retention := false, redo := none, prefixCount := 0 })

/-- All parts of a resume are there (R433, R447, R448, R420). -/
def State.resumeDone (s : State) (id : BitVec 64) (m : RequestMsg) (tag : Nat) : State :=
  match s.req id with
  | none => s
  | some r =>
    if partsLen r.parts < m.promptTotal then s
    else
      let ts := joinParts r.parts
      let s := s.setReq { r with parts := [], resumePar := none }
      let own := (r.par.map (fun p => p.adapter)).getD 0
      let check := match s.admitCheck m ts (r.tokens.length + ts.length) with
        | some d => some d
        | none => if m.adapter ≠ own then some 7 else none
      match check with
      | some d => s.notice tag id r.turn 6 d
      | none =>
        let s := s.resumeContext r
        match s.req id with
        | none => s
        | some q =>
          (s.setReq { q with turn := q.turn + 1, par := some { m with tokens := [] }, tag := tag, tokens := q.tokens ++ ts,
                             promptEnd := q.tokens.length + ts.length, committed := [], recorded := 0, drops := 0, crossed := false,
                             atHead := false }).joinQueue id m.cls

/-- RESUME (R433, R447, R448): a resume, or a part of one. -/
def execResume (a : Arrival) (s : State) : Host.Outcome State Fault Refusal :=
  let m := requestOf a.unit
  let id := m.requestId
  let tag := arrivedTag a
  .next ((s.keep (.resume a)).acceptMsg a 6 (requestLength m) (fun s => match s.req id with
    | none => s.refuse tag m 11
    | some r =>
      if r.state ≠ .retained && r.state ≠ .parked then s.notice tag id r.turn 6 12
      else
        let clash := match r.resumePar with
          | some first => !sameFields first m || partsClash r.parts m.promptOffset m.promptCount
          | none => false
        if clash || decide (m.promptTotal < m.promptOffset + m.promptCount) || m.promptCount = 0 then
          (s.setReq { r with parts := [], resumePar := none }).notice tag id r.turn 6 4
        else
          let s := s.setReq { r with parts := r.parts ++ [(m.promptOffset, m.tokens)], resumePar := some (r.resumePar.getD { m with tokens := [] }),
                                     partsMs := if r.resumePar.isNone then s.ms else r.partsMs }
          s.resumeDone id m tag))

/-- A partner in Cox's partner table (R449, R553). -/
def State.isPartner (s : State) (serial : BitVec 128) : Bool := s.links.partners.any (fun p => p.hail.serial = serial && p.links ≠ 0)

/-- HAND_OFF (R424, R440, R449, R450): a move of a request to a partner module. -/
def execHandOff (a : Arrival) (s : State) : Host.Outcome State Fault Refusal :=
  let id := arrivedId a
  let tag := arrivedTag a
  let kind := fieldNat a.unit 24 1
  let serial := BitVec.ofNat 128 (fieldNat a.unit 32 16)
  .next ((s.keep (.handOff a)).acceptMsg a 7 56 (fun s =>
    if kind ≠ 0 then s.discardMsg
    else match s.req id with
      | none => s.notice tag id 0 5 0
      | some r =>
        if r.state = .receiving || r.state = .queued || r.state = .moving then s.notice tag id r.turn 6 12
        else if !s.isPartner serial then s.sendMoved { r with tag := tag } serial 14
        else match r.state with
          | .prefill => s.setReq { r with state := .parking, inPrefill := true, moveTo := some serial }
          | .generating => s.setReq { r with state := .parking, moveTo := some serial }
          | .parking => s.setReq { r with moveTo := some serial }
          | .retained => (s.parkNow id).startMove id serial
          | _ => s.startMove id serial))

/-- HAND_OFF_CONFIRM (R449, R450): the target has stored the entry (`result` 0) and the source frees its own, or the move
failed with a detail code and the entry stays parked. -/
def execHandOffConfirm (id : BitVec 64) (result : Nat) (s : State) : Host.Outcome State Fault Refusal :=
  match s.serve.moves.find? (fun m => m.1 = id), s.req id with
  | some (_, serial), some r =>
    let s := s.updServe (fun v => { v with moves := v.moves.filter (fun m => m.1 ≠ id) })
    if result = 0 then .next ((s.sendMoved r serial 0).freeEntry r)
    else .next ((s.setReq { r with state := .parked }).sendMoved r serial result)
  | _, _ => .next s

/-- PART_TIMEOUT (R431, R433): parts incomplete after 0x3000.04 ms. -/
def execPartTimeout (id : BitVec 64) (s : State) : Host.Outcome State Fault Refusal :=
  match s.req id with
  | none => .next s
  | some r =>
    if r.parts = [] then .next s
    else
      let s := s.advanceTo ((r.partsMs + s.dictNat 0x300004) * msTicks)
      if r.state = .receiving then .next (s.refuseEntry id 13)
      else .next ((s.setReq { r with parts := [], resumePar := none }).notice r.tag id r.turn 6 13)

/-- QUEUE_TIMEOUT (R407): queued for 0x3010.06 ms without starting. -/
def execQueueTimeout (id : BitVec 64) (s : State) : Host.Outcome State Fault Refusal :=
  match s.req id with
  | none => .next s
  | some r =>
    let lim := s.dictNat 0x301006
    if r.state ≠ .queued || lim = 0 || r.atHead then .next s
    else .next ((s.advanceTo (r.joined + lim * msTicks)).complete id 5 9)

/-- CLASS_AGING (R404): 0x3010.05 ms in its class moves a queued request up one class. -/
def execClassAging (id : BitVec 64) (s : State) : Host.Outcome State Fault Refusal :=
  match s.req id with
  | none => .next s
  | some r =>
    let age := s.dictNat 0x301005
    if r.state ≠ .queued || age = 0 || r.cls = 0 then .next s
    else
      let s := s.advanceTo ((r.clsMs + age) * msTicks)
      .next (s.setReq { r with cls := r.cls - 1, clsMs := r.clsMs + age })

/-- IDLE_TIME_EXPIRY (R343): a retained sequence not resumed within 0x3120.01 parks to the module tier. -/
def execIdleTimeExpiry (id : BitVec 64) (s : State) : Host.Outcome State Fault Refusal :=
  match s.req id with
  | none => .next s
  | some r =>
    if r.state ≠ .retained then .next s
    else .next ((s.advanceTo ((r.idleMs + s.dictNat 0x312001) * msTicks)).parkNow id)

/-- MODULE_TTL_EXPIRY (R344): a module-tier entry older than 0x3120.02 s moves to flash, or is discarded. -/
def execModuleTtlExpiry (id : BitVec 64) (s : State) : Host.Outcome State Fault Refusal :=
  match s.req id with
  | none => .next s
  | some r => match r.boat with
    | none => .next s
    | some b =>
      if r.state ≠ .parked || b.flash then .next s
      else .next (((s.advanceTo ((b.tierMs + 1000 * s.dictNat 0x312002) * msTicks)).toFlash id).boatFit 65536)

/-- FLASH_TTL_EXPIRY (R344): a flash entry older than 0x3120.03 s is discarded. -/
def execFlashTtlExpiry (id : BitVec 64) (s : State) : Host.Outcome State Fault Refusal :=
  match s.req id with
  | none => .next s
  | some r => match r.boat with
    | none => .next s
    | some b =>
      if r.state ≠ .parked || !b.flash then .next s
      else .next ((s.advanceTo ((b.tierMs + 1000 * s.dictNat 0x312003) * msTicks)).discardEntry id)

/-- RESUME_COPY_COMPLETE (R346): the pages and staging rows of a resumed entry are back in the stack tier, its sets join
the tree, and the entry is discarded. It waits while the pool has no room. -/
def execResumeCopyComplete (id : BitVec 64) (s : State) : Host.Outcome State Fault Refusal :=
  match s.req id with
  | none => .next s
  | some r => match r.boat with
    | none => .next s
    | some b =>
      if !r.copying then .next s
      else
        let n := b.blocks - r.sets.length
        let more := n - r.reserved
        let s := s.reclaim (more * s.layers) 65536
        if s.slotsFree < more * s.layers then .next s
        else
          let adapter := (r.par.map (fun m => m.adapter)).getD 0
          let q := (List.range n).foldl (fun (q : State × List Nat) _ =>
            let a := q.1.allocSet adapter s.weights.epoch
            (a.1, q.2 ++ [a.2])) (s, [])
          .next ((q.1.setReq { r with sets := r.sets ++ q.2, boat := none, copying := false, epoch := s.weights.epoch,
                                      reserved := r.reserved - n }).insertSets id r.sets.length)

/-- UDP_IDLE_TIMEOUT (R428): a UDP connection with no live request, idle for 0x3000.06 s, detaches. -/
def execUdpIdleTimeout (tag : BitVec 16) (s : State) : Host.Outcome State Fault Refusal :=
  match s.conn tag.toNat with
  | none => .next s
  | some c => match c.endpoint with
    | some (.udp _ _) =>
      if s.requestsOf tag.toNat ≠ [] then .next s
      else .next ((s.advanceTo ((c.lastMs + 1000 * s.dictNat 0x300006) * msTicks)).detach tag.toNat)
    | _ => .next s

/-- DETACH_TIMEOUT (R428): a detached connection not reopened within 0x3000.05 ms: its receiving, queued, prefilling and
generating requests are cancelled with detail 17, and the tag may be bound afresh. -/
def execDetachTimeout (tag : BitVec 16) (s : State) : Host.Outcome State Fault Refusal :=
  match s.conn tag.toNat with
  | none => .next s
  | some c =>
    if c.endpoint.isSome then .next s
    else
      let s := s.advanceTo ((c.detachedMs + s.dictNat 0x300005) * msTicks)
      let gone := (s.requestsOf tag.toNat).filter (fun r => [ReqState.receiving, .queued, .prefill, .generating].contains r.state)
      .next ((gone.foldl (fun s r => s.complete r.id 2 17) s).setConn tag.toNat none)

end Sys2Proof.Machine
end

