-- ==== Sys2Proof/Machine/Planning.lean ====
section
/-! DEFINITION. How Cox decides the rows of an entry stroke (R44, R334, R340, R383, R399-R415). -/

namespace Sys2Proof.Machine

/-- The number of generation slots of a plan (R399). -/
def planSlots (p : Plan) : Nat := min 5120 (p.entryPhases.length * p.rowsPerPhase)

/-- The state of a generation slot. -/
def State.slot (s : State) (k : Nat) : SlotState := Table.get .free s.serve.t.slots k

/-- The request in a running or booked slot. -/
def SlotState.active : SlotState → Option (BitVec 64)
  | .running id => some id
  | .booked id => some id
  | _ => none

/-- Queue order (R404): by class, those sent back to the head of their class first, then by the time of joining. -/
def queueOrder (rs : List Request) : List Request :=
  sortBy (fun r => r.cls) (sortBy (fun (r : Request) => if r.atHead then 0 else 1) (sortBy (fun r => r.joined) rs))

/-- Requests in prefill in queue order, re-prefills ahead of new prefill (R412, R453). -/
def State.inPrefill (s : State) : List Request :=
  let rs := queueOrder (s.serve.t.reqs.filter (fun r => r.prefilling && !r.copying))
  rs.filter (fun r => r.again) ++ rs.filter (fun r => !r.again)

/-- What a phase's rows use (R408, R409): work beyond F0 in A-ths of a cycle, pages, prefill rows, and the adapters of the rows placed. -/
structure Fill where
  work : Nat := 0
  pages : Nat := 0
  rows : Nat := 0
  /-- crew row and adapter of the rows placed that carry one -/
  adapters : List (Nat × Word) := []

/-- Work of one row at position `q`, in A-ths of a cycle (R408). -/
def rowWork (c : RowCost) (q : Nat) : Nat := c.a * c.c + q

/-- Pages a row reads (R408). -/
def rowPages (p : Plan) (q : Nat) : Nat := q / 64 + b2n p.spilled

/-- A fill keeps within the budgets of its phase (R409). -/
def fillOk (c : RowCost) (f : Fill) : Bool := decide (c.a * c.f0 + f.work ≤ c.a * c.w) && decide (f.pages ≤ c.kp)

/-- The row group of `row` stays within the adapters a plan allows (R383). -/
def groupOk (p : Plan) (f : Fill) (row : Nat) (adapter : Word) : Bool :=
  if adapter = 0 then true
  else
    let seen := ((f.adapters.filter (fun e => e.1 / 64 = row / 64)).map (fun e => e.2)).eraseDups
    seen.contains adapter || decide (seen.length < p.adaptersPerGroup)

/-- One more row placed. -/
def Fill.add (f : Fill) (p : Plan) (c : RowCost) (q row : Nat) (adapter : Word) (prefill : Bool) : Fill :=
  { work := f.work + rowWork c q
    pages := f.pages + rowPages p q
    rows := f.rows + b2n prefill
    adapters := if adapter = 0 then f.adapters else f.adapters ++ [(row, adapter)] }

/-- MAX_NEW of the turn. -/
def Request.maxNew (r : Request) : Nat := (r.par.map (fun m => m.maxNew)).getD 0

/-- The rows of generation at phase `φ` in stroke `n` (R410): running slots, and booked ones whose first token commits
before the stroke. -/
def State.genRows (s : State) (p : Plan) (φ n : Nat) : List (Nat × Request) :=
  (List.range p.rowsPerPhase).filterMap (fun row =>
    match s.slot (64 * φ + row) with
    | .running id => (s.req id).bind (fun r => if r.again then none else some (row, r))
    | .booked id => (s.req id).bind (fun r =>
        if s.serve.t.passes.any (fun q => q.id = id && q.sampled && laterMod 48 n (q.entry + p.commitOffset)) then some (row, r) else none)
    | _ => none)

/-- The position of the token a slot's next row carries: its last token, or the one still to commit (R408). -/
def State.rowPos (s : State) (r : Request) : Nat :=
  if s.serve.t.passes.any (fun q => q.id = r.id && q.sampled && !q.lost) then r.tokens.length else r.tokens.length - 1

/-- Place the generation rows (R410): never left out. -/
def State.placeGen (s : State) (p : Plan) (c : RowCost) (φ n : Nat) : State × Fill :=
  (s.genRows p φ n).foldl (fun (a : State × Fill) (e : Nat × Request) =>
    let q := a.1.rowPos e.2
    let ps : Pass := { id := e.2.id, entry := n, slot := some (64 * φ + e.1), first := q, count := 1, row := e.1, sampled := true }
    (a.1.updTables (fun t => { t with passes := t.passes ++ [ps] }), a.2.add p c q e.1 e.2.adapter false)) (s, {})

/-- The position at which R411 costs a row: as far as its turn can take it. -/
def State.farPos (s : State) (r : Request) : Nat :=
  min (r.tokens.length - 1 + (r.maxNew - r.committed.length)) (s.contextLimit - 1)

/-- Phase `φ` has room for one more row of generation (R411), within its adapters (R383). -/
def State.phaseRoom (s : State) (p : Plan) (c : RowCost) (φ : Nat) (r : Request) : Bool :=
  let rs := (List.range p.rowsPerPhase).filterMap (fun row => (s.slot (64 * φ + row)).active.bind s.req)
  let others := rs.filter (fun q => q.id ≠ r.id)
  let work := (r :: others).foldl (fun n q => n + rowWork c (s.farPos q)) 0
  let reserve := s.dictNat 0x301002 * rowWork c s.contextLimit
  let names := ((others.map (fun q => q.adapter)).filter (fun a => a ≠ 0)).eraseDups
  decide (c.a * c.f0 + work + reserve ≤ c.a * c.w) &&
    (r.adapter = 0 || names.contains r.adapter || decide (names.length < p.adaptersPerGroup))

/-- The slot a last chunk takes in phase `φ` (R401, R414, R453): the one its request holds there, or the lowest free row. -/
def State.bookable (s : State) (p : Plan) (c : RowCost) (φ : Nat) (r : Request) : Option Nat :=
  match r.slot with
  | some k =>
    if k / 64 = φ then some k
    else if s.slot k = .running r.id then none
    else if s.phaseRoom p c φ r then ((List.range p.rowsPerPhase).map (fun row => 64 * φ + row)).find? (fun k => s.slot k = .free)
    else none
  | none =>
    if s.phaseRoom p c φ r then ((List.range p.rowsPerPhase).map (fun row => 64 * φ + row)).find? (fun k => s.slot k = .free)
    else none

/-- The longest run of positions from `q` that fits (R413), at most `n` rows. -/
def runLength (p : Plan) (c : RowCost) (adapter : Word) : Nat → Nat → Fill → Nat
  | 0, _, _ => 0
  | n + 1, q, f =>
    let row := 64 + f.rows
    let f' := f.add p c q row adapter true
    if 512 ≤ f.rows || !fillOk c f' || !groupOk p f row adapter then 0 else runLength p c adapter n (q + 1) f' + 1

/-- Place one chunk of a request (R396, R412-R414): at most `lim` rows. -/
def State.placeChunk (s : State) (p : Plan) (c : RowCost) (φ n : Nat) (lim : Nat) (f : Fill) (id : BitVec 64) : State × Fill :=
  match s.req id with
  | none => (s, f)
  | some r =>
    if r.copying then (s, f)
    else
    let left := r.tokens.length - r.nextPos
    let m := runLength p c r.adapter (min lim left) r.nextPos f
    let busy := (s.serve.t.passes.filter (fun q => q.slot.isNone)).length
    let last := decide (m = left)
    let slot := if last then s.bookable p c φ r else none
    if m = 0 || decide (3072 ≤ busy) || s.serve.t.passes.any (fun q => q.id = id && q.entry = n) || (last && slot.isNone) then (s, f)
    else
      let ps : Pass := { id := id, entry := n, first := r.nextPos, count := m, row := 64 + f.rows, sampled := last }
      let f := (List.range m).foldl (fun (f : Fill) i => f.add p c (r.nextPos + i) (64 + f.rows) r.adapter true) f
      let stop := r.nextPos + m
      let whole := stop / 64
      let flushed := if r.nextPos + 64 ≤ 64 * whole then max r.flushed whole else r.flushed
      let s := s.updTables (fun t => { t with passes := t.passes ++ [ps] })
      let s := s.setReq { r with nextPos := stop, flushed := flushed, slot := if last then slot else r.slot }
      match last, slot with
      | true, some k =>
        let s := match r.slot with
          | some k' => if k' ≠ k then s.putSlot k' .free else s
          | none => s
        (if s.slot k = .running id then s else s.putSlot k (.booked id), f)
      | _, _ => (s, f)

/-- Page sets a request needs in all, for its prompt and its maximum length (R340); its tokens hold those already committed. -/
def State.setsNeeded (s : State) (r : Request) : Nat :=
  ceilDiv (min (r.tokens.length + (r.maxNew - r.committed.length)) s.contextLimit) 64

/-- A request gives up its pages and prefills again from its token IDs (R347, R388, R452); a boathouse entry that was being copied
back goes with them. -/
def State.freshStart (s : State) (id : BitVec 64) (epoch : BitVec 64) : State :=
  match s.req id with
  | none => s
  | some r =>
    let s := s.releaseSets r.sets
    let need := if r.active then s.setsNeeded r else 0
    s.updReq id (fun q => { q with
      sets := []
      nextPos := 0
      donePos := 0
      flushed := 0
      privateTo := 0
      redo := none
      reserved := need
      epoch := epoch
      copying := false
      boat := none
      again := q.state = .generating || (q.state = .parking && !q.inPrefill) })

/-- The prefix blocks a request takes (R334, R338): never the block of its last position. -/
def State.prefixOf (s : State) (r : Request) : List Nat :=
  if r.sets = [] && r.nextPos = 0 && r.boat.isNone && s.dictNat 0x311001 = 1 then
    s.matchBlocks r.tokens r.adapter s.weights.epoch ((r.tokens.length - 1) / 64) 0 0
  else []

/-- Start the prefill of a request, if its reservation can be met (R340, R405, R406). -/
def State.startPrefill (s : State) (r : Request) : Option State :=
  let got := s.prefixOf r
  let s1 := got.foldl (fun (u : State) n => u.takeNode n) s
  let need := s.setsNeeded r - (r.sets.length + got.length)
  let s2 := s1.reclaim (need * s.layers) 65536
  if s2.slotsFree < need * s.layers then none
  else
    let s3 := s2.count 0x311004 got.length
    let spill := match s.boot.plan with
      | some p => p.spilled
      | none => false
    let skip := 64 * got.length
    some (s3.updReq r.id (fun q => { q with
      state := .prefill
      sets := q.sets ++ got
      prefixCount := q.prefixCount + skip
      promptCount := if q.committed = [] then q.promptEnd - q.nextPos else q.promptCount
      nextPos := max q.nextPos skip
      donePos := max q.donePos skip
      flushed := max q.flushed got.length
      reserved := need
      spill := spill
      atHead := false
      epoch := if q.sets = [] then s.weights.epoch else q.epoch }))

/-- Reclaim what a request that cannot start still needs (R341): the tree is otherwise as before. -/
def State.reclaimFor (s : State) (r : Request) : State :=
  let got := s.prefixOf r
  let s1 := got.foldl (fun (u : State) n => u.takeNode n) s
  let s2 := s1.reclaim ((s.setsNeeded r - (r.sets.length + got.length)) * s.layers) 65536
  (got.foldl (fun (u : State) n => u.putSet n (s.set n)) s2).updTables (fun t => { t with uses := s.serve.t.uses })

/-- Requests in prefill, booked and running together (R405). -/
def State.started (s : State) : Nat :=
  (s.serve.t.reqs.filter (fun r => r.state = .prefill || r.state = .generating || r.state = .parking)).length

/-- An adapter is used now (R381). -/
def State.touchAdapter (s : State) (id : Word) : State :=
  if id = 0 then s
  else { s with weights := { s.weights with
    adapters := s.weights.adapters.map (fun a => if a.id = id then { a with used := s.now + 1 } else a) } }

/-- Start queued requests in queue order (R405): one that waits only for its adapter is passed over. -/
def State.startQueue (s : State) (p : Plan) : List Request → List (BitVec 64) → State × List (BitVec 64)
  | [], done => (s, done)
  | r :: rest, done =>
    let adapterIn := r.adapter = 0 || s.weights.adapters.any (fun a => a.id = r.adapter && a.resident)
    if planSlots p ≤ s.started then (s, done)
    else match s.startPrefill r with
      | some s' => if adapterIn then (s'.touchAdapter r.adapter).startQueue p rest (done ++ [r.id]) else s.startQueue p rest done
      | none => (s.reclaimFor r, done)

/-- Decide the rows of entry stroke `n` (R412). -/
def State.planStroke (s : State) (p : Plan) (n : Nat) : State :=
  let φ := n % p.passLength
  let c := p.rowCost.getD φ { w := 0, f0 := 0, c := 0, a := 1, kp := 0 }
  let pre := s.inPrefill
  let queued := queueOrder (s.serve.t.reqs.filter (fun r => r.state = .queued))
  let st := if s.dictNat 0x301001 = 1 && !s.serve.drained && !s.power.active then s.startQueue p queued [] else (s, [])
  let g := st.1.placeGen p c φ n
  let urgent := pre.filter (fun r => r.cls = 0)
  let a := urgent.foldl (fun (a : State × Fill) (r : Request) =>
    a.1.placeChunk p c φ n (s.dictNat 0x301002 - a.2.rows) a.2 r.id) g
  let b := pre.foldl (fun (a : State × Fill) (r : Request) => a.1.placeChunk p c φ n 512 a.2 r.id) a
  let d := st.2.foldl (fun (a : State × Fill) id => a.1.placeChunk p c φ n 512 a.2 id) b
  d.1

/-- The stroke whose rows are still to be decided: the next, until the finish of the one before it (R415), or, while strokes are halted, the
one that a named resume begins (R88). -/
def State.nextPlanned (s : State) : Option Nat :=
  if s.clk.running then (if s.clk.finished then none else some (s.clk.stroke + 1).toNat)
  else s.clk.resume.map (fun r => r.stroke)

/-- ENTRY_STROKE_PLANNING (R46, R415): the home wafer's Cox decides the rows of the next stroke, if it is an entry stroke. -/
def execEntryStrokePlanning (s : State) : Host.Outcome State Fault Refusal :=
  match s.boot.plan, s.nextPlanned with
  | some p, some n =>
    if s.isMember || s.serve.t.planned = some n || !p.entryPhases.contains (n % p.passLength) then .next s
    else .next ((s.planStroke p n).updTables (fun t => { t with planned := some n }))
  | _, _ => .next s

end Sys2Proof.Machine
end

