-- ==== Sys2Proof/Machine/Lsu.lean ====
section
/-! DEFINITION. The LSU slot (R211-R221) and the landing of gathers. -/

namespace Sys2Proof.Machine

/-- The 16-bit halves of a line as BF16 codes. -/
def lineHalves (bs : Bytes) : List (BitVec 16) :=
  (List.range 64).map (fun i => BitVec.ofNat 16 (leNat ((bs.drop (2 * i)).take 2)))

/-- The 32-bit words of a line. -/
def line32 (bs : Bytes) : List Word := (List.range 32).map (fun i => BitVec.ofNat 32 (leNat ((bs.drop (4 * i)).take 4)))

/-- The lanes a line fills in load mode `m`, with their values (R212): BF16 is widened exactly. -/
def loadLanes (m : Nat) (bs : Bytes) : List (Nat × Word) :=
  if m < 4 then ((line32 bs).zipIdx).map (fun (p : Word × Nat) => (32 * m + p.2, p.1))
  else ((lineHalves bs).zipIdx).map (fun (p : BitVec 16 × Nat) => (64 * (m - 4) + p.2, p.1.setWidth 32 <<< 16))

/-- The line a store of mode `m` makes of a register's lanes (R212, R217). -/
def storeLine (m : Nat) (ws : List Word) : Bytes :=
  if m < 4 then ((ws.drop (32 * m)).take 32).flatMap (fun w => natLE 4 w.toNat)
  else ((ws.drop (64 * (m - 4))).take 64).flatMap (fun w => natLE 2 (toBF16 (fp32 w)).toNat)

/-- LD (R212): a line into lanes of v[V]; other lanes keep their values. -/
def execLd (t : TileId) (pred : BitVec 2) (v : BitVec 5) (a : BitVec 4) (line : BitVec 15) (ext : BitVec 16) (s : State) :
    Host.Outcome State Fault Refusal :=
  let m := ext.toNat % 8
  .next (slotRun s t pred.toNat (fun s =>
    if 6 ≤ m then s
    else
      let q := s.portRead t .lsu 0x20 (lineAddr (s.tile t) a.toNat line.toNat)
      (q.1.consume t q.2.2).launch t .lsu (s.lat 7) (.vreg v) (.lanes false (loadLanes m q.2.1) q.2.2)))

/-- A line takes the activation port and its bank now and is written when the latency ends (R212, R248); an unserved
write is discarded (R146). -/
def State.portStore (s : State) (t : TileId) (slot : Slot) (lat line : Nat) (bs : Bytes) (poison : Bool) : State :=
  let p := s.useRes t slot 0x20
  let q := if p.2 then p.1.useBank t slot (bankOf line) else (p.1, false)
  if q.2 then q.1.launch t slot lat (.scratch (BitVec.ofNat 15 line)) (.line bs poison) else q.1.withhold t

/-- ST (R212, R217): the selected lanes of v[V] into a line. -/
def execSt (t : TileId) (pred : BitVec 2) (v : BitVec 5) (a : BitVec 4) (line : BitVec 15) (ext : BitVec 16) (s : State) :
    Host.Outcome State Fault Refusal :=
  let m := ext.toNat % 8
  .next (slotRun s t pred.toNat (fun s =>
    if 6 ≤ m then s
    else
      let s := s.staleRead t .lsu (.vreg v) (0x100 + v.toNat)
      let x := s.tile t
      let poison := vPoison x v.toNat
      (s.consume t poison).portStore t .lsu (s.lat 7) (lineAddr x a.toNat line.toNat) (storeLine m (lanesOf x v.toNat)) poison))

/-- LDX (R212): a line into an operand-buffer line. -/
def execLdx (t : TileId) (pred : BitVec 2) (a : BitVec 4) (line : BitVec 15) (ext : BitVec 8) (s : State) :
    Host.Outcome State Fault Refusal :=
  .next (slotRun s t pred.toNat (fun s =>
    let q := s.portRead t .lsu 0x20 (lineAddr (s.tile t) a.toNat line.toNat)
    (q.1.consume t q.2.2).launch t .lsu (s.lat 7) (.opLine ext) (.line q.2.1 q.2.2)))

/-- CLR (R212): zeros, with valid check bits, into a line. -/
def execClr (t : TileId) (pred : BitVec 2) (a : BitVec 4) (line : BitVec 15) (s : State) : Host.Outcome State Fault Refusal :=
  .next (slotRun s t pred.toNat (fun s =>
    s.portStore t .lsu (s.lat 7) (lineAddr (s.tile t) a.toNat line.toNat) (List.replicate 128 0) false))

/-- The six bank numbers of a WSET, in order (R212). -/
def wsetBanks (b : BitVec 30) : List (BitVec 5) := (List.range 6).map (fun i => BitVec.ofNat 5 (b.toNat / 32 ^ i))

/-- A list without repeats. -/
def distinct {α : Type} [DecidableEq α] : List α → Bool
  | [] => true
  | x :: xs => !xs.contains x && distinct xs

/-- A bank set that nothing has written (log entry 2). -/
def noBanks : List (BitVec 5) := List.replicate 6 0

/-- WSET (R212, R213): a bank set takes six distinct banks, none in cache mode; otherwise it is refused. -/
def execWset (t : TileId) (set : BitVec 3) (banks : BitVec 30) (s : State) : Host.Outcome State Fault Refusal :=
  .next (slotRun s t 0 (fun s => s.updTile t (fun x =>
    let bs := wsetBanks banks
    if distinct bs && bs.all (fun b => !cacheBank x b.toNat) then
      { x with bankSets := Table.put noBanks x.bankSets set.toNat bs }
    else x)))

/-- Staging lines still on their way to the queue. -/
def stagingDue (x : Tile) : Nat :=
  x.inflight.foldl (fun n p => match p.dest, p.value with
    | .staging, .lines ls => n + ls.length
    | _, _ => n) 0

/-- WRD (R212, R216, R141, R166): one line of each bank of a set, in set order, into the staging queue; with fewer than six free
lines none enters, and the next block loaded is poisoned. -/
def execWrd (t : TileId) (set : BitVec 3) (a : BitVec 4) (line : BitVec 10) (s : State) : Host.Outcome State Fault Refusal :=
  .next (slotRun s t 0 (fun s =>
    let x := s.tile t
    let l := ((sreg x a.toNat).toNat + line.toNat) % 1024
    let p := s.useRes t .lsu 0x21
    if !p.2 then p.1
    else
      let banks := Table.get noBanks x.bankSets set.toNat
      let q := banks.foldl (fun (acc : State × List (Bytes × Bool)) (b : BitVec 5) =>
        let u := acc.1.useBank t .lsu b.toNat
        let ln := 1024 * b.toNat + l
        let u1 := u.1.staleRead t .lsu (.scratch (BitVec.ofNat 15 ln)) (0x8000 + ln)
        if u.2 then
          let r := u1.schedRead t ln
          (r.1, acc.2 ++ [(r.2.1, r.2.2)])
        else (u1.unserved t, acc.2 ++ [((lineRead (u1.tile t) ln).bytes, true)])) (p.1, [])
      if 32 < staged x + stagingDue x + 6 then
        (q.1.umpire t 2 1 0x23 0xFFFF 0).updTile t (fun x => { x with wqOver := true })
      else q.1.launch t .lsu (s.lat 7) .staging (.lines q.2)))

/-- An unscheduled write of a whole line (R140, R218): a bank that is off or being filled, and a weight bank
(R364), discards it. -/
def State.unschedWrite (s : State) (t : TileId) (line : Nat) (bs : Bytes) (poison : Bool) : State :=
  if bankUp (s.tile t) (bankOf line) && !(s.tile t).weightBank (bankOf line) then s.updTile t (fun x => writeLine x line bs poison) else s

/-- GATH (R212, R214, R218-R220): an unscheduled read of a device line through the tile's cache, under a gather tag. -/
def execGath (t : TileId) (pred : BitVec 2) (a : BitVec 4) (line : BitVec 15) (tag : BitVec 4) (s : State) :
    Host.Outcome State Fault Refusal :=
  .next (slotRun s t pred.toNat (fun s =>
    let x := s.tile t
    if a.getLsbD 0 || cacheBank x (bankOf line.toNat) then s
    else
      let addr := 128 * ((sreg x a.toNat).toNat + 2 ^ 32 * (sreg x (a.toNat + 1)).toNat)
      let n := x.gatherSerial + 1
      if s.inTier addr then
        (s.updTile t (fun x => { x with
          gatherSerial := n
          gtag := Table.put {} x.gtag tag.toNat { outstanding := true, line := line, serial := n, addr := addr } })).cacheServe t
          { addr := addr, gather := some (tag.toNat, n) }
      else
        (s.updTile t (fun x => { x with
          gatherSerial := n
          gtag := Table.put {} x.gtag tag.toNat { outstanding := false, line := line, serial := n, addr := addr } })).updTile t
          (fun x => { x with linePoison := Table.put false x.linePoison line.toNat true })))

/-- GATHER_COMPLETE (R140, R148, R218, R220, R491): the oldest gathered line of a tag is written to scratch, poisoned where its read
failed, and the tag completes; the line of a tag taken over since is discarded. -/
def execGatherComplete (t : TileId) (tag : BitVec 4) (s : State) : Host.Outcome State Fault Refusal :=
  let x := s.tile t
  match x.gatherReady.find? (fun g => g.1 = tag.toNat) with
  | none => .next s
  | some (_, n, d) =>
    let g := Table.get {} x.gtag tag.toNat
    let mine := g.outstanding && decide (g.serial = n)
    if mine && d.isSome && (s.bankBusy t (bankOf g.line.toNat) || x.filling.getLsbD (bankOf g.line.toNat)) then .next s
    else
    let s := if mine && d.isSome then s.useBackground t (bankOf g.line.toNat) else s
    let s := s.updTile t (fun x => { x with gatherReady := eraseFirst (fun e => e.1 = tag.toNat) x.gatherReady })
    if mine then
      let s := match d with
        | some bs => s.unschedWrite t g.line.toNat bs false
        | none => s.updTile t (fun x => { x with linePoison := Table.put false x.linePoison g.line.toNat true })
      .next (s.updTile t (fun x => { x with gtag := Table.put {} x.gtag tag.toNat { g with outstanding := false } }))
    else .next s

end Sys2Proof.Machine
end

