-- ==== Sys2Proof/Machine/Rotary.lean ====
section
/-! DEFINITION. Rotary coefficients (R320): exact functions of the table and the position, in fixed point with guard bits
(log entry 6). -/

namespace Sys2Proof.Machine

/-- Fraction bits of the fixed point of this file. -/
def rxBits : Nat := 512

/-- 1 in fixed point. -/
def rxOne : Nat := 2 ^ rxBits

/-- Sum of z^(2i+1) / (2i+1), with sign (-1)^i when `alt`, over `n` terms from term `i` of power `p`. -/
def atanSeries (alt : Bool) (z2 : Nat) : Nat → Nat → Nat → Int
  | 0, _, _ => 0
  | n + 1, i, p =>
    let term : Int := (p / (2 * i + 1) : Nat)
    (if alt && i % 2 = 1 then -term else term) + atanSeries alt z2 n (i + 1) (p * z2 / rxOne)

/-- Arctangent of 1/k. -/
def atanInv (k : Nat) : Int := atanSeries true (rxOne / (k * k)) 260 0 (rxOne / k)

/-- Pi (Machin). -/
def rxPi : Nat := (16 * atanInv 5 - 4 * atanInv 239).toNat

/-- Natural logarithm of (1 + z) / (1 - z), for 0 <= z <= 1/3. -/
def lnRatio (z : Nat) : Nat := (2 * atanSeries false (z * z / rxOne) 180 0 z).toNat

/-- ln 2. -/
def rxLn2 : Nat := lnRatio (rxOne / 3)

/-- Natural logarithm of m * 2^e > 1. -/
def rxLn (m : Nat) (e : Int) : Nat :=
  let k := Nat.log2 m
  let top := 2 ^ k
  let z := (m - top) * rxOne / (m + top)
  (e + (k : Int)).toNat * rxLn2 + lnRatio z

/-- Taylor sum of e^-y, sin y or cos y: term value `t`, next divisor from `i`, step `d` divisors at a time, signs
alternating. -/
def altTaylor (y : Nat) (d : Nat) : Nat → Nat → Bool → Nat → Int
  | 0, _, _, _ => 0
  | n + 1, i, neg, t =>
    let t' := if d = 1 then t * y / rxOne / (i + 1) else t * y / rxOne * y / rxOne / ((i + 1) * (i + 2))
    (if neg then -(t : Int) else t) + altTaylor y d n (i + d) (!neg) t'

/-- e^-x for fixed-point x >= 0: fraction and power of two, value f * 2^-(rxBits + n). -/
def rxExpNeg (x : Nat) : Nat × Nat :=
  let n := x / rxLn2
  ((altTaylor (x % rxLn2) 1 110 0 false rxOne).toNat, n)

/-- The frequency of a band (R320): f * BASE^(-2k / R_d), rounded once; a value within the guard bits of a short dyadic
is that dyadic. -/
def bandFreq (base factor : Word) (k rd : Nat) : Word :=
  match fp32 base, fp32 factor with
  | .fin false bm be, .fin false fm fe =>
    if k = 0 then factor
    else
      let x := 2 * k * rxLn bm be / rd
      let ex := rxExpNeg x
      let v := (ex.1 * fm + 2 ^ 400) / 2 ^ 200
      let exact := v % 2 ^ 128 = 0
      roundFP32 false v (fe - (rxBits : Int) + 200 - (ex.2 : Int)) (!exact)
  | _, _ => 0

/-- Sine and cosine of a non-negative dyadic angle m * 2^e, correctly rounded. -/
def sinCos (m : Nat) (e : Int) : Word × Word :=
  if m = 0 then (0, 0x3F800000#32)
  else
    let th := m * 2 ^ (e + rxBits).toNat
    let half := rxPi / 2
    let q := th / half
    let r := th % half
    let sn := (altTaylor r 2 110 1 false r).toNat
    let cs := (altTaylor r 2 110 0 false rxOne).toNat
    let rnd (neg : Bool) (v : Nat) : Word := roundFP32 neg v (-(rxBits : Int)) true
    match q % 4 with
    | 0 => (rnd false sn, rnd false cs)
    | 1 => (rnd false cs, rnd true sn)
    | 2 => (rnd true sn, rnd true cs)
    | _ => (rnd true cs, rnd false sn)

/-- Flip the sign bit of a word. -/
def flipSign (w : Word) : Word := w ^^^ 0x80000000#32

/-- The two lanes of generator slot `j` (R320) for position `pos` under a rotary table. -/
def rotarySlot (tb : RotaryTable) (pos : Word) (j : Nat) : List Word :=
  let sl := tb.slot.getD j 0
  let k := sl.toNat % 64
  let rd := tb.dim.toNat
  let (sn, cs) :=
    if rd ≤ 2 * k then sinCos 0 0
    else match fp32 (bandFreq tb.base (tb.factor.getD k 0) k rd) with
      | .fin false m e => sinCos (pos.toNat * m) e
      | _ => sinCos 0 0
  match sl.toNat / 64 with
  | 0 => [cs, sn]
  | 1 => [flipSign sn, cs]
  | 2 => [flipSign cs, flipSign sn]
  | _ => [sn, flipSign cs]

end Sys2Proof.Machine
end

