-- ==== Sys2Proof/Machine/Rqu.lean ====
section
/-! DEFINITION. The RQU slot (R234-R241), the sampled candidate and the sums of the check (R280-R283). -/

namespace Sys2Proof.Machine

/-- Lanes with their numbers. -/
def numbered (ws : List Word) : List (Nat × Word) := (ws.zipIdx).map (fun (p : Word × Nat) => (p.2, p.1))

/-- A result for v[D] or the pack stream. -/
def rotResult (toPack : Bool) (ws : List Word) (poison : Bool) : ResultValue :=
  if toPack then .elems (ws.map (fun w => (w, poison))) else .lanes true (numbered ws) poison

/-- Give the results of a finished block their values: the serial number of each part and its 128 words. -/
def fillParts (poison : Bool) (parts : List (Nat × List Word)) (ps : List Pending) : List Pending :=
  ps.map (fun p => match parts.find? (fun q => q.1 = p.id) with
    | some q => { p with value := match p.value with
        | .elems _ => rotResult true q.2 poison
        | .lanes _ _ _ => rotResult false q.2 poison
        | v => v }
    | none => p)

/-- ROT and IROT (R173, R234-R236, R267-R272): one part of a block enters the rotation datapath. Its result is poisoned unless
every part of the block issues in order in consecutive cycles under one valid descriptor. Results follow one another a part a cycle,
from L_RQU_ROT + log2 b cycles after the first part, or from the cycle after the last part where that is later (log entry 50). -/
def State.rotate (s : State) (t : TileId) (inverse : Bool) (pred : Nat) (a d : BitVec 5) (fmt mode : Nat) (imm : Nat) : State :=
  slotRun s t pred (fun s =>
    if 7 ≤ mode then s
    else
      let u := s.useRes t .rqu 0x29
      let s := u.1.staleRead t .rqu (.vreg a) (0x100 + a.toNat)
      let x := s.tile t
      let k := mode + 6
      let parts := if k ≤ 7 then 1 else 2 ^ (k - 7)
      let part := imm / 32 % 32
      let dn := imm % 32
      let desc := Table.get {} x.rot dn
      let toPack := fmt % 2 = 1
      let dest : Dest := if toPack then .packStream else .vreg d
      let poison := vPoison x a.toNat
      let s := s.consume t poison
      let cyc := x.cycle
      let goOn := match x.rotNow with
        | some b => b.desc = dn && b.mode = mode && b.inverse = inverse && b.part + 1 = part && b.cycle + 1 = cyc
        | none => false
      let s := if part = 0 && x.rotNow.isSome && u.2 then s.umpireAt t 2 4 0x29 ((x.rotNow.map (fun b => b.pc)).getD 0xFFFF) x.nextPc 0 else s
      let prev : RotBlock := if part = 0 then {} else x.rotNow.getD {}
      let broken := !u.2 || (part ≠ 0 && !goOn) || decide (parts ≤ part)
      let lat := max (s.lat 12 + k) parts
      let es := prev.elems ++ valsOf x a.toNat
      let id := x.nextId
      let junk := freeWords s.free 128
      let s := (s.useFree 128).launch t .rqu lat dest (rotResult toPack junk true)
      if broken then
        let s := s.updTile t (fun x => { x with rotNow := none })
        if !u.2 then s else s.umpire t 2 4 0x29 0xFFFF 0
      else
        let blk : RotBlock := { desc := dn, mode := mode, inverse := inverse, part := part, cycle := cyc, elems := es,
                                poison := prev.poison || poison, ids := prev.ids ++ [id], pc := x.nextPc }
        if part + 1 < parts then s.updTile t (fun x => { x with rotNow := some blk })
        else if desc.log2b.toNat ≠ k then s.updTile t (fun x => { x with rotNow := none })
        else
          let f (xs : List FP) : List Word := if inverse then irotBlock desc k xs else rotBlock desc k xs
          let ws := if k = 6 then f (es.take 64) ++ f (es.drop 64) else f es
          s.updTile t (fun x => { x with
            rotNow := none
            inflight := fillParts blk.poison (blk.ids.zip (chunksOf 128 parts ws)) x.inflight }))

/-- ROT (R234). -/
def execRot (t : TileId) (pred : BitVec 2) (a d : BitVec 5) (fmt mode : BitVec 4) (imm : BitVec 10) (s : State) :
    Host.Outcome State Fault Refusal :=
  .next (s.rotate t false pred.toNat a d fmt.toNat mode.toNat imm.toNat)

/-- IROT (R234): the inverse rotation. -/
def execIrot (t : TileId) (pred : BitVec 2) (a d : BitVec 5) (fmt mode : BitVec 4) (imm : BitVec 10) (s : State) :
    Host.Outcome State Fault Refusal :=
  .next (s.rotate t true pred.toNat a d fmt.toNat mode.toNat imm.toNat)

/-- PFEED (R234): the lanes of v[A] go to the pack stream. -/
def execPfeed (t : TileId) (pred : BitVec 2) (a : BitVec 5) (s : State) : Host.Outcome State Fault Refusal :=
  .next (slotRun s t pred.toNat (fun s =>
    let s := s.staleRead t .rqu (.vreg a) (0x100 + a.toNat)
    let x := s.tile t
    let poison := vPoison x a.toNat
    (s.consume t poison).launch t .rqu 1 .packStream (.elems ((lanesOf x a.toNat).map (fun w => (w, poison))))))

/-- One round of the 32-bit xorshift (R280). -/
def xorshift32 (x : Word) : Word :=
  let x := x ^^^ (x <<< 13)
  let x := x ^^^ (x >>> 17)
  x ^^^ (x <<< 5)

/-- The sampled candidate of a stroke and stage among `n` (R280). -/
def sampledCandidate (stroke : BitVec 48) (stage n : Nat) : Nat :=
  let x := stroke.setWidth 32 ^^^ BitVec.ofNat 32 (stage * 0x9E3779B9)
  let x := if x = 0 then 1 else x
  (xorshift32 (xorshift32 (xorshift32 x))).toNat / 65536 * n / 65536

/-- Count a marked pack and, when it executes for the sampled candidate, retain its named elements and add to the sums
(R281, R283). -/
def markPack (x : Tile) (executes : Bool) (fmt : Nat) (xs : List (Word × Bool)) (burst : Bytes) : Tile :=
  let m := x.marked
  let x := { x with marked := m + 1 }
  let e := x.checkMap.getD m 0
  if executes && decide (m < x.mapLen.toNat) && decide (bits e 0 12 = x.candidate.toNat) then
    let first := bits e 12 9
    let n := bits e 21 9
    let dec := ((decodeBurst fmt burst).getD []).drop first
    let named := (xs.drop first).take n
    let sums := ((named.zip dec)).foldl (fun (q : Word × Word) (p : (Word × Bool) × FP) =>
      let r := bf16 (toBF16 (fp32 p.1.1))
      let d := FP.add p.2 (FP.neg r)
      (fpAdd (FP.mul d d) (fp32 q.1), fpAdd (FP.mul r r) (fp32 q.2))) (x.sumErr, x.sumRef)
    { x with retained := x.retained ++ named.map (fun p => p.1), sumErr := sums.1, sumRef := sums.2, heldNow := true
             chkPoison := x.chkPoison || named.any (fun p => p.2) }
  else x

/-- PACK (R234, R238-R240, R275, R277, R293, R174, R264): one burst from the head of the pack stream, to scratch or to the egress
queue. One cycle after the last PACK it is discarded and its destination marked poisoned (R252): the line, or the place in the egress
queue (log entry 49). -/
def execPack (t : TileId) (pred : BitVec 2) (fmt mode sr : BitVec 4) (imm : BitVec 10) (s : State) :
    Host.Outcome State Fault Refusal :=
  let f := fmt.toNat
  let skipped := issuing s t && mode.getLsbD 2 && !preg (s.tile t) pred.toNat
  let s := if skipped then s.updTile t (fun x => { x with marked := x.marked + 1 }) else s
  .next (slotRun s t pred.toNat (fun s =>
    match fmtShape f with
    | none => s
    | some sh =>
      let x := s.tile t
      let line := ((sreg x sr.toNat).toNat + imm.toNat) % 32768
      let egress := mode.getLsbD 1
      if x.lastPack = some (x.cycle - 1) && 0 < x.cycle then
        let s := s.umpire t 2 4 0x25 (lastUse x 0x25) 0
        let s := s.updTile t (fun x => if mode.getLsbD 2 then { x with marked := x.marked + 1 } else x)
        if egress then
          (s.useFree 32).launch t .rqu (s.lat 13) .egress (.line ((freeWords s.free 32).flatMap (fun w => natLE 4 w.toNat)) true)
        else s.updTile t (fun x => { x with linePoison := Table.put false x.linePoison line true })
      else
        let short := decide (x.pack.length < sh.nf)
        let s := if short then s.umpire t 3 4 0x26 0xFFFF 0 else s
        let taken := x.pack.take sh.nf
        let bad := taken.any (fun p => p.2)
        let s := s.consume t bad
        let es := taken ++ List.replicate (sh.nf - taken.length) (0, false)
        let draw := if mode.getLsbD 0 then some (x.srPos.toNat, x.srStage.toNat, x.srKey0.toNat, x.srKey1.toNat, x.srIdx.toNat) else none
        let burst := packBurst f x.replayRule draw (es.map (fun p => fp32 p.1))
        let poison := bad || short || x.packOver
        let s := s.updTile t (fun x =>
          let x := { (markUse x 0x25) with
            pack := x.pack.drop sh.nf
            srIdx := if mode.getLsbD 0 then x.srIdx + BitVec.ofNat 32 sh.nf else x.srIdx
            lastPack := some x.cycle }
          if mode.getLsbD 2 then markPack x true f taken burst else x)
        if egress then s.launch t .rqu (s.lat 13) .egress (.line burst poison)
        else s.portStore t .rqu (s.lat 13) line burst poison))

/-- UNPK (R203, R234, R241, R175, R266): 128 elements of a burst, exactly, into v[D]; lanes past the burst's elements are +0. -/
def execUnpk (t : TileId) (pred : BitVec 2) (d : BitVec 5) (fmt mode sr : BitVec 4) (imm : BitVec 10) (s : State) :
    Host.Outcome State Fault Refusal :=
  .next (slotRun s t pred.toNat (fun s =>
    let x := s.tile t
    let line := ((sreg x sr.toNat).toNat + imm.toNat) % 32768
    let p := mode.toNat % 8
    let q := s.portRead t .rqu 0x20 line
    let dec := decodeLine fmt.toNat q.2.1
    let poison := q.2.2 || dec.isNone
    match dec with
    | some es =>
      let ws := ((es.drop (128 * p)).take 128).map toFP32
      (q.1.consume t poison).launch t .rqu (s.lat 13) (.vreg d)
        (.lanes true (numbered (ws ++ List.replicate (128 - ws.length) 0)) poison)
    | none =>
      let ws := freeWords q.1.free 128
      ((q.1.useFree 128).consume t true).launch t .rqu (s.lat 13) (.vreg d) (.lanes true (numbered ws) true)))

/-- SINCOS (R234, R320, R176): cosine and sine pairs of 64 generator slots for a position. -/
def execSincos (t : TileId) (pred : BitVec 2) (d : BitVec 5) (mode sr : BitVec 4) (s : State) : Host.Outcome State Fault Refusal :=
  .next (slotRun s t pred.toNat (fun s =>
    let x := s.tile t
    let tb := Table.get {} x.rotary mode.toNat
    let ws := (List.range 64).flatMap (rotarySlot tb (sreg x sr.toNat))
    s.launch t .rqu (s.lat 14) (.vreg d) (.lanes true (numbered ws) false)))

/-- SRSET (R234, R277): the stochastic rounding position and element index, and with MODE[0] the image stage. -/
def execSrset (t : TileId) (pred : BitVec 2) (mode sr : BitVec 4) (s : State) : Host.Outcome State Fault Refusal :=
  .next (slotRun s t pred.toNat (fun s =>
    if sr = 15 || (sr = 14 && mode.getLsbD 0) then s
    else s.updTile t (fun x => { x with
      srPos := sreg x sr.toNat
      srIdx := sreg x (sr.toNat + 1)
      srStage := if mode.getLsbD 0 then (sreg x (sr.toNat + 2)).setWidth 7 else x.srStage })))

/-- PCLR (R234, R238): the pack stream is emptied and its overflow mark clears. -/
def execPclr (t : TileId) (pred : BitVec 2) (s : State) : Host.Outcome State Fault Refusal :=
  .next (slotRun s t pred.toNat (fun s => s.updTile t (fun x => { x with pack := [], packOver := false })))

end Sys2Proof.Machine
end

