-- ==== Sys2Proof/Machine/Stroke.lean ====
section
/-! DEFINITION. Strokes: what a catch does, how easy-all enters and ends, the lane table (R53-R132, R183, R195-R199). -/

namespace Sys2Proof.Machine

/-- The regions of the plan in service (R65): every powered region that the plan does not exclude, with crews or without. -/
def State.planRegions (s : State) : List Nat :=
  if s.boot.plan.isSome then (List.range 64).filter (fun r => s.powered r && s.regionUsable r) else []

/-- A region holds a crew of the plan in service. -/
def State.holdsCrew (s : State) (r : Nat) : Bool :=
  match s.boot.plan with
  | some p => p.crews.any (fun c => (crewRegions c).contains r)
  | none => false

/-- Nominal VCORE of a step, mV (R662, log entry 63). -/
def stepVcore (k : Nat) : Nat :=
  [620, 632, 644, 656, 668, 680, 692, 704, 716, 730, 744, 758, 776, 794, 816, 840].getD k 620

/-- A region's VCORE set point at a step, mV (R662): what wafer test wrote; until a record names one it is the nominal value (log entry 63). -/
def State.setPoint (s : State) (r k : Nat) : Nat := Table.get (stepVcore k) s.ident.setPoints (16 * r + k)

/-- PWR_VSET of a region at a step (R662): VSRAM is the larger of 0.75 V and VCORE + 0.01 V. -/
def State.stepVset (s : State) (r k : Nat) : BitVec 20 := BitVec.ofNat 20 (s.setPoint r k + 1024 * max 750 (s.setPoint r k + 10))

/-- A region runs at a step with its driving path locked (R635, R637, R663). -/
def State.runStep (s : State) (r k : Nat) : State :=
  s.updRegion r (fun g => { g with
    loop := { g.loop with stepAct := BitVec.ofNat 4 k, lock := true, coast := false, target := none }
    pwr := { g.pwr with vset := s.stepVset r k } })

/-- The tiles of crews: the listed ones with a stage. -/
def State.crewTiles (s : State) : List TileId := (s.tiles.filter (fun e => e.2.stage.isSome)).map (fun e => TileId.ofKey e.1)

/-- Change every tile of a crew. -/
def State.eachCrewTile (s : State) (f : TileId → Tile → Tile) : State := s.crewTiles.foldl (fun (s : State) t => s.updTile t (f t)) s

/-- An entry's delivery is not on time (R64). -/
def missing (x : Tile) (e : InputEntry) : Bool := (Table.get none x.onTime e.deliv.toNat).isNone

/-- The present-row mask (R197). -/
def presentRows (x : Tile) : BitVec 576 :=
  if x.input.any (fun e => !e.bearsRows && missing x e) then 0
  else
    let rows (e : InputEntry) : BitVec 576 := maskRows (BitVec.allOnes 576) e.firstRow e.rows
    let held := x.input.filter (fun e => e.bearsRows)
    let any := held.foldl (fun (m : BitVec 576) e => m ||| rows e) 0
    let bad := held.foldl (fun (m : BitVec 576) e => m ||| (rows e &&& ~~~((Table.get none x.onTime e.deliv.toNat).getD 0))) 0
    any &&& ~~~bad

/-- Cycles of a stroke of `len` ticks at a step (R53). -/
def strokeCycles (len step : Nat) : Nat := len * (10 + 2 * step) / 5

/-- What the end of a stroke leaves in a tile (R187, R283, R296). -/
def endTile (cycles : Nat) (x : Tile) : Tile :=
  { x with
    idle := if x.live && x.done then satAdd 0#16 (cycles - x.endCycle) else 0
    abandon := x.abandon || (x.live && !x.done)
    held := x.heldNow
    sumErrReg := x.sumErr
    sumRefReg := x.sumRef }

/-- Late deliveries of a region's tiles in the ending stroke: one for each input-list entry (R78, R49, R61). -/
def State.lateIn (s : State) (r : Nat) : Nat :=
  ((s.tiles.filter (fun e => decide (e.1 / 256 = r) && e.2.stage.isSome)).map (fun e => (e.2.input.filter (missing e.2)).length)).foldl
    (fun a b => a + b) 0

/-- Samples of a stroke that ends (R756). -/
def State.strokeSamples (s : State) : State :=
  let late := ((List.range 64).map (fun r => s.lateIn r)).foldl (fun a b => a + b) 0
  let margin := ((List.range 64).map (fun r => (s.region r).clk.marginNow)).foldl min 0xFFFF
  let stretch := ((List.range 64).map (fun r => min 255 (s.region r).clk.stretchNow)).foldl (fun a b => a + b) 0
  let s := s.histAdd 1 (log2Bin late)
  let s := if margin < 0xFFFF then s.histAdd 2 (linBin 0 1 margin) else s
  let s := s.histAdd 3 (log2Bin stretch)
  s.histAdd 8 (log2Bin s.serve.tokensNow)

/-- Give up the re-placed part of a prefill (R81, R332, R453): it starts again at position `q`, and chunks beyond are
withdrawn; a booked slot is kept. -/
def State.replacePrefill (s : State) (id : BitVec 64) (q : Nat) : State :=
  (s.updTables (fun t => { t with passes := t.passes.filter (fun x => !(x.id = id && x.slot.isNone && decide (q ≤ x.first))) })).updReq id
    (fun r => { r with nextPos := min r.nextPos q, flushed := min r.flushed (q / 64) })

/-- A generation pass that committed nothing (R80, R82): the token index is sampled again, until too many in a row are lost. -/
def State.dropPass (s : State) (q : Pass) : State :=
  let s := s.updTables (fun t => { t with passes := t.passes.filter (fun x => x ≠ q) })
  match s.req q.id with
  | none => s
  | some r =>
    if q.slot.map s.slot ≠ some (.running q.id) then s
    else
    let s := s.setReq { r with drops := r.drops + 1 }
    if s.dictNat 0x305001 ≤ r.drops + 1 then (s.event 0x0503 0xFF (natLE 8 q.id.toNat)).complete q.id 5 1 else s

/-- A slot whose last pass has reached its commit stroke is freed (R401, R445). -/
def State.freeReleasing (s : State) : State :=
  s.serve.t.slots.foldl (fun (s : State) (e : Nat × SlotState) =>
    match e.2 with
    | .releasing id sets =>
      if s.serve.t.passes.any (fun q => q.id = id && q.slot = some e.1) then s else (s.putSlot e.1 .free).releaseSets sets
    | _ => s) s

/-- The chunks that have passed the last layer stage by the end of stroke `n` (R87). -/
def State.chunksDone (s : State) (p : Plan) (n : Nat) : State :=
  let past := s.serve.t.passes.filter (fun q => q.slot.isNone && !q.lost && !laterMod 48 (q.entry + p.lastLayer) n)
  past.foldl (fun (u : State) q => u.updReq q.id (fun r => { r with donePos := max r.donePos (q.first + q.count) })) s

/-- The passes whose commit stroke has ended without a commit (R80, R81), and the slots that releases. -/
def State.endPasses (s : State) : State :=
  match s.boot.plan with
  | none => s
  | some p =>
    let n := s.clk.stroke.toNat
    let s := s.chunksDone p n
    let due := s.serve.t.passes.filter (fun q => q.sampled && !laterMod 48 (q.entry + p.commitOffset) n)
    let s := due.foldl (fun (s : State) q =>
      if q.slot.isSome then s.dropPass q else s.replacePrefill q.id q.first) s
    s.freeReleasing

/-- The end of a stroke, as its catch or an easy-all in the catch's place finds it (R78, R187, R296, R756, R83). -/
def State.endStroke (s : State) (sample : Bool) : State :=
  let s := if sample then s.strokeSamples else s
  let s := s.crewTiles.foldl (fun (s : State) t =>
    ((s.tile t).input.filter (missing (s.tile t))).foldl (fun (s : State) e => s.markLate t e.deliv) s) s
  let cycles := strokeCycles s.clk.len s.clk.step
  let s := s.eachCrewTile (fun t x => endTile (cycles - (s.region t.region.toNat).clk.stretchNow) x)
  let s := s.eachRegion (fun r s =>
    let n := s.lateIn r
    let s := (s.region r).clk.heavyDone.foldl (fun (s : State) w => s.heavyRecord r w) s
    s.updClk r (fun c => { c with
      lateCount := satAdd c.lateCount n
      stretch := BitVec.ofNat 8 (min 255 c.stretchNow)
      stretchNow := 0
      margin := BitVec.ofNat 16 c.marginNow
      marginNow := 0xFFFF
      mxuActive := []
      heavyDone := [] }))
  let s := s.updServe (fun v => { v with tokensNow := 0 })
  s.discardWrites.endPasses

/-- Clear every poison tag (R199). -/
def clearPoison (x : Tile) : Tile :=
  { x with
    v := Table.mapVals {} (fun g => { g with poison := false }) x.v
    acc := Table.mapVals {} (fun g => { g with poison := false }) x.acc
    opbuf := Table.mapVals {} (fun g => { g with poison := false }) x.opbuf
    wq := x.wq.map (fun g => { g with poison := false })
    blkUse := { x.blkUse with poison := false }
    blkLoad := { x.blkLoad with poison := false }
    linePoison := [] }

/-- The control queue of a new stroke (R304): old mode and verdict flits leave, and the mode flit goes to the head. -/
def placeMode (q : List Flit) (f : Flit) : List Flit :=
  let q := q.filter (fun g => g.body.getD 0 0 ≠ 2 && g.body.getD 0 0 ≠ 3)
  f :: (if 16 ≤ q.length then q.drop 1 else q)

/-- Word 1 of the mode flit (R304): the inputs packed at the FP8 level. -/
def fp8Inputs (prev : ModeVec) (x : Tile) : Nat :=
  (x.input.zipIdx).foldl (fun n (e : InputEntry × Nat) => n + (if prev.fp8 e.1.fromStage then 2 ^ e.2 else 0)) 0

/-- A tile of a crew at the catch of stroke `n`: the rounding position and index are at their reset values again, the generator holding no
state between strokes (R177, R45, R184, log entry 2) (R60, R183, R187, R195, R197, R199, R221, R238, R277, R280, R297, R304). -/
def beginTile (n : BitVec 48) (t : TileId) (stage : Nat) (nc : Option Nat) (prev vec : ModeVec) (predicted : Bool) (x : Tile) : Tile :=
  let cand := match nc with
    | some k => sampledCandidate n stage k
    | none => 0
  let lv := b2n (vec.fp8 stage)
  let mode := ctlFlit ⟨t.region, 0, 0⟩ 0 t n true 3
    [BitVec.ofNat 32 (lv + 4 * b2n (decide (0 < vec.wide))), BitVec.ofNat 32 (fp8Inputs prev x), BitVec.ofNat 32 cand, n.setWidth 32]
  let x := if x.patchGo then applyPatch x else x
  admitCtl { clearPoison x with
    present := presentRows x
    cycle := 0
    uses := []
    bgUses := []
    live := x.run
    blkLoad := { x.blkLoad with from_ := 0, poison := false }
    blkUse := { x.blkUse with poison := false }
    srPos := 0
    srIdx := 0
    nextPc := 0
    done := false
    endCycle := 0
    withhold := false
    hold := .none
    bswWait := 0
    netWait := 0
    netHeld := none
    inflight := []
    rotNow := none
    lastLong := none
    lastPack := none
    usePc := []
    pack := []
    packOver := false
    egress := []
    committed := []
    sentLines := []
    gotLines := []
    gotTaint := []
    onTime := []
    late := []
    gtag := Table.mapVals {} (fun g => { g with outstanding := false }) x.gtag
    srStage := x.srCfg
    candidate := BitVec.ofNat 12 cand
    marked := 0
    retained := []
    sumErr := 0
    sumRef := 0
    heldNow := false
    chkPoison := false
    replayRule := false
    checkSent := false
    level := BitVec.ofNat 2 lv
    predicted := predicted
    ctlQ := placeMode x.ctlQ mode
    ctlWait := x.ctlWait.filter (fun g => g.body.getD 0 0 ≠ 2 && g.body.getD 0 0 ≠ 3) }

/-- Rows of a pass were lost on their way to the stage it is at in stroke `n` (R77, R49). -/
def State.passLost (s : State) (p : Plan) (q : Pass) (n : Nat) : Bool :=
  match stageAt p q n with
  | none => false
  | some k => match s.crewOf k with
    | none => false
    | some c => c.seats.any (fun st =>
        let x := s.tile st.tile
        x.input.any (fun e => missing x e &&
          (!e.bearsRows || (decide (e.firstRow < q.row + q.count) && decide (q.row < e.firstRow + e.rows)))))

/-- A generation row enters with the token its slot now carries, if its slot runs (R400, R410). -/
def State.enterPass (s : State) (q : Pass) : Option Pass :=
  match q.slot with
  | none => some q
  | some k => if s.slot k = .running q.id then (s.req q.id).map (fun r => { q with first := r.tokens.length - 1 }) else none

/-- The pipeline at the catch of stroke `n` (R77, R81, R400, R402). -/
def State.beginPasses (s : State) (n : Nat) : State :=
  match s.boot.plan with
  | none => s
  | some p =>
    let ps := s.serve.t.passes.filterMap (fun q => if q.entry = n then s.enterPass q else some q)
    let s1 := s.updTables (fun t => { t with passes := ps.map (fun q =>
      if !laterMod 48 q.entry n && s.passLost p q n then { q with lost := true } else q) })
    let s2 := (ps.filter (fun q => q.entry = n)).foldl (fun (u : State) q =>
      u.updReq q.id (fun r => { r with firstEntry := some (r.firstEntry.getD u.now) })) s1
    let gone := s2.serve.t.passes.filter (fun q => q.lost && q.slot.isNone)
    let s3 := gone.foldl (fun (u : State) q => u.replacePrefill q.id q.first) s2
    s3.updTables (fun t => { t with passes := t.passes.filter (fun q =>
      q.slot.isSome || q.sampled || !laterMod 48 n (q.entry + p.lastLayer)) })

/-- A cancel is applied (R442, R453). -/
def State.applyCancel (s : State) (r : Request) : State :=
  match r.state with
  | .moving => (s.setReq { r with cancel := false }).notice r.tag r.id r.turn 6 12
  | .retained => s.discardEntry r.id
  | .parked => s.discardEntry r.id
  | .parking =>
    let s := if r.parkStroke = some s.clk.stroke then s.notice r.tag r.id r.turn 5 0 else s
    s.complete r.id 2 0
  | _ => s.complete r.id 2 0

/-- Apply the cancels received (R442). -/
def State.applyCancels (s : State) : State :=
  (s.serve.t.reqs.filter (fun r => r.cancel)).foldl (fun (s : State) r => s.applyCancel r) s

/-- The pair (S, F) of a step in a stroke-length table (R66). -/
def pairOf (t : List StrokePair) (step : Nat) : Option (Nat × Nat) := (t.find? (fun e => e.step = step)).map (fun e => (e.s, e.f))

/-- S and F in force with the mode vector `v` (R302): the wide table while any stage runs at the FP8 level. -/
def State.pairFor (s : State) (v : ModeVec) (step : Nat) : Option (Nat × Nat) :=
  match s.boot.plan with
  | some p => pairOf (if v.anyFp8 then p.wide else p.strokes) step
  | none => none

/-- The change armed for stroke `n` (R56, R67). -/
def State.armedFor (s : State) (n : BitVec 48) : Option RegionClk :=
  ((List.range 64).map (fun r => (s.region r).clk)).find? (fun c => c.arm && decide (c.armAt = n.setWidth 24))

/-- S, F and the plan step from stroke `n` on (R56, R302). -/
def State.applyArmed (s : State) (n : BitVec 48) (vec : ModeVec) : State :=
  let wide := vec.anyFp8
  let before := s.mode.vec.anyFp8
  let s' := match s.armedFor n with
    | some c =>
      let s : State := { s with clk := { s.clk with len := c.nextLen.toNat, fin := c.nextFin.toNat, step := c.armStep.toNat } }
      s.eachRegion (fun r s =>
        let c := (s.region r).clk
        if c.arm && decide (c.armAt = n.setWidth 24) then
          (s.updClk r (fun c => { c with arm := false, armDone := true })).runStep r c.armStep.toNat
        else s)
    | none => s
  if wide || before then
    match s'.pairFor vec s'.clk.step with
    | some (a, b) => { s' with clk := { s'.clk with len := a, fin := b } }
    | none => s'
  else s'

/-- The catch of stroke `n` at the present tick (R56, R60, R102, R303, R305: a stage's passes widen by the level its tiles run at); a mesh port cancels what it still holds of an earlier stroke's
deliveries (R78). -/
def State.beginStroke (s : State) (n : BitVec 48) : State :=
  let s := s.applyCancels.beginPasses n.toNat
  let vec := s.nextVec n
  let s := s.applyArmed n vec
  let s : State := { s with mode := { s.mode with vec := vec, changes := s.mode.changes.filter (fun c => !c.due n) } }
  let s0 := s
  let s := s.eachRegion (fun r s => s.updRegion r (fun g =>
    let q := g.ref
    let v := match q.next with
      | some v => v
      | none => q.vec.advance
    { g with
      ref := { q with granted := false, judged := [], vec := v, next := none, predicted := q.next.isNone }
      clk := { g.clk with umpHit := false } }))
  let s := s.eachCrewTile (fun t x =>
    let g := s.region t.region.toNat
    let k := x.stage.getD 0
    beginTile n t k ((s.checkOf k).map (fun c => c.candidates)) (s0.region t.region.toNat).ref.vec g.ref.vec g.ref.predicted x)
  let s : State := { s with clk := { s.clk with
    stroke := n
    begun := true
    running := true
    easy := 0
    catchTick := s.clk.tick.toNat
    lastLen := s.clk.len
    finished := false
    cleared := false } }
  let s := s.updLinks (fun l => { l with links := Table.mapVals {} (fun (k : Link) =>
    let k := if k.altNext then { k with altActive := true, altNext := false } else k
    if k.altBack ≠ 0 && !laterMod 48 k.altBack n.toNat then { k with altActive := false, altBack := 0 } else k) l.links })
  let s : State := { s with transit := s.transit.filter (fun e =>
    !((s.atMeshPort ⟨BitVec.ofNat 6 e.1, BitVec.ofNat 4 e.2.1, BitVec.ofNat 4 e.2.2.1⟩).contains e.2.2.2 &&
      (e.2.2.2.head.kind = 0 || e.2.2.2.head.kind = 1) && e.2.2.2.head.stroke ≠ n.setWidth 16)) }
  match s.boot.plan with
  | none => s
  | some p =>
    let ran (k : Nat) : Bool := match p.crews.find? (fun c => c.stage = k) with
      | some c => (crewRegions c).any (fun r => (s.region r).ref.vec.fp8 k)
      | none => vec.fp8 k
    (p.path.eraseDups.filter ran).foldl (fun (s : State) k => s.widenStage k) s

/-- Nothing is in the pipeline any more (R80, R87, R453): running slots repeat their token index, booked and releasing slots are freed,
and each prefill restarts at its first position that has not passed every layer stage. -/
def State.restartFlight (s : State) : State :=
  let s := s.updTables (fun t => { t with passes := [], planned := none })
  let s := s.freeReleasing
  let s := s.serve.t.slots.foldl (fun (s : State) (e : Nat × SlotState) => match e.2 with
    | .booked _ => s.putSlot e.1 .free
    | _ => s) s
  s.updTables (fun t => { t with reqs := t.reqs.map (fun r =>
    if r.prefilling then
      let q := min r.donePos (r.tokens.length - 1)
      { r with
        nextPos := q
        flushed := min r.flushed (q / 64)
        slot := match r.slot with
          | some k => if Table.get .free t.slots k = .free then none else some k
          | none => none }
    else r) })

/-- What a clearing easy-all does to the work in flight (R87, R307, R453). -/
def State.clearFlight (s : State) : State :=
  let s := s.restartFlight
  let s := s.eachCrewTile (fun _ x => { x with onTime := [], late := [], gotLines := [], gotTaint := [], present := 0 })
  let s := s.eachRegion (fun r s => s.updRef r (fun q => { q with vec := {}, next := none }))
  { s with mode := {}, clk := { s.clk with cleared := true } }

/-- The causes that hold easy-all until something clears them; the umpire's and the dictionary's do not (log entry 20). -/
def holdsOn (cause : Nat) : Bool := cause ≠ 9 && cause ≠ 10

/-- Easy-all enters for the causes `due` (R84, R85, R809, R86, R89); every clearing easy-all named joins them. EasyAllState reads 1 until the
first catch (R132). -/
def State.enterEasy (s : State) (due : List NamedEasy) : State :=
  let more := s.clk.named.filter (fun e => e.clearing && !due.contains e)
  let all := due ++ more
  let clearing := all.any (fun e => e.clearing) || s.clk.easy = 2
  let rest := s.clk.named.filter (fun e => !all.contains e)
  let s : State := { s with clk := { s.clk with
    running := false
    easy := if clearing && s.clk.begun then 2 else 1
    causes := s.clk.causes ++ ((all.filter (fun e => !e.passed)).map (fun e => e.cause)).filter holdsOn
    named := rest
    lanePasses := if s.clk.running then s.clk.tick.toNat else s.clk.lanePasses
    resume := none } }
  let s := all.foldl (fun (s : State) e => s.event 0x0500 0xFF (natLE 1 e.cause ++ natLE 1 (if e.clearing then 2 else 1))) s
  let s := if s.inRegatta then s.sendWords s.treeLinks (.halt s.ident.serial s.clk.stroke.toNat) else s
  if clearing then s.clearFlight else s

/-- Easy-all at once: the stroke in progress is abandoned (R84). -/
def State.easyNow (s : State) (cause : Nat) : State := s.enterEasy [{ cause := cause, clearing := true }]

/-- Name an easy-all (R84, R809): one named while strokes are halted takes effect when it is named. -/
def State.nameEasyAll (s : State) (cause : Nat) (clearing : Bool) (at_ : Option (BitVec 48)) : State :=
  let e : NamedEasy := { cause := cause, clearing := clearing, at_ := at_ }
  if s.clk.running then { s with clk := { s.clk with named := s.clk.named ++ [e] } } else s.enterEasy [e]

/-- A cause of easy-all has cleared. What Cox named for a stroke is withdrawn; an easy-all that takes the place of the next catch
still takes it, and holds strokes no longer (R69, R84, R625). -/
def State.clearCause (s : State) (cause : Nat) : State :=
  { s with clk := { s.clk with
      causes := s.clk.causes.filter (fun c => c ≠ cause)
      named := (s.clk.named.filter (fun e => e.cause ≠ cause || (e.at_.isNone && !e.clearing))).map
        (fun e => if e.cause = cause then { e with passed := true } else e) } }

/-- Cox names a resume tick (R88, R562), with S, F and step; a regatta's root sends it down the tree, with the first stroke one above
the largest begun by any member. -/
def State.resumeAt (s : State) (a b step : Nat) : State :=
  let far := 2 * max s.clk.lastLen a
  let far := if s.isRoot then max far s.treeTicks else far
  let t := s.clk.tick.toNat + far
  let n := if s.clk.begun then (laterOf s.clk.stroke.toNat s.links.haltStroke + 1) % 2 ^ 48 else s.clk.stroke.toNat
  let s : State := { s with clk := { s.clk with resume := some { tick := t, len := a, fin := b, step := step, stroke := n } } }
  let s := (s.takeEffect [0x610004]).updLinks (fun l => { l with period := s.dictNat 0x610004 })
  if s.isRoot then s.sendWords s.children (.resume t a b step n) else s

/-- A plan that has been staked and has not run yet: its first catch is still to come (R721, R723). -/
def State.staking (s : State) : Bool :=
  match s.boot.planLoad with
  | some l => l.phase = 5 && l.variant.isNone
  | none => false

/-- The stake (R560, R721): a first catch is named, and the root of a regatta sends the stake word. -/
def State.nameStake (s : State) (a b step : Nat) : State :=
  let far := max 1024 (if s.isRoot then s.treeTicks else 0)
  let far := if s.clk.begun then max far (2 * max s.clk.lastLen a) else far
  let t := s.clk.tick.toNat + far
  let n := if s.clk.begun then (laterOf s.clk.stroke.toNat s.links.haltStroke + 1) % 2 ^ 48 else s.clk.stroke.toNat
  let s : State := { s with clk := { s.clk with resume := some { tick := t, len := a, fin := b, step := step, stroke := n } } }
  let s := (s.takeEffect [0x610004]).updLinks (fun l => { l with period := s.dictNat 0x610004 })
  if s.isRoot then s.sendWords s.children (.stake (t - 512) t n a b step) else s

/-- Cox names a resume tick once no cause holds strokes and nothing clearing is due (R88, R809), with the pair of `step`.
Only the root of a regatta does (R562), and a pair's standby holds. -/
def State.nameResume (s : State) (step : Nat) : State :=
  if s.clk.easy = 0 || s.clk.causes ≠ [] || s.boot.plan.isNone || s.isMember || [4, 5].contains s.links.pairState ||
      !s.boot.staked || s.links.linksHalt then s
  else match s.pairFor s.mode.vec step with
    | none => s
    | some (a, b) => if s.staking then s.nameStake a b step else s.resumeAt a b step

/-- The easy-alls due at a catch: those named for the stroke that would begin or for no stroke, and an umpire's halt (R84, R131). -/
def State.easyDue (s : State) : List NamedEasy :=
  let n := s.clk.stroke + 1
  let named := s.clk.named.filter (fun e => match e.at_ with
    | none => true
    | some m => m = n || laterMod 48 n.toNat m.toNat)
  if (List.range 64).any (fun r => (s.region r).clk.umpHit) then named ++ [{ cause := 9 }] else named

/-- Bytes of the mirror batch of stroke `n` (R570): staging rows, flushed pages, and table changes of a size the spec leaves
open (log entry 5). -/
def State.batchBytes (s : State) (p : Plan) (n : Nat) : Nat :=
  let at_ := s.serve.t.passes.filter (fun q => !laterMod 48 q.entry n && !laterMod 48 n (q.entry + p.lastLayer))
  let rows := at_.foldl (fun a q => a + q.count) 0
  let pages := at_.foldl (fun a q => a + ((q.first + q.count) / 64 - q.first / 64)) 0
  rows * p.stagingRow + pages * p.pageBytes + ((Config.freeBits s.free).setWidth 16).toNat

/-- The active of a pair sends the stroke's mirror batch (R570); a full ring starts a new resynchronisation (R571). The lag is an extreme (R757). -/
def State.mirrorStroke (s : State) : State :=
  if ! [1, 2].contains s.links.pairState then s
  else match s.boot.plan, s.pairLinks with
    | some p, k :: _ =>
      let n := s.clk.stroke.toNat
      let b := s.batchBytes p n
      let s := s.useFree 1
      let used := s.links.mirror.foldl (fun a m => a + m.bytes) 0
      if s.inForceNat 0x620006 < used + b then
        (s.updLinks (fun l => { l with pairState := 1, mirror := [] })).updLink k
          (fun l => { l with out := l.out ++ [.bulk 5 0 0] })
      else
        let s := s.updLinks (fun l => { l with mirror := l.mirror ++ [{ stroke := n, bytes := b }], sentBatch := n })
        (s.extreme 8 s.links.mirror.length true 0xFF).updLink k (fun l => { l with out := l.out ++ [.bulk 3 n 0] })
    | _, _ => s

/-- FINISH (R59, R37, R397, R427, R570): Cox closes and sends every connection's units, and the standby mirrors its tables. -/
def execFinish (s : State) : Host.Outcome State Fault Refusal :=
  if !s.clk.running || s.clk.finished then .next s
  else
    let s := s.advanceToTick (s.clk.catchTick + s.clk.fin)
    let s := s.serve.t.reqs.foldl (fun (s : State) r => s.sendTokens r) s
    let s := s.sendUnits
    let s := (s.updServe (fun v => { v with mirror := v.t })).mirrorStroke
    .next { s with
      ring := []
      host := { s.host with
        mirror := s.dict
        mirrorBlobs := s.blobs }
      clk := { s.clk with finished := true }
      mode := { s.mode with mirrorVec := s.mode.vec, mirrorRun := s.mode.crabRun, mirrorChanges := s.mode.changes } }

/-- A request taken up between a switch and its first catch: its pages, if it has any, are of the old epoch (R347). -/
def oldPages (e : BitVec 64) (r : Request) : Bool :=
  (r.active || r.state = .queued) && !r.crossed && r.epoch ≠ e && (r.active || r.sets ≠ [] || r.boat.isSome)

/-- The weight epoch and image that come into service at the first catch after a switch (R347, R362, R389): nothing is computed or
copied back for the old one. -/
def State.newEpochIn (s : State) : State :=
  match s.weights.newEpoch with
  | none => s
  | some (e, i) =>
    let old := (s.serve.t.reqs.filter (oldPages e)).map (fun r => r.id)
    let s := s.updTables (fun t => { t with passes := t.passes.filter (fun q => !(q.slot.isNone && old.contains q.id)) })
    let s := old.foldl (fun (u : State) id => u.freshStart id e) s
    let up := decide (s.weights.floor.toNat ≤ e.toNat)
    { s with
      serve := { s.serve with drained := false }
      weights := { s.weights with
        newEpoch := none
        epoch := e
        imageId := i
        floor := if up then e else s.weights.floor
        floorImage := if up then i else s.weights.floorImage }
      boot := { s.boot with recordSeq := if up then s.boot.recordSeq + 1 else s.boot.recordSeq } }

/-- A plan or variant is in service from its first catch (R696, R719, R720, R808). -/
def State.serviceIn (s : State) : State :=
  let up := decide (s.boot.versionFloor.toNat < s.boot.fwVersion.toNat)
  let s : State := { s with
    links := { s.links with haltStroke := 0 }
    boot := { s.boot with
      step := 12
      recordSeq := if up then s.boot.recordSeq + 1 else s.boot.recordSeq
      versionFloor := if up then s.boot.fwVersion else s.boot.versionFloor } }
  match s.boot.planLoad with
  | none => s
  | some l =>
    if l.phase ≠ 5 then s
    else
      let commit := match l.src, s.boot.plan with
        | some r, some p => if r.flags % 2 = 1 then some (r.targetSlot, p) else none
        | _, _ => none
      let s : State := { s with boot := { s.boot with
        planLoad := none
        planResult := 0
        planSlots := match commit with
          | some (k, p) => Table.put none s.boot.planSlots k (some p)
          | none => s.boot.planSlots } }
      s.event 0x0900 0xFF (natLE 1 1 ++ natLE 1 0)

/-- CLK_STROKE_ARM (R58, R67): a write of the register in region `r`. A stroke already begun, or fewer than 4 ahead, is
refused. -/
def execClkStrokeArm (r : BitVec 6) (value : Word) (s : State) : Host.Outcome State Fault Refusal :=
  let at_ := value.setWidth 24
  let ahead := (at_.toNat + 2 ^ 24 - s.clk.stroke.toNat % 2 ^ 24) % 2 ^ 24
  let good := decide (4 ≤ ahead) && decide (ahead < 2 ^ 23)
  let arm := value.getLsbD 31
  let step := BitVec.ofNat 4 (bits value 24 4)
  .next (s.regAccess r.toNat (fun s => s.updRegion r.toNat (fun g => { g with
    clk := { g.clk with
      armAt := at_
      armStep := step
      armDone := g.clk.armDone && !value.getLsbD 30
      arm := arm && good
      armRefused := g.clk.armRefused || (arm && !good) }
    loop := { g.loop with target := if arm && good then some step else g.loop.target } })))

/-- A change of the stroke contract arms in every region of the plan (R68, R563, R567). -/
def State.armChange (s : State) (stroke : BitVec 48) (len fin : BitVec 16) (step : BitVec 4) : State :=
  let at_ := stroke.setWidth 24
  let ahead := (at_.toNat + 2 ^ 24 - s.clk.stroke.toNat % 2 ^ 24) % 2 ^ 24
  let good := decide (4 ≤ ahead) && decide (ahead < 2 ^ 23)
  s.planRegions.foldl (fun (s : State) r =>
    if s.powered r then
      s.updRegion r (fun g => { g with
        clk := { g.clk with
          nextLen := len
          nextFin := fin
          armAt := at_
          armStep := step
          arm := good
          armRefused := g.clk.armRefused || !good }
        loop := { g.loop with target := if good then some step else g.loop.target } })
    else s) s

/-- CLK_TICK_LO_READ (R58): the low word, and the upper half latched. -/
def execClkTickLoRead (r : BitVec 6) (s : State) : Host.Outcome State Fault Refusal :=
  .next (s.regAccess r.toNat (fun s =>
    let s := s.updClk r.toNat (fun c => { c with tickHi := BitVec.ofNat 32 (s.clk.tick.toNat / 2 ^ 32) })
    { s with readOut := some (s.clk.tick.setWidth 32) }))

/-- CLK_STROKE_LO_READ (R58): the low word, and the upper half latched. -/
def execClkStrokeLoRead (r : BitVec 6) (s : State) : Host.Outcome State Fault Refusal :=
  .next (s.regAccess r.toNat (fun s =>
    let s := s.updClk r.toNat (fun c => { c with strokeHi := BitVec.ofNat 16 (s.clk.stroke.toNat / 2 ^ 32) })
    { s with readOut := some (s.clk.stroke.setWidth 32) }))

/-- HALT (R84, R132): a write of 1 to 0x2100.08 names holding easy-all. -/
def execHalt (value : Byte) (s : State) : Host.Outcome State Fault Refusal :=
  if value ≠ 1 then .next s else .next (s.nameEasyAll 10 false (some s.nameStroke))

/-- LANE_ENTRY_ADVANCE (R124): the next tick at which the regions move to another entry. -/
def execLaneEntryAdvance (s : State) : Host.Outcome State Fault Refusal :=
  if !s.clk.ticking then .next s
  else
    let w := (s.region 0).clk.window s.clk.tick.toNat
    if w = 0 then .next s else .next (s.advanceToTick ((s.clk.tick.toNat / w + 1) * w))

/-- LANE_WINDOW_APPLY (R127): the tick from which a new window length is in force. -/
def execLaneWindowApply (r : BitVec 6) (s : State) : Host.Outcome State Fault Refusal :=
  if !s.clk.ticking then .next s else .next (s.advanceToTick (s.region r.toNat).clk.winAt)

end Sys2Proof.Machine
end

