-- ==== Sys2Proof/Machine/Clocks.lean ====
section
/-! DEFINITION. The reference loop and its multiplexer, region loops, stretched periods, monitors and gated blocks
(chapter 13). -/

namespace Sys2Proof.Machine

/-- A candidate number that names a candidate (R616). -/
def isCandidate (c : Nat) : Bool := decide (c ≤ 8) || (decide (16 ≤ c) && decide (c ≤ 111))

/-- The region that holds a candidate (R23, R25); M0's depends on none (R619). -/
def candRegion (c : Nat) : Option Nat :=
  if c < 8 then some ([4, 4, 11, 11, 52, 52, 59, 59].getD c 0)
  else if 16 ≤ c then some (edgeRegions.getD ((c - 16) / 6) 0)
  else none

/-- A candidate can be ready: it exists, and the region that holds it is powered (R616, R651). -/
def State.candLive (s : State) (c : Nat) : Bool :=
  isCandidate c && (match candRegion c with
    | some r => s.powered r
    | none => true)

/-- Change the reference loop. -/
def State.updLoopRef (s : State) (f : RefLoop → RefLoop) : State := { s with ref := f s.ref }

/-- The lowest-numbered ready candidate other than `but`. -/
def State.lowestReady (s : State) (but : Nat) : Option Nat := (List.range 112).find? (fun c => s.candReady c && c ≠ but)

/-- A source is connected: reference edges reach the loop again (R623, R630, R632). -/
def State.connectRef (s : State) (c : BitVec 7) : State :=
  s.updLoopRef (fun q => { q with cur := c, loss := false, swStep := 0, hang := false })

/-- The search (R628): with no source connected, the lowest-numbered ready candidate is connected. -/
def State.searchRef (s : State) : State :=
  if s.ref.search && s.ref.cur = 0x7F && s.ref.swStep = 0 then
    match s.lowestReady 0x7F with
    | some c => s.connectRef (BitVec.ofNat 7 c)
    | none => s
  else s

/-- Cox arms an alternate (R634) where AUTO_ALT is set and none that is ready is armed; in a regatta member it arms the standby parent and
sets AUTO_ALT whatever 0x2010.04 holds (R556, R629; log entry 27). -/
def State.armAlternate (s : State) : State :=
  let q := s.ref
  match (s.links.standby).filter (fun l => decide (16 + l ≠ q.cur.toNat)) with
  | some l => s.updLoopRef (fun q => { q with alt := BitVec.ofNat 7 (16 + l), autoAlt := true })
  | none =>
    if !q.autoAlt || (q.alt ≠ 0x7F && s.candReady q.alt.toNat) then s
    else
      let cur := q.cur.toNat
      let want := s.dictNat 0x201004
      let pick : Nat := if want ≠ 0x7F && want ≠ cur then want
        else if q.prev ≠ 0x7F && s.candReady q.prev.toNat && q.prev ≠ q.cur then q.prev.toNat
        else (s.lowestReady cur).getD 0x7F
      s.updLoopRef (fun q => { q with alt := BitVec.ofNat 7 pick })

/-- A planned switch starts (R630); with no source connected it connects a ready candidate at once (R633). -/
def State.startSwitch (s : State) (c : BitVec 7) : State :=
  if s.ref.swStep ≠ 0 then s.updLoopRef (fun q => { q with refused := true })
  else
    let s := s.updLoopRef (fun q => { q with src := c })
    if s.ref.cur ≠ 0x7F then s.updLoopRef (fun q => { q with swStep := 1 })
    else if s.candReady c.toNat then s.connectRef c
    else s.updLoopRef (fun q => { q with swStep := 2 })

/-- The candidate Cox prefers (R629): the parent link of a regatta member, else 0x2010.03. -/
def State.refWanted (s : State) : Nat :=
  match s.links.parent with
  | some l => 16 + l
  | none => s.dictNat 0x201003

/-- Cox switches to the preferred candidate when it is ready (R629). -/
def State.preferRef (s : State) : State :=
  let w := s.refWanted
  if s.ref.locked && s.ref.lock && s.ref.swStep = 0 && s.ref.cur ≠ 0x7F && w ≠ 0x7F && w ≠ s.ref.cur.toNat && s.candReady w then
    s.startSwitch (BitVec.ofNat 7 w)
  else s

/-- The forced path connects a candidate (R632): a source that is not ready gives no edge, so the loss stays. -/
def State.forceRef (s : State) (c : BitVec 7) (auto : Bool) : State :=
  let old := s.ref.cur
  let s := s.connectRef c
  let s := s.updLoopRef (fun q => { q with src := c, forced := true, prev := old, loss := !s.candReady c.toNat })
  s.event 0x0101 0xFF (natLE 1 old.toNat ++ natLE 1 c.toNat ++ natLE 1 (b2n auto))

/-- The automatic alternate (R634): hardware moves to the ready alternate as soon as LOSS sets. -/
def State.autoAlternate (s : State) : State :=
  if s.ref.loss && s.ref.autoAlt && s.ref.alt ≠ 0x7F && s.candReady s.ref.alt.toNat then
    let c := s.ref.alt
    ((s.forceRef c true).updLoopRef (fun q => { q with alt := 0x7F })).armAlternate
  else s

/-- What Cox and hardware do after any change of which candidates are ready. -/
def State.refFollow (s : State) : State := s.searchRef.autoAlternate.preferRef.armAlternate

/-- CANDIDATE_READY (R617, R628, R629). -/
def execCandidateReady (c : BitVec 7) (s : State) : Host.Outcome State Fault Refusal :=
  if !s.candLive c.toNat then .next s
  else .next (State.refFollow (s.updLoopRef (fun q => { q with ready := q.ready ||| (1#128 <<< c.toNat) })))

/-- CANDIDATE_NOT_READY (R617, R634). -/
def execCandidateNotReady (c : BitVec 7) (s : State) : Host.Outcome State Fault Refusal :=
  .next (s.updLoopRef (fun q => { q with ready := q.ready &&& ~~~(1#128 <<< c.toNat) })).armAlternate

/-- A region coasts (R639). -/
def State.coastRegion (s : State) (r : Nat) : State :=
  s.updLoop r (fun l => { l with coast := true, lock := false, target := none })

/-- Change every powered region. -/
def State.eachPowered (s : State) (f : Nat → State → State) : State := s.eachRegion (fun r s => if s.powered r then f r s else s)

/-- Armed changes of S, F and step are discarded (R653, R688). -/
def State.discardArmed (s : State) : State :=
  (s.eachRegion (fun r s => s.updClk r (fun c => { c with arm := false })))

/-- The easy-all of a forced step change (R69, R84), unless it is in force or named already. -/
def State.forcedEasy (s : State) : State :=
  if s.boot.plan.isNone || s.clk.causes.contains 5 || s.clk.named.any (fun e => e.cause = 5 && !e.passed) then s else s.nameEasyAll 5 false none

/-- Hardware forces regions to step 0 (R638): FORCED and trigger 5; a region that coasts stays below it (R653). -/
def State.forceStep0 (s : State) (rs : List Nat) : State :=
  let rs := rs.filter s.powered
  if rs = [] then s
  else
    let s := rs.foldl (fun (s : State) r =>
      let s := if (s.region r).loop.coast then s else s.runStep r 0
      (s.updClk r (fun c => { c with forced := true })).trigger r (trig 5)) s
    s.discardArmed.forcedEasy

/-- Every plan region runs at one step of the stroke-length table, no coolant fault being in force: the forced step change
has been undone (R637, R638), and Cox names a resume. -/
def State.raised (s : State) : State :=
  match s.planRegions with
  | [] => s
  | r :: _ =>
    let k := (s.region r).loop.stepAct
    let same := s.planRegions.all (fun q =>
      let l := (s.region q).loop
      l.stepAct = k && l.lock && !l.coast && l.target.isNone)
    if s.clk.causes.contains 5 && same && !s.power.active && (s.pairFor s.mode.vec k.toNat).isSome then
      (s.clearCause 5).nameResume k.toNat
    else s

/-- Cox sets a step in every region of the plan (R637). -/
def State.raisePlan (s : State) (k : Nat) : State := s.planRegions.foldl (fun (s : State) r => if s.powered r then s.runStep r k else s) s

/-- Step 2 of the power-on sequence ends, and the scratch fill begins, once the loop has locked and every region to be powered has
power-good (R690). -/
def State.stepThree (s : State) : State :=
  if s.boot.step = 2 && s.ref.lock && s.power.on &&& ~~~s.power.pg = 0 then
    { s with boot := { s.boot with step := 3, filling := true } }
  else s

/-- REFERENCE_LOCK (R621, R626, R640, R627): the first lock starts the tick count and the scratch fill; a later one ends a
reference loss. -/
def execReferenceLock (s : State) : Host.Outcome State Fault Refusal :=
  if s.ref.cur = 0x7F || s.ref.loss || s.ref.swStep ≠ 0 || s.ref.lock then .next s
  else
    let first := !s.ref.locked
    let s := s.updLoopRef (fun q => { q with lock := true, locked := true, lost := false })
    let s : State := { s with clk := { s.clk with ticking := true } }
    let s := s.eachPowered (fun r s => s.runStep r 0)
    let s :=
      if first || s.boot.step ≤ 3 then s.stepThree
      else
        let s := if s.power.active then s else s.raisePlan s.clk.step
        ((s.clearCause 6).raised).nameResume s.clk.step
    .next s.refFollow

/-- REFERENCE_EDGE_LOSS (R623): no edge has reached the loop for 32 ticks. -/
def execReferenceEdgeLoss (s : State) : Host.Outcome State Fault Refusal :=
  if s.ref.loss || s.ref.lost || (s.ref.cur = 0x7F && !s.ref.lock) then .next s
  else
    let from_ := s.now
    let s := s.advanceTo (s.now + 32)
    .next (s.updLoopRef (fun q => { q with loss := true, lastEdge := from_ })).autoAlternate

/-- The bridge time (R623): values below 32 are treated as 32. -/
def RefLoop.bridgeTicks (q : RefLoop) : Nat := max 32 q.bridge.toNat

/-- BRIDGE_EXPIRY (R624, R625, R640): the reference is lost, the tick count holds, every region coasts. A source lost
before the loop has ever locked to one is only let go. Whether CLK_STROKE_STAT.FORCED is set too the spec leaves open: it stays as it was
(R69; log entry 52). -/
def execBridgeExpiry (s : State) : Host.Outcome State Fault Refusal :=
  if !s.ref.loss || s.ref.lost then .next s
  else
    let s := s.advanceTo (s.ref.lastEdge + s.ref.bridgeTicks)
    let old := s.ref.cur
    let s := s.updLoopRef (fun q => { q with cur := 0x7F, swStep := 0, hang := false, loss := true })
    if !s.ref.lock then .next (State.searchRef (s.updLoopRef (fun q => { q with loss := false })))
    else
      let s := s.updLoopRef (fun q => { q with lost := true, lock := false, refLost := true, losses := satAdd q.losses 1 })
      let s : State := { s with clk := { s.clk with ticking := false } }
      let s := ((s.eachPowered (fun r s => s.coastRegion r)).discardArmed).count 0x201007 1
      let s := s.event 0x0100 0xFF (natLE 1 old.toNat)
      let s := if s.boot.plan.isSome then s.nameEasyAll 6 false none else s
      let s : State := { s with clk := { s.clk with easy := if s.clk.easy = 2 then 2 else 1 } }
      .next s.searchRef

/-- PLANNED_SWITCH (R630): a write of CLK_REF_SEL.SRC. -/
def execPlannedSwitch (c : BitVec 7) (s : State) : Host.Outcome State Fault Refusal := .next (s.startSwitch c)

/-- SWITCH_STEP_COMPLETE (R630, R631): the awaited falling edge has come. -/
def execSwitchStepComplete (s : State) : Host.Outcome State Fault Refusal :=
  if s.ref.swStep = 1 then .next (s.updLoopRef (fun q => { q with swStep := 2, hang := false }))
  else if s.ref.swStep = 2 then .next (s.connectRef s.ref.src).refFollow
  else .next s

/-- MUX_HANG (R631): a step has waited more than 32 ticks. -/
def execMuxHang (s : State) : Host.Outcome State Fault Refusal :=
  if s.ref.swStep = 0 || s.ref.hang then .next s
  else
    let s := s.advanceTo (s.now + 33)
    .next (s.updLoopRef (fun q => { q with hang := true, ints := q.ints + 1 }))

/-- FORCE (R632): only while LOSS is set. -/
def execForce (s : State) : Host.Outcome State Fault Refusal :=
  if !s.ref.loss then .next s else .next (s.forceRef s.ref.src false).armAlternate

/-- MUX_RST (R633): no source is connected, and the search acts at once. -/
def execMuxRst (s : State) : Host.Outcome State Fault Refusal :=
  .next (State.searchRef (s.updLoopRef (fun q => { q with cur := 0x7F, swStep := 0, hang := false })))

/-- LOOP_GO (R637): refused in a region that holds a crew of the running plan while strokes run. -/
def execLoopGo (r : BitVec 6) (step : BitVec 4) (s : State) : Host.Outcome State Fault Refusal :=
  .next (s.regAccess r.toNat (fun s =>
    let s := s.updLoop r.toNat (fun l => { l with step := step })
    if s.clk.running && s.holdsCrew r.toNat then s.updLoop r.toNat (fun l => { l with refused := true })
    else s.updLoop r.toNat (fun l => { l with target := some step })))

/-- IDLE_PATH_LOCK (R635-R637): the idle path has locked to its target. The region moves to it at once, or, for a change
armed in CLK_STROKE_ARM, at the catch that names it. -/
def execIdlePathLock (r : BitVec 6) (s : State) : Host.Outcome State Fault Refusal :=
  let g := s.region r.toNat
  match g.loop.target with
  | none => .next s
  | some k =>
    if !s.powered r.toNat || !s.clk.ticking || g.loop.stop then .next s
    else if g.clk.arm && s.clk.running then .next (s.updLoop r.toNat (fun l => { l with target := none }))
    else .next (s.runStep r.toNat k.toNat).raised

/-- LOOP_STOP (R650): the region clock stops at its next low phase. -/
def execLoopStop (r : BitVec 6) (s : State) : Host.Outcome State Fault Refusal :=
  .next (s.regAccess r.toNat (fun s => s.updLoop r.toNat (fun l => { l with stop := true })))

/-- PATH_LOCK_LOSS (R638): the region coasts, and its idle path locks at step 0 and takes over. -/
def execPathLockLoss (r : BitVec 6) (s : State) : Host.Outcome State Fault Refusal :=
  if !s.powered r.toNat || (s.region r.toNat).loop.coast then .next s
  else
    let s := s.updRegion r.toNat (fun g => { g with
      loop := { g.loop with unlocks := satAdd g.loop.unlocks 1, lock := false, coast := true, stepAct := 0, target := some 0 }
      pwr := { g.pwr with vset := s.stepVset r.toNat 0 } })
    .next (s.forceStep0 [r.toNat])

/-- The droop threshold in force (R642): values outside 10-80 mV are clamped. -/
def droopLimit (l : RegionLoop) : Nat := max 10 (min 80 l.thresh.toNat)

/-- DROOP (R641, R642, R667): VCORE lies `mv` below its set point; beyond the threshold the next period is stretched. -/
def execDroop (r : BitVec 6) (mv : BitVec 10) (s : State) : Host.Outcome State Fault Refusal :=
  let l := (s.region r.toNat).loop
  if !s.powered r.toNat || !l.droopEn || mv.toNat ≤ droopLimit l then .next s
  else
    let s := s.updRegion r.toNat (fun g => { g with
      loop := { g.loop with droops := satAdd g.loop.droops 1 }
      clk := { g.clk with stretchNow := if s.clk.running then g.clk.stretchNow + 1 else g.clk.stretchNow } })
    .next (s.count 0x202008 1)

/-- A field of CLK_MON_CFG as it stands for the window in progress (R767). -/
def monField (l : RegionLoop) (lo n : Nat) : Nat := l.monUse.toNat / 2 ^ lo % 2 ^ n

/-- MONITOR_WINDOW (R643-R645): the jitter and duty-cycle deviation of a window of 1,024 ticks. -/
def execMonitorWindow (r : BitVec 6) (jit : BitVec 8) (duty : BitVec 4) (s : State) : Host.Outcome State Fault Refusal :=
  let rn := r.toNat
  let l := (s.region rn).loop
  if !s.powered rn then .next s
  else if l.coast || l.target.isSome then .next (s.updLoop rn (fun l => { l with monUse := l.monCfg }))
  else
    let exceeds (a b : Nat) : Bool := decide (a < jit.toNat) || decide (b < duty.toNat)
    let warn := exceeds (monField l 0 8) (monField l 16 4)
    let lim := exceeds (monField l 8 8) (monField l 20 4)
    let run := if lim then min 2 (l.overRun + 1) else 0
    let s := s.updLoop rn (fun l => { l with jitPeak := jit, dutyDev := duty, overRun := run, monUse := l.monCfg, monWarn := l.monWarn || warn,
                                             monLimit := l.monLimit || decide (run = 2) })
    let pay := natLE 1 jit.toNat ++ natLE 1 duty.toNat
    let s := if warn then s.regionEvent rn 0x0102 pay else s
    if run = 2 then
      let s := (s.regionEvent rn 0x0103 pay).trigger rn (trig 6)
      .next (if l.monUse.getLsbD 24 then s.forceStep0 [rn] else s)
    else .next s

/-- Ticks of 32 cycles at the region's step (R648); a coasting region is taken at step 0 (log entry 22). -/
def resetTicks (l : RegionLoop) : Nat := ceilDiv 160 (10 + 2 * l.stepAct.toNat)

/-- The registers of a tier channel at reset, or of the flash channel `c - 64` (FLT_ERR_STAT). -/
def State.resetChan (s : State) (c : Nat) : State :=
  if 64 ≤ c then { s with tier := { s.tier with
      flashRetries := Table.put 0 s.tier.flashRetries (c - 64) 0
      flashSoft := Table.put 0 s.tier.flashSoft (c - 64) 0
      flashUnread := Table.put 0 s.tier.flashUnread (c - 64) 0 } }
  else { s with tier := { s.tier with
      coded := Table.put 0 s.tier.coded c 0
      corrected := Table.put 0 s.tier.corrected c 0
      rebuilt := Table.put 0 s.tier.rebuilt c 0
      lost := Table.put 0 s.tier.lost c 0
      patrol := Table.put 0 s.tier.patrol c 0 } }

/-- The contents of a tier channel are lost, to be zeroed at its next training (R467, R649). -/
def State.eraseChan (s : State) (c : Nat) : State :=
  let lo := chanBase c
  { s with tier := { s.tier with mem := s.tier.mem.filter (fun e => decide (e.1 < lo) || decide (lo + popBytes c ≤ e.1)) } }

/-- A block leaves reset with its registers at their reset values (R648). -/
def State.enableBlock (s : State) (r b : Nat) : State :=
  if !holdsBlock r b then s
  else
    let at_ := s.now + resetTicks (s.region r).loop
    if 9 ≤ b then
      if (s.link (blockLink r b)).en then s
      else s.updLink (blockLink r b) (fun _ => { en := true, state := 1, readyAt := at_, trainMs := s.ms })
    else if (s.region r).loop.gate.getLsbD b then s
    else
      let s := s.updLoop r (fun l => { l with gate := l.gate ||| (1#9 <<< b), gateAt := Table.put 0 l.gateAt b at_ })
      match gateChan ((edgeIndex r).getD 0) b with
      | some c => if isEdge r then s.resetChan c else s
      | none => s

/-- BLOCK_ENABLE (R646, R648). -/
def execBlockEnable (r : BitVec 6) (block : BitVec 4) (s : State) : Host.Outcome State Fault Refusal :=
  .next (s.regAccess r.toNat (fun s => s.enableBlock r.toNat block.toNat))

/-- A block is gated and its work discarded (R649); no record is made here. -/
def State.gateBlock (s : State) (r b : Nat) : State :=
  if 9 ≤ b then s.updLink (blockLink r b) (fun _ => {})
  else
    let s := s.updLoop r (fun l => { l with gate := l.gate &&& ~~~(1#9 <<< b), gateAt := Table.put 0 l.gateAt b 0 })
    if !isEdge r then s
    else
      let e := (edgeIndex r).getD 0
      let s := if b < 2 then { s with tier := { s.tier with
          waiting := s.tier.waiting.filter (fun w => w.1 ≠ e)
          done := s.tier.done.filter (fun w => w.1 ≠ e) } } else s
      match gateChan e b with
      | some c => if 64 ≤ c then s.resetChan c else (s.resetChan c).eraseChan c
      | none => s

/-- A seam side is released (R526): during easy-all, with the regions on both sides powered and their loops locked. -/
def State.releaseSide (s : State) (r side : Nat) : State :=
  match neighbour r side with
  | none => s
  | some q =>
    if s.clk.easy ≠ 0 && s.powered r && s.powered q && (s.region r).loop.lock && (s.region q).loop.lock then
      s.updSeam r side (fun d => { d with hold := false, main := [], lane0 := [] })
    else s

/-- SEAM_RELEASE (R526): Cox clears HOLD on a seam side. -/
def execSeamRelease (r : BitVec 6) (side : Side) (s : State) : Host.Outcome State Fault Refusal :=
  .next (s.regAccess r.toNat (fun s => s.releaseSide r.toNat (sideNat side)))

end Sys2Proof.Machine
end

