-- ==== Sys2Proof/Machine/PlanFile.lean ====
section
/-! DEFINITION. Plan files: the header, the section table, and the sections whose bytes the spec lays out (R111-R115, R319, R712-R714). The sections it
only names come with the plan as their contents (log entry 24). -/

namespace Sys2Proof.Machine

/-- Records of `size` bytes of a section. -/
def recordsOf (size : Nat) (b : Bytes) : List Bytes := chunksOf size (b.length / size + 1) b

/-- A section is a whole number of records. -/
def wholeRecords (size : Nat) (b : Bytes) : Bool := decide (b.length % size = 0)

/-- A section table entry (R713). -/
structure Section where
  type : Nat
  variant : Nat
  member : Nat
  offset : Nat
  length : Nat
  deriving DecidableEq, Repr

/-- A section table entry from its 24 bytes. -/
def sectionAt (b : Bytes) : Section :=
  { type := fieldNat b 0 2, variant := fieldNat b 2 2, member := fieldNat b 4 2, offset := fieldNat b 8 8, length := fieldNat b 16 8 }

/-- The bytes of the section table (R712). -/
def sectionTable (b : Bytes) : List Bytes := (List.range (fieldNat b 56 4)).map (fun i => slice b (fieldNat b 64 8 + 24 * i) 24)

/-- The sections of a plan file. -/
def sectionsOf (b : Bytes) : List Section := (sectionTable b).map sectionAt

/-- A section speaks of a member (R713): its own number, or every member's. -/
def forMember (m : Nat) (e : Section) : Bool := e.member = m || e.member = 0xFFFF

/-- The bytes of the sections of a type that a variant (0 the base plan) holds for a member. -/
def sectionBytes (b : Bytes) (m type variant : Nat) : Bytes :=
  ((sectionsOf b).filter (fun e => e.type = type && e.variant = variant && forMember m e)).flatMap (fun e => slice b e.offset e.length)

/-- Header and section table are as R712 and R713 require; a plan that is not a plan file by its fixed fields, lengths and places is taken
so too (log entry 57). -/
def planHeaderOk (b : Bytes) : Bool :=
  let sig := fieldNat b 72 8
  let within (off n lo hi : Nat) : Bool := decide (lo ≤ fieldNat b off n) && decide (fieldNat b off n ≤ hi)
  decide (128 ≤ b.length) && decide (fieldNat b 0 4 = 0x4C505754) && decide (fieldNat b 4 2 = 1) && within 6 1 0 7 && within 7 1 0 3 &&
    within 40 2 1 512 && within 52 2 0 1024 && zeroField b 54 2 && zeroField b 60 4 && decide (fieldNat b 80 8 = b.length) &&
    decide (sig + 16608 = b.length) && decide (128 ≤ fieldNat b 64 8) && decide (fieldNat b 64 8 + 24 * fieldNat b 56 4 ≤ sig) &&
    (sectionTable b).all (fun e => zeroField e 6 2) && (sectionsOf b).all (fun e => decide (e.offset + e.length ≤ sig))

/-- Latency expressions (R111): their terms, and whether one is cut short or a reserved byte is set. -/
def expressions : Nat → Bytes → List (List (Nat × Int)) × Bool
  | _, [] => ([], false)
  | 0, _ :: _ => ([], true)
  | n + 1, b =>
    let terms := fieldNat b 0 2
    let rest := expressions n (b.drop (4 + 4 * terms))
    let one := (chunksOf 4 terms ((b.drop 4).take (4 * terms))).map (fun t => (fieldNat t 0 2, fieldInt t 2 2))
    (one :: rest.1, rest.2 || !zeroField b 2 2 || decide (b.length < 4 + 4 * terms))

/-- A logical tile from the bytes region, x and y (R112). -/
def routeTile (b : Bytes) : TileId := ⟨BitVec.ofNat 6 (fieldNat b 0 1), BitVec.ofNat 4 (fieldNat b 1 1), BitVec.ofNat 4 (fieldNat b 2 1)⟩

/-- The bytes of a logical tile name one, and the reserved byte is zero. -/
def routeTileFits (b : Bytes) : Bool := decide (fieldNat b 0 1 < 64) && decide (fieldNat b 1 1 < 16) && decide (fieldNat b 2 1 < 16) && zeroField b 3 1

/-- A latency fixup record (R113). -/
def fixupAt (b : Bytes) : Fixup :=
  { target := fieldNat b 0 4, lsb := fieldNat b 4 1, width := fieldNat b 5 1, expr := fieldNat b 6 2, addend := fieldInt b 8 4, unit := fieldNat b 12 1
    signed := decide (fieldNat b 13 1 % 2 = 1), reservedSet := decide (2 ≤ fieldNat b 13 1) || !zeroField b 14 2 }

/-- The fields of a fixup lie in their ranges (R113): a width of 1 to 24 bits inside the word, and a unit. -/
def fixupFits (f : Fixup) : Bool :=
  decide (1 ≤ f.width) && decide (f.width ≤ 24) && decide (f.lsb + f.width ≤ 32) && decide (f.unit ≤ 1) && !f.reservedSet

/-- A slack check record (R115). -/
def slackAt (b : Bytes) : SlackCheck :=
  { cycExpr := fieldNat b 0 2, tickExpr := if fieldNat b 2 2 = 0xFFFF then none else some (fieldNat b 2 2), start := fieldNat b 4 4
    dueKind := fieldNat b 8 1, cls := fieldNat b 9 1, dueAdd := fieldNat b 10 2, stage := fieldNat b 12 2 }

/-- The kinds of a slack check are of R115's. -/
def slackFits (c : SlackCheck) : Bool := decide (c.dueKind ≤ 1) && decide (c.cls ≤ 3)

/-- A relocation record (R714). -/
def relocAt (b : Bytes) : Reloc :=
  { target := fieldNat b 0 4, section_ := fieldNat b 4 2, kind := fieldNat b 6 1, lsb := fieldNat b 7 1, crewOrArea := fieldNat b 8 2
    seat := fieldNat b 10 2, addend := fieldNat b 12 4 }

/-- A rotary table (R319). -/
def rotaryAt (b : Bytes) : RotaryTable :=
  { base := BitVec.ofNat 32 (fieldNat b 0 4)
    dim := BitVec.ofNat 8 (fieldNat b 4 1)
    factor := (chunksOf 4 64 (slice b 8 256)).map (fun w => BitVec.ofNat 32 (leNat w))
    slot := slice b 264 64
    reservedSet := !zeroField b 5 3 || !zeroField b 328 8 }

/-- An FP32 word is finite and greater than 0. -/
def positiveWord (w : Word) : Bool := decide (0 < w.toNat) && decide (w.toNat < 0x7F800000)

/-- The loader takes a rotary table (R319): BASE finite and above 1, DIM even and 2 to 128, factors finite and above 0, nothing reserved set. -/
def rotaryFits (t : RotaryTable) : Bool :=
  positiveWord t.base && decide (0x3F800000 < t.base.toNat) && decide (t.dim.toNat % 2 = 0) && decide (2 ≤ t.dim.toNat) &&
    decide (t.dim.toNat ≤ 128) && t.factor.all positiveWord && !t.reservedSet

/-- The relocations of a variant's program section (R714): a record names its section by its index in the section table. -/
def programRelocs (b : Bytes) (m variant : Nat) (rs : List Reloc) : List Reloc :=
  rs.filter (fun r => match (sectionsOf b)[r.section_]? with
    | some e => e.type = 2 && e.variant = variant && forMember m e
    | none => true)

/-- The sections of the base plan or of a variant that the spec lays out, read from the file into its tables. -/
def readTables (b : Bytes) (m variant : Nat) (t : PlanTables) : PlanTables :=
  let get (type : Nat) : Bytes := sectionBytes b m type variant
  { t with
    relocs := programRelocs b m variant ((recordsOf 16 (get 3)).map relocAt)
    exprs := (expressions (get 4).length (get 4)).1
    fixups := (recordsOf 16 (get 5)).map fixupAt
    slack := (recordsOf 16 (get 6)).map slackAt
    routes := (recordsOf 8 (get 7)).map (fun e => (routeTile e, routeTile (e.drop 4)))
    rotary := (recordsOf 336 (get 0x0F)).map rotaryAt }

/-- Those sections hold whole records whose reserved fields are zero (R712, result 7). -/
def tablesRead (b : Bytes) (m variant : Nat) : Bool :=
  let get (type : Nat) : Bytes := sectionBytes b m type variant
  wholeRecords 16 (get 3) && !(expressions (get 4).length (get 4)).2 && wholeRecords 16 (get 5) && wholeRecords 16 (get 6) &&
    (recordsOf 16 (get 6)).all (fun e => zeroField e 14 2) && wholeRecords 8 (get 7) &&
    (recordsOf 8 (get 7)).all (fun e => routeTileFits e && routeTileFits (e.drop 4)) && wholeRecords 336 (get 0x0F)

/-- A plan as its file gives it to member `m` (R712, R713): header fields, digest and laid-out sections from the bytes, the rest as it came. -/
def planRead (m : Nat) (p : Plan) : Plan :=
  let b := p.file
  let types (v : Nat) : List Nat := ((sectionsOf b).filter (fun e => e.variant = v && forMember m e)).map (fun e => e.type)
  { p with
    toPlanTables := readTables b m 0 p.toPlanTables
    headerBad := !planHeaderOk b
    keySlot := fieldNat b 6 1
    debugOnly := decide (fieldNat b 7 1 % 2 = 1)
    selfTest := decide (fieldNat b 7 1 / 2 % 2 = 1)
    length := b.length
    digest := BitVec.ofNat 256 (leNat (sha256 (b.take (fieldNat b 72 8))))
    layout := BitVec.ofNat 256 (fieldNat b 8 32)
    numerics := BitVec.ofNat 256 (fieldNat b 96 32)
    members := fieldNat b 40 2
    stages := fieldNat b 42 2
    floorStep := fieldNat b 44 1
    kvFormat := BitVec.ofNat 8 (fieldNat b 45 1)
    passLength := fieldNat b 46 1
    rowsPerPhase := fieldNat b 47 1
    contextLimit := fieldNat b 48 4
    mirrorRate := fieldNat b 88 8
    encodingFault := p.encodingFault || !tablesRead b m 0
    variants := p.variants.map (fun v => { v with types := types v.number, tables := readTables b m v.number v.tables }) }

/-- The signed bytes of a plan and its signature block (R712). -/
def planSigned (p : Plan) : Bytes × Bytes := (p.file.take (fieldNat p.file 72 8), p.file.drop (fieldNat p.file 72 8))

end Sys2Proof.Machine
end

