-- ==== Sys2Proof/Machine/Weights.lean ====
section
/-! DEFINITION. Weight images: manifests, shards, swaps and adapters (chapter 07). -/

namespace Sys2Proof.Machine

/-- Answer a write of a dictionary object (R600). -/
def State.answer (s : State) (n : Nat) : State := { s with istatus := n }

/-- Change the load in progress. -/
def State.updLoad (s : State) (f : Load → Load) : State :=
  { s with weights := { s.weights with load := s.weights.load.map f } }

/-- LoadState (R394). -/
def State.loadState (s : State) (n : Nat) : State := { s with weights := { s.weights with state := n } }

/-- A load of a kind ends with a result of R393, and the staged bytes are freed; what was in service stays (R375, R386). -/
def State.endAs (s : State) (kind : LoadKind) (code : Nat) : State :=
  let rest := if s.noImage then 0 else 2
  let s : State := { s with
    weights := { s.weights with load := none, result := code, state := rest, swapStroke := 0 }
    serve := { s.serve with drained := false } }
  let s := s.clearCause 2
  s.event 0x0900 0xFF (natLE 1 (if kind = .swap then 3 else 2) ++ natLE 1 code)

/-- The load in progress ends with a result. -/
def State.endLoad (s : State) (code : Nat) : State :=
  match s.weights.load with
  | none => s
  | some l => s.endAs l.kind code

/-- A connection of the token service over RoCEv2 (R385). -/
def State.roceTag (s : State) (tag : Nat) : Bool :=
  match (s.conn tag).bind (fun c => c.endpoint) with
  | some (.qp _) => true
  | _ => false

/-- Fields of the first 32 bytes of a source record (R385). -/
def sourceOk (r : SourceRecord) : Bool :=
  !r.reservedSet && decide (r.kind ≤ 1) && decide (r.slot ≤ 7) && decide (r.connections ≤ 8)

/-- A load of any kind is in progress: it takes the ingress engines, and a swap asked for now is busy (log entry 38). -/
def State.loadBusy (s : State) : Bool := s.weights.load.isSome || s.boot.planLoad.isSome

/-- A swap begins to stage (R386); a swap that drains holds admission (R388). -/
def State.startStaging (s : State) (r : SourceRecord) : State :=
  { s with
    weights := { s.weights with load := some { kind := .swap, src := some r }, state := 3 }
    serve := { s.serve with drained := s.serve.drained || r.policy = 0 } }

/-- SWAP_REQUEST (R385, R388): a write of 0x2300.09. -/
def State.swapRequest (s : State) (r : SourceRecord) : State :=
  if !sourceOk r || 2 < r.policy || 1 < r.flags || 7 < r.targetSlot then s.answer 3
  else if s.loadBusy then
    State.answer { s with weights := { s.weights with result := 10 } } 5
  else if s.boot.plan.isNone || (r.kind = 0 && (Table.get none s.weights.slots r.slot).isNone) || (r.kind = 1 && !s.roceTag r.connection) then
    s.answer 6
  else (s.startStaging r).answer 0

/-- SWAP_REQUEST (R385): a source record of 48 bytes. -/
def execSwapRequest (value : Bytes) (s : State) : Host.Outcome State Fault Refusal :=
  if value.length ≠ 48 then .next (s.answer 4) else .next (s.swapRequest (parseSource false value))

/-- A swap is in progress and its switch halt has not begun. -/
def State.swapping (s : State) : Bool :=
  match s.weights.load with
  | some l => l.kind = .swap && !l.refilling
  | none => false

/-- A write of 0x2300.0A (R386): the swap is cancelled before its switch. -/
def State.swapCancel (s : State) (value : Nat) : State :=
  if value ≠ 1 then s.answer 3
  else if !s.swapping then s.answer 6
  else (s.endLoad 8).answer 0

/-- SWAP_CANCEL (R386). -/
def execSwapCancel (value : Byte) (s : State) : Host.Outcome State Fault Refusal := .next (s.swapCancel value.toNat)

/-- Bytes of the module tier that no image, plan area or token copy holds, with a staged image of `len` bytes beside (R386, R729). -/
def State.moduleRoom (s : State) (len : Nat) : Bool :=
  let up := ((List.range 16).filter (fun e => s.regionUsable (edgeRegions.getD e 0))).length
  let areas := match s.boot.plan with
    | some p => (p.areas.filter (fun a => a.tier = 1)).foldl (fun n a => n + a.size) 0
    | none => 0
  decide (s.refillBytes + 2 * len + areas ≤ up * 128000000000)

/-- Bytes of the stack tier that the plan's areas leave, for a cut-over's opened bursts (R370, R386). -/
def State.stackRoom (s : State) (len : Nat) : Bool :=
  let areas := match s.boot.plan with
    | some p => (p.areas.filter (fun a => a.tier = 0)).foldl (fun n a => n + a.size) 0
    | none => 0
  decide (areas + len ≤ s.stacksUp.length * 96000000000)

/-- The loader takes a rotation descriptor (R268): LOG2B 6 to 12, an odd PERM_A, no reserved FLAGS bit. -/
def rotDescOk (d : RotDesc) : Bool :=
  decide (6 ≤ d.log2b.toNat) && decide (d.log2b.toNat ≤ 12) && decide (d.permA.toNat % 2 = 1) && decide (d.flags.toNat < 4)

/-- Every image-bound descriptor of a plan has its entry, with the plan's LOG2B, that the loader takes (R268, R355). -/
def boundOk (p : Plan) (m : Manifest) : Bool :=
  (p.rot.filter (fun d => d.2.2.2)).all (fun d =>
    match m.rotKeys.find? (fun k => k.stage = d.1 && k.desc = d.2.1) with
    | some k => decide (k.key.log2b = d.2.2.1.log2b) && rotDescOk k.key
    | none => false)

/-- Whether the publisher key slot holds a key block (R357, R707). -/
def State.slotEnrolled (s : State) (k : Nat) : Bool := (s.blob (0x802001 + k)).any (fun b => b ≠ 0)

/-- Both signatures of R356 over a message verify under the keys of a publisher slot, which is not empty (R357, R712). -/
def State.signedBy (s : State) (k : Nat) (msg signature : Bytes) : Bool :=
  s.slotEnrolled k && Config.verify (s.blob (0x802001 + k)) msg signature

/-- A manifest is as its publisher signed it, and has no reserved field set (R357); one whose other fields are not as R351 to R355 require is
taken so too (log entry 57). -/
def State.manifestGood (s : State) (m : Manifest) : Bool := !m.bad && s.signedBy m.keySlot m.signed m.signature

/-- The image in this wafer's flash that a load reads (R372, R690, R719); none where it comes from a host, or down the broadcast tree. -/
def State.flashImage (s : State) (l : Load) : Option Image :=
  match l.kind with
  | .boot => Table.get none s.weights.slots (s.dictNat 0x23000B)
  | .plan => if s.isMember then none else ((s.boot.planLoad.bind (fun q => q.src)).bind (fun r => Table.get none s.weights.slots r.imageSlot))
  | .swap => if s.isMember then none else l.src.bind (fun r => if r.kind = 0 then Table.get none s.weights.slots r.slot else none)

/-- The manifest that a load has read (R371): the bytes that came, or those of the image in flash. -/
def State.manifestIn (s : State) (l : Load) (got : Option Bytes) : Option Manifest :=
  got.map (fun b => match s.flashImage l with
    | some i => i.man
    | none => manifestOf b)

/-- An ingress engine can open shards (R364, R646): that of an edge region, powered and enabled. -/
def State.ingressUp (s : State) : Bool :=
  (List.range 16).any (fun e => s.powered (edgeRegions.getD e 0) && s.blockReady (edgeRegions.getD e 0) 6)

/-- The result code that refuses a manifest (R357-R363, R386): reading, signatures and kind, envelope, layout, epoch, descriptors, room. -/
def State.manifestFault (s : State) (l : Load) (m : Manifest) : Option Nat :=
  let lenOk := match l.src with
    | some r => decide (r.length = m.imageLength)
    | none => true
  if s.boot.recordState = 3 || !s.manifestGood m || m.kind ≠ 0 || !lenOk then some 1
  else if (s.ident.contentKey m).isNone then some 2
  else match s.boot.plan with
    | none => some 3
    | some p =>
      if m.layout ≠ p.layout then some 3
      else if !(decide (s.weights.floor.toNat < m.epoch.toNat) ||
          (m.epoch = s.weights.floor && m.imageId = s.weights.floorImage)) then some 4
      else if !boundOk p m then some 11
      else
        let cutover := match l.src with
          | some r => l.kind = .swap && r.policy = 1
          | none => false
        if !s.moduleRoom m.imageLength || (cutover && !s.stackRoom m.imageLength) then some 6 else none

/-- The bytes of a manifest (R350, R356): those its signatures are over, and the signatures. -/
def manifestBytes (m : Manifest) : Bytes := m.signed ++ m.signature

/-- The record of a shard that a reader has: one staged, or one in its flash (R373, R374). -/
def State.recordHeld (s : State) (shard : Nat) : Option Bytes :=
  match s.weights.load with
  | none => none
  | some l => match Table.get none l.records shard with
    | some b => some b
    | none => (s.flashImage l).bind (fun f => Table.get none f.records shard)

/-- The reader sends a manifest (kind 1) or, once, a shard record (kind 2) down the broadcast tree as it arrives (R371, R373);
at boot every wafer loads from its own flash. -/
def State.broadcast (s : State) (kind obj : Nat) (bytes : Bytes) : State :=
  match s.weights.load with
  | none => s
  | some l =>
    if !s.isRoot || l.kind = .boot || l.sent.contains (kind, obj) then s
    else
      (s.children.foldl (fun (s : State) j => s.sendObject j kind obj (some bytes)) s).updLoad
        (fun l => { l with sent := l.sent ++ [(kind, obj)] })

/-- The value of a source element (R369): BF16, FP16, E4M3 or E5M2; `none` for NaN and infinities. -/
def sourceElem (fmt : Nat) (bs : Bytes) : Option FP :=
  let v : FP :=
    if fmt = 1 then bf16 (BitVec.ofNat 16 (leNat bs))
    else if fmt = 2 then
      let c := leNat bs
      if c / 1024 % 32 = 31 then .nan else
        let mag := floatMag 5 10 15 (c % 32768)
        .fin (decide (32768 ≤ c)) mag.1 mag.2
    else if fmt = 3 then
      let c := leNat bs
      if c % 128 = 127 then .nan else
        let mag := floatMag 4 3 7 (c % 128)
        .fin (decide (128 ≤ c)) mag.1 mag.2
    else
      let c := leNat bs
      if 124 ≤ c % 128 then .nan else
        let mag := floatMag 5 2 15 (c % 128)
        .fin (decide (128 ≤ c)) mag.1 mag.2
  if nonFinite v then none else some v

/-- Bytes of a source element. -/
def sourceSize (fmt : Nat) : Nat := if fmt = 1 || fmt = 2 then 2 else 1

/-- All elements of a list of optional values. -/
def allSome {α : Type} : List (Option α) → Option (List α)
  | [] => some []
  | none :: _ => none
  | some x :: r => (allSome r).map (fun l => x :: l)

/-- A row rotated in blocks of 2^k (R367); `none` where a value leaves the FP32 range. -/
def rotateRow (d : Option RotDesc) (row : List FP) : Option (List FP) :=
  match d with
  | none => some row
  | some d =>
    let k := d.log2b.toNat
    let ws := (chunksOf (2 ^ k) row.length row).flatMap (fun b => rotBlock d k b)
    let vs := ws.map fp32
    if vs.any nonFinite then none else some vs

/-- The elements of one K_w x 64 block in its element order (R224, R367): element n is input row floor(n / 64), output
column n mod 64. -/
def blockElems (rows : List (List FP)) (kw i j : Nat) : List FP :=
  (List.range (kw * 64)).map (fun n => (rows.getD (64 * i + n % 64) []).getD (kw * j + n / 64) (.fin false 0 0))

/-- The elements of a tensor in the order its bursts hold them: blocks of 64 output features by K_w input features, input
blocks of one output group in ascending order (R367, log entry 21). -/
def tensorElems (rows : List (List FP)) (nrows ncols kw : Nat) : List FP :=
  (List.range (ceilDiv nrows 64)).flatMap (fun i => (List.range (ceilDiv ncols (max 1 kw))).flatMap (fun j => blockElems rows kw i j))

/-- XS raised by 1 in a burst's header (R273, R367). -/
def raiseXs (bs : Bytes) : Bytes :=
  match bs with
  | a :: x :: r => a :: (x + 1) :: r
  | l => l

/-- The elements that saturate in a burst (R240, R369): their magnitude lies above Qmax times their scale. -/
def saturatedIn (fmt : Nat) (sh : FmtShape) (xs : List FP) (burst : Bytes) : Nat :=
  let e : Int := ((burst.getD 1 0).toNat : Int) - 127
  let scale (i : Nat) : Dy :=
    if sh.gs = 0 then (1, e) else Dy.mul (scaleVal (burst.getD (2 + i / sh.gs * sh.gb) 0).toNat) (1, e)
  ((xs.zipIdx).filter (fun p => match finMag p.1 with
    | some a => Dy.lt (Dy.mul (qMax fmt) (scale p.2)) a
    | none => false)).length

/-- The bursts of a source-layout tensor (R367-R369), with the elements that saturated; `none` is result code 7. -/
def convertTensor (t : TensorEntry) (d : Option RotDesc) (bytes : Bytes) : Option (List Bytes × Nat) :=
  let es := (chunksOf (sourceSize t.srcFmt) (t.rows * t.cols) bytes).map (sourceElem t.srcFmt)
  match allSome es with
  | none => none
  | some vs =>
    match allSome ((chunksOf t.cols t.rows vs).map (rotateRow d)) with
    | none => none
    | some rows =>
      match fmtShape t.tgtFmt with
      | none => some ([], 0)
      | some sh =>
        let groups := chunksOf sh.nf (t.rows * t.cols + 1) (tensorElems rows t.rows t.cols (kW t.tgtFmt))
        let bs := groups.map (fun g => packBurst t.tgtFmt false none g)
        let sat := ((groups.zip bs).map (fun p => saturatedIn t.tgtFmt sh p.1 p.2)).foldl (fun a b => a + b) 0
        some (if t.raised then bs.map raiseXs else bs, sat)

/-- The opened bytes of a tensor, in pieces of 128, once all its shards are there. -/
def tensorPieces (opened : Table (Option (List Bytes))) (t : TensorEntry) : Option (List Bytes) :=
  (allSome ((List.range t.shardCount).map (fun i => Table.get none opened (t.firstShard + i)))).map (fun l => l.flatMap id)

/-- A plan's descriptor as an image completes it (R355): an image-bound one takes every field from the image. -/
def imageRot (m : Manifest) (d : Nat × Nat × RotDesc × Bool) : RotDesc :=
  if d.2.2.2 then
    match m.rotKeys.find? (fun k => k.stage = d.1 && k.desc = d.2.1) with
    | some k => k.key
    | none => d.2.2.1
  else d.2.2.1

/-- The rotation descriptor of a tensor (R352, R355). -/
def tensorRot (p : Plan) (m : Manifest) (t : TensorEntry) : Option RotDesc :=
  if t.rotDesc = 0xFF then none
  else match p.rot.find? (fun d => d.1 = t.stage && d.2.1 = t.rotDesc) with
    | some d => some (imageRot m d)
    | none => none

/-- One weight line written to its place (R365): a scratch line of a tile with valid codes, or, for a key past every
tile, a tier address (log entry 21). -/
def State.placeLine (s : State) (place : Nat × Nat) (bs : Bytes) : State :=
  if place.1 < 16384 then s.updTile (TileId.ofKey place.1) (fun x => writeLine x place.2 (padTo 128 bs) false)
  else s.tierStore place.2 (padTo 128 bs)

/-- The lines of a tensor with their places (R365, R367), those of a streamed crew's buffers beside its store (R376), and the
elements that saturated; `none` is result code 7. -/
def tensorLines (p : Plan) (m : Manifest) (opened : Table (Option (List Bytes))) (t : TensorEntry) :
    Option (List ((Nat × Nat) × Bytes) × Nat) :=
  match tensorPieces opened t with
  | none => some ([], 0)
  | some pieces =>
    let put (bs : List Bytes) := (Table.get [] p.weightMap t.mapEntry).zip bs ++ (Table.get [] p.bufferMap t.mapEntry).zip bs
    if t.source then (convertTensor t (tensorRot p m t) (pieces.flatMap id)).map (fun q => (put q.1, q.2))
    else some (put pieces, 0)

/-- A tensor is written where the plan's weight map puts it (R365); `none` is result code 7. -/
def State.placeTensor (s : State) (p : Plan) (m : Manifest) (opened : Table (Option (List Bytes))) (t : TensorEntry) : Option State :=
  (tensorLines p m opened t).map (fun q => (q.1.foldl (fun (s : State) e => s.placeLine e.1 e.2) s).count 0x23000E q.2)

/-- Every tensor of an image is written (R389); `none` is result code 7. -/
def State.placeImage (s : State) (p : Plan) (m : Manifest) (opened : Table (Option (List Bytes))) : Option State :=
  m.tensors.foldl (fun (a : Option State) t => a.bind (fun s => s.placeTensor p m opened t)) (some s)

/-- Image-bound descriptors and the rounding key are written to every tile (R355, R389). -/
def State.writeImageKeys (s : State) (p : Plan) (m : Manifest) : State :=
  p.crews.foldl (fun (s : State) c => c.seats.foldl (fun (s : State) st => s.updTile st.tile (fun x =>
    { x with
      srKey0 := m.roundingKey.setWidth 32
      srKey1 := BitVec.ofNat 32 (m.roundingKey.toNat / 2 ^ 32)
      rot := (p.rot.filter (fun d => d.1 = c.stage && d.2.2.2)).foldl (fun (t : Table RotDesc) d => Table.put {} t d.2.1 (imageRot m d)) x.rot })) s) s

/-- An image is in service (R389, R394): what tiles and Cox hold of it. -/
def State.imageIn (s : State) (p : Plan) (m : Manifest) (l : Load) : State :=
  let s := s.writeImageKeys p m
  { s with weights := { s.weights with
      newEpoch := some (m.epoch, m.imageId)
      layout := m.layout
      roundingKey := m.roundingKey
      vocab := manifestVocab m
      rotKeys := m.rotKeys
      copy := l.opened
      copyRecords := l.records
      copyMan := some m
      key := l.key
      state := 2 } }

/-- Rewrite the weight lines whose places satisfy a condition from the refill copy (R364, R469, R483). -/
def State.rewriteLines (s : State) (at_ : Nat × Nat → Bool) : State :=
  match s.boot.plan, s.weights.copyMan with
  | some p, some m =>
    let lines := m.tensors.flatMap (fun t => match tensorLines p m s.weights.copy t with
      | some q => q.1.filter (fun e => at_ e.1)
      | none => [])
    lines.foldl (fun (s : State) e => s.placeLine e.1 e.2) s
  | _, _ => s

/-- Ingress engines rewrite the lost weight pages from the module-tier refill copy (R469, R483); the stroke in which they
have done so is open, and drawn from the free bits (log entry 33). -/
def State.refillLost (s : State) : State :=
  if s.refills = [] && s.tier.refills = [] then s
  else
    let go := (Config.freeBits s.free).getLsbD 0
    let s := s.useFree 1
    if !go then s
    else
      let inPage (c : Nat × Nat) (e : Nat × Nat) : Bool :=
        decide (16384 ≤ e.1) && decide (chanBase c.1 + 4096 * c.2 ≤ e.2) && decide (e.2 < chanBase c.1 + 4096 * (c.2 + 1))
      let s' := s.rewriteLines (fun e => s.refills.any (fun q => decide (e.1 = q.1) && decide (e.2 / 32 = 32 * q.2.1 + q.2.2)) ||
        s.tier.refills.any (fun c => inPage c e))
      let s'' := s.tier.refills.foldl (fun (u : State) c => if u.isCoded c.1 c.2 then u.tierReseal c.1 c.2 else u) s'
      { s'' with
        refills := []
        tier := { s''.tier with refills := [] } }

/-- The record of which plan, epoch and generation each region was last filled under (R732). -/
def State.recordFill (s : State) (p : Plan) (epoch : BitVec 64) : State :=
  let used := (p.crews.flatMap (fun c => crewRegions c)).eraseDups
  used.foldl (fun (s : State) r =>
    { s with boot := { s.boot with filled := Table.put none s.boot.filled r (some (p.digest, epoch, Table.get 0 s.boot.regionGen r)) } }) s

/-- A wafer keeps a shard (R373): a solo wafer each one, a member of a regatta those whose tensors its plan or a loss variant places. -/
def State.keepsShard (s : State) (m : Manifest) (i : Nat) : Bool :=
  match s.boot.plan with
  | none => true
  | some p => !s.inRegatta || m.tensors.any (fun t =>
      decide (t.firstShard ≤ i) && decide (i < t.firstShard + t.shardCount) &&
        (Table.get [] p.weightMap t.mapEntry ≠ [] || p.variants.any (fun v => Table.get [] v.tables.weightMap t.mapEntry ≠ [])))

/-- Every shard that this wafer keeps has arrived. -/
def State.loadComplete (s : State) (l : Load) : Bool :=
  match l.man with
  | some m => (List.range m.shards.length).all (fun i => (Table.get none l.opened i).isSome || !s.keepsShard m i)
  | none => false

/-- A boot's or plan's fill ends with the image in place (R376, R721); none is result 7. -/
def State.fillIn (s : State) : Option State :=
  match s.weights.load, s.boot.plan with
  | some l, some p =>
    match l.man with
    | none => some s
    | some m => (s.placeImage p m l.opened).map (fun s =>
      let s := (s.imageIn p m l).recordFill p m.epoch
      let s : State := { s with
        weights := { s.weights with load := none, result := 0 }
        boot := { s.boot with filled_ := true } }
      s.event 0x0900 0xFF (natLE 1 2 ++ natLE 1 0))
  | _, _ => some s

/-- A plan load or the boot's load ends because its fill failed (R720). -/
def State.planUnfilled (s : State) : State :=
  State.event { s with boot := { s.boot with planLoad := none, planResult := 13 } } 0x0900 0xFF (natLE 1 1 ++ natLE 1 13)

/-- Under cut-over the staged shards stand in the stack tier as opened bursts (R386): the source tensors are converted as they are staged, and
one that cannot be fails the load there (R369). -/
def State.stagedBad (s : State) (l : Load) (r : SourceRecord) : Bool :=
  match s.boot.plan, l.man with
  | some p, some m => r.policy = 1 && m.tensors.any (fun t => (tensorLines p m l.opened t).isNone)
  | _, _ => false

/-- STAGING_COMPLETE (R387, R388): staging ends and Cox names the switch stroke; a drain waits for its sequences. -/
def execStagingComplete (s : State) : Host.Outcome State Fault Refusal :=
  match s.weights.load with
  | none => .next s
  | some l => match l.src with
    | none => .next s
    | some r =>
      if l.kind ≠ .swap || l.staged || !s.loadComplete l then .next s
      else if s.stagedBad l r then .next (s.endLoad 7)
      else
        let lead := s.dictNat 0x230007
        let n := if r.stroke = 0 || laterMod 48 (s.clk.stroke.toNat + lead) r.stroke then (s.clk.stroke + BitVec.ofNat 48 lead).toNat else r.stroke
        let s := s.updLoad (fun l => { l with staged := true, stagedMs := s.ms, switchAt := some n })
        let s : State := { s with weights := { s.weights with state := 4, swapStroke := n } }
        if r.policy = 0 then .next s
        else if s.clk.running then .next (s.nameEasyAll 2 true (some (BitVec.ofNat 48 n)))
        else .next s

/-- Old-epoch nodes leave the tree (R348, R388). -/
def State.withdrawNodes (s : State) : State :=
  s.serve.t.sets.foldl (fun (s : State) (e : Nat × Option PageSet) => match e.2 with
    | some p =>
      if p.key.isNone then s
      else if p.refs = 0 then s.putSet e.1 none
      else s.putSet e.1 (some { p with key := none })
    | none => s) s

/-- What a swap's policy does to the sequences at the switch (R388, R392). -/
def State.policyAtSwitch (s : State) (policy : Nat) (epoch : BitVec 64) : State :=
  let old (id : Word) : Bool := id ≠ 0 && s.weights.adapters.any (fun a => a.id = id && a.epoch ≠ 0 && a.epoch ≠ epoch)
  let s := (s.serve.t.reqs.filter (fun r => (r.active || r.state = .queued) && old r.adapter)).foldl
    (fun (s : State) r => s.complete r.id 4 0) s
  if policy = 0 then
    let s := (s.serve.t.reqs.filter (fun r => r.active)).foldl (fun (s : State) r => s.complete r.id 4 0) s
    (s.serve.t.reqs.filter (fun r => r.state = .queued && r.epoch ≠ epoch)).foldl (fun (s : State) r => s.freshStart r.id epoch) s
  else if policy = 1 then
    let s := s.withdrawNodes
    let ids := (s.serve.t.reqs.filter (fun r => r.active)).map (fun r => r.id)
    let s := s.updTables (fun t => { t with reqs := t.reqs.map (fun r => if r.active then { r with crossed := true } else r) })
    let s := s.updLoad (fun l => { l with crossedNow := ids })
    (s.serve.t.reqs.filter (fun r => r.state = .queued)).foldl (fun (s : State) r => s.freshStart r.id epoch) s
  else (s.serve.t.reqs.filter (fun r => r.active || r.state = .queued)).foldl (fun (s : State) r => s.freshStart r.id epoch) s

/-- Strokes halt for a switch named for stroke `n` (R84), or for the next one: at its catch when it is due, or at once while strokes
are halted. `none` while the stroke lies ahead. -/
def State.haltFor (s : State) (cause : Nat) (n : Option Nat) : Option State :=
  let e : NamedEasy := { cause := cause, clearing := true }
  let ahead := match n with
    | some n => laterMod 48 n (s.clk.stroke + 1).toNat
    | none => false
  if !s.clk.running then
    if (s.clk.easy = 2 || !s.clk.begun) && !s.clk.named.any (fun e => e.cause = cause) && s.clk.causes.contains cause then some s
    else
      let s : State := { s with clk := { s.clk with named := s.clk.named.filter (fun e => e.cause ≠ cause) } }
      some (s.enterEasy [e])
  else if ahead then none
  else
    let s := s.advanceToTick (s.clk.catchTick + s.clk.len)
    let s : State := { s with clk := { s.clk with named := s.clk.named.filter (fun e => e.cause ≠ cause) } }
    some ((s.endStroke false).enterEasy (s.easyDue ++ [e]))

/-- SWAP_SWITCH (R388, R389): the switch halt begins, the policy acts, and the refill starts. -/
def execSwapSwitch (s : State) : Host.Outcome State Fault Refusal :=
  match s.weights.load with
  | none => .next s
  | some l => match l.src, l.man, l.switchAt with
    | some r, some m, some n =>
      let busy := r.policy = 0 && s.serve.t.reqs.any (fun r => r.active)
      if !l.staged || l.refilling || busy then .next s
      else match s.haltFor 2 (if r.policy = 0 then none else some n) with
        | none => .next s
        | some s =>
          let s := if s.weights.epoch = 0 then s else s.policyAtSwitch r.policy m.epoch
          .next ((s.updLoad (fun l => { l with refilling := true })).loadState 5)
    | _, _, _ => .next s

/-- DRAIN_TIMEOUT (R388): 0x2300.08 ms after staging completed, the sequences still active complete. -/
def execDrainTimeout (s : State) : Host.Outcome State Fault Refusal :=
  match s.weights.load with
  | none => .next s
  | some l =>
    let lim := s.dictNat 0x230008
    let drain := match l.src with
      | some r => r.policy = 0
      | none => false
    if !drain || !l.staged || l.refilling || lim = 0 then .next s
    else
      let s := s.advanceTo ((l.stagedMs + lim) * msTicks)
      .next ((s.serve.t.reqs.filter (fun r => r.active)).foldl (fun (s : State) r => s.complete r.id 4 0) s)

/-- Cox resumes after a refill, or leaves a plan that has not run yet to its stake (R385, R389, R721). -/
def State.afterRefill (s : State) : State := if s.boot.staked then s.nameResume s.clk.step else s

/-- SWITCH_REFILL_COMPLETE (R389, R390, R378): the refill ends, keys are written and a resume is named; where a third failure
(`failed`) ends the swap, the old epoch is refilled and its sequences are not epoch-crossed. -/
def execSwitchRefillComplete (failed : Bool) (s : State) : Host.Outcome State Fault Refusal :=
  match s.weights.load, s.boot.plan with
  | some l, some p =>
    match l.src, l.man with
    | some r, some m =>
      if !l.refilling then .next s
      else
        let back (s : State) (code : Nat) : State :=
          let s := match s.weights.copyMan with
            | some m' => (s.placeImage p m' s.weights.copy).getD s
            | none => s
          let s := s.updTables (fun t => { t with reqs := t.reqs.map (fun q =>
            let q := if q.epoch = m.epoch && (q.active || q.state = .queued) then { q with epoch := s.weights.epoch } else q
            if l.crossedNow.contains q.id then { q with crossed := false } else q) })
          (s.endLoad code).afterRefill
        if failed then .next (back s 9)
        else match s.placeImage p m l.opened with
          | none => .next (back s 7)
          | some s =>
            let s := (s.imageIn p m l).recordFill p m.epoch
            let s : State := { s with weights := { s.weights with
              load := none
              result := 0
              swapStroke := 0
              committing := if r.flags % 2 = 1 then some (r.targetSlot, ({ man := m, records := l.records } : Image)) else s.weights.committing } }
            let s := s.event 0x0900 0xFF (natLE 1 3 ++ natLE 1 0)
            let s := s.clearCause 2
            .next (State.afterRefill { s with boot := { s.boot with filled_ := true } })
    | _, _ => .next s
  | _, _ => .next s

/-- SLOT_COMMIT_COMPLETE (R391): after the first catch under the new epoch, the image stands in its flash slot. -/
def execSlotCommitComplete (s : State) : Host.Outcome State Fault Refusal :=
  match s.weights.committing with
  | none => .next s
  | some (k, m) =>
    if s.weights.newEpoch.isSome then .next s
    else
      let s : State := { s with weights := { s.weights with committing := none, slots := Table.put none s.weights.slots k (some m) } }
      .next (s.storeDict 0x23000B k)

/-- The image that a source record's source gives (R385): that of a flash slot, or the bytes fetched from a host. -/
def State.imageFrom (s : State) (r : SourceRecord) (fetched : Option Bytes) : Option Image :=
  fetched.bind (fun b => if r.kind = 0 then Table.get none s.weights.slots r.slot else some (imageOf b))

/-- The code that refuses an adapter's registration (R363, R380, R393). -/
def State.adapterFault (s : State) (r : SourceRecord) (m : Manifest) : Option Nat :=
  if s.boot.recordState = 3 || !s.manifestGood m || m.kind ≠ 1 || m.imageLength ≠ r.length then some 1
  else if (s.ident.contentKey m).isNone then some 2
  else if m.layout ≠ s.weights.layout then some 3
  else none

/-- A write of 0x3130.04 (R380, R385): an adapter image, none where it cannot be read; it is registered, or refused. -/
def State.adapterRegister (s : State) (r : SourceRecord) (fetched : Option Bytes) : State :=
  if !sourceOk r then s.answer 3
  else if (r.kind = 0 && (Table.get none s.weights.slots r.slot).isNone) || (r.kind = 1 && !s.roceTag r.connection) ||
      1024 ≤ s.weights.adapters.length then s.answer 6
  else
    let s := s.answer 0
    let refuse (c : Nat) : State := { s with weights := { s.weights with result := c } }
    match s.imageFrom r fetched with
    | none => refuse 1
    | some i => match s.adapterFault r i.man with
      | some c => refuse c
      | none =>
        if s.weights.adapters.any (fun a => a.id = i.man.adapterId) then s
        else { s with weights := { s.weights with
          result := 0
          adapters := s.weights.adapters ++ [{ id := i.man.adapterId, epoch := i.man.epoch, rank := i.man.adapterRank, image := some i }] } }

/-- ADAPTER_REGISTER (R380): a source record of 32 bytes. -/
def execAdapterRegister (value : Bytes) (fetched : Option Bytes) (s : State) : Host.Outcome State Fault Refusal :=
  if value.length ≠ 32 then .next (s.answer 4) else .next (s.adapterRegister (parseSource false value) fetched)

/-- A write of 0x3130.05 (R384): refused while a request names the adapter; its nodes and boathouse entries go with it. -/
def State.adapterUnregister (s : State) (id : Word) : State :=
  if id = 0 then s.answer 3
  else if !s.weights.adapters.any (fun a => a.id = id) ||
      s.serve.t.reqs.any (fun r => r.adapter = id && r.state ≠ .parked) then s.answer 6
  else
    let s : State := { s with weights := { s.weights with adapters := s.weights.adapters.filter (fun a => a.id ≠ id) } }
    let s := s.serve.t.sets.foldl (fun (s : State) (e : Nat × Option PageSet) => match e.2 with
      | some p => if p.adapter = id && p.key.isSome then s.putSet e.1 (if p.refs = 0 then none else some { p with key := none }) else s
      | none => s) s
    let s := (s.serve.t.reqs.filter (fun r => r.adapter = id && r.state = .parked)).foldl (fun (s : State) r => s.discardEntry r.id) s
    s.answer 0

/-- ADAPTER_UNREGISTER (R384). -/
def execAdapterUnregister (id : Word) (s : State) : Host.Outcome State Fault Refusal := .next (s.adapterUnregister id)

/-- The opened bursts of a registered adapter's shards (R364, R370); none where a tag fails. -/
def State.adapterOpened (s : State) (a : Adapter) : Option (Table (Option (List Bytes))) :=
  match a.image with
  | none => some []
  | some i => (s.ident.contentKey i.man).bind (fun key =>
      (allSome ((List.range i.man.shards.length).map (fun k =>
        (openShard key i.man k ((Table.get none i.records k).getD [])).map (fun b => (k, some (chunksOf 128 (b.length + 1) b)))))))

/-- Bytes of an adapter's opened bursts (R352, R381). -/
def Adapter.size (a : Adapter) : Nat :=
  match a.image with
  | some i => i.man.tensors.foldl (fun n t => n + t.plainLength) 0
  | none => 0

/-- Bytes of the adapter area of the plan in service (R381, R715). -/
def State.adapterArea (s : State) : Nat :=
  match s.boot.plan with
  | some p => (p.areas.filter (fun a => a.kind = 1 && a.tier = 0 && s.stacksUp.contains a.chan)).foldl (fun n a => n + a.size) 0
  | none => 0

/-- Resident adapters leave until one of `size` bytes has room beside those that stay (R381): the least recently used that no active or queued
request names, `victims`, oldest first. `none` where it cannot have room. -/
def adapterRoom (limit area size : Nat) (resident : List Adapter) : List Adapter → Option (List Word)
  | [] =>
    if decide (resident.length < limit) && decide (size + resident.foldl (fun n a => n + a.size) 0 ≤ area) then some [] else none
  | v :: rest =>
    if decide (resident.length < limit) && decide (size + resident.foldl (fun n a => n + a.size) 0 ≤ area) then some []
    else (adapterRoom limit area size (resident.filter (fun a => a.id ≠ v.id)) rest).map (fun out => v.id :: out)

/-- ADAPTER_RESIDENT (R381): an adapter that a queued request names is resident, unused ones having made room, once the ingress engines have
opened its shards (log entry 59). -/
def execAdapterResident (id : Word) (s : State) : Host.Outcome State Fault Refusal :=
  let wanted := s.serve.t.reqs.any (fun r => r.state = .queued && r.adapter = id)
  match s.weights.adapters.find? (fun a => a.id = id && !a.resident) with
  | none => .next s
  | some new =>
    let inUse (a : Adapter) : Bool := s.serve.t.reqs.any (fun r => (r.active || r.state = .queued) && r.adapter = a.id)
    let resident := s.weights.adapters.filter (fun a => a.resident)
    let victims := sortBy (fun (a : Adapter) => a.used) (resident.filter (fun a => !inUse a))
    if !wanted then .next s
    else match adapterRoom (min 256 (s.dictNat 0x313003)) s.adapterArea new.size resident victims, s.adapterOpened new with
      | some out, some t => .next (State.count { s with weights := { s.weights with
          adapters := s.weights.adapters.map (fun a =>
            if a.id = id then { a with resident := true, used := s.now + 1, opened := t }
            else if out.contains a.id then { a with resident := false, opened := [] }
            else a) } } 0x313006 1)
      | _, _ => .next s

end Sys2Proof.Machine
end

