-- ==== Sys2Proof/Machine/PlanLoad.lean ====
section
/-! DEFINITION. Plan loading: latencies and travel, fixups and slack checks, grants and allowances, the checks of the first
part, the switch and the stake (chapters 02 and 15). -/

namespace Sys2Proof.Machine

/-- Cycles of a hop between logical rows `y` and `y + 1` of a column (R107, R30). -/
def State.hopY (s : State) (r x y : Nat) : Nat := latency s.ident.stepping (if s.bypassOf r x = y + 1 then 2 else 1)

/-- Cycles from tile (x, y) of region `r` to a tile under routes `rt` (R107, R499), injection and ejection apart; none where no
route leads there within the hops allowed. -/
def State.walk (s : State) (rt : Table Nat) (dst : TileId) : Nat → Nat → Nat → Nat → Option Nat
  | 0, _, _, _ => none
  | n + 1, r, x, y =>
    let st := s.ident.stepping
    let side := Table.get 15 rt (64 * r + dst.region.toNat)
    let tg : Option (Nat × Nat) :=
      if r = dst.region.toNat then some (dst.x.toNat, dst.y.toNat)
      else if side = 15 || side = 0 then none
      else match logicalExit r (side - 1) with
        | (true, hi) => some (if hi then 15 else 0, y)
        | (false, hi) => some (x, if hi then regionRows r - 1 else 0)
    match tg with
    | none => none
    | some (tx, ty) =>
      if x < tx then (s.walk rt dst n r (x + 1) y).map (fun c => c + latency st 1)
      else if tx < x then (s.walk rt dst n r (x - 1) y).map (fun c => c + latency st 1)
      else if y < ty then (s.walk rt dst n r x (y + 1)).map (fun c => c + s.hopY r x y)
      else if ty < y then (s.walk rt dst n r x (y - 1)).map (fun c => c + s.hopY r x (y - 1))
      else if r = dst.region.toNat then some 0
      else match neighbour r (side - 1) with
        | none => none
        | some q =>
          let e := pairedEntry r q x y (side - 1)
          (s.walk rt dst n q e.1 e.2).map (fun c => c + latency st 3 + latency st 4)

/-- Travel between two tiles in cycles (R107). -/
def State.travel (s : State) (rt : Table Nat) (src dst : TileId) : Option Nat :=
  (s.walk rt dst 4096 src.region.toNat src.x.toNat src.y.toNat).map (fun c =>
    c + latency s.ident.stepping 5 + latency s.ident.stepping 6)

/-- The travel of every entry of a plan's route table (R112). -/
def State.routeTravel (s : State) (rt : Table Nat) (p : Plan) : List (Option Nat) := p.routes.map (fun e => s.travel rt e.1 e.2)

/-- The one-way delay a link publishes (R110): 0xFFFF untrained. -/
def State.linkDelay (s : State) (k : Nat) : Nat := (s.link k).published.toNat

/-- A symbol's value (R112); none for a number that names none. -/
def State.symbol (s : State) (tr : List (Option Nat)) (sym : Nat) : Option Nat :=
  if 1 ≤ sym && sym ≤ 0xF then some (latency s.ident.stepping sym)
  else if 0x100 ≤ sym && sym ≤ 0x15F then some (s.linkDelay (sym - 0x100))
  else if 0x1000 ≤ sym && sym ≤ 0x7FFF then (tr.getD (sym - 0x1000) none)
  else none

/-- A link symbol: its unit is ticks (R113). -/
def tickSymbol (sym : Nat) : Bool := decide (0x100 ≤ sym) && decide (sym ≤ 0x15F)

/-- The value of an expression (R111). -/
def State.exprValue (s : State) (tr : List (Option Nat)) (e : List (Nat × Int)) : Option Int :=
  e.foldl (fun (a : Option Int) t => match a, s.symbol tr t.1 with
    | some v, some x => some (v + t.2 * (x : Int))
    | _, _ => none) (some 0)

/-- A value fits a field (R114). -/
def fitsField (v : Int) (width : Nat) (signed : Bool) : Bool :=
  if signed then decide (-(2 ^ (width - 1) : Int) ≤ v) && decide (v < (2 ^ (width - 1) : Int))
  else decide (0 ≤ v) && decide (v < (2 ^ width : Int))

/-- Bytes replaced at an offset. -/
def patchAt (bs : Bytes) (off : Nat) (new : Bytes) : Bytes := bs.take off ++ new ++ bs.drop (off + new.length)

/-- A field of the 32-bit word at an offset replaced. -/
def patchField (bs : Bytes) (off lsb width v : Nat) : Bytes :=
  let w := leNat ((bs.drop off).take 4)
  let low := w % 2 ^ lsb
  let high := w / 2 ^ (lsb + width)
  patchAt bs off (natLE 4 (low + v % 2 ^ width * 2 ^ lsb + high * 2 ^ (lsb + width)))

/-- One latency fixup applied to the program section (R113, R114); none is result 4. -/
def State.applyFixup (s : State) (tr : List (Option Nat)) (p : Plan) (bs : Bytes) (f : Fixup) : Option Bytes :=
  match p.exprs[f.expr]? with
  | none => none
  | some e =>
    if !e.all (fun t => tickSymbol t.1 = decide (f.unit = 1)) then none
    else match s.exprValue tr e with
      | none => none
      | some v =>
        let v := v + f.addend
        if fitsField v f.width f.signed then some (patchField bs f.target f.lsb f.width (v % (2 ^ f.width : Int)).toNat) else none

/-- The logical tile of a crew's seat. -/
def seatTile (p : Plan) (crew seat : Nat) : Option TileId := (p.crews[crew]?).bind (fun c => (c.seats[seat]?).map (fun x => x.tile))

/-- The device address of an area (R714, R715): areas of one stack or channel follow each other in the map's order from
the start of its window (log entry 24). -/
def areaBase (p : Plan) (i : Nat) : Option Nat :=
  (p.areas[i]?).map (fun a =>
    let key := if a.tier = 0 then a.chan else 32 + a.chan
    let before := (p.areas.take i).filter (fun b => b.tier = a.tier && b.chan = a.chan)
    chanBase key + before.foldl (fun n b => n + b.size) 0)

/-- One relocation applied to the program section (R714); none for a record that names nothing. -/
def applyReloc (p : Plan) (bs : Bytes) (r : Reloc) : Option Bytes :=
  match r.kind with
  | 1 => (seatTile p r.crewOrArea r.seat).map (fun t => patchAt bs r.target (natLE 1 t.region.toNat ++ natLE 1 t.x.toNat ++ natLE 1 t.y.toNat))
  | 2 => (seatTile p r.crewOrArea r.seat).map (fun t =>
      patchField bs r.target r.lsb 14 (t.region.toNat + 64 * t.x.toNat + 1024 * t.y.toNat))
  | 3 => (areaBase p r.crewOrArea).map (fun a => patchAt bs r.target (natLE 8 (a + 128 * r.addend)))
  | _ => none

/-- The program section: the bundles of each crew's seats in order (R713). -/
def programBytes (p : Plan) : Bytes := p.crews.flatMap (fun c => c.seats.flatMap (fun st => st.program.flatMap (fun b => natLE 32 b.toNat)))

/-- The program section relocated; none is result 7. -/
def relocated (p : Plan) : Option Bytes := p.relocs.foldl (fun a r => a.bind (fun bs => applyReloc p bs r)) (some (programBytes p))

/-- The program section relocated and patched; none is result 4. -/
def State.patched (s : State) (tr : List (Option Nat)) (p : Plan) (bs : Bytes) : Option Bytes :=
  p.fixups.foldl (fun a f => a.bind (fun b => s.applyFixup tr p b f)) (some bs)

/-- A slack check holds at one entry of a stroke-length table (R116). -/
def State.slackOk (s : State) (tr : List (Option Nat)) (p : Plan) (e : StrokePair) (c : SlackCheck) : Bool :=
  match (p.exprs[c.cycExpr]?).bind (s.exprValue tr), (match c.tickExpr with
      | none => some 0
      | some i => (p.exprs[i]?).bind (s.exprValue tr)) with
  | some cyc, some tick =>
    let end_ := -(-(5 * ((c.start : Int) + cyc)) / ((10 + 2 * e.step : Nat) : Int)) + tick
    let due : Int := if c.dueKind = 0 then e.s else e.f + c.dueAdd
    decide (end_ + 2 ≤ due)
  | _, _ => false

/-- The stretch allowance of an entry is at least 2 ticks (R70, R71). -/
def State.stretchOk (s : State) (tr : List (Option Nat)) (p : Plan) (e : StrokePair) : Bool :=
  let ticks (cycles : Nat) : Nat := ceilDiv (5 * cycles) (10 + 2 * e.step)
  let delivery := ticks (tr.foldl (fun m t => max m (t.getD 0)) 0)
  let link := p.planLinks.foldl (fun m l => max m (s.linkDelay l.1)) 0
  let replay := ticks (p.checks.foldl (fun m c => max m c.replay) 0)
  decide (e.f + delivery + link + replay + 2 ≤ e.s)

/-- Every slack check of a list at every entry of both stroke-length tables (R116, R302). -/
def State.slackHolds (s : State) (tr : List (Option Nat)) (p : Plan) (checks : List SlackCheck) : Bool :=
  (p.strokes ++ p.wide).all (fun e => checks.all (fun c => s.slackOk tr p e c))

/-- Slack checks and stretch allowance at a load (R66, R71, R116, R302). -/
def State.slackAll (s : State) (tr : List (Option Nat)) (p : Plan) : Bool :=
  (p.strokes ++ p.wide).all (fun e => s.stretchOk tr p e) && s.slackHolds tr p p.slack

/-- Logical tiles of a region (R676). -/
def regionTiles (r : Nat) : Nat := 16 * regionRows r

/-- P_base in 0.1 W and P_mxu in mW of a step, as the module publishes them (R662, R671; log entry 63). -/
def State.stepPower (s : State) (k : Nat) : Nat × Nat := s.ident.stepPower.getD k (0, 0)

/-- P_fixed (R676): the largest sample of the last 60 s, never less than 5,000 W. -/
def State.fixedPower (s : State) : Nat := s.power.fixed.foldl (fun m e => max m e.2) 5000

/-- A region's allowance of active matrix units at a step (R676). -/
def State.allowance (s : State) (r k : Nat) : Nat :=
  let avail := s.power.cap - s.fixedPower
  let total := ((List.range 64).filter s.powered).foldl (fun n q => n + regionTiles q) 0
  let w := regionTiles r
  let pw := s.stepPower k
  let num := (avail * w * 2560 - pw.1 * w * total) * 1000
  if total = 0 then 0 else min w (num / (total * 2560 * pw.2))

/-- A step of a plan fits (R120): no region's largest grant exceeds its allowance. -/
def State.stepFits (s : State) (p : Plan) (k : Nat) : Bool :=
  p.grants.all (fun g => decide (g.2.foldl max 0 ≤ s.allowance g.1 k))

/-- The steps of a plan's stroke-length table. -/
def planSteps (p : Plan) : List Nat := p.strokes.map (fun e => e.step)

/-- The highest step of the plan that fits (R120). -/
def State.highestFit (s : State) (p : Plan) : Option Nat :=
  ((planSteps p).filter (fun k => s.stepFits p k)).foldl (fun (a : Option Nat) k => some (max k (a.getD 0))) none

/-- A send-table entry that names a gated edge port (R515, R647). -/
def State.toGated (s : State) (e : SendEntry) : Bool := e.valid && e.dkind = 1 && s.portGated e.dreg.toNat e.dx.toNat

/-- Every seat stands in a usable region and sends only to regions that can be reached, through blocks that are not gated
(R518, R647). -/
def State.routesOk (s : State) (usable : Nat → Bool) (rt : Table Nat) (p : Plan) : Bool :=
  p.crews.all (fun c => c.seats.all (fun st =>
    let r := st.tile.region.toNat
    usable r && decide (st.tile.y.toNat < regionRows r) &&
      st.send.all (fun e => !e.2.valid || e.2.dkind = 3 ||
        (Table.get 15 rt (64 * r + e.2.dreg.toNat) ≠ 15 && !s.toGated e.2))))

/-- Blocks a link carries in a stroke of `len` ticks (R539): 1,562,500,000 a second at generation 2, half at 1. -/
def State.linkRoom (s : State) (k len : Nat) : Nat := if (s.link k).genAct = 2 then 625 * len / 47 else 625 * len / 94

/-- Link capacity at one entry of the stroke-length table (R565), with any link failed over to its alternate, and the
port's two flits a cycle. -/
def State.linksOk (s : State) (p : Plan) (e : StrokePair) : Bool :=
  let own (k : Nat) : Nat := Table.get 0 p.linkBlocks k
  let alts (k : Nat) : Nat := (p.planLinks.filter (fun l => l.2 = k)).foldl (fun m l => max m (own l.1)) 0
  let all := (p.planLinks.map (fun l => l.1) ++ p.planLinks.map (fun l => l.2)).eraseDups
  all.all (fun k =>
    let n := own k + alts k
    decide (n ≤ s.linkRoom k e.s) && decide (n ≤ 2 * strokeCycles e.s e.step))

/-- The bandwidth of a channel in bytes a tick, as a fraction (R26, R27): 2.56 TB/s of a stack, 68.264 GB/s of a module-tier channel. -/
def chanRate (c : Nat) : Nat × Nat := if c < 32 then (1024000, 47) else (136528, 235)

/-- The weights of a plan's streams arrive on a channel before their first use in a stroke of `len` ticks, beside its key-value traffic (R48, log
entry 53): what is due by each first use, and that use's share of the traffic, fits what the channel has carried by then. -/
def streamChanOk (p : Plan) (len c : Nat) : Bool :=
  let fs := (p.budgets.flatMap (fun b => b.fetches)).filter (fun f => f.chan = c)
  let rate := chanRate c
  fs.all (fun f =>
    let due := (fs.filter (fun g => g.firstUse ≤ f.firstUse)).foldl (fun n g => n + g.bytes) 0
    decide (f.firstUse ≤ len) && decide ((due * len + Table.get 0 p.kvTraffic c * f.firstUse) * rate.2 ≤ rate.1 * f.firstUse * len))

/-- A streamed stage carries a budget that fetches all its weights (R48). -/
def streamBudgeted (p : Plan) (c : Crew) : Bool :=
  match p.budgets.find? (fun b => b.stage = c.stage) with
  | some b => decide (c.weightBytes ≤ b.fetches.foldl (fun n f => n + f.bytes) 0) && b.fetches.all (fun f => decide (f.chan < 64))
  | none => false

/-- Stream budgets and link capacity, at every pair of both stroke-length tables (R48, R302, R565). -/
def State.budgetsOk (s : State) (p : Plan) : Bool :=
  p.crews.all (fun c => !c.streamed || streamBudgeted p c) &&
    (p.strokes ++ p.wide).all (fun e => s.linksOk p e && (List.range 64).all (fun c => streamChanOk p e.s c))

/-- Tier space (R715): each area lies in a stack or channel in service that has room for it. -/
def tierOk (usable : Nat → Bool) (p : Plan) : Bool :=
  p.areas.all (fun a =>
    let sum := (p.areas.filter (fun b => b.tier = a.tier && b.chan = a.chan)).foldl (fun n b => n + b.size) 0
    decide (a.tier ≤ 1) && decide (a.chan < 32) && usable (edgeRegions.getD (a.chan / 2) 0) &&
      decide (sum ≤ popBytes (if a.tier = 0 then a.chan else 32 + a.chan)))

/-- A pair of a stroke-length table (R59, R62): 64 ≤ S ≤ 65,535, 1 ≤ F < S, and no delivery due after S. -/
def pairOk (p : Plan) (e : StrokePair) : Bool :=
  decide (64 ≤ e.s) && decide (e.s ≤ 65535) && decide (1 ≤ e.f) && decide (e.f < e.s) &&
    p.crews.all (fun c => c.seats.all (fun st => st.input.all (fun d => decide (d.due.ticks e.s e.f ≤ e.s))))

/-- The slots of a plan (R43, R399): entry phases within the pass length, 1 to 64 rows a phase, and no more slots than 64 for each
stage or 5,120. -/
def slotsOk (p : Plan) : Bool :=
  let n := p.entryPhases.length * p.rowsPerPhase
  decide (p.passLength ≠ 0) && p.entryPhases.all (fun φ => decide (φ < p.passLength)) && decide (p.entryPhases.eraseDups = p.entryPhases) &&
    decide (1 ≤ p.rowsPerPhase) && decide (p.rowsPerPhase ≤ 64) && decide (n ≤ 64 * p.stages) && decide (n ≤ 5120)

/-- No two runs of scratch lines meet. -/
def runsApart : List LineRun → Bool
  | [] => true
  | r :: rs => rs.all (fun q => q.1 ≠ r.1 || decide (q.2.1 + q.2.2 ≤ r.2.1) || decide (r.2.1 + r.2.2 ≤ q.2.1)) && runsApart rs

/-- A run of scratch lines lies in a staging bank of a seat's tile (R483). -/
def runIn (c : Crew) (r : LineRun) : Bool :=
  decide (r.2.1 % 1024 + r.2.2 ≤ 1024) && c.seats.any (fun st => decide (st.tile.key = r.1) && decide (st.roles.getD (r.2.1 / 1024) .unused = .staging))

/-- The held buffers of a layer crew fit the scratch the plan gives them (R328, log entry 56): for each pipeline slot, lines of its own in staging
banks of the crew's tiles, with room for 64 rows. -/
def heldFits (p : Plan) (slots : Nat) (g : Staging) : Bool :=
  match p.crews.find? (fun c => c.stage = g.stage) with
  | none => g.spilled
  | some c => g.spilled || (decide (slots ≤ g.places.length) &&
      g.places.all (fun q => q.all (runIn c) && decide (64 * p.stagingRow ≤ 128 * q.foldl (fun n r => n + r.2.2) 0)) && runsApart g.places.flatten)

/-- The tables whose values the loader tests (R113, R115, R119, R268, R279, R319, R328): fixups, slack checks, grants, rotation descriptors that the
image does not complete, candidate tables, rotary tables and held staging. -/
def tablesFit (p : Plan) : Bool :=
  p.fixups.all fixupFits && p.slack.all slackFits && p.grants.all (fun g => g.2.all (fun n => decide (n ≤ 16 * regionRows g.1))) &&
    p.rot.all (fun d => d.2.2.2 || rotDescOk d.2.2.1) && p.rotary.all rotaryFits &&
    p.checks.all (fun c => decide (1 ≤ c.candidates) && decide (c.candidates ≤ 4096) &&
      c.table.all (fun q => decide (q.group ≤ 8) && decide (1 ≤ q.rows) && decide (q.firstRow + q.rows ≤ 64))) &&
    p.staging.all (heldFits p (min 5120 (p.entryPhases.length * p.rowsPerPhase)))

/-- Limits of a plan (R40, R41, R43, R44, R66, R302): crews of 1 to 2,048 seats, no tile in two, at most 128 stages, its slots, and a good
pair for every step from its floor step to 15 in both stroke-length tables. -/
def planShape (p : Plan) : Bool :=
  let tiles := p.crews.flatMap (fun c => c.seats.map (fun st => st.tile.key))
  p.crews.all (fun c => c.seats ≠ [] && decide (c.seats.length ≤ 2048) && decide (c.stage < 128)) &&
    decide (tiles.eraseDups.length = tiles.length) && decide (p.stages ≤ 128) && slotsOk p &&
    (p.strokes ++ p.wide).all (pairOk p) &&
    (List.range 16).all (fun k => decide (k < p.floorStep) || ((planSteps p).contains k && (p.wide.map (fun e => e.step)).contains k))

/-- The module's own member number in the regatta map (R555). -/
def State.ownMember (s : State) (map : Bytes) (members : Nat) : Option Nat :=
  (List.range members).find? (fun m => mapAt map m = s.ident.serial)

/-- The hops from the root that this module would have (R556): one more than the smallest HOP hailed by a member; 0xFF where none
is known yet. -/
def State.hopWith (s : State) (map : Bytes) (members : Nat) : Nat :=
  if s.ownMember map members = some 0 then 0
  else (s.links.partners.filter (fun q => (List.range members).any (fun m => mapAt map m = q.hail.serial))).foldl
    (fun n q => min n (q.hail.hop.toNat + 1)) 0xFF

/-- Members and depth (R555, R556): each is a partner with a link up and this regatta's ID, and no HOP exceeds 6. -/
def State.membersOk (s : State) (map : Bytes) (regatta : Nat) (p : Plan) : Bool :=
  if p.members ≤ 1 then true
  else match s.ownMember map p.members with
    | none => false
    | some own =>
      (List.range p.members).all (fun m => m = own || s.links.partners.any (fun q =>
        q.hail.serial = mapAt map m && q.links ≠ 0 && q.hail.regattaId.toNat = regatta)) &&
      (decide (s.hopWith map p.members ≤ 6) || decide (s.hopWith map p.members = 0xFF) || own = 0)

/-- The checks of tables, routes, budgets and space, on one plan or variant (R716, R717). -/
def State.tableFault (s : State) (usable : Nat → Bool) (rt : Table Nat) (p : Plan) : Option Nat :=
  let tr := s.routeTravel rt p
  match relocated p with
  | none => some 7
  | some bs =>
    if (s.patched tr p bs).isNone then some 4
    else if !s.slackAll tr p then some 5
    else if (s.highestFit p).isNone then some 6
    else if p.encodingFault || programRefused p || !planShape p || !tablesFit p then some 7
    else if !s.routesOk usable rt p then some 8
    else if !s.budgetsOk p then some 9
    else if !tierOk usable p then some 10
    else none

/-- The wide table of a variant that replaces the stroke-length table alone (R302): at each step the larger of each value. -/
def widest (wide strokes : List StrokePair) : List StrokePair :=
  strokes.map (fun e => match pairOf wide e.step with
    | some (a, b) => { step := e.step, s := max e.s a, f := max e.f b }
    | none => e)

/-- A loss variant as a plan of its own (R302, R727): its sections replace the base sections of the same type. -/
def variantPlan (p : Plan) (v : Variant) : Plan :=
  let t := v.tables
  let has (type : Nat) : Bool := v.types.contains type
  let serving := has 0x13
  let areas := if has 0x15 then t.areas else p.areas
  { p with
    crews := if has 1 then t.crews else p.crews
    relocs := if has 3 then t.relocs else p.relocs
    exprs := if has 4 then t.exprs else p.exprs
    fixups := if has 5 then t.fixups else p.fixups
    slack := if has 6 then t.slack else p.slack
    routes := if has 7 then t.routes else p.routes
    strokes := if has 8 then t.strokes else p.strokes
    wide := if has 9 then t.wide else if has 8 then widest p.wide t.strokes else p.wide
    grants := if has 0x0A then t.grants else p.grants
    remote := if has 0x0D then t.remote else p.remote
    rot := if has 0x0E then t.rot else p.rot
    rotary := if has 0x0F then t.rotary else p.rotary
    checks := if has 0x10 then t.checks else p.checks
    weightMap := if has 0x12 then t.weightMap else p.weightMap
    bufferMap := if has 0x12 then t.bufferMap else p.bufferMap
    entryPhases := if serving then t.entryPhases else p.entryPhases
    path := if serving then t.path else p.path
    commitOffset := if serving then t.commitOffset else p.commitOffset
    lastLayer := if serving then t.lastLayer else p.lastLayer
    rowCost := if serving then t.rowCost else p.rowCost
    staging := if serving then t.staging else p.staging
    nLayers := if serving then t.nLayers else p.nLayers
    pageBytes := if serving then t.pageBytes else p.pageBytes
    stagingRow := if serving then t.stagingRow else p.stagingRow
    budgets := if has 0x14 then t.budgets else p.budgets
    kvTraffic := if has 0x14 then t.kvTraffic else p.kvTraffic
    adaptersPerGroup := if has 0x14 then t.adaptersPerGroup else p.adaptersPerGroup
    areas := areas.filter (fun a => !v.mask.getLsbD (edgeRegions.getD (a.chan / 2) 0))
    planLinks := if has 0x17 then t.planLinks else p.planLinks
    linkBlocks := if has 0x17 then t.linkBlocks else p.linkBlocks
    children := if has 0x17 then t.children else p.children }

/-- The loss variants of a plan that fail their checks (R717). -/
def State.badVariants (s : State) (p : Plan) : List Nat :=
  (p.variants.filter (fun v =>
    let usable (r : Nat) : Bool := s.ident.present.getLsbD r && !v.mask.getLsbD r
    !tablesRead p.file v.member v.number || (s.tableFault usable (buildRoutes usable) (variantPlan p v)).isSome)).map (fun v => v.number)

/-- Regions that a plan load may use: those in service, and those that have returned (R731). -/
def State.regionFree (s : State) (r : Nat) : Bool := s.ident.present.getLsbD r && (!s.boot.excluded.getLsbD r || s.boot.returned.getLsbD r)

/-- Regions out of service on this member (R727). -/
def State.outMask (s : State) : BitVec 64 := s.boot.excluded &&& s.ident.present

/-- Regions of a mask. -/
def maskCount (m : BitVec 64) : Nat := ((List.range 64).filter (fun r => m.getLsbD r)).length

/-- The variant that R727 chooses: usable, its mask covers every region out of service, the fewest regions in it, the lowest
number among equals. -/
def chooseVariant (p : Plan) (bad : List Nat) (out : BitVec 64) : Option Variant :=
  let fit := p.variants.filter (fun v => !bad.contains v.number && decide (out &&& ~~~v.mask = 0))
  (sortBy (fun (v : Variant) => maskCount v.mask) (sortBy (fun (v : Variant) => v.number) fit)).head?

/-- The state with the recorded tile maps in force, as a plan load will find them (R32). -/
def State.mapsTaken (s : State) : State := { s with boot := { s.boot with mapNow := s.boot.fieldMap } }

/-- A plan as its file gives it to this module (R712, R713, R727): its own member's sections and loss variants. -/
def State.readPlan (s : State) (l : PlanLoad) (p : Plan) : Plan :=
  let n := fieldNat p.file 40 2
  let m := if n ≤ 1 then 0 else (s.ownMember l.map n).getD 0
  planRead m { p with variants := p.variants.filter (fun v => v.member = m) }

/-- The first part of a plan load (R716, R734): the result that refuses it; an image of the wrong KIND is refused before its layout is looked at
(R363). -/
def State.planFault (s : State) (l : PlanLoad) (p : Plan) (image : Option Manifest) : Option Nat :=
  let lenOk := match l.src with
    | some r => decide (r.length = p.length)
    | none => true
  let layout := match image with
    | some m => m.layout = p.layout
    | none => !s.noImage && decide (s.weights.layout = p.layout)
  let sig := planSigned p
  if !lenOk || p.headerBad || !s.signedBy p.keySlot sig.1 sig.2 || s.boot.recordState = 3 || image.any (fun m => m.kind ≠ 0) then some 1
  else if p.debugOnly && !s.boot.debug then some 12
  else if !layout then some 2
  else if !s.membersOk l.map l.regatta p then some 3
  else if l.hit then (if (chooseVariant p (s.mapsTaken.badVariants p) s.outMask).isNone then some 3 else none)
  else s.mapsTaken.tableFault s.regionFree (buildRoutes s.regionFree) p

/-- The image that goes with a plan load (R719): a committed slot, or none to keep what is in service. -/
def State.planImage (s : State) (src : Option SourceRecord) : Option Manifest :=
  (match src with
  | some r => if r.imageSlot = 0xFF then none else Table.get none s.weights.slots r.imageSlot
  | none => Table.get none s.weights.slots (s.dictNat 0x23000B)).map (fun (i : Image) => i.man)

/-- Change the plan load in progress. -/
def State.updPlanLoad (s : State) (f : PlanLoad → PlanLoad) : State :=
  { s with boot := { s.boot with planLoad := s.boot.planLoad.map f } }

/-- A plan load begins (R770): it takes the class E values that now stand. -/
def State.newLoad (s : State) (src : Option SourceRecord) : PlanLoad :=
  { src := src, policyFixed := decide (s.dictNat 0x211001 = 1), regatta := s.dictNat 0x610001, map := s.blob 0x610002 }

/-- The objects a plan load takes (R767, class E). -/
def planClass : List Nat := [0x211001, 0x610001, 0x610002]

/-- The first part of a plan load begins: it takes the class E values, and their entries are removed (R769, R770); hails carry the
regatta's ID from now on, by which its members find one another (R552, R555). -/
def State.beginLoad (s : State) (src : Option SourceRecord) : State :=
  let s := State.takeEffect { s with boot := { s.boot with planLoad := some (s.newLoad src) } } planClass
  s.updLinks (fun l => { l with regattaId := BitVec.ofNat 32 (s.dictNat 0x610001) })

/-- PLAN_LOAD (R719): a write of 0x2400.01, tested in the order of R804. -/
def State.planRequest (s : State) (r : SourceRecord) : State :=
  if r.reservedSet || 1 < r.kind || 7 < r.slot || 1 < r.flags || 7 < r.targetSlot || (7 < r.imageSlot && r.imageSlot ≠ 0xFF) then s.answer 3
  else if s.boot.planLoad.isSome || s.weights.load.isSome then
    State.answer { s with boot := { s.boot with planResult := 11 } } 5
  else if (r.kind = 0 && (Table.get none s.boot.planSlots r.slot).isNone) ||
      (r.imageSlot ≠ 0xFF && (Table.get none s.weights.slots r.imageSlot).isNone) || (r.kind = 1 && !s.roceTag r.connection) then s.answer 6
  else (s.beginLoad (some r)).answer 0

/-- PLAN_LOAD (R719): a record of 48 bytes. -/
def execPlanLoad (value : Bytes) (s : State) : Host.Outcome State Fault Refusal :=
  if value.length ≠ 48 then .next (s.answer 4) else .next (s.planRequest (parseSource true value))

/-- The built-in self-test plan runs once (R613, R690). -/
def State.selfTestPlan (s : State) : State := { s with boot := { s.boot with selfTest := s.boot.selfTestIs } }

/-- A plan load ends with a result of R720; after the boot's own load, the self-test plan runs. -/
def State.endPlan (s : State) (code : Nat) : State :=
  let own := match s.boot.planLoad with
    | some l => l.src.isNone && l.variant.isNone
    | none => false
  let s := State.event { s with boot := { s.boot with planLoad := none, planResult := code } } 0x0900 0xFF (natLE 1 1 ++ natLE 1 code)
  if own then s.selfTestPlan else s

/-- PLAN_CHECK_COMPLETE (R716, R717): the first part ends with a refusal, or with the switch named. `fetched` is the plan as
its source gave it; a plan in flash is read from its slot. -/
def execPlanCheckComplete (fetched : Option Plan) (s : State) : Host.Outcome State Fault Refusal :=
  match s.boot.planLoad with
  | none => .next s
  | some l =>
    if l.plan.isSome || l.variant.isSome then .next s
    else
      let plan := match l.src with
        | some r => if r.kind = 0 then Table.get none s.boot.planSlots r.slot else fetched
        | none => Table.get none s.boot.planSlots (s.dictNat 0x240005)
      match plan with
      | none => .next (s.endPlan 1)
      | some p =>
        let p := s.readPlan l p
        match s.planFault l p (s.planImage l.src) with
        | some c => .next (s.endPlan c)
        | none =>
          let lead := max 4 (s.dictNat 0x210007)
          let first := (s.clk.stroke.toNat + lead) % 2 ^ 48
          let want := match l.src with
            | some r => r.stroke
            | none => 0
          let n := if want = 0 || laterMod 48 first want then first else want
          let s := s.updPlanLoad (fun l => { l with plan := some p, bad := s.mapsTaken.badVariants p, phase := 2, switchAt := n })
          .next (if s.clk.running then s.nameEasyAll 1 true (some (BitVec.ofNat 48 n)) else s)

/-- What a tile keeps when a plan's crews are written: its scratch, its spare rows, its faults, and its cache until the mask changes (R160);
the rest of a gated or a newly joined tile is at reset (R41, R648). -/
def bareTile (x : Tile) : Tile :=
  { scratch := x.scratch, chk := x.chk, pageChk := x.pageChk, lostLine := x.lostLine, remap := x.remap, scrub := x.scrub,
    bankPwr := x.bankPwr, filling := x.filling, failing := x.failing, subRemap := x.subRemap, progRepairs := [],
    cacheMask := x.cacheMask, cacheDir := x.cacheDir, victim := x.victim }

/-- A seat's tables and program written to its tile (R42, R193, R713). -/
def seatedTile (p : Plan) (c : Crew) (idx : Nat) (st : Seat) (prog : List (BitVec 256)) (x : Tile) : Tile :=
  { bareTile x with
    stage := some c.stage
    seat := idx
    prog := Table.putList 0 [] 0 prog
    send := st.send
    input := st.input
    checkMap := st.checkMap
    mapLen := BitVec.ofNat 9 st.checkMap.length
    roles := st.roles
    chkEn := st.chkEn
    chkSend := st.chkSend
    verdictRead := st.verdictRead
    srCfg := st.srStage
    rot := (p.rot.filter (fun d => d.1 = c.stage)).foldl (fun (t : Table RotDesc) d => Table.put {} t d.2.1 d.2.2.1) []
    rotary := Table.putList {} [] 0 p.rotary }

/-- The bundles of a run of bytes. -/
def bundlesOf (bs : Bytes) (n : Nat) : List (BitVec 256) := (chunksOf 32 n bs).map (fun b => BitVec.ofNat 256 (leNat b))

/-- Change the tile of every seat, given its crew, its number, and its patched bundles. -/
def State.eachSeat (s : State) (p : Plan) (bs : Bytes) (f : Crew → Nat → Seat → List (BitVec 256) → Tile → Tile) : State :=
  (p.crews.foldl (fun (a : State × Bytes) c =>
    ((c.seats.zipIdx).foldl (fun (a : State × Bytes) (st : Seat × Nat) =>
      let n := st.1.program.length
      (a.1.updTile st.1.tile (f c st.2 st.1 (bundlesOf (a.2.take (32 * n)) n)), a.2.drop (32 * n))) a)) (s, bs)).1

/-- The crews whose stage satisfies a condition are written to their tiles (R718, R728), with their patched programs; other crews have
their send tables and programs relocated again, RUN being clear while a program store is written (R186) and set at the first
catch (R722). The caches' masks change (R151, R160). -/
def State.writeCrews (s : State) (p : Plan) (which : Nat → Bool) (bs : Bytes) : State :=
  let s := s.eachSeat p bs (fun c i st prog x =>
    if which c.stage then seatedTile p c i st prog x
    else if x.send = st.send && decide (x.prog = Table.putList 0 [] 0 prog) then x
    else { x with send := st.send, prog := Table.putList 0 [] 0 prog, progChk := [], run := false, live := false })
  let masks := p.crews.flatMap (fun c => c.seats.map (fun st => (st.tile, st.cacheMask)))
  let cached := s.tiles.filter (fun e => (e.2 : Tile).cacheMask ≠ 0 && !masks.any (fun m => decide (m.1.key = e.1)))
  let s := cached.foldl (fun (s : State) e => s.takeMask (TileId.ofKey e.1) 0) s
  masks.foldl (fun (s : State) m => if (s.tile m.1).cacheMask = m.2 then s else s.takeMask m.1 m.2) s

/-- The tiles of crews leave them (R41). -/
def State.clearCrews (s : State) (which : Nat → Bool) : State :=
  s.crewTiles.foldl (fun (s : State) t => if (s.tile t).stage.any which then s.setTile t (bareTile (s.tile t)) else s) s

/-- The remote delivery tables and alternates of a plan are written to the link ports (R542, R564). -/
def State.writeLinks (s : State) (p : Plan) : State :=
  let s := p.remote.foldl (fun (s : State) e => s.updLink e.1 (fun l => { l with remote := e.2 })) s
  p.planLinks.foldl (fun (s : State) e => s.updLink e.1 (fun l => { l with alt := BitVec.ofNat 7 e.2, altActive := false, altNext := false, altBack := 0 })) s

/-- A request goes back to the head of its class (R452). -/
def State.requeue (s : State) (r : Request) : State :=
  s.updReq r.id (fun q => { q with
    state := .queued
    slot := none
    reserved := 0
    again := false
    atHead := true
    inPrefill := false })

/-- The generation slots of a plan in order: 64 * phase + row (R399, R400). -/
def slotNumbers (p : Plan) : List Nat :=
  (p.entryPhases.flatMap (fun φ => (List.range p.rowsPerPhase).map (fun row => 64 * φ + row))).take 5120

/-- The requests of the slot table in its order, then those in prefill that hold no slot. -/
def State.slotOrder (s : State) : List (BitVec 64) :=
  let held := s.serve.t.slots.filterMap (fun e => e.2.active)
  held ++ ((s.serve.t.reqs.filter (fun r => r.active && !held.contains r.id)).map (fun r => r.id))

/-- Those requests of a list, in order, whose reservations the pool can meet beside the page sets in use (R452, R730). -/
def State.fitting (s : State) : List (BitVec 64) → Nat → List (BitVec 64)
  | [], _ => []
  | id :: rest, held =>
    let used := (s.serve.t.sets.filter (fun e => e.2.isSome)).length
    match s.req id with
    | none => s.fitting rest held
    | some r =>
      if (used + held + r.reserved) * s.layers ≤ s.slotsTotal then id :: s.fitting rest (held + r.reserved)
      else s.fitting rest held

/-- Sequences take slots in a new plan in their old slot-table order; one whose slot has no place, or whose reservation
cannot be met, goes back to its queue (R452, R730). -/
def State.reseat (s : State) (slots : List Nat) (ids : List (BitVec 64)) : State :=
  let keep := s.fitting ids 0
  ((ids.foldl (fun (a : State × List Nat) id =>
    match a.1.req id with
    | none => a
    | some r =>
      if !keep.contains id then (a.1.requeue r, a.2)
      else match a.2 with
        | [] => (a.1.requeue r, [])
        | k :: rest =>
          if r.slot.isSome && r.again then ((a.1.updReq id (fun q => { q with slot := some k })).putSlot k (.running id), rest)
          else (a.1.updReq id (fun q => { q with slot := none }), k :: rest)) (s, slots))).1

/-- Requests whose reservations a smaller pool cannot meet go back to the queue, and give up their slots (R452, R730). -/
def State.evictShort (s : State) (ids : List (BitVec 64)) : State :=
  let keep := s.fitting ids 0
  ids.foldl (fun (s : State) id =>
    if keep.contains id then s
    else match s.req id with
      | none => s
      | some r =>
        let s := match r.slot with
          | some k => s.putSlot k .free
          | none => s
        s.requeue r) s

/-- What a plan load does to the requests (R452, R718): retained sequences park, the tree and every page set go, and every
sequence prefills its whole context again. -/
def State.replan (s : State) (new : Plan) : State :=
  let s := (s.serve.t.reqs.filter (fun r => r.state = .retained)).foldl (fun (s : State) r => s.parkNow r.id) s
  let order := s.slotOrder
  let s := s.updTables (fun t => { t with
    sets := []
    slots := []
    passes := []
    planned := none
    reqs := t.reqs.map (fun r => { r with sets := [], spill := false, retention := false, reserved := 0 }) })
  let s : State := { s with boot := { s.boot with plan := some new, base := none } }
  let s := (s.serve.t.reqs.filter (fun r => r.active || r.state = .queued)).foldl (fun (s : State) r => s.freshStart r.id s.weights.epoch) s
  s.reseat (slotNumbers new) order

/-- The weights of a plan load are filled (R376, R718): from the image slot it names, or again from the refill copy. -/
def State.startFill (s : State) (src : Option SourceRecord) : State :=
  match s.planImage src with
  | some _ =>
    let kind := if src.isSome then LoadKind.plan else LoadKind.boot
    { s with weights := { s.weights with load := some { kind := kind, src := none }, state := 1 } }
  | none => match s.weights.copyMan with
    | none => s
    | some m =>
      match State.fillIn { s with weights := { s.weights with load := some { kind := .plan, man := some m, opened := s.weights.copy, records := s.weights.copyRecords, key := s.weights.key } } } with
      | some s => s
      | none => (s.endAs .plan 7).planUnfilled

/-- The regatta of a plan is bound (R555): this module's member number, and its partners' states. -/
def State.bindMembers (s : State) (pl : PlanLoad) (p : Plan) : State :=
  let own := (s.ownMember pl.map p.members).getD 0
  let s : State := { s with boot := { s.boot with member := if p.members ≤ 1 then 0 else own } }
  s.updLinks (fun l => { l with
    regattaId := BitVec.ofNat 32 pl.regatta
    map := pl.map
    partners := l.partners.map (fun q =>
      let m := decide (1 < p.members) && (List.range p.members).any (fun i => mapAt pl.map i = q.hail.serial)
      if m then { q with state := if q.links = 0 then .lost else .member }
      else if q.state = .member then { q with state := .bench } else q) })

/-- The plan in service, as a plan load that replaces it keeps it (R375). -/
def State.prevPlan (s : State) : Option PrevPlan :=
  if s.noImage then none
  else s.boot.plan.map (fun p => { base := s.boot.base.getD p, variant := s.boot.variant, bad := s.boot.badVariants,
                                   policyFixed := s.boot.policyFixed, map := s.links.map })

/-- A plan's tables, programs and routes are written (R718). -/
def State.writePlan (s : State) (l : PlanLoad) (base : Plan) (v : Option Variant) : State :=
  let p := match v with
    | some v => variantPlan base v
    | none => base
  let s : State := { s with boot := { s.boot with
    excluded := s.boot.excluded &&& ~~~s.boot.returned
    returned := 0
    base := v.map (fun _ => base)
    variant := (v.map (fun v => v.number)).getD 0 } }
  let s := ((s.replan p).clearCrews (fun _ => true)).takeMaps
  let s := s.rewriteRoutes s.regionUsable
  let tr := s.routeTravel (buildRoutes s.regionUsable) p
  let bs := ((relocated p).bind (fun b => s.patched tr p b)).getD []
  let s := (((s.writeCrews p (fun _ => true) bs).writeLinks p).bindMembers l p).chooseParent
  { s with
    boot := { s.boot with
      badVariants := l.bad
      policyFixed := l.policyFixed
      filled_ := false
      staked := false
      step := if s.boot.step = 9 then 10 else s.boot.step }
    counts := Table.put 0 (Table.put 0 s.counts 0x211006 0) 0x211007 0 }

/-- The switch of a plan load (R718): the plan is written, and the weight fill starts. -/
def State.switchPlan (s : State) (l : PlanLoad) (base : Plan) (v : Option Variant) : State :=
  let q := s.prevPlan
  ((s.writePlan l base v).updPlanLoad (fun l => { l with phase := 4, prev := q })).startFill l.src

/-- PLAN_SWITCH (R718): at the stroke named, clearing easy-all is entered and the new plan is written. -/
def execPlanSwitch (s : State) : Host.Outcome State Fault Refusal :=
  match s.boot.planLoad with
  | none => .next s
  | some l => match l.plan with
    | none => .next s
    | some p =>
      if l.phase ≠ 2 || l.variant.isSome then .next s
      else
        let halted := if s.boot.plan.isSome then s.haltFor 1 (some l.switchAt) else some s
        match halted with
        | none => .next s
        | some s =>
          if l.hit then match chooseVariant p l.bad s.outMask with
            | none => .next (s.endPlan 3)
            | some v => .next (s.switchPlan l p (some v))
          else .next (s.switchPlan l p none)

/-- STAKE_BEGIN (R721): the plan's regions are raised to the highest step that fits, S, F and that step are armed, and the
first catch is named; the root of a regatta sends the stake word (R560). Where no step fits, easy-all holds (R679). -/
def execStakeBegin (s : State) : Host.Outcome State Fault Refusal :=
  match s.boot.plan with
  | none => .next s
  | some p =>
    let up := s.planRegions.all (fun r => s.powered r && !(s.region r).loop.stop)
    if !s.boot.filled_ || s.boot.staked || s.clk.running || !s.clk.ticking || s.power.active || !up then .next s
    else
      let s := (((s.clearCause 1).clearCause 3).clearCause 4).clearCause 12
      let s : State := { s with boot := { s.boot with staked := true, step := if s.boot.step < 12 then 11 else s.boot.step } }
      let s := s.updPlanLoad (fun l => { l with phase := 5 })
      match s.highestFit p with
      | none => .next (if s.clk.causes.contains 7 then s else s.enterEasy [{ cause := 7 }])
      | some k =>
        match s.pairFor {} k with
        | none => .next s
        | some (a, b) =>
          let s := s.raisePlan k
          let s : State := { s with clk := { s.clk with len := a, fin := b, step := k } }
          if s.clk.causes ≠ [] || s.isMember || [4, 5].contains s.links.pairState then .next s else .next (s.nameStake a b k)

end Sys2Proof.Machine
end

