-- ==== Sys2Proof/Machine/LinkDown.lean ====
section
/-! DEFINITION. Links going down and partners lost: what follows in the partner table, a regatta, a pair and a move of a
request (R449, R551-R554, R559, R564, R566, R576). -/

namespace Sys2Proof.Machine

/-- No member is lost, nor gone to another regatta (R577), and every plan link or its alternate is up (R566). -/
def State.linksWhole (s : State) : Bool :=
  s.links.partners.all (fun p => (p.state ≠ .lost || p.before ≠ .member) && (p.state ≠ .bench || !s.namedMember p.hail.serial)) &&
  (match s.boot.plan with
   | some p => p.planLinks.all (fun e => (s.link e.1).state = 2 || (s.link e.2).state = 2)
   | none => true)

/-- The home wafer's Cox halts at the next stroke because a member or both links of a delivery are gone (R566). -/
def State.haltLinks (s : State) : State :=
  if s.links.linksHalt || s.isMember || s.boot.plan.isNone then s
  else
    let s := s.updLinks (fun l => { l with linksHalt := true })
    if s.clk.running then s.nameEasyAll 10 false (some (s.clk.stroke + 1)) else s

/-- The moves to a partner without a link fail with RESULT 16, and their entries stay parked (R450). -/
def State.failMoves (s : State) (serial : BitVec 128) : State :=
  (s.serve.moves.filter (fun m => m.2 = serial)).foldl (fun (s : State) m =>
    let s := s.updServe (fun v => { v with moves := v.moves.filter (fun x => x.1 ≠ m.1) })
    match s.req m.1 with
    | some r => (s.setReq { r with state := .parked }).sendMoved r serial 16
    | none => s) s

/-- A partner whose last link went (R553, R566, R576): a member or the pair partner is lost, another entry goes. -/
def State.partnerGone (s : State) (q : Partner) : State :=
  let s := s.failMoves q.hail.serial
  if q.state = .bench then
    s.updLinks (fun l => { l with partners := l.partners.filter (fun p => p.hail.serial ≠ q.hail.serial) })
  else
    let s := s.updLinks (fun l => { l with partners := l.partners.map (fun p =>
      if p.hail.serial = q.hail.serial then { p with state := .lost, before := q.state, lostMs := s.ms, links := 0 } else p) })
    let s := if q.state = .member then s.haltLinks else s
    if q.state = .pair && [1, 2].contains s.links.pairState then
      (s.updLinks (fun l => { l with pairState := 3, mirror := [] })).event 0x0703 0xFF (natLE 16 q.hail.serial.toNat)
    else s

/-- A link no longer reaches its partner (R553). -/
def State.leavePartner (s : State) (k : Nat) : State :=
  match s.partnerOn k with
  | none => s
  | some q =>
    let mask := q.links &&& ~~~(1#96 <<< k)
    if mask = 0 then s.partnerGone q
    else s.updLinks (fun l => { l with partners := l.partners.map (fun p =>
      if p.hail.serial = q.hail.serial then { p with links := mask } else p) })

/-- The parent link is gone (R559): hardware moves the reference to the standby parent by the forced path. -/
def State.leaveParent (s : State) (k : Nat) : State :=
  if s.links.parent ≠ some k then s
  else
    let s' := s.updLinks (fun l => { l with parent := l.standby, standby := none })
    match s.links.standby with
    | some j => (if s.ref.cur.toNat = 16 + k then s'.forceRef (BitVec.ofNat 7 (16 + j)) true else s').chooseParent.armAlternate
    | none => s'.chooseParent.armAlternate

/-- A slack check counts a link whose flows are on their alternate (R564): an expression of it names that link's delay. -/
def State.namesIdleLink (s : State) (p : Plan) (c : SlackCheck) : Bool :=
  let idle (k : Nat) : Bool := p.planLinks.any (fun e => e.1 = k) && ((s.link k).altActive || (s.link k).altNext)
  let names (i : Nat) : Bool := (p.exprs.getD i []).any (fun t => tickSymbol t.1 && idle (t.1 - 0x100))
  names c.cycExpr || (match c.tickExpr with
    | some i => names i
    | none => false)

/-- The slack checks of the plan in service hold with the links' present delays (R117); a check that counts a link is left out
while that link's flows are on its alternate (log entry 41). -/
def State.slackNow (s : State) : Bool :=
  match s.boot.plan with
  | some p => s.slackHolds (s.routeTravel (buildRoutes s.regionUsable) p) p (p.slack.filter (fun c => !s.namesIdleLink p c))
  | none => true

/-- The slack checks are evaluated again (R117): a failed one holds strokes from the next catch, and once every one passes that cause
is gone. -/
def State.slackAgain (s : State) : State :=
  if s.slackNow then s.clearCause 11
  else if s.clk.causes.contains 11 || s.clk.named.any (fun e => e.cause = 11 && !e.passed) then s else s.nameEasyAll 11 false none

/-- The flows of a plan link go to its alternate from the next catch (R564), or the regatta halts (R566). -/
def State.failOver (s : State) (k : Nat) : State :=
  match s.boot.plan with
  | none => s
  | some p =>
    let s := if p.planLinks.any (fun e => e.1 = k && (s.link e.2).state = 2) then
        (s.updLink k (fun l => { l with altNext := !l.altActive, altBack := 0 })).slackAgain else s
    if !s.linksWhole then s.haltLinks
    else if s.clk.running then s
    else s.nameResume s.clk.step

/-- What follows when a link's connection is gone: its partner, its parent's place, its flows. -/
def State.linkGone (s : State) (k : Nat) : State := ((s.leavePartner k).leaveParent k).failOver k

/-- A link's block goes to reset or is gated (R649): its registers are at reset, and its connection is gone. -/
def State.resetLink (s : State) (k : Nat) : State := (s.updLink k (fun _ => {})).linkGone k

/-- A link goes down (R551): its downs are counted, and it is isolated when they are too many; otherwise it trains. -/
def State.linkFalls (s : State) (k : Nat) : State :=
  let l := s.link k
  if !l.en || l.state = 0 || l.state = 3 then s
  else
    let downs := l.downs.filter (fun m => s.ms < m + 60000) ++ [s.ms]
    let iso := decide (s.dictNat 0x600005 < downs.length)
    let flaps := satAdd l.flaps 1
    let s := s.updLink k (fun l => { l with
      flaps := flaps
      state := if iso then 3 else 1
      isolate := l.isolate || iso
      genAct := 0
      marker := false
      peer := 0x7F
      published := 0xFFFF
      exact_ := 0xFFFF
      badRun := 0
      badNow := false
      downs := downs
      trainMs := s.ms
      trips := []
      unacked := []
      waiting := []
      flow := none
      bulk := [] })
    let s := if iso then s.regionEvent (linkRegion k) 0x0700 (natLE 1 k ++ natLE 1 flaps.toNat) else s
    s.linkGone k

/-- Alignment is lost (R559): holding easy-all at the next catch. -/
def State.loseAlignment (s : State) : State :=
  let parent := s.links.parent.getD 0xFF
  let s := s.updLinks (fun l => { l with aligned := false, badMarkers := 0 })
  let s := match s.links.parent with
    | some k => s.updLink k (fun l => { l with marker := false })
    | none => s
  let err := (s.links.alignErr % 65536).toNat
  let s := s.event 0x0702 0xFF (natLE 1 parent ++ natLE 2 err)
  if s.boot.plan.isNone then s else s.nameEasyAll 8 false none

/-- After a retrain (R117, R564, R566): a failed slack check holds strokes; otherwise flows are moved back, and a halt that
waited for the links ends. -/
def State.afterRetrain (s : State) (k : Nat) : State :=
  match s.boot.plan with
  | none => s
  | some p =>
    if !p.planLinks.any (fun e => e.1 = k || e.2 = k) then s
    else if !s.slackNow then s.slackAgain
    else
      let s := if (s.link k).altActive || (s.link k).altNext then s.updLink k (fun l => { l with altBack := s.nameStroke.toNat }) else s
      let s := s.slackAgain
      let s := if s.linksWhole then s.updLinks (fun l => { l with linksHalt := false }) else s
      s.nameResume s.clk.step

end Sys2Proof.Machine
end

