-- ==== Sys2Proof/Machine/Loss.lean ====
section
/-! DEFINITION. Regions lost and returning, and loss variants (R27, R348, R525, R650-R652, R669, R727-R734). -/

namespace Sys2Proof.Machine

/-! ## What a loss takes from the sequences -/

/-- A boathouse entry whose place is lost is discarded (R345, R465); a resume that was copying it
re-prefills its whole context. -/
def State.boatLost (s : State) (r : Request) : State :=
  if r.state = .parked || r.state = .moving then
    (s.discardEntry r.id).updServe (fun v => { v with moves := v.moves.filter (fun m => m.1 ≠ r.id) })
  else (s.freshStart r.id s.weights.epoch).updReq r.id (fun q => { q with boat := none, copying := false })

/-- Boathouse entries on the channels of an edge region are discarded (R345, R348, R810); a resume that was copying one
re-prefills its whole context. -/
def State.loseBoats (s : State) (e : Nat) : State :=
  let hit := s.serve.t.reqs.filter (fun r => match r.boat with
    | some b => decide (b.edge = e)
    | none => false)
  hit.foldl (fun (s : State) r => s.boatLost r) s

/-! ## Losing a region -/

/-- The seam sides that face a region are held, by hardware with AUTO, a record and trigger 9, or by Cox (R525, R650). -/
def State.holdFacing (s : State) (r : Nat) (auto : Bool) : State :=
  (List.range 4).foldl (fun (s : State) d => match neighbour r d with
    | none => s
    | some q =>
      if !s.powered q then s
      else
        let s := s.holdSide q (opposite d) auto
        if auto then (s.regionEvent q 0x0600 (natLE 1 (opposite d))).trigger q (trig 9) else s) s

/-- What a swap had staged on stacks or channels is staged again, and its switch waits (R392). -/
def State.unstage (s : State) : State :=
  let s := s.updLoad (fun l => { l with staged := false, switchAt := none })
  { s with
    clk := { s.clk with named := s.clk.named.filter (fun e => e.cause ≠ 2) }
    weights := { s.weights with state := 3, swapStroke := 0 } }

/-- What an edge region holds is lost with it (R27, R348): stacks, channels, tensor links, page sets and boathouse entries. -/
def State.loseEdge (s : State) (e : Nat) : State :=
  let s : State := { s with tier := { s.tier with
    waiting := s.tier.waiting.filter (fun w => w.1 ≠ e)
    done := s.tier.done.filter (fun w => w.1 ≠ e) } }
  let s := (s.resetChan (64 + 2 * e)).resetChan (65 + 2 * e)
  let s := [2 * e, 2 * e + 1, 32 + 2 * e, 33 + 2 * e].foldl (fun (s : State) c => (s.resetChan c).eraseChan c) s
  let s := (List.range 6).foldl (fun (s : State) i => s.resetLink (6 * e + i)) s
  let s := (s.loseStacks [2 * e, 2 * e + 1]).loseBoats e
  let s := match s.boot.plan with
    | some p => if p.spilled then s.reopenAll else s
    | none => s
  match s.weights.load with
  | some l => if l.kind = .swap && l.staged && !l.refilling then s.unstage else s
  | none => s

/-- A region loses its power (R27, R525, R649, R651): its registers and tiles are at reset, what it holds is lost, and the seams
facing it are held. -/
def State.loseRegion (s : State) (r : Nat) (auto : Bool) : State :=
  if !s.powered r then s
  else
    let bit := 1#64 <<< r
    let s : State := { s with
      power := { s.power with on := s.power.on &&& ~~~bit, pg := s.power.pg &&& ~~~bit, group := s.power.group.filter (fun q => q ≠ r) }
      boot := { s.boot with
        excluded := s.boot.excluded ||| bit
        returned := s.boot.returned &&& ~~~bit
        filled := Table.put none s.boot.filled r none }
      tiles := s.tiles.foldl (fun (t : Table Tile) e =>
        Table.put {} t e.1 (if e.1 / 256 = r then { failing := (e.2 : Tile).failing } else e.2)) []
      transit := s.transit.filter (fun f => f.1 ≠ r)
      tier := { s.tier with port := Table.put [] s.tier.port r [] } }
    let s := (s.setRegion r {}).holdFacing r auto
    let s := s.updLoopRef (fun q => { q with
      ready := (List.range 112).foldl (fun m c => if candRegion c = some r then m &&& ~~~(1#128 <<< c) else m) q.ready })
    let s := match edgeIndex r with
      | some e => s.loseEdge e
      | none => s
    ((List.range 8).filter (fun k => portRegion k = r)).foldl (fun (s : State) k => s.portDown k) s

/-! ## Loss variants -/

/-- The stages whose crews differ between two plans, with those a variant names as moved (R728). -/
def movedStages (cur new : Plan) (named : List Nat) : List Nat :=
  (((new.crews.filter (fun c => !cur.crews.contains c)).map (fun c => c.stage)) ++ named).eraseDups

/-- A stage holds layer crews: its offset lies at or before the last layer stage's. -/
def layerStage (p : Plan) (k : Nat) : Bool := (p.path.take (p.lastLayer + 1)).contains k

/-- A variant, or the base plan as 0, is put in service during clearing easy-all (R452, R517, R728): routes, moved crews'
tables and programs, and the sequences' places; the refill follows. -/
def State.putVariant (s : State) (base new : Plan) (num : Nat) (named : List Nat) : State :=
  let cur := s.boot.plan.getD base
  let moved := movedStages cur new named
  let order := s.slotOrder
  let s : State := { s with boot := { s.boot with
    base := if num = 0 then none else some base
    variant := num } }
  let s := s.rewriteRoutes s.regionUsable
  let tr := s.routeTravel (buildRoutes s.regionUsable) new
  let bs := ((relocated new).bind (fun b => s.patched tr new b)).getD []
  let s := (s.clearCrews (fun k => moved.contains k)).writeCrews new (fun k => moved.contains k) bs
  let l := s.boot.planLoad.getD (s.newLoad none)
  let s : State := { s with
    boot := { s.boot with
      plan := some new
      filled_ := false
      planLoad := some { l with plan := none, variant := some num, moved := moved, phase := 4 } }
    counts := Table.put 0 (Table.put 0 s.counts 0x211006 0) 0x211007 0 }
  let s := if moved.any (fun k => layerStage cur k && !new.spills k) then s.reopenAll else s
  (s.updTables (fun t => { t with passes := [], planned := none })).evictShort order

/-- Returned regions are counted as in service again, and their seams are released (R526, R733). -/
def State.admitReturned (s : State) : State :=
  let back := (List.range 64).filter (fun r => s.boot.returned.getLsbD r)
  let s : State := { s with boot := { s.boot with excluded := s.boot.excluded &&& ~~~s.boot.returned, returned := 0 } }
  back.foldl (fun (s : State) r => (List.range 4).foldl (fun (s : State) d => match neighbour r d with
    | some q => (s.releaseSide r d).releaseSide q (opposite d)
    | none => s) s) s

/-- A plan load is still at its checks, or waits for its switch (R734). -/
def State.checking (s : State) : Bool :=
  match s.boot.planLoad with
  | some l => l.variant.isNone && decide (l.phase ≤ 2)
  | none => false

/-- Cox selects what R727 chooses and puts it in service; with none, the wafer stays in clearing easy-all (R688). A plan load at
its checks goes on first, and so does a coolant fault. -/
def State.selectVariant (s : State) : State :=
  if s.checking then s.updPlanLoad (fun l => { l with hit := true })
  else if s.power.active || s.clk.running then s
  else match s.boot.plan with
    | none => s
    | some p =>
      let s := if s.dictNat 0x240008 = 1 then s.admitReturned else s
      let base := s.boot.base.getD p
      if s.outMask = 0 then s.putVariant base base 0 []
      else match chooseVariant base s.boot.badVariants s.outMask with
        | some v => s.putVariant base (variantPlan base v) v.number v.moved
        | none => s

/-- A region has been lost (R669, R688, R726): clearing easy-all at once, and the loss plan. -/
def State.regionGone (s : State) (cause : Nat) : State :=
  if s.boot.plan.isNone then (if s.checking then s.updPlanLoad (fun l => { l with hit := true }) else s)
  else (s.easyNow cause).selectVariant

/-- The weights of the moved crews are written from the refill copy (R370, R728). -/
def State.refillMoved (s : State) (p : Plan) (moved : List Nat) : State :=
  match s.weights.copyMan with
  | none => s
  | some m =>
    let part : Manifest := { m with tensors := m.tensors.filter (fun t => moved.contains t.stage) }
    let n := Table.get 0 s.counts 0x23000E
    match s.placeImage p part s.weights.copy with
    | some s => (State.writeImageKeys { s with counts := Table.put 0 s.counts 0x23000E n } p m).recordFill p s.weights.epoch
    | none => s

/-- LOSS_VARIANT_REFILL_DONE (R728): refill, slack checks with the present link delays, and the resume. -/
def execLossVariantRefillDone (s : State) : Host.Outcome State Fault Refusal :=
  match s.boot.planLoad, s.boot.plan with
  | some l, some p =>
    if l.variant.isNone || l.phase ≠ 4 || s.clk.running then .next s
    else
      let s := s.refillMoved p l.moved
      let s : State := { s with boot := { s.boot with filled_ := true, staked := true } }
      let s := s.updPlanLoad (fun l => { l with phase := 5 })
      let s := (((s.clearCause 1).clearCause 3).clearCause 4).clearCause 12
      let s := s.slackAgain
      match s.highestFit p with
      | none => .next (if s.clk.causes.contains 7 then s else s.enterEasy [{ cause := 7 }])
      | some k =>
        let s := if s.clk.ticking && !s.power.active then (s.raisePlan k).raised else s
        .next (s.nameResume k)
  | _, _ => .next s

/-! ## A region that returns -/

/-- A returning region's clock, registers, scratch and blocks are brought up (R652, R731, R774); it waits to be included. -/
def State.returnRegion (s : State) (r : Nat) : State :=
  let step := if s.boot.plan.isSome then s.clk.step else 0
  let s := s.setRegion r { mesh := { coxRegion := BitVec.ofNat 6 s.boot.active }, ecc := { fillDone := true }, clk := { laneEn := true } }
  let s := if s.clk.ticking then s.runStep r step else s
  let s := (s.remapRecord.filter (fun e => decide (e.1 / 256 = r))).foldl (fun (s : State) e =>
    s.updTile (TileId.ofKey e.1) (fun x => { x with remap := Table.put 0 x.remap (16 * e.2.1 + e.2.2.2) (BitVec.ofNat 9 (256 + e.2.2.1)) })) s
  let s := (List.range 9).foldl (fun (s : State) b => s.enableBlock r b) s
  let s := match edgeIndex r with
    | some e => (List.range 6).foldl (fun (s : State) i =>
        let k := 6 * e + i
        if leNat (s.blob 0x600001) / 2 ^ k % 2 = 1 then s.enableBlock r (9 + i) else s) s
    | none => s
  let s := (s.configRegion r).rewriteRoutes s.regionUsable
  let s := s.writeField
  let gen := (Table.get 0 s.boot.regionGen r + 1) % 65536
  { s with
    power := { s.power with heatOff := s.power.heatOff &&& ~~~(1#64 <<< r) }
    boot := { s.boot with
      regionGen := Table.put 0 s.boot.regionGen r gen
      returned := s.boot.returned ||| (1#64 <<< r) } }

/-- With 0x2400.08 at 1, Cox names clearing easy-all to include the returned regions (R733, R734): after the first catch of a
variant being put in service, and where the choice of R727 changes. -/
def State.returnFollow (s : State) : State :=
  match s.boot.plan with
  | none => s
  | some p =>
    let out := s.outMask &&& ~~~s.boot.returned
    let pick := if out = 0 then some 0 else (chooseVariant (s.boot.base.getD p) s.boot.badVariants out).map (fun v => v.number)
    if s.boot.returned = 0 || s.dictNat 0x240008 ≠ 1 || s.boot.planLoad.isSome || pick.isNone || pick = some s.boot.variant ||
        s.clk.named.any (fun e => e.cause = 1) then s
    else if s.clk.running then s.nameEasyAll 1 true (some s.nameStroke)
    else s.regionGone 1

/-- A region is switched off for heat or sleep (R650, R686): seams held by Cox, its clock stopped, its power removed. -/
def State.switchOff (s : State) (r : Nat) : State := s.loseRegion r false

/-- What waits for clearing easy-all (R33, R686, R733): regions to be switched off for heat or lost with a tile, and returned regions. -/
def State.clearingWork (s : State) : State :=
  if (s.clk.easy ≠ 2 && s.clk.begun) || s.clk.running then s
  else
    let hot := s.power.heatPending ++ s.boot.tileLost
    let s : State := { s with
      power := { s.power with heatPending := [] }
      boot := { s.boot with tileLost := [] } }
    let s := hot.foldl (fun (s : State) r => s.switchOff r) s
    let idle := s.boot.planLoad.isNone && s.boot.returned ≠ 0 && decide (s.dictNat 0x240008 = 1)
    if hot ≠ [] || idle then s.selectVariant else s

/-! ## Blocks gated -/

/-- The host port of block 7 or 8 (R25, R646). -/
def blockPort (r b : Nat) : Nat := (if r = 4 then 0 else if r = 11 then 2 else if r = 52 then 4 else 6) + (b - 7)

/-- BLOCK_DISABLE (R649): the block is gated at once, its work discarded, and a record made. -/
def execBlockDisable (r : BitVec 6) (block : BitVec 4) (s : State) : Host.Outcome State Fault Refusal :=
  .next (s.regAccess r.toNat (fun s =>
    let b := block.toNat
    let on := if 9 ≤ b then (s.link (blockLink r.toNat b)).en else (s.region r.toNat).loop.gate.getLsbD b
    if !holdsBlock r.toNat b || !on then s
    else
      let s := (s.gateBlock r.toNat b).regionEvent r.toNat 0x0104 (natLE 1 b)
      if 9 ≤ b then s.linkGone (blockLink r.toNat b)
      else if 7 ≤ b then s.portDown (blockPort r.toNat b)
      else s))

end Sys2Proof.Machine
end

