-- ==== Sys2Proof/Machine/Catch.lean ====
section
/-! DEFINITION. The catch and the first catch after easy-all. -/

namespace Sys2Proof.Machine

/-- The links whose flows are on their alternate (R564). -/
def State.onAlternate (s : State) : List Nat := (s.links.links.filter (fun e => (e.2 : Link).altActive)).map (fun e => e.1)

/-- CATCH (R56, R60): the stroke in progress ends and the next begins, or an easy-all that is due takes the catch's place. -/
def execCatch (s : State) : Host.Outcome State Fault Refusal :=
  if !s.clk.running then .next s
  else
    let at_ := s.clk.catchTick + s.clk.len
    let s := if s.clk.ticking then s.advanceToTick at_ else s.advanceTo (s.now + (at_ - s.clk.tick.toNat))
    let due := s.easyDue
    if due = [] && s.clk.ticking then
      let u := (s.endStroke true).refillLost.beginStroke (s.clk.stroke + 1)
      .next (if u.onAlternate = s.onAlternate then u else u.slackAgain)
    else
      let clearing := due.any (fun e => e.clearing) || s.clk.named.any (fun e => e.clearing)
      .next ((s.endStroke (!clearing)).enterEasy due).clearingWork

/-- RESUME_TICK (R88, R722): the first catch after easy-all. Where no cause holds strokes and Cox has named no tick, it
names the nearest (log entry 20). -/
def execResumeTick (s : State) : Host.Outcome State Fault Refusal :=
  if s.clk.running || !s.clk.ticking then .next s
  else
    let s := if s.clk.resume.isNone then s.nameResume s.clk.step else s
    match s.clk.resume with
    | none => .next s
    | some r =>
      let s := s.advanceToTick r.tick
      let s : State := { s with clk := { s.clk with len := r.len, fin := r.fin, step := r.step, resume := none } }
      let s := if s.clk.begun && !s.clk.cleared then s else s.eachCrewTile (fun _ x => { x with run := true })
      let s := s.planRegions.foldl (fun (s : State) q => if s.powered q then s.runStep q r.step else s) s
      .next (s.newEpochIn.serviceIn.beginStroke (BitVec.ofNat 48 r.stroke)).returnFollow

end Sys2Proof.Machine
end

