-- ==== Sys2Proof/Machine/Power.lean ====
section
/-! DEFINITION. Power delivery and cooling: input, converters, region power, overcurrent, the power cap, coolant faults, hot
regions (chapter 14). -/

namespace Sys2Proof.Machine

/-- Change power and cooling. -/
def State.updPower (s : State) (f : Power → Power) : State := { s with power := f s.power }

/-- The regions that have power. -/
def State.poweredList (s : State) : List Nat := (List.range 64).filter s.powered

/-! ## Sensors -/

/-- VCORE and VSRAM power of a region's reading, mW. -/
def senseMw (r : RegionSense) : Nat := r.vcore.toNat * r.acore.toNat + r.vsram.toNat * r.asram.toNat / 10

/-- What the sensors read goes into the registers and the extremes (R674, R757), and into the samples of P_fixed of the last 60 s
(R676). -/
def State.sense (s : State) (x : Sensors) : State :=
  let s := x.regions.foldl (fun (s : State) q =>
    if !s.powered q.region.toNat then s
    else
      let s := s.updPwr q.region.toNat (fun p => { p with
        hot := q.hot
        sensor := q.sensor
        peak := if p.peak.toNat < q.hot.toNat then q.hot else p.peak
        monV := BitVec.ofNat 20 (q.vcore.toNat + 1024 * q.vsram.toNat)
        monI := BitVec.ofNat 32 (q.acore.toNat + 65536 * q.asram.toNat) })
      (s.extreme 0 q.hot.toNat true q.region.toNat).extreme 1 q.vcore.toNat false q.region.toNat) s
  let used := (x.regions.foldl (fun n q => if s.powered q.region.toNat then n + senseMw q else n) 0) / 1000
  let s := s.updPower (fun p => { p with
    vin := x.vin
    iin := x.iin
    watts := x.watts
    flow := x.flow
    inlet := x.inlet
    outlet := x.outlet
    fixed := p.fixed.filter (fun e => s.ms < e.1 + 60000) ++ [(s.ms, x.watts - used)] })
  ((s.extreme 2 x.watts true 0xFF).extreme 3 x.iin.toNat true 0xFF).extreme 4 x.flow.toNat false 0xFF

/-! ## Input and the first stage -/

/-- BUS_CHARGED (R666). -/
def execBusCharged (s : State) : Host.Outcome State Fault Refusal :=
  if !s.host.mated || s.power.down then .next s else .next (s.updPower (fun p => { p with bus := true }))

/-- BUSBAR_MATE (R666, R786): the bus begins to charge; the time that takes is not modelled. -/
def execBusbarMate (s : State) : Host.Outcome State Fault Refusal :=
  if s.host.mated then .next s
  else .next { s with
    host := { s.host with mated := true }
    power := { s.power with bus := false } }

/-- INPUT_OUT_OF_RANGE (R656): 44-46 V or 59-60 V, in 0.1 V. -/
def execInputOutOfRange (vin : BitVec 10) (s : State) : Host.Outcome State Fault Refusal :=
  let v := vin.toNat
  let s := s.updPower (fun p => { p with vin := vin })
  if (440 ≤ v && v < 460) || (590 < v && v ≤ 600) then
    .next ((s.updPower (fun p => { p with range := true })).event 0x0205 0xFF (natLE 2 v))
  else .next s

/-- POWER_FAIL (R659, R688): every powered region to step 0, the ring flushed, and work in progress abandoned. -/
def execPowerFail (vin : BitVec 10) (s : State) : Host.Outcome State Fault Refusal :=
  let v := vin.toNat
  if s.power.down || (440 ≤ v && v ≤ 600) then .next (s.updPower (fun p => { p with vin := vin }))
  else
    let s := s.updPower (fun p => { p with vin := vin, pfail := true, down := true, parking := false })
    let s := s.event 0x0200 0xFF (natLE 2 v)
    let s := s.forceStep0 s.poweredList
    let s : State := { s with
      boot := { s.boot with planLoad := none, fwWrite := none }
      weights := { s.weights with load := none, committing := none }
      host := { s.host with storeState := 0 }
      log := { s.log with histFlash := s.log.hist, stageFlash := s.log.stageCnt, extFlash := s.log.extremes } }
    .next s.startFlush

/-- INPUT_OVERCURRENT (R660): a region power fault in every region. -/
def execInputOvercurrent (iin : BitVec 10) (s : State) : Host.Outcome State Fault Refusal :=
  let s := s.updPower (fun p => { p with iin := iin })
  if iin.toNat ≤ 620 then .next s
  else
    let s := s.event 0x0204 0xFF (natLE 2 iin.toNat)
    let s := s.poweredList.foldl (fun (s : State) r => s.updPwr r (fun p => { p with ocForced := true })) s
    .next (s.forceStep0 s.poweredList)

/-- CONVERTER_FAIL (R658). -/
def execConverterFail (c : BitVec 4) (s : State) : Host.Outcome State Fault Refusal :=
  if !s.power.convOk.getLsbD c.toNat then .next s
  else
    let bit := 1#16 <<< c.toNat
    let s := s.updPower (fun p => { p with convOk := p.convOk &&& ~~~bit, convFailed := p.convFailed ||| bit })
    .next (s.event 0x0201 0xFF (natLE 1 c.toNat))

/-! ## Region power -/

/-- The next group of regions to power (R665): at most 4, ascending, once every region of the group before has power-good. -/
def State.nextGroup (s : State) : State :=
  if s.power.group ≠ [] then s
  else s.updPower (fun p => { p with
    group := (((List.range 64).filter (fun r => p.on.getLsbD r && !p.pg.getLsbD r && !p.latch.getLsbD r)).take 4) })

/-- A region's PWR_SEQ_ON bit is set (R665); a latched region stays off (R671). -/
def State.askPower (s : State) (r : Nat) : State :=
  if s.power.latch.getLsbD r then s
  else (s.updPower (fun p => { p with on := p.on ||| (1#64 <<< r) })).nextGroup

/-- REGION_POWER_REQUEST (R665): a write of PWR_SEQ_ON. -/
def execRegionPowerRequest (r : BitVec 6) (s : State) : Host.Outcome State Fault Refusal := .next (s.askPower r.toNat)

/-- REGION_POWER_GOOD (R664, R665): power-good is set, and the set points follow the step (R662). At power-on the region coasts
(R639); later it returns under R731. -/
def execRegionPowerGood (r : BitVec 6) (s : State) : Host.Outcome State Fault Refusal :=
  let rn := r.toNat
  if !s.power.group.contains rn || s.power.down then .next s
  else
    let s := s.updPower (fun p => { p with pg := p.pg ||| (1#64 <<< rn), group := p.group.filter (fun q => q ≠ rn) })
    let s := s.nextGroup
    if s.boot.step ≤ 3 then
      let s := s.updRegion rn (fun g => { g with pwr := { g.pwr with vset := s.stepVset rn 0 } })
      .next (if s.clk.ticking then s.runStep rn 0 else s).stepThree
    else .next (s.returnRegion rn).returnFollow

/-- A region's regulators are latched off (R668), and a record made; one that latches again within 60 s of a retry is marked
failed (R671). -/
def State.latchRegion (s : State) (r domain amps mv : Nat) : State :=
  let bit := 1#64 <<< r
  let retried := Table.get 0 s.power.retryMs r
  let again := decide (retried ≠ 0) && decide (s.ms + 1 ≤ retried + 60000)
  let s := s.updPower (fun p => { p with
    latch := p.latch ||| bit
    on := p.on &&& ~~~bit
    group := p.group.filter (fun q => q ≠ r)
    failed := if again then p.failed ||| bit else p.failed })
  s.event 0x0203 r (natLE 1 domain ++ natLE 2 amps ++ natLE 2 mv)

/-- POWER_GOOD_TIMEOUT (R665): a region that has not reached power-good within 100 us is latched off. -/
def execPowerGoodTimeout (r : BitVec 6) (domain : BitVec 2) (amps mv : BitVec 16) (s : State) : Host.Outcome State Fault Refusal :=
  let rn := r.toNat
  if !s.power.group.contains rn then .next s
  else
    let s := (s.latchRegion rn domain.toNat amps.toNat mv.toNat).nextGroup
    .next { s with boot := { s.boot with excluded := s.boot.excluded ||| (1#64 <<< rn) } }

/-- REGION_POWER_GOOD_FALL (R525, R651): the region is lost; while the input has failed that is all. -/
def execRegionPowerGoodFall (r : BitVec 6) (s : State) : Host.Outcome State Fault Refusal :=
  if !s.powered r.toNat then .next s
  else
    let s := s.loseRegion r.toNat true
    .next (if s.power.down || s.power.coolOff then s else s.regionGone 3)

/-- The warning limits of R668 in A: interior, edge. -/
def warnAmps (r domain : Nat) : Option Nat :=
  match domain with
  | 0 => some (if isEdge r then 340 else 650)
  | 1 => some (if isEdge r then 60 else 120)
  | 2 => some 45
  | _ => if isEdge r then some 60 else none

/-- The short limits of R668 in A, and the least voltage in mV. -/
def shortAmps (r domain : Nat) : Option (Nat × Nat) :=
  match domain with
  | 0 => some (if isEdge r then 470 else 900, 400)
  | 1 => some (if isEdge r then 90 else 180, 450)
  | 2 => some (60, 0)
  | _ => if isEdge r then some (80, 0) else none

/-- OVERCURRENT_WARNING (R638, R668): domains 0 VCORE, 1 VSRAM, 2 VLINK, 3 VPHY, held 10 us. -/
def execOvercurrentWarning (r : BitVec 6) (domain : BitVec 2) (amps : BitVec 16) (s : State) : Host.Outcome State Fault Refusal :=
  let rn := r.toNat
  match warnAmps rn domain.toNat with
  | none => .next s
  | some lim =>
    if !s.powered rn || amps.toNat ≤ lim then .next s
    else
      let s := s.updPwr rn (fun p => { p with ocWarn := true, ocForced := true, warns := satAdd p.warns 1 })
      let s := s.regionEvent rn 0x0202 (natLE 1 domain.toNat ++ natLE 2 amps.toNat)
      .next ((s.trigger rn (trig 7)).forceStep0 [rn])

/-- REGION_SHORT (R668, R669): the region latches off and is lost; clearing easy-all at once, and the loss plan. -/
def execRegionShort (r : BitVec 6) (domain : BitVec 2) (amps mv : BitVec 16) (s : State) : Host.Outcome State Fault Refusal :=
  let rn := r.toNat
  match shortAmps rn domain.toNat with
  | none => .next s
  | some (lim, low) =>
    if !s.powered rn || (amps.toNat ≤ lim && low ≤ mv.toNat) then .next s
    else
      let s := s.loseRegion rn true
      let s := s.latchRegion rn domain.toNat amps.toNat mv.toNat
      .next (if s.power.down || s.power.coolOff then s else s.regionGone 3)

/-- A write of 0x4000.0A (R671): during easy-all, or while no plan is loaded, the latch is cleared and the region powered again. -/
def State.retryRegion (s : State) (r : Nat) : State :=
  if 63 < r then s.answer 3
  else if s.boot.plan.isSome && s.clk.easy = 0 then s.answer 6
  else
    let bit := 1#64 <<< r
    if !s.power.latch.getLsbD r then s.answer 0
    else
      let s := s.updPower (fun p => { p with
        latch := p.latch &&& ~~~bit
        retryMs := Table.put 0 p.retryMs r (s.ms + 1) })
      (s.askPower r).answer 0

/-- REGION_RETRY (R671). -/
def execRegionRetry (r : Byte) (s : State) : Host.Outcome State Fault Refusal := .next (s.retryRegion r.toNat)

/-! ## Thermal resistance and the power cap -/

/-- The measured thermal resistance in 0.001 K/kW (R675): the mean of the last 100 samples, and until there are 100 the larger of
their mean and 1,600. Samples are kept to whole 0.001 K/kW (log entry 28). -/
def thetaOf (ts : List (Nat × Nat)) : Nat :=
  let mean := if ts = [] then 1600 else (ts.foldl (fun n e => n + e.1 / max 1 e.2) 0) / ts.length
  if ts.length < 100 then max 1600 mean else mean

/-- THETA_SAMPLE (R675). -/
def execThetaSample (x : Sensors) (s : State) : Host.Outcome State Fault Refusal :=
  let s := s.sense x
  if x.watts < 2000 then .next s
  else
    let hot := s.poweredList.foldl (fun m r => max m (s.region r).pwr.hot.toNat) 0
    let t : Nat × Nat := ((hot - x.inlet.toNat) * 125000, x.watts)
    let s := s.updPower (fun p =>
      let ts := (p.theta ++ [t])
      let ts := ts.drop (ts.length - 100)
      { p with theta := ts, rth := BitVec.ofNat 16 (min 65535 (thetaOf ts)) })
    .next (s.extreme 5 s.power.rth.toNat true 0xFF)

/-- The power cap (R676). -/
def State.capOf (s : State) (vmin : Nat) : Nat :=
  let conv := ((List.range 16).filter (fun c => s.power.convOk.getLsbD c)).length
  let rise := 8 * s.dictNat 0x401002 - s.power.inlet.toNat
  let thermal := rise * 125000 / max 1 s.power.rth.toNat
  min (min (s.dictNat 0x400003) (2200 * conv)) (min thermal (593 * vmin / 10))

/-- Cox names a step change at the step-change lead (R67), in every region of the plan; a regatta's root also sends it down the
tree (R68, R563). -/
def State.nameStep (s : State) (k : Nat) : State :=
  match s.pairFor s.mode.vec k with
  | none => s
  | some (a, b) =>
    let n := s.nameStroke
    let s := s.armChange n (BitVec.ofNat 16 a) (BitVec.ofNat 16 b) (BitVec.ofNat 4 k)
    if s.isRoot then s.sendWords s.children (.strokeChange n.toNat a b k) else s

/-- A step change is armed and has not come. -/
def State.stepArmed (s : State) : Bool := (List.range 64).any (fun r => (s.region r).clk.arm)

/-- What Cox does with the steps that fit (R677-R679). A member of a regatta leaves the step to the root (log entry 29). -/
def State.followCap (s : State) (p : Plan) : State :=
  let cur := s.clk.step
  let fits := (planSteps p).filter (fun k => s.stepFits p k)
  let s := s.updPower (fun q => { q with
    fits := (planSteps p).foldl (fun (t : Table Nat) k => Table.put 0 t k (if fits.contains k then Table.get 0 q.fits k + 1 else 0)) q.fits })
  let low := fits.filter (fun k => k < cur)
  let high := (fits.filter (fun k => decide (cur < k) && decide (10 ≤ Table.get 0 s.power.fits k))).foldl max cur
  if fits = [] then
    if s.clk.causes.contains 7 || s.clk.named.any (fun e => e.cause = 7) then s else s.nameEasyAll 7 false (some s.nameStroke)
  else if s.clk.causes.contains 7 then
    let k := fits.foldl max 0
    let s := if s.clk.ticking && !s.power.active then (s.raisePlan k).raised else s
    (s.clearCause 7).nameResume k
  else
    let s := s.clearCause 7
    if !s.clk.running || s.isMember || s.stepArmed then s
    else
      let tooMuch := 3 ≤ s.power.overCount
      let s := if tooMuch then s.updPower (fun q => { q with overCount := 0 }) else s
      if !fits.contains cur then (match low with
        | [] => s.nameEasyAll 7 false (some s.nameStroke)
        | k :: ks => s.nameStep (ks.foldl max k))
      else if tooMuch then
        let below := (planSteps p).filter (fun k => k < cur)
        let s := match below with
          | [] => s
          | k :: ks => s.nameStep (ks.foldl max k)
        s.updPower (fun q => { q with fits := [] })
      else if cur < high then s.nameStep high
      else s

/-- POWER_CAP_COMPUTE (R676-R679). -/
def execPowerCapCompute (x : Sensors) (s : State) : Host.Outcome State Fault Refusal :=
  let s := s.sense x
  let cap := s.capOf x.vmin.toNat
  let tooMuch := decide (105 * cap < 100 * x.watts)
  let s := s.updPower (fun p => { p with cap := cap, overCount := if tooMuch then p.overCount + 1 else 0 })
  match s.boot.plan with
  | none => .next s
  | some p => .next (s.followCap p)

/-! ## Cooling -/

/-- INLET_OVER_LIMIT (R680). -/
def execInletOverLimit (inlet : BitVec 12) (s : State) : Host.Outcome State Fault Refusal :=
  let s := s.updPower (fun p => { p with inlet := inlet })
  if inlet.toNat ≤ 8 * s.dictNat 0x402004 then .next s
  else .next ((s.updPower (fun p => { p with inletOver := true })).event 0x0300 0xFF (natLE 2 inlet.toNat))

/-- FLOW_LOW (R674). -/
def execFlowLow (flow : BitVec 8) (s : State) : Host.Outcome State Fault Refusal :=
  let s := s.updPower (fun p => { p with flow := flow })
  if 40 ≤ flow.toNat then .next s
  else .next ((s.updPower (fun p => { p with flowLow := true })).event 0x0301 0xFF (natLE 1 flow.toNat))

/-- COOLANT_FAULT (R681): cause 0 the flow, 1 the rise rate of region `r` in 0.1 K/ms, 2 the leak sensor. -/
def execCoolantFault (cause : BitVec 2) (flow rise : BitVec 8) (r : BitVec 6) (s : State) : Host.Outcome State Fault Refusal :=
  let s := s.updPower (fun p => { p with flow := flow })
  let hit := (cause = 0 && decide (flow.toNat < s.power.flowMin.toNat)) ||
    (cause = 1 && decide (s.power.rateMax.toNat < rise.toNat) && s.powered r.toNat) || cause = 2
  if !hit then .next s
  else
    let s := s.updPower (fun p => { p with
      faults := p.faults ||| (1#3 <<< cause.toNat)
      leakWait := p.leakWait || decide (cause = 2) })
    let s := if cause = 1 then s.updPwr r.toNat (fun p => { p with rate := true }) else s
    if !s.power.faultEn || s.power.active || s.power.coolOff || s.power.down then .next s
    else
      let s := s.updPower (fun p => { p with active := true, faultMs := s.ms, parking := false, written := 0, lostReqs := 0 })
      let s := s.event 0x0302 0xFF (natLE 1 s.power.faults.toNat ++ natLE 1 flow.toNat)
      .next ((s.count 0x402007 1).forceStep0 s.poweredList)

/-- COOLANT_FAULT_CLEAR (R682, R688): within 200 ms, with good flow, no region above 0x4010.03 and no leak, the regions are raised, and a
resume is named; a region lost meanwhile gets its loss plan now. -/
def execCoolantFaultClear (flow : BitVec 8) (leak : Bool) (s : State) : Host.Outcome State Fault Refusal :=
  let s := s.updPower (fun p => { p with flow := flow })
  let cool := s.poweredList.all (fun r => decide ((s.region r).pwr.hot.toNat ≤ 8 * s.dictNat 0x401003))
  if !s.power.active || s.power.parking || s.power.coolOff || s.power.down || leak || flow.toNat < 40 || !cool ||
      s.power.faultMs + 200 < s.ms then .next s
  else
    let s := s.updPower (fun p => { p with active := false })
    let s := s.event 0x0303 0xFF (natLE 4 (s.ms - s.power.faultMs))
    if s.clk.causes.contains 3 || s.clk.causes.contains 4 then .next s.selectVariant
    else match s.boot.plan with
      | none => .next s
      | some p => match s.highestFit p with
        | none => .next (if s.clk.causes.contains 7 then s else s.nameEasyAll 7 false none)
        | some k => .next (if s.clk.ticking then (s.raisePlan k).raised else s)

/-- A request becomes a token-only boathouse entry in flash (R683): its pages and places are given up. -/
def State.parkTokens (s : State) (id : BitVec 64) : State :=
  match s.req id, s.boot.plan with
  | some r0, some p =>
    let s := s.sendTokens r0
    let r := (s.req id).getD r0
    let old := r.boat
    let b : BoatEntry := { flash := true, edge := s.boatEdge true, bytes := 4 * r.tokens.length + 88,
                           parkMs := (old.map (fun b => b.parkMs)).getD s.ms, tierMs := s.ms, epoch := r.epoch, numerics := p.numerics,
                           pageSlot := p.pageSlot, blocks := 0, pagesOk := false, turn := r.turn, par := r.par, tokens := r.tokens }
    let s := match r.slot with
      | some k => s.putSlot k .free
      | none => s
    let s := (s.withdraw id).releaseSets r.sets
    let s := s.updReq id (fun q => { q with state := .parked, sets := [], reserved := 0, spill := false, retention := false, slot := none,
                                            boat := some b, inPrefill := false, redo := none, again := false, copying := false })
    (s.notice r.tag id r.turn 3 0).updPower (fun q => { q with written := q.written + 1 })
  | _, _ => s

/-- A request fails in a coolant fault. -/
def State.failCool (s : State) (id : BitVec 64) (detail : Nat) : State :=
  (s.complete id 5 detail).updPower (fun q => { q with lostReqs := q.lostReqs + 1 })

/-- The requests R683 writes to flash, in its order. -/
def State.toWrite (s : State) : List (BitVec 64) :=
  let of (f : Request → Bool) : List (BitVec 64) := (s.serve.t.reqs.filter f).map (fun r => r.id)
  of (fun r => r.state = .prefill) ++ of (fun r => r.state = .generating) ++ of (fun r => r.state = .parking) ++
    of (fun r => r.state = .retained) ++ of (fun r => r.state = .parked && (match r.boat with
      | some b => !b.flash
      | none => false))

/-- COOLANT_FAULT_TIMEOUT (R683): 200 ms after the fault, requests are written to flash, `n` of them by the deadline, and queued ones
fail with detail 8. -/
def execCoolantFaultTimeout (n : Nat) (s : State) : Host.Outcome State Fault Refusal :=
  if !s.power.active || s.power.parking || s.power.coolOff then .next s
  else
    let s := s.advanceTo ((s.power.faultMs + 200) * msTicks)
    let s := s.updPower (fun p => { p with parking := true })
    let s := if s.clk.running then s.enterEasy s.easyDue else s
    let s := (s.toWrite.take n).foldl (fun (s : State) id => s.parkTokens id) s
    let queued := (s.serve.t.reqs.filter (fun r => r.state = .queued)).map (fun r => r.id)
    .next (queued.foldl (fun (s : State) id => s.failCool id 8) s)

/-- Every region loses its power at once, in reverse order (R612, R683): what they held is lost, but for entries in flash. -/
def State.regionsOff (s : State) : State :=
  let s : State := { s with
    power := { s.power with on := 0, pg := 0, group := [] }
    tiles := s.tiles.foldl (fun (t : Table Tile) e => Table.put {} t e.1 { failing := (e.2 : Tile).failing }) []
    regions := []
    transit := []
    tier := { retired := s.tier.retired, repairs := s.tier.repairs, badPages := s.tier.badPages, softOnce := s.tier.softOnce, lateDesc := s.tier.lateDesc }
    boot := { s.boot with
      plan := none
      base := none
      planLoad := none
      variant := 0
      filled_ := false
      staked := false
      filled := []
      filling := false }
    weights := { s.weights with
      load := none
      copy := []
      copyRecords := []
      copyMan := none
      key := []
      epoch := 0
      imageId := 0
      state := 0
      newEpoch := none
      committing := none
      adapters := s.weights.adapters.map (fun a => { a with resident := false, opened := [] }) }
    clk := { s.clk with running := false, easy := 1, causes := [], named := [], resume := none, len := 0, fin := 0, step := 0 } }
  let s := s.updTables (fun t => { t with sets := [], slots := [], passes := [], planned := none })
  let s := (List.range 96).foldl (fun (s : State) k => s.resetLink k) s
  let s := (List.range 8).foldl (fun (s : State) k => s.portDown k) s
  s.updLoopRef (fun q => { q with ready := q.ready &&& (1#128 <<< 8) })

/-- The regions are powered down for coolant (R683, R684). -/
def State.powerDownAll (s : State) : State := s.regionsOff.updPower (fun p => { p with coolOff := true, parking := false })

/-- COOLANT_PARK_DEADLINE (R683): at 900 ms what is not written fails with detail 11; then every region loses power. -/
def execCoolantParkDeadline (s : State) : Host.Outcome State Fault Refusal :=
  if !s.power.parking then .next s
  else
    let s := s.advanceTo ((s.power.faultMs + 900) * msTicks)
    let left := (s.serve.t.reqs.filter (fun r => !(r.state = .parked && (match r.boat with
      | some b => b.flash
      | none => false)))).map (fun r => r.id)
    let s := left.foldl (fun (s : State) id => s.failCool id 11) s
    let s := s.sendUnits
    let s := s.powerDownAll
    .next (s.event 0x0304 0xFF (natLE 4 s.power.written ++ natLE 4 s.power.lostReqs))

/-! ## Hot regions -/

/-- THERMAL_TRIP (R685). -/
def execThermalTrip (r : BitVec 6) (hot : BitVec 12) (s : State) : Host.Outcome State Fault Refusal :=
  let rn := r.toNat
  if !s.powered rn || hot.toNat < (s.region rn).pwr.trip.toNat then .next s
  else
    let s := s.updPwr rn (fun p => { p with tripped := true, hot := hot, peak := if p.peak.toNat < hot.toNat then hot else p.peak })
    let s := s.updPower (fun p => { p with trips := p.trips.filter (fun e => s.ms < e.2 + 60000) ++ [(rn, s.ms)] })
    let s := s.regionEvent rn 0x0305 (natLE 2 hot.toNat)
    .next ((s.trigger rn (trig 8)).forceStep0 [rn])

/-- REGION_HEAT_OFF (R686): a region that has tripped twice within 60 s, or that stays above 0x4010.03 at step 0, is switched off behind
the loss plan. -/
def execRegionHeatOff (r : BitVec 6) (hot : BitVec 12) (s : State) : Host.Outcome State Fault Refusal :=
  let rn := r.toNat
  let twice := decide (2 ≤ (s.power.trips.filter (fun e => e.1 = rn && decide (s.ms < e.2 + 60000))).length)
  let slow := (s.region rn).loop.stepAct = 0 && decide (8 * s.dictNat 0x401003 < hot.toNat)
  if !s.powered rn || !(twice || slow) || s.power.heatOff.getLsbD rn then .next s
  else
    let s := s.updPwr rn (fun p => { p with hot := hot })
    let s := s.updPower (fun p => { p with heatOff := p.heatOff ||| (1#64 <<< rn), heatPending := p.heatPending ++ [rn] })
    let s := s.event 0x0306 rn (natLE 2 hot.toNat)
    if s.boot.plan.isNone then .next (State.switchOff { s with power := { s.power with heatPending := [] } } rn)
    else .next (s.nameEasyAll 4 true (some s.nameStroke)).clearingWork

/-- REGION_COOLED (R687): the region has read below 60 degC, and may return. -/
def execRegionCooled (r : BitVec 6) (hot : BitVec 12) (s : State) : Host.Outcome State Fault Refusal :=
  if !s.power.heatOff.getLsbD r.toNat || s.powered r.toNat || 480 ≤ hot.toNat then .next s
  else .next (s.askPower r.toNat)

end Sys2Proof.Machine
end

