-- ==== Sys2Proof/Machine/TileFail.lean ====
section
/-! DEFINITION. Tiles that fail in service (R32, R33), and the two commands that find one: a row that cannot be remapped (R494) and a
bundle that fails again after two repairs (R185). -/

namespace Sys2Proof.Machine

/-- A tile fails: where its column's spare is unused the region control core records a new map, which the next plan load takes (R32);
where the spare is in use the region is lost, by clearing easy-all and the loss plan that excludes it (R33, log entry 43). -/
def State.failTile (s : State) (t : TileId) : State :=
  let r := t.region.toNat
  if (s.tile t).failing then s
  else
    let s := s.updTile t (fun x => { x with failing := true })
    if s.bypassNext r t.x.toNat = 0xFF then
      State.writeField { s with boot := { s.boot with
        fieldMap := Table.put 0xFF s.boot.fieldMap (16 * r + t.x.toNat) (BitVec.ofNat 8 (s.physTile t).2) } }
    else if s.boot.plan.isNone then
      let s := s.loseRegion r false
      if s.checking then s.updPlanLoad (fun l => { l with hit := true }) else s
    else
      let s : State := { s with boot := { s.boot with tileLost := s.boot.tileLost ++ [r] } }
      (s.nameEasyAll 1 true (some s.nameStroke)).clearingWork

/-- NOP (R185, R190): an empty slot does nothing; an empty CTL slot is a bundle that issues and goes on. With `fetchBad` the bundle fetched
holds a double-bit error, which stays until it is repaired (log entry 51): every slot of it issues empty from then on, commits are
withheld and FETCH_ERR is set; the same bundle failing again after two repairs makes the tile failing. -/
def execNop (t : TileId) (slot : Slot) (_op : BitVec 6) (fetchBad : Bool) (s : State) : Host.Outcome State Fault Refusal :=
  if !issuing s t then .next s
  else
    let x := s.tile t
    let broken := fetchBad && !bundleBad x
    let s := if broken then s.updTile t (fun x =>
        let c : Option (BitVec 10) := some (checkBits (Table.get 0 x.prog x.nextPc) ^^^ 3)
        { x with progChk := Table.put none x.progChk x.nextPc c }) else s
    let s := if broken && decide (2 ≤ Table.get 0 x.progRepairs x.nextPc) then s.failTile t else s
    if slot = .ctl then .next (ctlRun s t id (fun _ => none)) else .next s

/-- A row of a bank is copied to the next free spare, an uncorrectable word as it stands, and its entry made valid and recorded (R494);
without a free spare the tile is failing (R495). -/
def State.remapRow (s : State) (t : TileId) (b row : Nat) : State :=
    let x := s.tile t
    match (List.range 16).find? (fun i => !(Table.get 0 x.remap (16 * b + i)).getLsbD 8) with
    | none => s.failTile t
    | some sp =>
      let words := (List.range 16).map (fun i =>
        let n := 1024 * b + 4 * row + i / 4
        match readWord x n (i % 4) with
        | (d, .bad) => (d, rawCheck x n (i % 4))
        | (d, _) => (d, checkBits d))
      let r := t.region.toNat
      let s := s.updTile t (fun x =>
        let x := { x with remap := Table.put 0 x.remap (16 * b + sp) (BitVec.ofNat 9 (256 + row)) }
        (List.range 16).foldl (fun x i =>
          setRawWord x (1024 * b + 4 * row + i / 4) (i % 4) (words.getD i (0, 0)).1 (words.getD i (0, 0)).2) x)
      let s := State.writeField { s with remapRecord := s.remapRecord ++ [(t.key, b, row, sp)] }
      let s := s.updEcc r (fun e => { e with remaps := satAdd e.remaps 1 })
      s.regionEvent r 0x0405 (natLE 1 t.x.toNat ++ natLE 1 t.y.toNat ++ natLE 1 b ++ natLE 1 row ++ natLE 1 sp)

/-- ROW_REMAP (R494, R495): the oldest hard row of the bank is remapped. -/
def execRowRemap (t : TileId) (bank : BitVec 5) (s : State) : Host.Outcome State Fault Refusal :=
  match ((s.tile t).scrubOf bank.toNat).hard with
  | [] => .next s
  | row :: rest => .next ((s.updTile t (fun x => x.updScrub bank.toNat (fun q => { q with hard := rest }))).remapRow t bank.toNat row)

end Sys2Proof.Machine
end

