-- ==== Sys2Proof/Machine/BringUp.lean ====
section
/-! DEFINITION. The power-on sequence, boot verification and the recovery protocol, restarts, and takeover between the Cox
complexes (chapters 12, 14 and 15). -/

namespace Sys2Proof.Machine

/-- Change bring-up and trust. -/
def State.updBoot (s : State) (f : Boot → Boot) : State := { s with boot := f s.boot }

/-- Cox runs and answers (R594, R612, R684). -/
def State.coxUp (s : State) : Bool := !s.host.recovery.on && (decide (5 ≤ s.boot.step) || s.boot.reason = 2)

/-- Objects written to the field section with their own write (R708, R771). -/
def ownWrite (key : Nat) : Bool := decide (0x800000 ≤ key) || [0x141001, 0x23000B, 0x240005].contains key

/-! ## Steps 1 to 4 -/

/-- Step 2 (R665, R690): the usable regions are powered in groups, the search runs, and hardware fills the route tables (R517). -/
def State.powerRegions (s : State) : State :=
  let off := s.power.failed ||| s.power.latch ||| s.power.heatOff
  let s : State := { s with
    power := { s.power with booted := true, on := s.ident.present &&& ~~~off, coolOff := false, active := false }
    boot := { s.boot with step := 2, excluded := off, returned := 0 } }
  ((s.rewriteRoutes (fun r => s.ident.present.getLsbD r)).nextGroup).searchRef

/-- POWER_ON (R690): the bus has charged, and the power-on sequence runs. -/
def execPowerOn (s : State) : Host.Outcome State Fault Refusal :=
  if !s.power.bus || s.power.booted || s.power.down then .next s
  else .next (State.powerRegions (s.updBoot (fun b => { b with upMs := s.ms })))

/-- The boot ROM enters recovery (R609, R612): every region loses its power. -/
def State.enterRecovery (s : State) (reason : Nat) : State :=
  let s := s.regionsOff.updBoot (fun b => { b with step := 4 })
  s.updHost (fun h => { h with recovery := { on := true, reason := reason } })

/-! ## Step 5 on: Cox starts -/

/-- The dictionary at a boot (R771, R779, R711, R769): a restore gives defaults, class I objects take the value of the field
section, and an invalid field section gives defaults. -/
def State.bootDict (s : State) : State :=
  let bad := s.boot.recordState = 3
  let keep (k : Nat) : Bool := !bad && ownWrite k
  let s : State :=
    if !s.host.restore && !bad then s
    else { s with
      dict := s.dict.filter (fun e => keep e.1)
      blobs := s.blobs.filter (fun e => keep e.1)
      power := { s.power with failed := 0 }
      host := { s.host with
        restore := false
        stored := s.host.stored.filter (fun e => keep e.1)
        storedBlobs := s.host.storedBlobs.filter (fun e => keep e.1) } }
  [0x120003, 0x200001, 0x23000B, 0x240005, 0x300001, 0x803004].foldl (fun (s : State) k =>
    let v := (Table.get none s.host.stored k).getD (catalogDefault k)
    if s.dictNat k = v then s.takeEffect [k]
    else { s with host := { s.host with inForce := Table.put none s.host.inForce k (some v) } }) s

/-- The recorder at a boot (R737, R740, R749, R758, R760): counts come back from flash, and records lost are reported. -/
def State.bootLog (s : State) : State :=
  let s : State := { s with log := { s.log with
    rates := []
    intervalStart := s.ms
    limit := s.dictNat 0x501001
    overrides := s.blob 0x501002
    suppressedTotal := 0
    hist := s.log.histFlash
    stageCnt := s.log.stageFlash
    extremes := s.log.extFlash } }
  let s := if s.log.newest + 1 < s.dictNat 0x502001 then s.setDict 0x502001 (s.log.newest + 1) else s
  s.event 0x0001 0xFF (natLE 4 s.boot.bootCount ++ natLE 1 s.boot.reason ++ natLE 4 s.boot.fwVersion.toNat)

/-- Records that the configuration record and the power-fail flush call for (R710, R711, R760); the number of a section and the cause
of records that a power-fail left unwritten are open (log entry 5). -/
def State.bootRecords (s : State) (b : BootInputs) : State :=
  let byte (i : Nat) : Bytes := natLE 1 ((Config.freeBits (s.free + i)).toNat % 256)
  let s := s.useFree 4
  let s := if b.fieldCopies = 3 then s.event 0x0A02 0xFF (byte 0 ++ natLE 8 s.boot.recordSeq) else s
  let s := if !b.factoryOk then s.event 0x0A03 0xFF (byte 1) else s
  let s := if b.fieldCopies = 2 then s.event 0x0A03 0xFF (byte 2) else s
  if s.log.lostCount = 0 then s
  else State.event { s with log := { s.log with lostCount := 0, lostFirst := 0 } } 0x0003 0xFF
    (natLE 8 s.log.lostFirst ++ natLE 4 s.log.lostCount ++ byte 3)

/-- Blocks, lane tables, region settings and links (R646, R690 steps 5 and 8, R774). -/
def State.enableAll (s : State) : State :=
  s.eachRegion (fun r s =>
    if !s.powered r then s
    else
      let s := s.updRegion r (fun g => { g with
        clk := { g.clk with laneEn := true }
        mesh := { g.mesh with coxRegion := BitVec.ofNat 6 s.boot.active } })
      let s := (List.range 9).foldl (fun (s : State) b => s.enableBlock r b) (s.configRegion r)
      match edgeIndex r with
      | some e => (List.range 6).foldl (fun (s : State) i =>
          if leNat (s.blob 0x600001) / 2 ^ (6 * e + i) % 2 = 1 then s.enableBlock r (9 + i) else s) s
      | none => s)

/-- With both copies of the field section invalid, what it holds is at its defaults (R709, R711). -/
def State.fieldDefaults (s : State) : State :=
  { s with
    boot := { s.boot with bootCount := 0, recordSeq := 0, versionFloor := 0, authCounter := 0, regionGen := [], fieldMap := [] }
    weights := { s.weights with floor := 0, floorImage := 0 }
    power := { s.power with failed := 0 }
    tier := { s.tier with
      retired := []
      repairs := []
      badPages := [] }
    remapRecord := [] }

/-- A firmware image is started (R694, R702). -/
def State.runFirmware (s : State) (f : Firmware) : State := s.updBoot (fun b => { b with fwVersion := fwVersionOf f, fwDigest := fwDigestOf f })

/-- The power-on test (R692): failing scratch rows of powered regions are remapped, failing stack rows repaired and failing module-tier
pages retired, in the signed record. -/
def State.powerOnTest (s : State) (b : BootInputs) : State :=
  if s.inForceNat 0x200001 = 0 then s
  else
    let s := (b.failRows.filter (fun e => s.powered e.1.region.toNat)).foldl
      (fun (s : State) e => s.remapRow e.1 e.2.1.toNat e.2.2.toNat) s
    if b.failPages = [] then s
    else State.writeField { s with tier := { s.tier with
      repairs := (s.tier.repairs ++ b.failPages.filter (fun e => decide (e.1 < 32))).eraseDups
      badPages := (s.tier.badPages ++ b.failPages.filter (fun e => decide (32 ≤ e.1))).eraseDups } }

/-- Steps 5 to 9 (R690): Cox starts; dead control cores make lost regions (R33) and dead channels excluded ones; the committed plan is
loaded, or the self-test plan runs (R613). -/
def State.startCox (s : State) (b : BootInputs) : State :=
  let s := if b.fieldCopies = 2 then s.fieldDefaults else s
  let s : State := { s with
    boot := { s.boot with
      step := 5
      bootCount := s.boot.bootCount + 1
      recordSeq := s.boot.recordSeq + 1
      coxRestarts := min 3 b.coxFailures
      recordState := if b.fieldCopies = 2 then 3 else if !b.factoryOk then 2 else if b.fieldCopies = 0 then 0 else 1
      selfTestIs := b.selfTest.toNat
      selfTest := 0
      attest := 0
      auths := []
      standby := if s.boot.coxHeld = [] then 1 else 0 }
    counts := s.counts.filter (fun e => [0x701005, 0x704001].contains e.1)
    tier := { s.tier with mem := [] } }
  let s := s.bootDict
  let s := s.updBoot (fun c => { c with
    debug := decide (s.dictNat 0x803004 = 1)
    testResult := if s.inForceNat 0x200001 = 0 then 0 else b.test.toNat })
  let s := s.bootLog.bootRecords b
  if !b.factoryOk then s
  else
    let s := s.enableAll.powerOnTest b
    let s := ((List.range 64).filter (fun r => b.deadCores.getLsbD r)).foldl (fun (s : State) r => s.loseRegion r false) s
    let dead : BitVec 64 := (List.range 64).foldl (fun m c =>
      if b.deadChannels.getLsbD c then m ||| (1#64 <<< edgeRegions.getD (chanEdge c) 0) else m) 0#64
    let s := s.updBoot (fun c => { c with excluded := c.excluded ||| dead, step := 9 })
    if (Table.get none s.boot.planSlots (s.dictNat 0x240005)).isSome then s.beginLoad none else s.selfTestPlan

/-- SCRATCH_FILL_DONE (R488, R690): step 3 ends; the boot ROM verifies the firmware (R694, R695), and Cox starts or the recovery
protocol runs (R609). A recovery image starts at once (R612). -/
def execScratchFillDone (b : BootInputs) (s : State) : Host.Outcome State Fault Refusal :=
  if !s.boot.filling then .next s
  else
    let s := s.scratchFilled
    match s.host.recovery.image with
    | some fw =>
      let s := s.updHost (fun h => { h with recovery := {} })
      .next (State.startCox ((s.updBoot (fun c => { c with reason := 3 })).runFirmware fw) b)
    | none =>
      let fw := s.boot.fwFlash.getD b.firmware
      if s.dictNat 0x141001 = 1 then .next (((s.storeDict 0x141001 0).takeEffect [0x141001]).enterRecovery 3)
      else if !fw.readable then .next (s.enterRecovery 2)
      else if !fwOk s.boot.versionFloor fw then .next (s.enterRecovery 1)
      else if 4 ≤ b.coxFailures then .next (s.enterRecovery 2)
      else .next ((s.runFirmware fw).startCox b)

/-! ## Restarts -/

/-- A request whose entry lies in flash, re-entered as a parked request from what the entry carries (R688, R726). -/
def fromFlash (r : Request) : Option Request :=
  match r.boat with
  | some b =>
    if b.flash then
      some { id := r.id, tag := r.tag, state := .parked, turn := b.turn, par := b.par, tokens := b.tokens, epoch := b.epoch, boat := some b }
    else none
  | none => none

/-- The power-fail flush ends (R745, R760): the oldest 8,192 unflushed records are written, and the rest are lost. -/
def State.failFlush (s : State) : State :=
  let hi := min s.log.newest (s.log.flushed + 8192)
  let l := flushTo 64 s.log hi
  { s with log := { l with
    flushing := none
    lostFirst := if hi < s.log.newest then hi + 1 else l.lostFirst
    lostCount := l.lostCount + (s.log.newest - hi) } }

/-- Power is removed (R659, R688): what flash and the field section hold stays, and all else is as at power-on. -/
def State.powerLost (s : State) : State :=
  let s := s.failFlush
  { now := s.now
    free := s.free
    ident := s.ident
    pending := s.pending
    dict := s.host.stored
    blobs := s.host.storedBlobs
    remapRecord := s.remapRecord
    tiles := s.tiles.foldl (fun (t : Table Tile) e => Table.put {} t e.1 { failing := (e.2 : Tile).failing }) []
    tier := {
      retired := s.tier.retired
      repairs := s.tier.repairs
      badPages := s.tier.badPages }
    counts := s.counts.filter (fun e => [0x701005, 0x704001].contains e.1)
    power := { failed := s.power.failed, vin := s.power.vin }
    host := {
      mated := s.host.mated
      tc := s.host.tc
      stored := s.host.stored
      storedBlobs := s.host.storedBlobs
      restore := s.host.restore }
    serve := { t := { reqs := s.serve.t.reqs.filterMap fromFlash } }
    weights := {
      floor := s.weights.floor
      floorImage := s.weights.floorImage
      slots := s.weights.slots
      adapters := s.weights.adapters.map (fun a => { a with resident := false, opened := [] }) }
    log := {
      flash := s.log.flash
      flushed := s.log.flushed
      newest := s.log.flushed
      erased := s.log.erased
      foundOnce := s.log.foundOnce
      pages := s.log.pages
      blockEnds := s.log.blockEnds
      lostFirst := s.log.lostFirst
      lostCount := s.log.lostCount
      histFlash := s.log.histFlash
      stageFlash := s.log.stageFlash
      extFlash := s.log.extFlash }
    boot := {
      bootCount := s.boot.bootCount
      fieldMap := s.boot.fieldMap
      mapNow := s.boot.mapNow
      planSlots := s.boot.planSlots
      regionGen := s.boot.regionGen
      reason := 1
      versionFloor := s.boot.versionFloor
      fwFlash := s.boot.fwFlash
      coxFails := s.boot.coxFails
      coxHeld := s.boot.coxHeld
      authCounter := s.boot.authCounter
      recordSeq := s.boot.recordSeq } }

/-- INPUT_RESTORED (R659): the input has stayed within 46-59 V (`vin` in 0.1 V) for 1 s, and the module starts again from the
beginning. -/
def execInputRestored (vin : BitVec 10) (s : State) : Host.Outcome State Fault Refusal :=
  if !s.power.down || vin.toNat < 460 || 590 < vin.toNat then .next s
  else
    let s := s.advanceTo (s.now + 1000 * msTicks)
    .next (State.powerLost (s.updPower (fun p => { p with vin := vin })))

/-- COOLANT_AUTO_RESTART (R684): 60 s of good flow and inlet and no leak with 0x4020.05 at 1; after a leak only once 0x4020.05 has been
written 1 again. The sequence runs from region power on. -/
def execCoolantAutoRestart (flow : BitVec 8) (inlet : BitVec 12) (leak : Bool) (s : State) : Host.Outcome State Fault Refusal :=
  let s := s.updPower (fun p => { p with flow := flow, inlet := inlet })
  if !s.power.coolOff || s.power.down || s.dictNat 0x402005 ≠ 1 || s.power.leakWait || leak || flow.toNat < 40 ||
      8 * s.dictNat 0x402004 < inlet.toNat then .next s
  else .next (State.powerRegions (s.updBoot (fun b => { b with reason := 2 })))

/-! ## The recovery protocol -/

/-- Change the recovery protocol. -/
def State.updRecovery (s : State) (f : Recovery → Recovery) : State := s.updHost (fun h => { h with recovery := f h.recovery })

/-- The head of a message of the recovery-image protocol (R610). -/
def recoveryHead (type : Nat) (session : Word) : Bytes := natLE 2 0x5254 ++ natLE 1 1 ++ natLE 1 type ++ natLE 4 session.toNat

/-- A message of the protocol, of a type, with its fields whole (R610). -/
def isRecovery (msg : Bytes) (type least : Nat) : Bool :=
  decide (8 + least ≤ msg.length) && decide (fieldNat msg 0 2 = 0x5254) && decide (fieldNat msg 2 1 = 1) && decide (fieldNat msg 3 1 = type)

/-- SESSION (R610). -/
def recoverySession (msg : Bytes) : Word := BitVec.ofNat 32 (fieldNat msg 4 4)

/-- FETCH and RESULT (R610). -/
def fetchMsg (session : Word) (offset chunks : Nat) : Bytes := recoveryHead 3 session ++ natLE 4 offset ++ natLE 2 chunks
def resultMsg (session : Word) (code : Nat) : Bytes := recoveryHead 5 session ++ natLE 1 code

/-- A RESULT is sent to a server. -/
def State.putResult (s : State) (server code : Nat) : State := s.put (.recovery (some server) (resultMsg s.host.recovery.session code))

/-- One chunk is fetched from a server. -/
def State.putFetch (s : State) (server c : Nat) : State :=
  s.put (.recovery (some server) (fetchMsg s.host.recovery.session (1024 * c) 1))

/-- SOLICIT (R610, R611): sent every second until an offer is accepted, with a SESSION drawn from the identity source. -/
def execSolicit (s : State) : Host.Outcome State Fault Refusal :=
  let q := s.host.recovery
  if !q.on || q.server.isSome then .next s
  else
    let session : Word := (Config.freeBits s.free).setWidth 32
    let s := (s.useFree 1).updRecovery (fun q => { q with session := session })
    .next (s.put (.recovery none (recoveryHead 1 session ++ natLE 16 s.ident.serial.toNat ++ natLE 1 (steppingByte s.ident.stepping) ++
      natLE 1 q.reason ++ padTo 2 (Config.sealed 9 []) ++ natLE 4 s.boot.versionFloor.toNat)))

/-- Chunks of an image. -/
def chunkCount (len : Nat) : Nat := ceilDiv len 1024

/-- Chunks are fetched while fewer than 16 are outstanding (R611), each by a FETCH of its own. -/
def State.fetchMore (s : State) : State :=
  let q := s.host.recovery
  match q.server with
  | none => s
  | some (srv, len, _) =>
    let room := 16 - q.asked.length
    let next := ((List.range (chunkCount len)).filter (fun c => (Table.get none q.got c).isNone && !q.asked.contains c)).take room
    let s := s.updRecovery (fun q => { q with asked := q.asked ++ next })
    next.foldl (fun (s : State) c => s.putFetch srv c) s

/-- OFFER (R611, R612): the first good offer of the session is accepted; another is answered with RESULT, whose code the spec leaves
open unless the version is below the floor or the image too long (log entry 5). -/
def execOffer (server : Nat) (msg : Bytes) (s : State) : Host.Outcome State Fault Refusal :=
  let session := recoverySession msg
  let length := fieldNat msg 8 4
  let version : Word := BitVec.ofNat 32 (fieldNat msg 12 4)
  let q := s.host.recovery
  if !q.on || !isRecovery msg 2 8 || q.ignored.any (fun e => e.1 = server) then .next s
  else if version.toNat < s.boot.versionFloor.toNat then .next (s.putResult server 2)
  else if 67108864 < length then .next (s.putResult server 3)
  else if q.server.isSome || session ≠ q.session then
    .next ((s.useFree 1).putResult server ((Config.freeBits s.free).toNat % 256))
  else .next (s.updRecovery (fun q => { q with server := some (server, length, version) })).fetchMore

/-- RECOVERY_DATA (R610, R611): the bytes of one outstanding chunk arrive. -/
def execRecoveryData (server : Nat) (msg : Bytes) (s : State) : Host.Outcome State Fault Refusal :=
  let session := recoverySession msg
  let offset := fieldNat msg 8 4
  let data := slice msg 14 (fieldNat msg 12 2)
  let q := s.host.recovery
  match q.server with
  | none => .next s
  | some (srv, len, _) =>
    let c := offset / 1024
    if !q.on || !isRecovery msg 4 6 || srv ≠ server || session ≠ q.session || offset % 1024 ≠ 0 || !q.asked.contains c || data.length ≠ min 1024 (len - offset) then .next s
    else .next (s.updRecovery (fun q => { q with
      got := Table.put none q.got c (some data)
      asked := q.asked.filter (fun x => x ≠ c) })).fetchMore

/-- The server is abandoned, or its image refused (R611, R612): RESULT, and its offers are ignored for 60 s. -/
def State.dropServer (s : State) (server code : Nat) : State :=
  (s.putResult server code).updRecovery (fun q => { q with
    server := none
    got := []
    asked := []
    fails := []
    ignored := q.ignored ++ [(server, s.ms)] })

/-- FETCH_RETRY (R611): 250 ms without data; what is outstanding is fetched again, and a chunk that fails 8 times abandons the
server. -/
def execFetchRetry (s : State) : Host.Outcome State Fault Refusal :=
  let q := s.host.recovery
  match q.server with
  | none => .next s
  | some (srv, _, _) =>
    if !q.on || q.asked = [] then .next s
    else
      let s := s.advanceTo (s.now + 250 * msTicks)
      let s := s.updRecovery (fun q => { q with
        fails := q.asked.foldl (fun (t : Table Nat) c => Table.put 0 t c (Table.get 0 t c + 1)) q.fails })
      if s.host.recovery.asked.any (fun c => decide (8 ≤ Table.get 0 s.host.recovery.fails c)) then .next (s.dropServer srv 4)
      else .next (s.host.recovery.asked.foldl (fun (s : State) c => s.putFetch srv c) s)

/-- The image fetched from a recovery server (R611): its chunks in order. -/
def recovered (q : Recovery) (len : Nat) : Firmware :=
  { bytes := (List.range (chunkCount len)).flatMap (fun c => (Table.get none q.got c).getD []) }

/-- RECOVERY_VERIFY (R612): the whole image is verified; one that passes is written to flash, and the regions are powered again. -/
def execRecoveryVerify (s : State) : Host.Outcome State Fault Refusal :=
  let q := s.host.recovery
  match q.server with
  | none => .next s
  | some (srv, len, _) =>
    let fw := recovered q len
    if !q.on || !(List.range (chunkCount len)).all (fun c => (Table.get none q.got c).isSome) then .next s
    else if fwOk s.boot.versionFloor fw then
      let s := (s.putResult srv 0).updRecovery (fun q => { q with on := false, image := some fw })
      .next (State.powerRegions (s.updBoot (fun b => { b with fwFlash := some fw })))
    else .next (s.dropServer srv (if fwGenuine fw then 2 else 1))

/-- SERVER_IGNORE_EXPIRY (R612): after 60 s a server's offers are taken again. -/
def execServerIgnoreExpiry (server : Nat) (s : State) : Host.Outcome State Fault Refusal :=
  match s.host.recovery.ignored.find? (fun e => e.1 = server) with
  | none => .next s
  | some e =>
    let s := s.advanceTo ((e.2 + 60000) * msTicks)
    .next (s.updRecovery (fun q => { q with ignored := q.ignored.filter (fun x => x.1 ≠ server) }))

/-! ## Takeover between the complexes -/

/-- The other Cox complex's region. -/
def otherCox (r : Nat) : Nat := if r = 4 then 59 else 4

/-- The next state of a meaning. -/
def State.after (s : State) (f : State → Host.Outcome State Fault Refusal) : State :=
  match f s with
  | .next t => t
  | _ => s

/-- A message in a receive ring is acted on again (R397). -/
def State.replayMsg (s : State) : Instr → State
  | .request a => s.after (execRequest a)
  | .cancel a => s.after (execCancel a)
  | .park a => s.after (execPark a)
  | .resume a => s.after (execResume a)
  | .handOff a => s.after (execHandOff a)
  | _ => s

/-- The blocks of a request whose sets have flushed by now (R336): allocated ones, and those a pass at the last layer stage completes in the
stroke in progress. -/
def State.flushedNow (s : State) (r : Request) : Nat :=
  let last := match s.boot.plan with
    | some p => (s.serve.t.passes.filter (fun q => q.id = r.id && (q.entry + p.lastLayer) % 2 ^ 48 = s.clk.stroke.toNat)).foldl
        (fun (n : Nat) q => max n ((q.first + q.count - 1) / 64)) 0
    | none => 0
  max r.sets.length (max last r.privateTo)

/-- The tables of the last finish, for a standby: the sets flushed since stay private (R348). -/
def State.mirrorTables (s : State) : Tables :=
  let m := s.serve.mirror
  if s.clk.finished then m
  else { m with reqs := m.reqs.map (fun r => match s.req r.id with
    | some q => { r with privateTo := s.flushedNow q }
    | none => r) }

/-- The standby puts its tables of the last finish in service, and acts on the messages in the rings (R397, R725, R758, R781). While no
strokes run the tables are current. -/
def State.useMirror (s : State) : State :=
  let s : State := { s with log := { s.log with hist := s.log.histMirror, stageCnt := s.log.stageMirror, extremes := s.log.extMirror } }
  if !s.clk.running then s
  else
    let msgs := s.ring
    let again := s.serve.lastSent
    let s : State := { s with
      ring := []
      serve := { s.serve with
        t := s.mirrorTables
        conns := s.serve.conns.map (fun e => (e.1, (e.2 : Option Conn).map (fun c => { c with outbox := [] }))) }
      mode := { s.mode with
        vec := if s.fixedPolicy then {} else if s.clk.finished then s.mode.mirrorVec else vecAfter s.mode.mirrorVec s.mode.mirrorChanges s.clk.stroke
        crabRun := s.mode.mirrorRun
        changes := if s.clk.finished then s.mode.mirrorChanges else s.mode.mirrorChanges.filter (fun c => !c.due s.clk.stroke) }
      dict := s.host.mirror
      blobs := s.host.mirrorBlobs }
    let s := again.foldl (fun (s : State) m => match m.2 with
      | .tokens _ _ _ _ _ _ => s.sendMsg m.1 m.2
      | _ => s) s
    msgs.foldl (fun (s : State) m => s.replayMsg m) s

/-- What the active complex keeps of its dictionary clients goes with it (R614): responses, pieces, kept values, a CAN message. -/
def State.dropClients (s : State) : State :=
  s.updHost (fun h => { h with txs := [], pieces := [], kept := [], can := { h.can with msg := none } })

/-- The failure of the active complex (R724-R726, R734, R39): causes 1 watchdog, 2 memory error, 3 lockup. A ready standby takes over; else
the wafer enters clearing easy-all and Cox restarts from step 5. -/
def State.coxFails_ (s : State) (cause : Nat) (b : BootInputs) : State :=
  let old := s.boot.active
  let other := otherCox old
  let fails := s.boot.coxFails.filter (fun e => decide (s.ms < e.2 + 86400000)) ++ [(old, s.ms)]
  let hold := decide (3 ≤ (fails.filter (fun e => e.1 = old)).length)
  let held := if hold then s.boot.coxHeld ++ [old] else s.boot.coxHeld
  let ready := s.boot.standby = 2
  let s := s.dropClients.updBoot (fun c => { c with
    coxFails := fails
    coxHeld := held
    active := if held.contains other then old else other
    standby := if held = [] then 1 else 0 })
  let s := s.eachRegion (fun r s =>
    if s.powered r then s.updMesh r (fun m => { m with coxRegion := BitVec.ofNat 6 s.boot.active }) else s)
  let s :=
    if ready then
      let s := (s.useMirror.count 0x24000B 1).event 0x0A00 0xFF (natLE 1 old ++ natLE 1 cause)
      s.updPlanLoad (fun l =>
        if l.variant.isSome then l
        else if l.phase ≤ 2 then { l with plan := none, phase := 1 } else { l with phase := 2 })
    else
      let s := if s.boot.plan.isSome then s.easyNow 12 else s
      let s := s.detachAll (s.serve.conns.map (fun e => e.1))
      let s := s.clearCrews (fun _ => true)
      let s : State := { s with
        ring := []
        serve := { s.serve with t := { reqs := s.serve.t.reqs.filterMap fromFlash }, mirror := {}, lastSent := [], drained := false, moves := [] }
        weights := { s.weights with load := none, copy := [], copyRecords := [], copyMan := none, key := [], epoch := 0, imageId := 0, state := 0, newEpoch := none }
        clk := { s.clk with len := 0, fin := 0, step := 0, resume := none, named := [] }
        boot := { s.boot with
          reason := 4
          plan := none
          base := none
          planLoad := none
          variant := 0
          filled_ := false
          staked := false
          filled := [] } }
      s.startCox b
  if hold then s.event 0x0A01 0xFF (natLE 1 old) else s

/-- COX_WATCHDOG_EXPIRY (R724): the watchdog of the active complex has run 5 ms. -/
def execCoxWatchdogExpiry (b : BootInputs) (s : State) : Host.Outcome State Fault Refusal :=
  if !s.coxUp then .next s else .next (s.coxFails_ 1 b)

/-- COX_FATAL_FAULT (R724): an uncorrectable memory error, or a core lockup. -/
def execCoxFatalFault (f : CoxFault) (b : BootInputs) (s : State) : Host.Outcome State Fault Refusal :=
  if !s.coxUp then .next s
  else .next (s.coxFails_ (match f with
    | .memory => 2
    | .lockup => 3) b)

/-- STANDBY_READY (R726): the other complex has resynchronised. -/
def execStandbyReady (s : State) : Host.Outcome State Fault Refusal :=
  if s.boot.standby ≠ 1 || s.boot.coxHeld.contains (otherCox s.boot.active) then .next s
  else .next (s.updBoot (fun b => { b with standby := 2 }))

end Sys2Proof.Machine
end

