-- ==== Sys2Proof/Machine/Commit.lean ====
section
/-! DEFINITION. A committed token (R50, R336, R339, R416-R419, R434-R446). -/

namespace Sys2Proof.Machine

/-- Allocate the page sets of blocks that completed (R335-R337), from the request's reservation. -/
def State.allocSets (s : State) (id : BitVec 64) : Nat → State
  | 0 => s
  | n + 1 =>
    match s.req id with
    | none => s
    | some r =>
      let a := s.allocSet r.adapter r.epoch
      (a.1.setReq { r with sets := r.sets ++ [a.2], reserved := r.reserved - 1 }).allocSets id n

/-- A request parks after its commit (R446): its token record, then notice 2, then a hand-off that waits for it. -/
def State.parkAfter (s : State) (id : BitVec 64) : State :=
  match s.req id with
  | none => s
  | some r =>
    let s := ((s.sendTokens r).giveUpSlot r []).parkNow id
    match r.moveTo with
    | some serial => s.startMove id serial
    | none => s

/-- The slot of a committed token runs from its first token on (R401). -/
def State.runSlot (s : State) (r : Request) : State :=
  match r.slot with
  | some k => s.putSlot k (.running r.id)
  | none => s

/-- A token is committed for a pass (R419, R434, R441, R446). A park that a cancel overtakes before the same catch does not act (R453). -/
def State.commitToken (s : State) (r : Request) (q : Pass) (tok : Nat) : State :=
  let rec_ : TokenRec := { token := BitVec.ofNat 32 tok, widened := q.widened, crossed := r.crossed, epoch := s.weights.epoch
                           stroke := s.clk.stroke.setWidth 32 }
  let first := match r.firstCommit with
    | some t => some t
    | none => some s.now
  let state := if r.state = .prefill then .generating else r.state
  let r' : Request := { r with tokens := r.tokens ++ [rec_.token], committed := r.committed ++ [rec_], drops := 0, firstCommit := first,
                               state := state, again := false, donePos := r.tokens.length }
  let s := ((s.setReq r').runSlot r').count 0x302007 1
  let s := s.updServe (fun v => { v with tokensNow := v.tokensNow + 1 })
  let full := max ((q.first + q.count - 1) / 64) r.flushed
  let s := (s.allocSets r.id (full - r.sets.length)).insertSets r.id r.sets.length
  let stop := match r.par with
    | some m => (m.stopIds.take m.stopCount).contains rec_.token
    | none => false
  if stop then s.complete r.id 0 0
  else if r.committed.length + 1 = r.maxNew then s.complete r.id 1 0
  else if r.tokens.length + 1 = s.contextLimit then s.complete r.id 3 0
  else if state = .parking && !(r.cancel && decide (r.parkStroke = some s.clk.stroke)) then s.parkAfter r.id
  else s

/-- A pass still counts: its generation slot, if it has one, runs for its request (R401). -/
def State.passLive (s : State) (q : Pass) : Bool :=
  match q.slot with
  | some k => s.slot k = .running q.id
  | none => true

/-- TOKEN_COMMIT (R150, R416-R419): the sampler crew commits for the request whose sampled row is at it in this stroke. Poisoned
logits withhold the commit; with no valid logit the request fails with detail 10. -/
def execTokenCommit (id : BitVec 64) (logits : List Word) (poisoned : Bool) (s : State) : Host.Outcome State Fault Refusal :=
  match s.boot.plan, s.req id with
  | some p, some r =>
    match s.serve.t.passes.find? (fun q => q.id = id && q.sampled && !q.lost && s.passLive q && decide ((q.entry + p.commitOffset) % 2 ^ 48 = s.strokeNat)) with
    | none => .next s
    | some q =>
      if !s.clk.running then .next s
      else
        let s := s.advanceToTick (s.clk.catchTick + s.clk.fin)
        if poisoned then
          .next (s.updTables (fun t => { t with passes := t.passes.map (fun x => if x = q then { x with lost := true } else x) }))
        else
          let s := s.updTables (fun t => { t with passes := t.passes.filter (fun x => x ≠ q) })
          match r.par with
          | none => .next s
          | some m =>
            match sampleToken logits m.topK m.temperature m.topP m.minP m.seed r.turn r.committed.length with
            | none => .next (s.complete id 5 10)
            | some tok => .next (s.commitToken r q tok)
  | _, _ => .next s

end Sys2Proof.Machine
end

