-- ==== Sys2Proof/Machine/Connectors.lean ====
section
/-! DEFINITION. The tensor connectors (chapter 18). -/

namespace Sys2Proof.Machine

/-- A tensor connector. -/
def State.connector (s : State) (j : Nat) : Connector := Table.get {} s.host.tc j

/-- Change a tensor connector. -/
def State.setConnector (s : State) (j : Nat) (c : Connector) : State := s.updHost (fun h => { h with tc := Table.put {} h.tc j c })

/-- The six links of a connector (R783): T(6j) to T(6j+5). -/
def connectorLinks (j : Nat) : List Nat := (List.range 6).map (fun i => 6 * j + i)

/-- TENSOR_ASSEMBLY_MATE (R790, R791): AUX_3V3 is switched on for an active assembly, and the training of the connector's links starts
(R549). -/
def execTensorAssemblyMate (j : BitVec 4) (active : Bool) (s : State) : Host.Outcome State Fault Refusal :=
  if (s.connector j.toNat).present then .next s
  else
    let s := s.setConnector j.toNat { present := true, aux := active }
    .next ((connectorLinks j.toNat).foldl (fun (s : State) k =>
      if (s.link k).state = 1 then s.updLink k (fun l => { l with
        trips := []
        trainMs := s.ms })
      else s) s)

/-- The links of a connector that are up go down (R551, R791, R803). -/
def State.connectorDown (s : State) (j : Nat) : State :=
  (connectorLinks j).foldl (fun (s : State) k => if (s.link k).state = 2 then s.linkFalls k else s) s

/-- TENSOR_ASSEMBLY_UNMATE (R790, R791): AUX_3V3 goes off, a fault is forgotten, and the six links go down. -/
def execTensorAssemblyUnmate (j : BitVec 4) (s : State) : Host.Outcome State Fault Refusal :=
  if !(s.connector j.toNat).present then .next s
  else .next ((s.setConnector j.toNat {}).connectorDown j.toNat)

/-- AUX_FAULT (R790, R803): FAULT_N held low, or more than 4.4 A, for 100 us switches AUX_3V3 off until the assembly is unmated. -/
def execAuxFault (j : BitVec 4) (s : State) : Host.Outcome State Fault Refusal :=
  let c := s.connector j.toNat
  if !c.present || !c.aux then .next s
  else .next ((s.setConnector j.toNat { present := true, aux := false, fault := true }).connectorDown j.toNat)

end Sys2Proof.Machine
end

