-- ==== Sys2Proof/Machine/Fill.lean ====
section
/-! DEFINITION. The fill of weights: manifests and shard records, and what the failure of a load leaves in service (chapter 07). -/

namespace Sys2Proof.Machine

/-- The plan that served before a plan load goes back into service, with its weights from the refill copy (R375). -/
def State.restorePlan (s : State) (q : PrevPlan) : State :=
  let v := q.base.variants.find? (fun v => v.number = q.variant)
  let l : PlanLoad := { bad := q.bad, policyFixed := q.policyFixed, regatta := s.links.regattaId.toNat, map := q.map }
  let s := s.writePlan l q.base v
  let n := Table.get 0 s.counts 0x23000E
  match s.boot.plan, s.weights.copyMan with
  | some p, some m => match s.placeImage p m s.weights.copy with
    | some s =>
      let s := (State.writeImageKeys { s with counts := Table.put 0 s.counts 0x23000E n } p m).recordFill p s.weights.epoch
      { s with boot := { s.boot with filled_ := true } }
    | none => s
  | _, _ => s

/-- A load fails (R375, R385, R690, R720): a swap leaves what serves; a plan load ends with result 13, and the plan before it goes
back into service; where there was none, as at a boot, the plan stays with no image. -/
def State.fillFails (s : State) (code : Nat) : State :=
  match s.weights.load with
  | none => s
  | some l =>
    if l.kind = .swap then s.endLoad code
    else
      let s := match s.boot.planLoad.bind (fun q => q.prev) with
        | some q => s.restorePlan q
        | none => s
      (s.endAs l.kind code).planUnfilled

/-- A fill that has every shard ends (R376, R369). -/
def State.fillWhole (s : State) : State :=
  match s.weights.load with
  | some l => if l.kind ≠ .swap && s.loadComplete l then (match s.fillIn with
      | some s => s
      | none => s.fillFails 7) else s
  | none => s

/-- The manifest of the image being loaded has come, or cannot be read (R357, R359, R371). -/
def State.takeManifest (s : State) (manifest : Option Bytes) : State :=
  match s.weights.load with
  | none => s
  | some l =>
    if l.man.isSome then s
    else match s.manifestIn l manifest with
      | none => s.fillFails 1
      | some m => match s.manifestFault l m with
        | some c => s.fillFails c
        | none => (((s.updLoad (fun l => { l with
            man := some m
            key := (s.ident.contentKey m).getD [] })).broadcast 1 0 (manifestBytes m)).postReads 128).fillWhole

/-- MANIFEST_RECEIVE (R357, R359, R362, R363, R371): the bytes of the manifest of the image being loaded, none where they cannot be read;
it is verified, and the content key unwrapped. -/
def execManifestReceive (manifest : Option Bytes) (s : State) : Host.Outcome State Fault Refusal := .next (s.takeManifest manifest)

/-- A shard failed on this wafer (R374, R375): it is asked for again, and the third failure fails the load. -/
def State.shardFailed (s : State) (shard : Nat) : State :=
  match s.weights.load with
  | none => s
  | some l =>
    let n := Table.get 0 l.fails shard + 1
    let s := s.count 0x23000C 1
    let s := s.event 0x0901 0xFF (natLE 4 shard ++ natLE 1 n ++ natLE 2 s.boot.member)
    let s := match s.links.parent with
      | some k => if s.isMember then s.sendWord k (.rerequest shard n) else s
      | none => s
    if 3 ≤ n then s.fillFails 5
    else if s.isMember then s.updLoad (fun l => { l with fails := Table.put 0 l.fails shard n, again := l.again ++ [shard] })
    else (s.updLoad (fun l => { l with fails := Table.put 0 l.fails shard n, again := l.again ++ [shard] })).postReads 128

/-- A shard's bytes have been opened: they are kept with its record where this wafer uses them (R373). -/
def State.shardOpened (s : State) (m : Manifest) (i : Nat) (record opened : Bytes) : State :=
  let s := s.updLoad (fun l => { l with again := l.again.filter (fun k => k ≠ i) })
  if !s.keepsShard m i then s
  else (s.updLoad (fun l => { l with
    opened := Table.put none l.opened i (some (chunksOf 128 (opened.length + 1) opened))
    records := Table.put none l.records i (some record) })).fillWhole

/-- A shard record has come (R364, R365, R373, R374): it is sent on, and an ingress engine checks its tag and opens it. -/
def State.takeShard (s : State) (i : Nat) (record : Bytes) : State :=
  match s.weights.load with
  | none => s
  | some l => match l.man with
    | none => s
    | some m =>
      if m.shards.length ≤ i then s
      else
        let record := ((s.flashImage l).bind (fun f => Table.get none f.records i)).getD record
        let s := s.broadcast 2 i record
        if !s.ingressUp then s
        else match openShard l.key m i record with
          | none => s.shardFailed i
          | some bs => s.shardOpened m i record bs

/-- SHARD_RECORD_RECEIVE (R364, R365, R373, R374): a shard record, from this wafer's flash where the load reads it there; an ingress engine checks
its tag and opens it. Where no engine is enabled it waits, and times out (R374). -/
def execShardRecordReceive (shard : BitVec 20) (record : Bytes) (s : State) : Host.Outcome State Fault Refusal :=
  .next (s.takeShard shard.toNat record)

/-- SHARD_TIMEOUT (R374): a record that has not fully arrived in time fails. -/
def execShardTimeout (shard : BitVec 20) (s : State) : Host.Outcome State Fault Refusal :=
  match s.weights.load with
  | none => .next s
  | some l => match l.man with
    | none => .next s
    | some m =>
      if m.shards.length ≤ shard.toNat || (Table.get none l.opened shard.toNat).isSome then .next s else .next (s.shardFailed shard.toNat)

end Sys2Proof.Machine
end

