-- ==== Sys2Proof/Machine/Trust.lean ====
section
/-! DEFINITION. Attestation, authorisations, keys, firmware updates, and the store of the field section (chapters 12, 15 and 17). -/

namespace Sys2Proof.Machine

/-! ## Store and restore -/

/-- A store covers an object (R777): RW, below 0x8000, not written with its own write. -/
def stored (e : DictEntry) : Bool := e.access = .rw && decide (e.key < 0x800000) && !ownWrite e.key

/-- A key the store covers. -/
def storedKey (k : Nat) : Bool := match catalogFind k with
  | some e => stored e
  | none => false

/-- A write of 0x1010.01 (R606, R778, R779). -/
def State.storeStart (s : State) (value : Nat) : State :=
  if value ≠ 0x53544F52 then s.answer 3
  else if s.host.storeState = 1 then s.answer 5
  else (s.updHost (fun h => { h with storeState := 1, restore := false })).answer 0

/-- The store ends (R606, R777): the values it covers are in the field section. -/
def State.storeDone (s : State) : State :=
  (s.updHost (fun h => { h with
    storeState := 2
    stored := s.dict.filter (fun e => storedKey e.1) |>.foldl (fun (t : Table (Option Nat)) e => Table.put none t e.1 e.2)
      (h.stored.filter (fun e => !storedKey e.1))
    storedBlobs := s.blobs.filter (fun e => storedKey e.1) |>.foldl (fun (t : Table (Option Bytes)) e => Table.put none t e.1 e.2)
      (h.storedBlobs.filter (fun e => !storedKey e.1))
    pending := h.pending.map (fun e => if e.state = 2 then { e with state := 1 } else e) })).writeField

/-- STORE (R606). -/
def execStore (value : Word) (s : State) : Host.Outcome State Fault Refusal :=
  if !s.coxUp then .next s else .next (s.storeStart value.toNat)

/-- STORE_COMPLETE (R606, R780): 0x1010.03 reads 2, or 3 where the store failed and the field section stays as it was. -/
def execStoreComplete (ok : Bool) (s : State) : Host.Outcome State Fault Refusal :=
  if s.host.storeState ≠ 1 then .next s
  else .next (if ok then s.storeDone else s.updHost (fun h => { h with storeState := 3 }))

/-- A write of 0x1010.02 (R606, R779). -/
def State.restoreMark (s : State) (value : Nat) : State :=
  if value ≠ 0x44464C54 then s.answer 3
  else ((s.updHost (fun h => { h with restore := true })).writeField).answer 0

/-- RESTORE_DEFAULTS (R606). -/
def execRestoreDefaults (value : Word) (s : State) : Host.Outcome State Fault Refusal :=
  if !s.coxUp then .next s else .next (s.restoreMark value.toNat)

/-! ## Attestation -/

/-- A write of 0x1000.04 (R701): signing starts, or starts again with the newer nonce. -/
def State.nonceWrite (s : State) (nonce : Bytes) : State :=
  (s.updBoot (fun b => { b with nonce := nonce, attest := 1 })).answer 0

/-- ATTESTATION_NONCE (R701): a nonce of 32 bytes. -/
def execAttestationNonce (nonce : Bytes) (s : State) : Host.Outcome State Fault Refusal :=
  if !s.coxUp then .next s
  else if nonce.length ≠ 32 then .next (s.answer 4)
  else .next (s.nonceWrite nonce)

/-- What the field section holds (R709), in the order of its list: numbers, owner keys and publisher slots, marks, generations, tile maps, row
remaps, stack repairs, retired pages and stored values. -/
def State.fieldContents (s : State) : List Bytes :=
  let b := s.boot
  let table (t : Table Nat) : Bytes := t.flatMap (fun e => natLE 4 e.1 ++ natLE 8 e.2)
  [natLE 8 b.recordSeq, natLE 4 b.bootCount, natLE 4 b.versionFloor.toNat, natLE 8 s.weights.floor.toNat ++ natLE 16 s.weights.floorImage.toNat,
    natLE 1 (s.dictNat 0x23000B) ++ natLE 1 (s.dictNat 0x240005), natLE 8 b.authCounter.toNat, s.blob 0x801003] ++
    (List.range 8).map (fun k => s.blob (0x802001 + k)) ++
    [natLE 1 (s.dictNat 0x803004), natLE 8 s.power.failed.toNat, table b.regionGen,
      b.fieldMap.flatMap (fun e => natLE 2 e.1 ++ natLE 1 e.2.toNat),
      s.remapRecord.flatMap (fun e => natLE 4 e.1 ++ natLE 2 e.2.1 ++ natLE 2 e.2.2.1 ++ natLE 2 e.2.2.2),
      s.tier.retired.flatMap (fun e => natLE 1 e.1 ++ natLE 1 e.2.1 ++ natLE 4 e.2.2),
      s.host.stored.flatMap (fun e => natLE 4 e.1 ++ natLE 8 (e.2.getD 0)), s.host.storedBlobs.flatMap (fun e => natLE 4 e.1 ++ e.2.getD [])]

/-- CONFIG_DIGEST (R702): SHA-384 of the field section in force. -/
def State.configDigest (s : State) : Bytes := sha384 (Config.fieldLayout s.fieldContents)

/-- FAILED_REGIONS (R702): the usable regions that are latched, marked failed, or switched off in any way once they have been powered. -/
def State.failedRegions (s : State) : BitVec 64 :=
  s.power.latch ||| s.power.heatOff ||| s.power.failed ||| (if s.power.booted then s.ident.present &&& ~~~s.power.on else 0)

/-- The signed part of the attestation report (R702): bytes 0-19,327. ROM_VERSION is a value the spec does not give (log entry 5). -/
def State.reportBody (s : State) : Bytes :=
  let flags := b2n s.boot.debug + 2 * b2n (decide (s.links.pairState = 2 || s.links.pairState = 5)) + 4 * b2n (decide (s.boot.reason = 3))
  let plan := match s.boot.plan with
    | some p => p.digest.toNat
    | none => 0
  let owner := s.blob 0x801003
  let slots := (List.range 8).foldl (fun n k => if s.slotEnrolled k then n + 2 ^ k else n) 0
  let image := if s.weights.state = 0 then 0 else s.weights.imageId.toNat
  natLE 4 0x52415754 ++ natLE 2 1 ++ natLE 1 (steppingByte s.ident.stepping) ++ natLE 1 flags ++ natLE 16 s.ident.serial.toNat ++
    s.ident.deviceId ++ padTo 32 s.boot.nonce ++ natLE 8 s.clk.tick.toNat ++ natLE 4 s.boot.bootCount ++
    natLE 4 s.boot.fwVersion.toNat ++ natLE 4 s.boot.versionFloor.toNat ++ padTo 2 (Config.sealed 9 []) ++ natLE 2 0 ++
    padTo 48 s.boot.fwDigest ++ s.configDigest ++ natLE 32 plan ++
    natLE 8 s.weights.epoch.toNat ++ natLE 16 image ++ natLE 8 s.failedRegions.toNat ++
    (if owner.all (fun b => b = 0) then List.replicate 48 0 else sha384 owner) ++ natLE 1 slots ++ List.replicate 15 0 ++
    s.ident.block ++ s.ident.endorsement

/-- REPORT_SIGNED (R701, R702): both signatures are made with the device's keys, the salt of the first drawn (R356). -/
def execReportSigned (s : State) : Host.Outcome State Fault Refusal :=
  if s.boot.attest ≠ 1 then .next s
  else
    let body := s.reportBody
    let random := natLE 64 (Config.freeBits s.free).toNat
    .next ((s.useFree 1).updBoot (fun b => { b with attest := 2, report := body ++ s.ident.sign random body }))

/-! ## Authorisations and keys -/

/-- A write of 0x8010.01 (R704): a complete value is held for its client, in place of an earlier one. -/
def State.authorise (s : State) (c : Client) (value : Bytes) : State :=
  if s.boot.recordState = 3 then s.answer 7
  else (s.updBoot (fun b => { b with auths := b.auths.filter (fun e => e.1 ≠ c) ++ [(c, value, s.ms)] })).answer 0

/-- AUTHORISATION (R704): a value of 16,736 bytes. -/
def execAuthorisation (c : Client) (value : Bytes) (s : State) : Host.Outcome State Fault Refusal :=
  if !s.coxUp then .next s
  else if value.length ≠ 16736 then .next (s.answer 4)
  else .next (s.authorise c value)

/-- The COUNTER of an authorisation (R705). -/
def authCount (a : Bytes) : BitVec 64 := BitVec.ofNat 64 (fieldNat a 24 8)

/-- The keys under which an authorisation is checked (R706): the owner keys, or, while there are none, the keys being written. -/
def State.authKeys (s : State) (value : Bytes) : Bytes :=
  if (s.blob 0x801003).all (fun b => b = 0) then value else s.blob 0x801003

/-- The fields of an authorisation match a write (R705, R706). -/
def State.authFits (s : State) (a : Bytes) (key : Nat) (value : Bytes) : Bool :=
  decide (fieldNat a 0 4 = 0x55415754) && decide (fieldNat a 4 2 = 1) && zeroField a 6 2 && decide (slice a 8 16 = s.ident.deviceId) &&
    decide (s.boot.authCounter.toNat < (authCount a).toNat) && decide (fieldNat a 32 2 = key / 256) && decide (fieldNat a 34 1 = key % 256) &&
    zeroField a 35 1 && decide (fieldNat a 36 4 = value.length) && decide (slice a 40 48 = sha384 value) && zeroField a 88 40 &&
    (!(s.blob 0x801003).all (fun b => b = 0) || decide (key = 0x801003))

/-- The signatures of an authorisation verify for a write of a value (R706). -/
def State.authSigned (s : State) (a value : Bytes) : Bool := Config.verify (s.authKeys value) (a.take 128) (a.drop 128)

/-- An authorisation is good for a write (R705, R706). -/
def State.authGood (s : State) (a : Bytes) (key : Nat) (value : Bytes) : Bool := s.authFits a key value && s.authSigned a value

/-- The authorisation that a client's write is made under (R704): written within the last 10 s, and good. -/
def State.authFor (s : State) (c : Client) (key : Nat) (value : Bytes) : Option Bytes :=
  match s.boot.auths.find? (fun e => e.1 = c) with
  | some (_, a, ms) => if s.ms ≤ ms + 10000 && s.authGood a key value then some a else none
  | none => none

/-- A write of the 0x8000 range (R704, R706, R711): with a good authorisation it takes effect, the counter is stored and the authorisation
spent; else it is given status 7. -/
def State.authWrite (s : State) (c : Client) (key : Nat) (value : Bytes) (f : State → State) : State :=
  if s.boot.recordState = 3 then s.answer 7
  else match s.authFor c key value with
    | none => s.answer 7
    | some a =>
      let s := (s.updBoot (fun b => { b with authCounter := authCount a, auths := b.auths.filter (fun e => e.1 ≠ c) })).writeField
      (f s).answer 0

/-- Bytes of an object are held, and written to the field section at once (R708). -/
def State.storeBlob (s : State) (key : Nat) (value : Bytes) : State :=
  State.writeField ((s.setBlob key value).updHost (fun h => { h with storedBlobs := Table.put none h.storedBlobs key (some value) }))

/-- A write of an authorised RW object of the 0x8000 range. -/
def State.authObject (s : State) (c : Client) (key : Nat) (value : Bytes) : State := s.authWrite c key value (fun s => s.storeBlob key value)

/-- OWNER_KEYS_WRITE (R703, R706). -/
def execOwnerKeysWrite (c : Client) (value : Bytes) (s : State) : Host.Outcome State Fault Refusal :=
  if !s.coxUp then .next s
  else if value.length ≠ 432 then .next (s.answer 4)
  else .next (s.authObject c 0x801003 value)

/-- PUBLISHER_SLOT_WRITE (R707): zeros clear a slot. -/
def execPublisherSlotWrite (c : Client) (slot : BitVec 3) (value : Bytes) (s : State) : Host.Outcome State Fault Refusal :=
  if !s.coxUp then .next s
  else if value.length ≠ 432 then .next (s.answer 4)
  else .next (s.authObject c (0x802001 + slot.toNat) value)

/-! ## Firmware updates -/

/-- A write of 0x8030.03 (R697), tested in the order of R804. -/
def State.firmwareRequest (s : State) (c : Client) (value : Bytes) : State :=
  let r := parseSource false value
  if r.kind ≠ 1 || !sourceOk r then s.answer 3
  else if s.boot.fwWrite.isSome then s.answer 5
  else if !s.roceTag r.connection then s.answer 6
  else s.authWrite c 0x803003 value (fun s => s.updBoot (fun b => { b with fwWrite := some r }))

/-- FIRMWARE_UPDATE (R697): a source record of 32 bytes. -/
def execFirmwareUpdate (c : Client) (value : Bytes) (s : State) : Host.Outcome State Fault Refusal :=
  if !s.coxUp then .next s
  else if value.length ≠ 32 then .next (s.answer 4)
  else .next (s.firmwareRequest c value)

/-- FIRMWARE_WRITE_COMPLETE (R697, R734): the image fetched passes R694 and is written over the image in flash, after a store in progress;
one that fails is not written. -/
def execFirmwareWriteComplete (fetched : Firmware) (s : State) : Host.Outcome State Fault Refusal :=
  match s.boot.fwWrite with
  | none => .next s
  | some r =>
    let ok := fwOk s.boot.versionFloor fetched && decide (fetched.bytes.length = r.length)
    let s := if s.host.storeState = 1 then s.storeDone else s
    .next (s.updBoot (fun b => { b with fwWrite := none, fwFlash := if ok then some fetched else b.fwFlash }))

end Sys2Proof.Machine
end

