-- ==== Sys2Proof/Machine/HostPorts.lean ====
section
/-! DEFINITION. Host ports, RoCEv2 queue pairs, flow control and addressing (chapter 12), and pluggables (chapter 18). -/

namespace Sys2Proof.Machine

/-! ## Links -/

/-- A rate and lane combination of R579: PortState, lane rate (1 100G, 2 200G), and its place in the table. -/
structure RateCombo where
  state : Nat
  lane : Nat
  place : Nat
  deriving DecidableEq, Repr

/-- The combinations in the order R580 prefers them: highest rate, then higher lane rate. -/
def rateCombos : List RateCombo := [⟨4, 2, 1⟩, ⟨4, 1, 0⟩, ⟨3, 2, 3⟩, ⟨3, 1, 2⟩, ⟨2, 2, 5⟩, ⟨2, 1, 4⟩, ⟨1, 1, 6⟩]

/-- Key of object 0x11kk.`sub` of a host port. -/
def portKey (k sub : Nat) : Nat := 0x110000 + 256 * k + sub

/-- The combination a host port chooses (R580) from those its pluggable or partner supports; bit i is row i of the table of R579. -/
def State.chooseRate (s : State) (k : Nat) (supports : BitVec 7) : Option RateCombo :=
  let rate := s.dictNat (portKey k 2)
  let lane := s.dictNat (portKey k 3)
  rateCombos.find? (fun c => supports.getLsbD c.place && (rate = 0 || decide (rate = c.state)) && (lane = 0 || decide (lane = c.lane)))

/-- A host port can link: enabled, its block out of reset in a powered region, and not held in low-power mode. -/
def State.portLive (s : State) (k : Nat) : Bool :=
  s.powered (portRegion k) && s.dictNat (portKey k 1) = 1 && s.blockReady (portRegion k) (7 + k % 2) && !(s.port k).lowPower

/-- The big-endian value of octets. -/
def beNat (bs : Bytes) : Nat := leNat bs.reverse

/-- The static address of a port: that of its object; M0 has none (R583). -/
def State.staticAddr (s : State) (k : Nat) : Nat := if k = 8 then 0 else beNat ((s.blob (portKey k 6)).take 4)

/-- The address mode of a port (R583). -/
def State.addrMode (s : State) (k : Nat) : Nat := if k = 8 then s.dictNat 0x120002 else s.dictNat (portKey k 5)

/-- A port that has come up takes its static address, or asks for a lease (R583). -/
def State.startAddr (s : State) (k : Nat) : State :=
  let s := s.updPort k (fun p => { p with sinceMs := s.ms })
  if s.addrMode k = 1 then s.setAddr k (s.staticAddr k) false else s.put (.dhcp k)

/-- PORT_LINK_UP (R580, R593): `supports` is what the pluggable and partner offer, row by row of R579; for M0 (port 8) bit 0 is
1000BASE-T and bit 1 10GBASE-T. -/
def execPortLinkUp (port : BitVec 4) (supports : BitVec 7) (s : State) : Host.Outcome State Fault Refusal :=
  let k := port.toNat
  if 8 < k || (s.port k).state ≠ 0 then .next s
  else if k = 8 then
    let mode := s.dictNat 0x120001
    let pick : Nat :=
      if supports.getLsbD 1 && mode ≠ 1 then 2
      else if supports.getLsbD 0 && mode ≠ 2 then 1 else 0
    if pick = 0 then .next s else .next (State.startAddr (s.updPort 8 (fun p => { p with state := pick })) 8)
  else if !s.portLive k then .next s
  else match s.chooseRate k supports with
    | none => .next s
    | some c => .next (State.startAddr (s.updPort k (fun p => { p with state := c.state, lane := c.lane })) k)

/-- PORT_LINK_DOWN (R428, R614). -/
def execPortLinkDown (port : BitVec 4) (s : State) : Host.Outcome State Fault Refusal :=
  if 8 < port.toNat || (s.port port.toNat).state = 0 then .next s else .next (s.portDown port.toNat)

/-- PLUGGABLE_INSERT (R792): one that declares more than 25 W is held in low-power mode, and its port stays down. -/
def execPluggableInsert (port : BitVec 3) (watts : Nat) (s : State) : Host.Outcome State Fault Refusal :=
  .next ((s.portDown port.toNat).updPort port.toNat (fun p => { p with lowPower := decide (25 < watts) }))

/-! ## Priority flow control -/

/-- A priority of a port is paused, or released (R590); while it counts as a storm, pause is not honoured (R591). -/
def State.pausePrio (s : State) (k p : Nat) (off : Bool) : State :=
  let bit := 1#8 <<< p
  s.updPort k (fun q =>
    if off then
      { q with
        lastPause := Table.put 0 q.lastPause p s.now
        pausedAt := if q.paused.getLsbD p || q.storm.getLsbD p then q.pausedAt else Table.put 0 q.pausedAt p s.now
        paused := if q.storm.getLsbD p then q.paused else q.paused ||| bit }
    else { q with paused := q.paused &&& ~~~bit })

/-- PFC_FRAME (R590): the frame's class-enable vector, and which of those priorities it pauses. -/
def execPfcFrame (port : BitVec 3) (prios off : BitVec 8) (s : State) : Host.Outcome State Fault Refusal :=
  let k := port.toNat
  if (s.port k).state = 0 then .next s
  else .next ((List.range 8).foldl (fun (s : State) p =>
    if prios.getLsbD p && s.lossless p then s.pausePrio k p (off.getLsbD p) else s) s)

/-- PFC_STORM (R591): a priority has been paused without a break for 0x1180.05 ms. -/
def execPfcStorm (port prio : BitVec 3) (s : State) : Host.Outcome State Fault Refusal :=
  let k := port.toNat
  let p := prio.toNat
  if !(s.port k).paused.getLsbD p then .next s
  else
    let s := s.advanceTo (Table.get 0 (s.port k).pausedAt p + s.dictNat 0x118005 * msTicks)
    let bit := 1#8 <<< p
    let s := s.updPort k (fun q => { q with paused := q.paused &&& ~~~bit, storm := q.storm ||| bit })
    .next (s.event 0x0800 (portRegion k) (natLE 1 k ++ natLE 1 p))

/-- PFC_STORM_CLEAR (R591): no pause has arrived for the same time. -/
def execPfcStormClear (port prio : BitVec 3) (s : State) : Host.Outcome State Fault Refusal :=
  let k := port.toNat
  let p := prio.toNat
  if !(s.port k).storm.getLsbD p then .next s
  else
    let s := s.advanceTo (Table.get 0 (s.port k).lastPause p + s.dictNat 0x118005 * msTicks)
    .next (s.updPort k (fun q => { q with storm := q.storm &&& ~~~(1#8 <<< p) }))

/-! ## Queue pairs -/

/-- Path MTUs of R585, by the code a REQ carries. -/
def pathMtu (code : BitVec 2) : Option Nat := match code.toNat with
  | 0 => some 1024
  | 1 => some 2048
  | 2 => some 4096
  | _ => none

/-- The lowest free queue pair number, from 2 (log entry 19). -/
def State.freeQp (s : State) : Nat := ((List.range 65536).find? (fun n => decide (2 ≤ n) && (s.qp n).isNone)).getD 65536

/-- CM_REQ (R586): a transport other than RC, an inbound READ depth above 0, a path MTU R585 does not list, or a full connection table
is answered with REJ; else REP. -/
def execCmReq (port : BitVec 3) (rc : Bool) (readDepth : Nat) (mtu : BitVec 2) (s : State) : Host.Outcome State Fault Refusal :=
  let k := port.toNat
  if !s.coxUp || (s.port k).state = 0 then .next s
  else match pathMtu mtu with
    | none => .next (s.put (.rej k))
    | some m =>
      if !rc || readDepth ≠ 0 || s.dictNat 0x300003 ≤ s.connCount then .next (s.put (.rej k))
      else
        let n := s.freeQp
        .next ((s.setQp n (some { port := k, mtu := m, rate := lineRate k (s.port k).state })).put (.rep n))

/-- CM_RTU (R586): set-up is complete. -/
def execCmRtu (qp : Nat) (s : State) : Host.Outcome State Fault Refusal :=
  .next (s.updQp qp (fun q => if q.state = .offered then { q with state := .connected } else q))

/-- CM_DREQ (R586): answered with DREP, and the queue pair is torn down. -/
def execCmDreq (qp : Nat) (s : State) : Host.Outcome State Fault Refusal :=
  match s.qp qp with
  | none => .next s
  | some _ => .next (((s.failQp qp).setQp qp none).put (.drep qp))

/-- CM_DREP (R586): a disconnect is complete, and a failed queue pair is gone. -/
def execCmDrep (qp : Nat) (s : State) : Host.Outcome State Fault Refusal :=
  match s.qp qp with
  | some q => .next (if q.state = .error then s.setQp qp none else s)
  | none => .next s

/-- CM_REJ (R586): a set-up is abandoned. -/
def execCmRej (qp : Nat) (s : State) : Host.Outcome State Fault Refusal :=
  match s.qp qp with
  | some q => .next (if q.state = .offered then s.setQp qp none else s)
  | none => .next s

/-- A packet marked CE is answered with a CNP, at most one per 0x1180.06 us on a queue pair (R592). -/
def State.echoCe (s : State) (n : Nat) : State :=
  match s.qp n with
  | none => s
  | some q =>
    let due := match q.cnpSent with
      | none => true
      | some t => decide (t + usTicks (s.dictNat 0x118006) ≤ s.now)
    if due then (s.setQp n (some { q with cnpSent := some s.now })).put (.cnp n) else s

/-- ROCE_SEND_RECEIVE (R585, R587, R592): kinds 0 SEND, 1 READ, 2 WRITE, 3 atomic, others not implemented (log entry 19). -/
def execRoceSendReceive (qp : Nat) (kind : BitVec 3) (len : Nat) (ce : Bool) (s : State) : Host.Outcome State Fault Refusal :=
  match s.qp qp with
  | none => .next s
  | some q =>
    if q.state ≠ .connected then .next s
    else
      let s := if ce then s.echoCe qp else s
      if kind = 1 || kind = 2 || kind = 3 then .next (s.put (.nak qp false))
      else if kind ≠ 0 || 65536 < len then .next (s.put (.nak qp true))
      else if 64 ≤ q.recv.length then .next (s.put (.rnrNak qp))
      else .next (((s.updQp qp (fun q => { q with recv := q.recv ++ [len] })).put (.ack qp)).pfcBuffer q.port)

/-- CNP_RECEIVE (R592): three quarters of the rate, never below 1 Gbit/s. -/
def execCnpReceive (qp : Nat) (s : State) : Host.Outcome State Fault Refusal :=
  .next (s.updQp qp (fun q => { q with rate := max 1000000000 (q.rate * 3 / 4), cnpAt := s.now }))

/-- RATE_INCREASE (R592): 0x1180.07 us without a CNP raise the rate by one sixteenth of the line rate. -/
def execRateIncrease (qp : Nat) (s : State) : Host.Outcome State Fault Refusal :=
  match s.qp qp with
  | none => .next s
  | some q =>
    let line := lineRate q.port (s.port q.port).state
    if line ≤ q.rate then .next s
    else
      let s := s.advanceTo (q.cnpAt + usTicks (s.dictNat 0x118007))
      .next (s.setQp qp (some { q with rate := min line (q.rate + line / 16), cnpAt := s.now }))

/-- RDMA_READ_RESPONSE (R372, R588): the oldest READ outstanding brings its shard record, and the next READs are issued. -/
def execRdmaReadResponse (qp : Nat) (record : Bytes) (s : State) : Host.Outcome State Fault Refusal :=
  match s.qp qp with
  | none => .next s
  | some q => match q.out.find? (fun o => o.shard.isSome) with
    | none => .next s
    | some o =>
      let s := s.setQp qp (some { q with out := eraseFirst (fun x => x = o) q.out, retries := 0, rnr := 0 })
      let s := s.after (execShardRecordReceive (BitVec.ofNat 20 (o.shard.getD 0)) record)
      .next (s.postReads 128)

/-- Requests are sent again from the oldest outstanding one (go-back-N, R588). -/
def State.goBack (s : State) (n : Nat) : State :=
  match s.qp n with
  | some q => match q.out with
    | o :: _ => s.put (.again n o.psn)
    | [] => s
  | none => s

/-- One more retry (R588); beyond the retry count the queue pair is in error. -/
def State.retryQp (s : State) (n : Nat) : State :=
  match s.qp n with
  | none => s
  | some q =>
    if q.out = [] || q.state ≠ .connected then s
    else if s.dictNat 0x118009 ≤ q.retries then s.failQp n
    else (s.setQp n (some { q with retries := q.retries + 1 })).goBack n

/-- ACK_TIMEOUT (R588): the oldest request has gone unanswered for 4.096 us x 2^(0x1180.08). -/
def execAckTimeout (qp : Nat) (s : State) : Host.Outcome State Fault Refusal := .next (s.retryQp qp)

/-- A packet sequence number lies at or before another, modulo 2^24. -/
def psnLe (a b : Nat) : Bool := a % 2 ^ 24 = b % 2 ^ 24 || laterMod 24 b a

/-- Requests without data to come that an acknowledgement releases (R588). -/
def released (q : Qp) (psn : Nat) : List Outstanding := q.out.filter (fun o => o.shard.isSome || !psnLe o.psn psn)

/-- ACK_NAK_RECEIVE (R588): kinds 0 ACK up to `psn`, 1 NAK of a sequence error at `psn`, 2 RNR NAK at `psn`, 3 any other NAK, which puts
the queue pair in error (log entry 19). -/
def execAckNakReceive (qp : Nat) (kind : BitVec 2) (psn : BitVec 24) (s : State) : Host.Outcome State Fault Refusal :=
  match s.qp qp with
  | none => .next s
  | some q =>
    if q.state ≠ .connected then .next s
    else
      let before := (psn - 1).toNat
      match kind.toNat with
      | 0 => .next (s.setQp qp (some { q with out := released q psn.toNat, retries := 0, rnr := 0 }))
      | 1 => .next (State.retryQp (s.setQp qp (some { q with out := released q before })) qp)
      | 2 =>
        let q := { q with out := released q before }
        if 6 ≤ q.rnr then .next (s.failQp qp)
        else .next (State.goBack (s.setQp qp (some { q with rnr := q.rnr + 1 })) qp)
      | _ => .next (s.failQp qp)

/-! ## Addresses -/

/-- The interface identifier of a MAC address (RFC 4291, log entry 19). -/
def eui64 (mac : BitVec 48) : Nat :=
  let m := (mac ^^^ 0x020000000000#48).toNat
  m / 2 ^ 24 * 2 ^ 40 + 0xFFFE * 2 ^ 24 + m % 2 ^ 24

/-- The IPv6 link-local address of a port (R583). -/
def State.linkLocal6 (s : State) (k : Nat) : Nat := 0xFE80 * 2 ^ 112 + eui64 (s.portMac k)

/-- A port answers for an IPv6 address. -/
def State.ownV6 (s : State) (k addr : Nat) : Bool := addr = s.linkLocal6 k || (s.port k).slaac.contains addr

/-- A port answers for an IPv4 address. -/
def State.ownV4 (s : State) (k addr : Nat) : Bool := addr ≠ 0 && addr = (s.port k).addr

/-- A port of 0-8 is up. -/
def State.portUp (s : State) (k : Nat) : Bool := decide (k ≤ 8) && (s.port k).state ≠ 0

/-- ARP_REQUEST (R583). -/
def execArpRequest (port : BitVec 4) (addr : BitVec 32) (s : State) : Host.Outcome State Fault Refusal :=
  let k := port.toNat
  if s.portUp k && s.ownV4 k addr.toNat then .next (s.put (.arp k addr.toNat (s.portMac k))) else .next s

/-- NEIGHBOUR_SOLICITATION (R583). -/
def execNeighbourSolicitation (port : BitVec 4) (addr : BitVec 128) (s : State) : Host.Outcome State Fault Refusal :=
  let k := port.toNat
  if s.portUp k && s.ownV6 k addr.toNat then .next (s.put (.neighbour k addr.toNat (s.portMac k))) else .next s

/-- ICMP_ECHO (R583): to an IPv4 or IPv6 address of the port. -/
def execIcmpEcho (port : BitVec 4) (addr : BitVec 128) (ident : Nat) (s : State) : Host.Outcome State Fault Refusal :=
  let k := port.toNat
  if s.portUp k && (s.ownV4 k addr.toNat || s.ownV6 k addr.toNat) then .next (s.put (.echo k addr.toNat ident)) else .next s

/-- ROUTER_ADVERTISEMENT (R583): a prefix of 64 bits gives a SLAAC address. -/
def execRouterAdvertisement (port : BitVec 4) (pfx : BitVec 64) (s : State) : Host.Outcome State Fault Refusal :=
  let k := port.toNat
  let a := pfx.toNat * 2 ^ 64 + eui64 (s.portMac k)
  if !s.portUp k || (s.port k).slaac.contains a then .next s
  else .next (s.updPort k (fun p => { p with slaac := p.slaac ++ [a] }))

/-- DHCP_REPLY (R583): a lease. -/
def execDhcpReply (port : BitVec 4) (addr : BitVec 32) (s : State) : Host.Outcome State Fault Refusal :=
  let k := port.toNat
  if !s.portUp k || s.addrMode k ≠ 0 || addr = 0 then .next s else .next (s.setAddr k addr.toNat true)

/-- DHCP_TIMEOUT (R583): no lease within 10 s gives a link-local address, chosen at random in 169.254.1.0-169.254.254.255 (RFC 3927; its
value is free, log entry 5), and the port keeps asking. -/
def execDhcpTimeout (port : BitVec 4) (s : State) : Host.Outcome State Fault Refusal :=
  let k := port.toNat
  if !s.portUp k || s.addrMode k ≠ 0 || (s.port k).addr ≠ 0 then .next s
  else
    let s := s.advanceTo (((s.port k).sinceMs + 10000) * msTicks)
    let a := 0xA9FE0100 + (Config.freeBits s.free).toNat % 65024
    .next (((s.useFree 1).setAddr k a false).put (.dhcp k))

/-- LEASE_EXPIRY (R614): the address is removed, its connections detach, and the port asks again. -/
def execLeaseExpiry (port : BitVec 4) (s : State) : Host.Outcome State Fault Refusal :=
  let k := port.toNat
  if !s.portUp k || !(s.port k).leased then .next s
  else .next (State.startAddr (s.setAddr k 0 false) k)

/-- A write of a port's enable, rate, lane rate, MTU or address object (R614): the link retrains, or the port readdresses, at once; its
queue pairs fail, and its UDP connections stay while the address is unchanged. -/
def State.portWritten (s : State) (k sub : Nat) : State :=
  if (s.port k).state = 0 then s
  else if sub = 1 && s.dictNat (portKey k 1) = 0 then s.portDown k
  else if sub = 2 || sub = 3 then (s.failPortQps k).updPort k (fun p => { p with state := 0, lane := 0 })
  else if sub = 4 then s.failPortQps k
  else if sub = 5 || sub = 6 then
    let s := s.failPortQps k
    if s.addrMode k = 1 then s.setAddr k (s.staticAddr k) false
    else if sub = 5 then State.startAddr (s.setAddr k 0 false) k
    else s
  else s

end Sys2Proof.Machine
end

