-- ==== Sys2Proof/Machine/DictRead.lean ====
section
/-! DEFINITION. The value of every object of the parameter dictionary, as its bytes (chapter 17), and the log window (R748). -/

namespace Sys2Proof.Machine

/-- The bytes of a record (R736), with its CRC. -/
def recordBytes (r : Record) : Bytes :=
  let b := natLE 8 r.seq ++ natLE 8 r.tick.toNat ++ natLE 6 r.stroke.toNat ++ natLE 2 r.code ++ natLE 1 r.region ++ natLE 1 r.sev ++
    natLE 2 r.suppressed ++ natLE 2 r.boot ++ natLE 1 r.flags ++ natLE 1 0 ++ padTo 28 r.payload ++ natLE 2 0
  b ++ natLE 2 (crc16 b).toNat

/-- The record with a sequence number, from the ring while it holds it, else from flash (R749). -/
def State.recordAt (s : State) (seq : Nat) : Option Record :=
  let r := Table.get {} s.log.ring (seq % 16384)
  if seq = 0 then none
  else if r.seq = seq then some r
  else
    let f := Table.get {} s.log.flash seq
    if f.seq = seq then some f else none

/-- Records held at and after a sequence number, in order, at most `n` (R748): the ring's and the flash log's. -/
def State.recordsFrom (s : State) (cursor n : Nat) : List Record :=
  let ring := (s.log.ring.map (fun e => e.2)).filter (fun r => decide (cursor ≤ r.seq))
  let flash := (s.log.flash.map (fun e => e.2)).filter (fun r => decide (cursor ≤ r.seq) && !ring.any (fun q => q.seq = r.seq))
  (sortBy (fun r => r.seq) (flash ++ ring)).take n

/-- The window (R748). -/
def State.window (s : State) : Bytes :=
  let c := s.dictNat 0x502001
  let rs := s.recordsFrom c 32
  let first := match rs with
    | r :: _ => r.seq
    | [] => 0
  let lost := match rs.getLast? with
    | some r => r.seq + 1 - c - rs.length
    | none => 0
  padTo 2080 (natLE 8 first ++ natLE 8 s.log.newest ++ natLE 8 lost ++ natLE 1 rs.length ++ List.replicate 7 0 ++ rs.flatMap recordBytes)

/-- The extremes (R757): 24 bytes each; zeros where there is none since the last clear. -/
def State.extremeBytes (s : State) : Bytes :=
  (List.range 9).flatMap (fun i => match Table.get none s.log.extremes i with
    | some (v, t, r) => natLE 8 (v % (2 ^ 64 : Int)).toNat ++ natLE 8 t.toNat ++ natLE 1 r ++ List.replicate 7 0
    | none => List.replicate 24 0)

/-- The travel descriptor (R109, R108). -/
def State.travelBytes (s : State) : Bytes :=
  natLE 1 (steppingByte s.ident.stepping) ++ natLE 1 1 ++ List.replicate 6 0 ++ natLE 8 (maskOf s.regionUsable).toNat ++
    (List.range 1024).map (fun k => BitVec.ofNat 8 (s.bypassOf (k / 16) (k % 16)))

/-- A partner's entry (0x6010.02); the numbers of its states are not given (log entry 5). -/
def partnerBytes (p : Partner) : Bytes :=
  let st := match p.state with
    | .bench => 0
    | .member => 1
    | .pair => 2
    | .lost => 3
  natLE 16 p.hail.serial.toNat ++ natLE 12 p.links.toNat ++ [p.hail.role] ++ padTo 1 (Config.sealed 10 [BitVec.ofNat 8 st]) ++ [p.hail.hop] ++
    [p.hail.stepping] ++ natLE 4 p.hail.regattaId.toNat ++ natLE 4 0

/-- VCORE and VSRAM power of a region in W (0x4000.07), from its last readings. -/
def State.regionWatts (s : State) (r : Nat) : Nat :=
  let p := (s.region r).pwr
  let v := p.monV.toNat
  let i := p.monI.toNat
  (v % 1024 * (i % 65536) + v / 1024 * (i / 65536) / 10) / 1000

/-- RegionSteps of one region (0x2030.01). -/
def State.regionStep (s : State) (r : Nat) : Nat :=
  let l := (s.region r).loop
  if !s.powered r then 0xFF else if l.coast then 0xFE else l.stepAct.toNat

/-- RefState (0x2010.06). -/
def State.refState (s : State) : Nat :=
  let q := s.ref
  if q.lost then 4 else if q.loss then 3 else if q.swStep ≠ 0 then 2 else if q.lock then 1 else 0

/-- CanState (0x1300.05; ISO 11898-1): 0 silent, 1 error active, 2 error passive, 3 bus-off. -/
def State.canState (s : State) : Nat :=
  let c := s.host.can
  if !s.ref.lock then 0 else if c.busOff then 3 else if 128 ≤ c.tec || 128 ≤ c.rec_ then 2 else 1

/-- CoolantState (0x4020.06). -/
def State.coolantState (s : State) : Nat :=
  let p := s.power
  if p.coolOff then 3 else if p.active then 2
  else if p.flow.toNat < 40 || 8 * s.dictNat 0x402004 < p.inlet.toNat then 1 else 0

/-- PlanState (R808). -/
def State.planState (s : State) : Nat := match s.boot.planLoad with
  | some l => l.phase
  | none => if s.boot.plan.isSome then 6 else 0

/-- Requests in the states a condition takes. -/
def State.countReqs (s : State) (f : Request → Bool) : Nat := (s.serve.t.reqs.filter f).length

/-- Banks with fewer than 4 of their 16 spare rows free (0x7010.06). -/
def State.banksLow (s : State) : Nat :=
  s.tiles.foldl (fun n e => n + ((List.range 32).filter (fun b =>
    decide (13 ≤ ((e.2 : Tile).remap.filter (fun m => decide (m.1 / 16 = b))).length))).length) 0

/-- The longest scrub pass that ended in the last minute, ms (0x7020.03). -/
def State.longestPass (s : State) : Nat :=
  s.regions.foldl (fun m e => (e.2 : Region).ecc.passLog.foldl (fun m p => if s.ms ≤ p.1 + 60000 then max m p.2 else m) m) 0

/-- Read-only numbers of identity, host and bring-up. -/
def State.roNat1 (s : State) (key : Nat) : Option Nat :=
  match key with
  | 0x100002 => some (steppingByte s.ident.stepping)
  | 0x100006 => some s.boot.attest
  | 0x100008 => some s.boot.bootCount
  | 0x100009 => some s.boot.reason
  | 0x10000C => some (s.ms - s.boot.upMs)
  | 0x101003 => some s.host.storeState
  | 0x101004 => some s.host.pending.length
  | 0x120004 => some (s.port 8).state
  | 0x130005 => some s.canState
  | 0x142001 => some s.boot.selfTest
  | 0x200002 => some s.boot.testResult
  | 0x200003 => some s.boot.step
  | 0x240002 => some s.planState
  | 0x240003 => some s.boot.planResult
  | 0x240006 => some s.boot.variant
  | 0x240009 => some s.boot.badVariants.length
  | 0x24000C => some s.boot.standby
  | 0x801002 => some s.boot.authCounter.toNat
  | 0x803001 => some s.boot.fwVersion.toNat
  | 0x803002 => some s.boot.versionFloor.toNat
  | 0x804001 => some s.boot.recordState
  | 0x804002 => some s.boot.recordSeq
  | _ => none

/-- Read-only numbers of clocks, strokes, arithmetic and weights (R308, R654). -/
def State.roNat2 (s : State) (key : Nat) : Option Nat :=
  match key with
  | 0x201001 => some s.ref.cur.toNat
  | 0x201006 => some s.refState
  | 0x210001 => some s.clk.step
  | 0x210002 => some s.clk.len
  | 0x210003 => some s.clk.fin
  | 0x210004 => some s.clk.stroke.toNat
  | 0x210005 => some s.clk.tick.toNat
  | 0x210006 => some s.clk.easy
  | 0x211004 => some s.mode.vec.wide
  | 0x211005 => some s.mode.vec.fall.length
  | 0x213001 => some (b2n s.boot.debug)
  | 0x230001 => some s.weights.epoch.toNat
  | 0x230003 => some s.weights.state
  | 0x230004 => some s.weights.result
  | 0x230005 => some s.weights.floor.toNat
  | 0x23000D => some s.weights.swapStroke
  | 0x303001 => some s.weights.vocab
  | 0x313001 => some s.weights.adapters.length
  | 0x313002 => some (s.weights.adapters.filter (fun a => a.resident)).length
  | _ => none

/-- Read-only numbers of serving and the KV pool. -/
def State.roNat3 (s : State) (key : Nat) : Option Nat :=
  let plan (f : Plan → Nat) : Nat := match s.boot.plan with
    | some p => f p
    | none => 0
  match key with
  | 0x300009 => some s.connCount
  | 0x302001 => some (s.countReqs (fun r => r.active))
  | 0x302002 => some (s.countReqs (fun r => r.state = .queued))
  | 0x302003 => some (s.countReqs (fun r => r.state = .retained))
  | 0x302004 => some (plan (fun p => (slotNumbers p).length))
  | 0x302005 => some (s.serve.t.slots.filter (fun e => match e.2 with
      | .running _ => true
      | _ => false)).length
  | 0x302006 => some (plan (fun p => p.passLength))
  | 0x310001 => some (plan (fun p => p.kvFormat.toNat))
  | 0x310002 => some (plan (fun p => p.contextLimit))
  | 0x310003 => some s.slotsTotal
  | 0x310004 => some s.slotsFree
  | 0x311002 => some s.nodes
  | 0x312006 => some (s.countReqs (fun r => match r.boat with
      | some b => !b.flash
      | none => false))
  | 0x312007 => some (s.countReqs (fun r => match r.boat with
      | some b => b.flash
      | none => false))
  | _ => none

/-- Read-only numbers of power, cooling, the recorder, links and memories. -/
def State.roNat4 (s : State) (key : Nat) : Option Nat :=
  match key with
  | 0x400001 => some s.power.vin.toNat
  | 0x400002 => some s.power.watts
  | 0x400004 => some s.power.cap
  | 0x400005 => some s.fixedPower
  | 0x400006 => some ((List.range 16).filter (fun c => s.power.convOk.getLsbD c)).length
  | 0x401001 => some ((s.poweredList).foldl (fun m r => max m (s.region r).pwr.hot.toNat) 0)
  | 0x401005 => some s.power.rth.toNat
  | 0x402001 => some s.power.flow.toNat
  | 0x402006 => some s.coolantState
  | 0x402008 => some s.power.inlet.toNat
  | 0x402009 => some s.power.outlet.toNat
  | 0x500001 => some s.log.newest
  | 0x500002 => some s.oldestSeq
  | 0x500004 => some s.log.flushed
  | 0x500005 => some (min 4096 s.log.flushed)
  | 0x501003 => some s.log.suppressedTotal
  | 0x503002 => some s.log.exportState
  | 0x601001 => some s.links.partners.length
  | 0x610003 => some s.regattaDepth
  | 0x610005 => some (s.links.alignErr % (65536 : Int)).toNat
  | 0x610006 => some (s.links.parent.getD 0xFF)
  | 0x620003 => some s.links.pairState
  | 0x620007 => some s.links.mirror.length
  | 0x700001 => some (b2n (!s.boot.filling && s.poweredList ≠ [] && s.poweredList.all (fun r => (s.region r).ecc.fillDone)))
  | 0x701005 => some s.remapRecord.length
  | 0x701006 => some s.banksLow
  | 0x702003 => some s.longestPass
  | 0x704001 => some s.tier.retired.length
  | _ => none

/-- A read-only number that is none of the counters. -/
def State.roNat (s : State) (key : Nat) : Option Nat :=
  match s.roNat1 key with
  | some v => some v
  | none => match s.roNat2 key with
    | some v => some v
    | none => match s.roNat3 key with
      | some v => some v
      | none => if 0x110000 ≤ key && key < 0x110800 && key % 256 = 7 then some (s.port (key / 256 % 256)).state else s.roNat4 key

/-- Histogram `h` of 0x5100 (R756). -/
def State.histBytes (s : State) (h : Nat) : Bytes := (Table.getList 0 s.log.hist (32 * (h - 1)) 32).flatMap (fun v => natLE 8 v)

/-- Read-only BLOBs and STRs. 0x1000.03 gives the octets of the MAC address first octet first: whether R15 makes it a little-endian field
the spec leaves open (log entry 52). -/
def State.roBlob (s : State) (key : Nat) : Bytes :=
  match key with
  | 0x100001 => natLE 16 s.ident.serial.toNat
  | 0x100003 => natBE 6 s.ident.macBase.toNat
  | 0x100005 => s.boot.report
  | 0x100007 => s.ident.deviceId
  | 0x10000B => [0x54, 0x57, 0x48, 0x31, 0x2D, 0x39, 0x34, 0x30]
  | 0x101005 => s.host.pending.flatMap (fun e => natLE 2 (e.key / 256) ++ natLE 1 (e.key % 256) ++ natLE 1 e.state)
  | 0x201008 => natLE 16 s.ref.ready.toNat
  | 0x203001 => (List.range 64).flatMap (fun r => natLE 1 (s.regionStep r))
  | 0x220001 => (List.range 15).flatMap (fun i => natLE 2 (latency s.ident.stepping (i + 1)))
  | 0x220002 => s.travelBytes
  | 0x220003 => (List.range 96).flatMap (fun k => natLE 2 (s.link k).published.toNat)
  | 0x230002 => natLE 16 s.weights.imageId.toNat
  | 0x240004 => (match s.boot.plan with
      | some p => natLE 32 p.digest.toNat
      | none => [])
  | 0x240007 => natLE 8 s.boot.excluded.toNat
  | 0x24000A => (Table.getList 0 s.boot.regionGen 0 64).flatMap (fun g => natLE 2 g)
  | 0x302008 => (List.range 6).flatMap (fun i => natLE 8 (Table.get 0 s.counts (0x30200800 + i)))
  | 0x400007 => (List.range 64).flatMap (fun r => natLE 2 (s.regionWatts r))
  | 0x400008 => (List.range 16).flatMap (fun k => natLE 2 (s.stepPower k).1 ++ natLE 2 (s.stepPower k).2)
  | 0x400009 => natLE 8 s.power.latch.toNat
  | 0x502002 => s.window
  | 0x511001 => (Table.getList 0 s.log.stageCnt 0 512).flatMap (fun v => natLE 4 v)
  | 0x512001 => s.extremeBytes
  | 0x600006 => natLE 12 (s.upLinks.foldl (fun n k => n + 2 ^ k) 0)
  | 0x601002 => s.links.partners.flatMap partnerBytes
  | 0x703002 => (List.range 32).flatMap (fun c => natLE 4 (s.codedPages c))
  | 0x703003 => (List.range 32).flatMap (fun c => natLE 4 (s.codedPages (32 + c)))
  | _ =>
    if 0x110000 ≤ key && key < 0x110800 then natBE 4 (s.port (key / 256 % 256)).addr
    else if 0x510001 ≤ key && key ≤ 0x510008 then s.histBytes (key % 256)
    else []

/-- The value of an object as its bytes (R16, R762, R768, R805): an RW object's value last written, an RO object's present value, zeros
for a WO object. -/
def State.objectBytes (s : State) (e : DictEntry) : Bytes :=
  match e.access with
  | .wo => List.replicate e.len 0
  | .rw => if e.type = .str then s.blob e.key else if e.type = .blob then padTo e.len (s.blob e.key) else natLE e.len (s.dictNat e.key)
  | .ro =>
    if e.type = .str then s.roBlob e.key
    else if e.type = .blob then padTo e.len (s.roBlob e.key)
    else natLE e.len ((s.roNat e.key).getD (Table.get 0 s.counts e.key))

/-- The highest subindex of an index (R764); none for an index that holds no object. -/
def topSub (index : Nat) : Option Nat :=
  (catalog.filter (fun e => e.key / 256 = index)).foldl (fun (m : Option Nat) e => some (max (e.key % 256) (m.getD 0))) none

/-- The entry of any object, subindex 0x00 among them (R763, R764). -/
def objectEntry (key : Nat) : Option DictEntry :=
  if key % 256 = 0 then (topSub (key / 256)).map (fun n => { key := key, type := .u8, access := .ro, dflt := n, len := 1, lo := 0, hi := 255 })
  else catalogFind key

/-- The bytes of any object. -/
def State.valueOf (s : State) (e : DictEntry) : Bytes := if e.key % 256 = 0 then natLE 1 e.dflt else s.objectBytes e

/-- The lamps beside MG (R793): green while a plan is in service and strokes run. -/
def State.greenLamp (s : State) : Bool := s.boot.plan.isSome && decide (s.clk.easy = 0)

/-- Amber while a record of severity 2 or 3 has a SEQ at or above the cursor. -/
def State.amberLamp (s : State) : Bool :=
  let c := s.dictNat 0x502001
  s.log.ring.any (fun e => decide (c ≤ (e.2 : Record).seq) && decide (2 ≤ (e.2 : Record).sev)) ||
    s.log.flash.any (fun e => decide (c ≤ (e.2 : Record).seq) && decide (2 ≤ (e.2 : Record).sev))

end Sys2Proof.Machine
end

