-- ==== Sys2Proof/Machine/DictWrite.lean ====
section
/-! DEFINITION. What a write of each object of the parameter dictionary does (R20, R767-R774, R804). -/

namespace Sys2Proof.Machine

/-- Bytes are well-formed UTF-8 (R20): `need` continuation bytes are due, the first within `lo`..`hi`. -/
def utf8From : Bytes → Nat → Nat → Nat → Bool
  | [], need, _, _ => need = 0
  | b :: bs, need, lo, hi =>
    let v := b.toNat
    match need with
    | n + 1 => decide (lo ≤ v) && decide (v ≤ hi) && utf8From bs n 0x80 0xBF
    | 0 =>
      if v < 0x80 then utf8From bs 0 0x80 0xBF
      else if 0xC2 ≤ v && v < 0xE0 then utf8From bs 1 0x80 0xBF
      else if v = 0xE0 then utf8From bs 2 0xA0 0xBF
      else if v = 0xED then utf8From bs 2 0x80 0x9F
      else if 0xE1 ≤ v && v < 0xF0 then utf8From bs 2 0x80 0xBF
      else if v = 0xF0 then utf8From bs 3 0x90 0xBF
      else if v = 0xF4 then utf8From bs 3 0x80 0x8F
      else if 0xF1 ≤ v && v < 0xF4 then utf8From bs 3 0x80 0xBF
      else false

/-- A value lies in an object's range (R20): a number in its bounds, a STR of well-formed UTF-8. -/
def State.inRange (s : State) (e : DictEntry) (v : Bytes) : Bool :=
  let n : Int := leNat v
  match e.type with
  | .blob => true
  | .str => utf8From v 0 0x80 0xBF
  | _ =>
    if e.key = 0x502001 then decide (1 ≤ n) && decide (n ≤ s.log.newest + 1)
    else (decide (e.lo ≤ n) && decide (n ≤ e.hi)) || (match e.extra with
      | some (a, b) => decide (a ≤ n) && decide (n ≤ b)
      | none => false)

/-- The PendingList state of a written value of an object's class (R766, R771); none for classes A to D. -/
def pendState (e : DictEntry) : Option Nat :=
  match e.cls with
  | .E => some 3
  | .F => some 4
  | .G => some 5
  | .H => some 6
  | .I => some (if ownWrite e.key then 1 else 2)
  | _ => none

/-- The value in force of an object, as bytes. -/
def State.forceBytes (s : State) (e : DictEntry) : Bytes :=
  if e.type = .blob || e.type = .str then (Table.get none s.host.inForceBlobs e.key).getD (s.valueOf e)
  else natLE e.len (s.inForceNat e.key)

/-- The write would need a 33rd PendingList entry (R769). -/
def State.pendFull (s : State) (e : DictEntry) (v : Bytes) : Bool :=
  (pendState e).isSome && v ≠ s.forceBytes e && !s.host.pending.any (fun p => p.key = e.key) && decide (32 ≤ s.host.pending.length)

/-- The PendingList after a write of `v` (R769): an entry while the value differs from the one in force. -/
def State.notePending (s : State) (e : DictEntry) (v : Bytes) : State :=
  match pendState e with
  | none => s
  | some st =>
    let f := s.forceBytes e
    if v = f then s.takeEffect [e.key]
    else
      let blob := e.type = .blob
      s.updHost (fun h => { h with
        pending := h.pending.filter (fun p => p.key ≠ e.key) ++ [{ key := e.key, state := st }]
        inForce := if blob then h.inForce else Table.put none h.inForce e.key (some (leNat f))
        inForceBlobs := if blob then Table.put none h.inForceBlobs e.key (some f) else h.inForceBlobs })

/-- The new value is held, and PendingList follows. -/
def State.holdValue (s : State) (e : DictEntry) (v : Bytes) : State :=
  let s := s.notePending e v
  if e.type = .blob || e.type = .str then s.setBlob e.key v
  else if ownWrite e.key then s.storeDict e.key (leNat v) else s.setDict e.key (leNat v)

/-- The links that 0x6000.01 enables or disables follow it (TL_CTL.EN), in powered regions. -/
def State.linksEnabled (s : State) : State :=
  let mask := leNat (s.blob 0x600001)
  (List.range 96).foldl (fun (s : State) k =>
    let r := linkRegion k
    let want := decide (mask / 2 ^ k % 2 = 1)
    if !s.powered r || (s.link k).en = want then s
    else if want then s.enableBlock r (9 + k % 6)
    else s.after (execBlockDisable (BitVec.ofNat 6 r) (BitVec.ofNat 4 (9 + k % 6)))) s

/-- Entries and retained sequences already past a shortened time move, or are discarded, at once (R781). -/
def State.timesFollow (s : State) (key : Nat) : State :=
  s.serve.t.reqs.foldl (fun (s : State) r =>
    match key, r.boat with
    | 0x312001, _ =>
      if r.state = .retained && decide (r.idleMs + s.dictNat 0x312001 ≤ s.ms) then s.after (execIdleTimeExpiry r.id) else s
    | 0x312002, some b =>
      if !b.flash && decide (b.tierMs + 1000 * s.dictNat 0x312002 ≤ s.ms) then s.after (execModuleTtlExpiry r.id) else s
    | 0x312003, some b =>
      if b.flash && decide (b.tierMs + 1000 * s.dictNat 0x312003 ≤ s.ms) then s.after (execFlashTtlExpiry r.id) else s
    | _, _ => s) s

/-- What a class A write sets in motion at once, and the registers Cox writes (R767, R774). -/
def State.writtenEffect (s : State) (key : Nat) : State :=
  let s := s.applyAll key
  match key with
  | 0x120001 => if (s.port 8).state = 0 then s else s.portDown 8
  | 0x120002 => s.portWritten 8 5
  | 0x201002 => State.searchRef (s.updLoopRef (fun q => { q with search := decide (s.dictNat 0x201002 = 1) }))
  | 0x201003 => s.preferRef
  | 0x201004 => State.armAlternate (s.updLoopRef (fun q => { q with
      autoAlt := decide (s.dictNat 0x201004 ≠ 0x7F)
      alt := 0x7F }))
  | 0x201005 => s.updLoopRef (fun q => { q with bridge := BitVec.ofNat 10 (s.dictNat 0x201005) })
  | 0x240008 => s.returnFollow
  | 0x312001 | 0x312002 | 0x312003 => s.timesFollow key
  | 0x402002 => s.updPower (fun p => { p with flowMin := BitVec.ofNat 8 (s.dictNat 0x402002) })
  | 0x402003 => s.updPower (fun p => { p with rateMax := BitVec.ofNat 8 (s.dictNat 0x402003) })
  | 0x402005 => if s.dictNat 0x402005 = 1 then s.updPower (fun p => { p with leakWait := false }) else s
  | 0x600001 => s.linksEnabled
  | _ => if 0x110000 ≤ key && key < 0x110800 then s.portWritten (key / 256 % 256) (key % 256) else s

/-- A write of 0x5030.01 (R751): zeros stop export; a record starts it from the newest record. -/
def State.exportWrite (s : State) (e : DictEntry) (v : Bytes) : State :=
  let len := fieldNat v 16 8
  if v.all (fun b => b = 0) then
    let s := s.holdValue e v
    State.answer { s with log := { s.log with exportState := 0 } } 0
  else if !zeroField v 2 2 || !zeroField v 24 8 || fieldNat v 8 8 % 64 ≠ 0 || len % 64 ≠ 0 || len < 4096 then s.answer 3
  else if s.host.storeState = 1 then s.answer 5
  else if !s.roceTag (fieldNat v 0 2) then s.answer 6
  else
    let s := s.holdValue e v
    State.answer { s with log := { s.log with exportState := 1 } } 0

/-- A write of 0x6200.01 or 0x6200.02 (R773): refused while paired, but for zeros to 0x6200.01, which end paired mode
(log entry 31). -/
def State.pairWrite (s : State) (e : DictEntry) (v : Bytes) : State :=
  let paired := [1, 2, 4, 5].contains s.links.pairState
  let zeros := e.key = 0x620001 && v.all (fun b => b = 0)
  if s.host.storeState = 1 || s.pendFull e v then s.answer 5
  else if paired && !zeros then s.answer 6
  else
    let s := s.holdValue e v
    let s := if zeros then (s.takeEffect [0x620001]).updLinks (fun l => { l with
        pairState := 0
        misses := 0
        beat := false
        mirror := []
        received := [] }) else s
    s.answer 0

/-- A slot object names a slot that holds nothing (R772). -/
def State.emptySlot (s : State) (key n : Nat) : Bool :=
  (key = 0x23000B && (Table.get none s.weights.slots n).isNone) || (key = 0x240005 && (Table.get none s.boot.planSlots n).isNone)

/-- A write of an RW object that passed the tests of its item (R20, R769, R772, R778, R804). -/
def State.writeRw (s : State) (c : Client) (e : DictEntry) (v : Bytes) : State :=
  if !s.inRange e v then s.answer 3
  else if e.key = 0x503001 then s.exportWrite e v
  else if e.key = 0x620001 || e.key = 0x620002 then s.pairWrite e v
  else if (stored e && s.host.storeState = 1) || s.pendFull e v then s.answer 5
  else if s.emptySlot e.key (leNat v) then s.answer 6
  else if 0x800000 ≤ e.key then
    s.authWrite c e.key v (fun s => if e.type = .blob then s.storeBlob e.key v else s.holdValue e v)
  else ((s.holdValue e v).writtenEffect e.key).answer 0

/-- A write of 0x2100.08 (R84): holding easy-all at a stroke Cox names. -/
def State.haltWrite (s : State) : State := (s.after (execHalt 1)).answer 0

/-- A write of 0x5000.06 (R744). -/
def State.flushWrite (s : State) : State := s.startFlush.answer 0

/-- A write of 0x5100.0F (R756): one histogram, or all, is cleared. -/
def State.histClear (s : State) (n : Nat) : State :=
  if n ≠ 0xFF && (n = 0 || 8 < n) then s.answer 3
  else State.answer { s with log := { s.log with
    hist := if n = 0xFF then [] else s.log.hist.filter (fun e => e.1 / 32 ≠ n - 1) } } 0

/-- A write of 0x5110.02 (R757). -/
def State.stageClear (s : State) : State := State.answer { s with log := { s.log with stageCnt := [] } } 0

/-- A write of 0x5120.02 (R757). -/
def State.extremesClear (s : State) : State := State.answer { s with log := { s.log with extremes := [] } } 0

/-- A write of 0x1410.01 (R609, R769, R771): recovery at the next boot, held in the field section at once. -/
def State.recoveryRequest (s : State) (e : DictEntry) (v : Bytes) : State := if s.pendFull e v then s.answer 5 else (s.holdValue e v).answer 0

/-- A write of a WO object that passed the tests of its item; `fetched` is the image that an adapter's source gives. -/
def State.writeWo (s : State) (c : Client) (e : DictEntry) (v : Bytes) (fetched : Option Bytes) : State :=
  if e.type ≠ .blob && !s.inRange e v && ! [0x101001, 0x101002].contains e.key then s.answer 3
  else match e.key with
    | 0x100004 => s.nonceWrite v
    | 0x101001 => s.storeStart (leNat v)
    | 0x101002 => s.restoreMark (leNat v)
    | 0x141001 => s.recoveryRequest e v
    | 0x210008 => s.haltWrite
    | 0x230009 => s.swapRequest (parseSource false v)
    | 0x23000A => s.swapCancel (leNat v)
    | 0x240001 => s.planRequest (parseSource true v)
    | 0x313004 => s.adapterRegister (parseSource false v) fetched
    | 0x313005 => s.adapterUnregister (BitVec.ofNat 32 (leNat v))
    | 0x40000A => s.retryRegion (leNat v)
    | 0x500006 => s.flushWrite
    | 0x51000F => s.histClear (leNat v)
    | 0x511002 => s.stageClear
    | 0x512002 => s.extremesClear
    | 0x801001 => s.authorise c v
    | 0x803003 => s.firmwareRequest c v
    | _ => s.answer 0

/-- A whole value is written to an object (R804 from range on). -/
def State.writeObject (s : State) (c : Client) (e : DictEntry) (v : Bytes) (fetched : Option Bytes) : State :=
  match e.access with
  | .ro => s.answer 2
  | .wo => s.writeWo c e v fetched
  | .rw => s.writeRw c e v

end Sys2Proof.Machine
end

