-- ==== Sys2Proof/Machine/Dap.lean ====
section
/-! DEFINITION. The dictionary access protocol on M0 and over CAN FD (chapter 12). -/

namespace Sys2Proof.Machine

/-! ## Responses -/

/-- A length rounded up to whole words (R598). -/
def pad4 (n : Nat) : Nat := ceilDiv n 4 * 4

/-- The bytes of an item of a response (R598). -/
def outBytes (o : DapOut) : Bytes :=
  natLE 2 o.index.toNat ++ [o.sub] ++ natLE 1 o.istatus ++ natLE 2 o.offset ++ natLE 2 o.length ++ natLE 2 o.total ++ natLE 2 0 ++
    padTo (pad4 o.data.length) o.data

/-- The bytes of a response (R598). -/
def dapBytes (transaction : BitVec 16) (op status : Nat) (items : List DapOut) : Bytes :=
  natLE 2 0x4454 ++ natLE 1 1 ++ natLE 1 op ++ natLE 2 transaction.toNat ++ natLE 1 status ++ natLE 1 items.length ++
    items.flatMap outBytes

/-- The next data length of a CAN FD frame (ISO 11898-1). -/
def fdLength (n : Nat) : Nat := ([8, 12, 16, 20, 24, 32, 48, 64].find? (fun k => decide (n ≤ k))).getD 64

/-- The data of the frames of a message over CAN (R607). -/
def canFrames (fd : Bool) (msg : Bytes) : List Bytes :=
  let parts := chunksOf (if fd then 63 else 7) (msg.length + 1) msg
  parts.zipIdx.map (fun p =>
    let head := p.2 % 64 + (if p.2 = 0 then 128 else 0) + (if p.2 + 1 = parts.length then 64 else 0)
    let body := natLE 1 head ++ p.1
    if fd then padTo (if body.length ≤ 8 then body.length else fdLength body.length) body else body)

/-- A response is sent (R597, R598): over CAN in frames of the request's form, back to back (R608), each of which counts the transmit
error counter down. -/
def State.dapSend (s : State) (c : DapContext) (t : Tx) : State :=
  match c.client with
  | .m0 _ _ => s.put (.dap c.client (dapBytes t.transaction (t.op + 0x80) t.status t.items))
  | .can =>
    let ident := 0x480 + s.dictNat 0x130001
    (canFrames c.fd (dapBytes t.transaction (t.op + 0x80) t.status t.items)).foldl (fun (s : State) d =>
      (s.updHost (fun h => { h with can := { h.can with tec := h.can.tec - 1 } })).put (.can ident c.fd (c.fd && c.brs) d)) s

/-- What a response may hold (R604). -/
def dapLimit (c : DapContext) : Nat := match c.client with
  | .m0 ip _ => if ip < 2 ^ 32 then 1472 else 1452
  | .can => 64 * (if c.fd then 63 else 7)

/-- The CAN port is on the bus (R596, R614). -/
def State.canLive (s : State) : Bool := s.ref.lock && !s.host.can.busOff

/-- Cox serves a dictionary request of a client (R594, R596, R612). -/
def State.dapServed (s : State) (c : Client) : Bool :=
  s.coxUp && (match c with
    | .m0 _ _ => decide ((s.port 8).state ≠ 0)
    | .can => s.canLive)

/-- The responses kept: the last 16 of each client (R603). -/
def keepLast (c : Client) (txs : List Tx) : List Tx :=
  let n := (txs.filter (fun t => t.client = c)).length
  txs.foldl (fun (acc : List Tx × Nat) t =>
    if t.client = c && acc.2 ≠ 0 then (acc.1, acc.2 - 1) else (acc.1 ++ [t], acc.2)) ([], n - 16) |>.1

/-- A response is complete: it is sent, and stored for its client (R603). -/
def State.dapFinish (s : State) (c : DapContext) (t : Tx) : State :=
  let others := s.host.txs.filter (fun x => !(x.client = c.client && !x.done))
  (s.updHost (fun h => { h with txs := keepLast c.client (others ++ [{ t with done := true }]) })).dapSend c t

/-- A response that has not had all its items yet. -/
def State.dapHold (s : State) (c : DapContext) (t : Tx) : State :=
  s.updHost (fun h => { h with txs := h.txs.filter (fun x => !(x.client = c.client && !x.done)) ++ [t] })

/-- One item of a message (R599, R603): `f` answers it. A transaction already answered is answered from the store and not applied. -/
def State.dapItem (s : State) (c : DapContext) (op : Nat) (f : State → Tx → State × Tx) : State :=
  if !s.dapServed c.client then s
  else match s.host.txs.find? (fun t => t.client = c.client && t.transaction = c.transaction && t.done) with
    | some t => if c.item = 0 then s.dapSend c t else s
    | none =>
      let fresh : Tx := { client := c.client, transaction := c.transaction, op := op }
      if c.malformed || 32 < c.count then (if c.item = 0 then s.dapFinish c { fresh with status := 8 } else s)
      else if c.count = 0 then s.dapFinish c fresh
      else
        let t := if c.item = 0 then some fresh
          else s.host.txs.find? (fun t => t.client = c.client && t.transaction = c.transaction && t.op = op && t.items.length = c.item)
        match t with
        | none => s
        | some t =>
          let p := f s t
          if c.item + 1 = c.count then p.1.dapFinish c p.2 else p.1.dapHold c p.2

/-- The items of a message (R598); `data` tells whether items carry DATA. None where the bytes run out. -/
def parseItems (data : Bool) : Nat → Bytes → Option (List DapItem)
  | 0, _ => some []
  | n + 1, bs =>
    if bs.length < 12 then none
    else
      let len := fieldNat bs 6 2
      let d := if data then pad4 len else 0
      let rest := bs.drop 12
      if rest.length < d then none
      else
        let item : DapItem := {
          index := BitVec.ofNat 16 (fieldNat bs 0 2)
          sub := BitVec.ofNat 8 (fieldNat bs 2 1)
          offset := fieldNat bs 4 2
          length := len
          total := fieldNat bs 8 2
          data := if data then rest.take len else []
          malformed := fieldNat bs 3 1 ≠ 0 || fieldNat bs 10 2 ≠ 0 || (!data && fieldNat bs 8 2 ≠ 0) || !zeroField rest len (d - len) }
        match parseItems data n (rest.drop d) with
        | some is => some (item :: is)
        | none => none

/-- The items a request carries (R598); none where the bytes run out. -/
def dapItems (msg : Bytes) : Option (List DapItem) := parseItems (decide (fieldNat msg 3 1 = 2)) (fieldNat msg 7 1) (msg.drop 8)

/-- The header of a request and the place of one of its items (R598): a message is malformed where its VERSION, STATUS, OP or items are. -/
def dapContext (client : Client) (fd brs : Bool) (msg : Bytes) (n : Nat) : DapContext :=
  let op := fieldNat msg 3 1
  { client := client
    transaction := BitVec.ofNat 16 (fieldNat msg 4 2)
    fd := fd
    brs := brs
    item := n
    count := fieldNat msg 7 1
    malformed := fieldNat msg 2 1 ≠ 1 || fieldNat msg 6 1 ≠ 0 || op = 0 || 4 < op || (dapItems msg).isNone }

/-- A datagram on M0 is a message of the protocol with an OP (R598): at the UDP port of 0x1200.03, which applies at the next boot. -/
def State.isDap (s : State) (dst : BitVec 16) (msg : Bytes) (op : Nat) : Bool :=
  decide (dst.toNat = s.inForceNat 0x120003) && decide (8 ≤ msg.length) && decide (fieldNat msg 0 2 = 0x4454) && decide (fieldNat msg 3 1 = op)

/-- An item that a message lacks. -/
def noItem : DapItem := { index := 0, sub := 0, offset := 0, length := 0, total := 0, data := [], malformed := true }

/-- An item of a request. -/
def dapItemOf (msg : Bytes) (n : Nat) : DapItem := ((dapItems msg).getD []).getD n noItem

/-! ## READ -/

/-- Bytes of a response so far, the heads of all its items counted (R604). -/
def dapSize (t : Tx) (count : Nat) : Nat := 8 + 12 * count + t.items.foldl (fun n o => n + pad4 o.data.length) 0

/-- The value a READ item reads (R602): one value within a message; above OFFSET 0 the value kept for the client. -/
def State.readValue (s : State) (c : Client) (t : Tx) (e : DictEntry) (offset : Nat) : Bytes :=
  match Table.get none t.seen e.key with
  | some v => v
  | none =>
    match s.host.kept.find? (fun k => k.client = c && k.key = e.key && decide (s.ms < k.ms + 5000)) with
    | some k => if offset = 0 then s.valueOf e else k.value
    | none => s.valueOf e

/-- An item of a READ response. -/
def itemOut (i : DapItem) (istatus total : Nat) (data : Bytes) : DapOut :=
  { index := i.index, sub := i.sub, istatus := istatus, offset := i.offset, length := data.length, total := total, data := data }

/-- A READ item (R599, R602, R604, R804, R605, R775). A read of a STR ends where its value ends (log entry 32). -/
def State.readItem (s : State) (c : DapContext) (i : DapItem) (t : Tx) : State × Tx :=
  let add (o : DapOut) (s : State) (t : Tx) : State × Tx := (s, { t with items := t.items ++ [o] })
  let most := match c.client with
    | .can => 240
    | .m0 _ _ => 1024
  if t.cut then add (itemOut i 9 0 []) s t
  else if i.malformed || i.length = 0 || most < i.length then add (itemOut i 8 0 []) s t
  else match objectEntry (256 * i.index.toNat + i.sub.toNat) with
    | none => add (itemOut i 1 0 []) s t
    | some e =>
      let v := s.readValue c.client t e i.offset
      let total := v.length
      let length := if e.type = .str then min i.length (total - i.offset) else i.length
      if total < i.offset + length then add (itemOut i 4 0 []) s t
      else if dapLimit c < dapSize t c.count + pad4 length then add (itemOut i 9 0 []) s { t with cut := true }
      else
        let t := { t with seen := Table.put none t.seen e.key (some v) }
        let s := if i.offset = 0 then
            s.updHost (fun h => { h with
              kept := h.kept.filter (fun k => !(k.client = c.client && k.key = e.key)) ++
                [{ client := c.client, key := e.key, value := v, ms := s.ms }] })
          else s
        add (itemOut i 0 total ((v.drop i.offset).take length)) s t

/-- DAP_READ (R598, R599): item `n` of a READ message on M0. -/
def execDapRead (ip : Nat) (src dst : BitVec 16) (msg : Bytes) (n : Nat) (s : State) : Host.Outcome State Fault Refusal :=
  let c := dapContext (.m0 ip src) false false msg n
  if !s.isDap dst msg 1 then .next s else .next (s.dapItem c 1 (fun s t => s.readItem c (dapItemOf msg n) t))

/-! ## WRITE -/

/-- A whole value is written; the state and its ISTATUS. -/
def State.wholeWrite (s : State) (c : Client) (e : DictEntry) (v : Bytes) (fetched : Option Bytes) : State :=
  State.writeObject { s with istatus := 0 } c e v fetched

/-- A piece of a BLOB or STR (R601): gathered per client and object; the piece that completes the value writes it. -/
def State.pieceWrite (s : State) (c : Client) (e : DictEntry) (i : DapItem) (fetched : Option Bytes) : State :=
  let mine (p : Pieces) : Bool := p.client = c && p.key = e.key
  let buf := s.host.pieces.find? (fun p => mine p && decide (s.ms < p.ms + 5000))
  let rest := s.host.pieces.filter (fun p => !mine p)
  if i.offset = 0 && i.length = i.total then
    State.wholeWrite (s.updHost (fun h => { h with pieces := rest })) c e i.data fetched
  else
    let p : Pieces := buf.getD { client := c, key := e.key, total := i.total, ms := s.ms }
    if p.total ≠ i.total then s.answer 4
    else
      let p := { p with got := Table.putList none p.got i.offset (i.data.map some) }
      let have_ := Table.getList none p.got 0 p.total
      if have_.all (fun b => b.isSome) then
        State.wholeWrite (s.updHost (fun h => { h with pieces := rest })) c e (have_.map (fun b => b.getD 0)) fetched
      else (s.updHost (fun h => { h with pieces := rest ++ [p] })).answer 0

/-- A WRITE item is tested in the order of R804, and applied or gathered (R601). -/
def State.writeTested (s : State) (c : Client) (i : DapItem) (fetched : Option Bytes) : State :=
  if i.malformed || i.data.length ≠ i.length then s.answer 8
  else match objectEntry (256 * i.index.toNat + i.sub.toNat) with
    | none => s.answer 1
    | some e =>
      if e.access = .ro then s.answer 2
      else if e.type = .blob || e.type = .str then
        if i.total < i.offset + i.length || e.len < i.total || (e.type = .blob && i.total ≠ e.len) then s.answer 4
        else s.pieceWrite c e i fetched
      else if i.offset ≠ 0 || i.length ≠ e.len || i.total ≠ e.len then s.answer 4
      else s.wholeWrite c e i.data fetched

/-- A WRITE item and its item of the response. -/
def State.writeItem (s : State) (c : DapContext) (i : DapItem) (fetched : Option Bytes) (t : Tx) : State × Tx :=
  let s := s.writeTested c.client i fetched
  (s, { t with items := t.items ++ [{
    index := i.index, sub := i.sub, istatus := s.istatus, offset := i.offset,
    length := if s.istatus = 0 then i.length else 0, total := i.total, data := [] }] })

/-- DAP_WRITE (R598, R601, R804): item `n` of a WRITE message on M0; `fetched` is the image that the source of an adapter registration
gives. -/
def execDapWrite (ip : Nat) (src dst : BitVec 16) (msg : Bytes) (n : Nat) (fetched : Option Bytes) (s : State) :
    Host.Outcome State Fault Refusal :=
  let c := dapContext (.m0 ip src) false false msg n
  if !s.isDap dst msg 2 then .next s else .next (s.dapItem c 2 (fun s t => s.writeItem c (dapItemOf msg n) fetched t))

/-- A command of its own writes a whole value to an object (R804). -/
def State.writeKey (s : State) (c : Client) (key : Nat) (v : Bytes) : State :=
  if !s.coxUp then s
  else match catalogFind key with
    | none => s.answer 1
    | some e => if e.len < v.length || (e.type ≠ .str && v.length ≠ e.len) then s.answer 4 else s.wholeWrite c e v none

/-! ## LIST and IDENTIFY -/

/-- Every object in ascending order, subindex 0x00 of each index before the others (R764). -/
def objectsFrom (prev : Nat) : List DictEntry → List DictEntry
  | [] => []
  | e :: es =>
    let i := e.key / 256
    if i = prev then e :: objectsFrom i es
    else match objectEntry (256 * i) with
      | some z => z :: e :: objectsFrom i es
      | none => e :: objectsFrom i es

/-- Type codes of R599. -/
def typeCode : DictType → Nat
  | .u8 => 1
  | .u16 => 2
  | .u32 => 3
  | .u64 => 4
  | .i16 => 6
  | .bool => 9
  | .str => 10
  | .blob => 11

/-- Access codes of R599. -/
def accessCode : DictAccess → Nat
  | .ro => 1
  | .rw => 2
  | .wo => 3

/-- An item of a LIST response (R599). -/
def listOut (e : DictEntry) : DapOut :=
  { index := BitVec.ofNat 16 (e.key / 256), sub := BitVec.ofNat 8 (e.key % 256), istatus := 0, offset := 0, length := 4, total := 0,
    data := natLE 1 (typeCode e.type) ++ natLE 1 (accessCode e.access) ++ natLE 2 e.len }

/-- The items of a LIST response from a key on (R599, R604): at most 32, and as many as fit. -/
def listItems (key limit : Nat) : List DapOut :=
  (((objectsFrom 0 catalog).filter (fun e => decide (key ≤ e.key))).take (min 32 ((limit - 8) / 16))).map listOut

/-- DAP_LIST (R599): the message, with its one item; another COUNT, OFFSET, LENGTH or TOTAL makes it malformed. -/
def State.dapList (s : State) (c : DapContext) (i : DapItem) : State :=
  let bad := c.malformed || c.count ≠ 1 || i.malformed || i.offset ≠ 0 || i.length ≠ 0 || i.total ≠ 0
  let c := { c with
    item := 0
    count := 1
    malformed := bad }
  s.dapItem c 3 (fun s t => (s, { t with items := listItems (256 * i.index.toNat + i.sub.toNat) (dapLimit c) }))

/-- DAP_LIST (R598, R599): a LIST message on M0. -/
def execDapList (ip : Nat) (src dst : BitVec 16) (msg : Bytes) (s : State) : Host.Outcome State Fault Refusal :=
  if !s.isDap dst msg 3 then .next s else .next (s.dapList (dapContext (.m0 ip src) false false msg 0) (dapItemOf msg 0))

/-- An item of an IDENTIFY response (R599). -/
def State.identifyOut (s : State) (key : Nat) : DapOut :=
  let v := match catalogFind key with
    | some e => s.valueOf e
    | none => []
  { index := BitVec.ofNat 16 (key / 256), sub := BitVec.ofNat 8 (key % 256), istatus := 0, offset := 0, length := v.length,
    total := v.length, data := v }

/-- An IDENTIFY message (R599): serial, stepping, and the dictionary port. -/
def State.dapIdentify (s : State) (c : DapContext) : State :=
  let c := { c with
    item := 0
    count := 1
    malformed := c.malformed || c.count ≠ 0 }
  s.dapItem c 4 (fun s t => (s, { t with items := [0x100001, 0x100002, 0x120003].map s.identifyOut }))

/-- DAP_IDENTIFY (R598, R599): an IDENTIFY message on M0. -/
def execDapIdentify (ip : Nat) (src dst : BitVec 16) (msg : Bytes) (s : State) : Host.Outcome State Fault Refusal :=
  if !s.isDap dst msg 4 then .next s else .next (s.dapIdentify (dapContext (.m0 ip src) false false msg 0))

/-! ## What times out -/

/-- PIECE_TIMEOUT (R601): a buffer not complete within 5 s of its first piece is discarded. -/
def execPieceTimeout (c : Client) (index : BitVec 16) (sub : Byte) (s : State) : Host.Outcome State Fault Refusal :=
  let mine (p : Pieces) : Bool := p.client = c && p.key = 256 * index.toNat + sub.toNat
  match s.host.pieces.find? mine with
  | none => .next s
  | some p =>
    let s := s.advanceTo ((p.ms + 5000) * msTicks)
    .next (s.updHost (fun h => { h with pieces := h.pieces.filter (fun q => !mine q) }))

/-- KEPT_VALUE_EXPIRY (R602): 5 s after the read at OFFSET 0 the value is kept no longer. -/
def execKeptValueExpiry (c : Client) (index : BitVec 16) (sub : Byte) (s : State) : Host.Outcome State Fault Refusal :=
  let mine (k : Kept) : Bool := k.client = c && k.key = 256 * index.toNat + sub.toNat
  match s.host.kept.find? mine with
  | none => .next s
  | some k =>
    let s := s.advanceTo ((k.ms + 5000) * msTicks)
    .next (s.updHost (fun h => { h with kept := h.kept.filter (fun q => !mine q) }))

/-! ## CAN -/

/-- A whole message that came over CAN is acted on (R597-R599, R607). -/
def State.canMessage (s : State) (msg : Bytes) (broadcast fd brs : Bool) (fetched : Option Bytes) : State :=
  let op := fieldNat msg 3 1
  if msg.length < 8 || fieldNat msg 0 2 ≠ 0x4454 || (broadcast && op ≠ 4) then s
  else
    let c := dapContext .can fd brs msg 0
    let list := (dapItems msg).getD []
    if c.malformed then s.dapItem c (op % 128) (fun s t => (s, t))
    else if op = 4 then s.dapIdentify c
    else if op = 3 then s.dapList c (dapItemOf msg 0)
    else if list = [] then s.dapItem c op (fun s t => (s, t))
    else list.zipIdx.foldl (fun (s : State) (p : DapItem × Nat) =>
      let c := { c with item := p.2 }
      if op = 1 then s.dapItem c 1 (fun s t => s.readItem c p.1 t)
      else s.dapItem c 2 (fun s t => s.writeItem c p.1 fetched t)) s

/-- The CAN port takes a frame without error: its receive error counter falls (ISO 11898-1). -/
def State.canGood (s : State) : State :=
  s.updHost (fun h => { h with can := { h.can with rec_ := if 127 < h.can.rec_ then 127 else h.can.rec_ - 1 } })

/-- CAN_SEGMENT (R595-R597, R607, R608): a frame on the bus. Extended and remote frames and other identifiers are not addressed to the
module; a frame out of order discards the message and those that follow it until the next FIRST. -/
def execCanSegment (ident : BitVec 29) (ext remote fd brs : Bool) (data : Bytes) (fetched : Option Bytes) (s : State) :
    Host.Outcome State Fault Refusal :=
  if !s.canLive then .next (s.updHost (fun h => { h with can := { h.can with msg := none } }))
  else
    let s := s.canGood
    let mine := ident.toNat = 0x400 || ident.toNat = 0x400 + s.dictNat 0x130001
    match data with
    | [] => .next s
    | head :: body =>
      if ext || remote || !mine || !s.coxUp then .next s
      else
        let first := head.getLsbD 7
        let seq := head.toNat % 64
        let setMsg (m : Option (Bytes × Nat × Nat × Bool × Bool)) : State := s.updHost (fun h => { h with can := { h.can with msg := m } })
        let cur : Option Bytes :=
          if first then (if seq = 0 then some [] else none)
          else match s.host.can.msg with
            | some (bs, next, id, _, _) => if next = seq && id = ident.toNat then some bs else none
            | none => none
        match cur with
        | none => .next (setMsg none)
        | some bs =>
          let bs := bs ++ body
          if head.getLsbD 6 then .next ((setMsg none).canMessage bs (ident.toNat = 0x400) fd brs fetched)
          else .next (setMsg (some (bs, (seq + 1) % 64, ident.toNat, fd, brs)))

/-- CAN_BUS_ERROR (R595; ISO 11898-1): an error the port finds as transmitter counts 8 up, as receiver 1 up, or 8 where the error rules
say so; above 255 transmit errors it goes bus-off. While silent it takes no part. -/
def execCanBusError (tx eight : Bool) (s : State) : Host.Outcome State Fault Refusal :=
  if !s.canLive then .next s
  else
    let c := s.host.can
    let c : Can := if tx then { c with tec := c.tec + 8 } else { c with rec_ := min 255 (c.rec_ + (if eight then 8 else 1)) }
    let c : Can := if 256 ≤ c.tec then { c with
        busOff := true
        msg := none } else c
    .next (s.updHost (fun h => { h with can := c }))

/-- CAN_BUS_OFF_RECOVERY (R614): 128 occurrences of 11 recessive bits have been seen, and the port is error active again. -/
def execCanBusOffRecovery (s : State) : Host.Outcome State Fault Refusal :=
  if !s.host.can.busOff || !s.ref.lock then .next s
  else .next (s.updHost (fun h => { h with can := {} }))

end Sys2Proof.Machine
end

