-- ==== Sys2Proof/Machine/Flash.lean ====
section
/-! DEFINITION. Flash codewords and what an unreadable one held (R464, R465, R747). -/

namespace Sys2Proof.Machine

/-- The entry a codeword held, if its request has one in flash. -/
def State.parkedLost (s : State) (id : BitVec 64) : State :=
  match s.req id with
  | some r => match r.boat with
    | some b => if b.flash then s.boatLost r else s
    | none => s
  | none => s

/-- An unreadable codeword held log records (R465, R747): a founding record has a second copy; what is lost is reported. -/
def State.logLost (s : State) (seqs : List Nat) : State :=
  let gone := seqs.filter (fun q => decide (4096 < q) || s.log.foundOnce.contains q)
  let s : State := { s with log := { s.log with
    flash := s.log.flash.filter (fun p => !gone.contains p.1)
    foundOnce := s.log.foundOnce ++ seqs.filter (fun q => decide (q ≤ 4096) && !s.log.foundOnce.contains q) } }
  match gone with
  | [] => s
  | first :: _ => s.event 0x0003 0xFF (natLE 8 first ++ natLE 4 gone.length ++ natLE 1 1)

/-- FLASH_CODEWORD_READ (R464, R465): outcome 0 a plain read, 1 re-reads, 2 a soft decode, 3 unreadable. -/
def execFlashCodewordRead (chan : BitVec 5) (die : Bool) (block _page : Nat) (_codeword : BitVec 2) (outcome : BitVec 2)
    (content : FlashContent) (s : State) : Host.Outcome State Fault Refusal :=
  let c := chan.toNat
  let r := edgeRegion (c / 2)
  let b : Nat × Nat × Nat := (c, b2n die, block)
  if outcome = 0 then .next s
  else
    let s := { s with tier := { s.tier with flashRetries := Table.put 0 s.tier.flashRetries c (satAdd (Table.get 0 s.tier.flashRetries c) 1) } }
    let s := (s.bucket r 1).count 0x704002 1
    if outcome = 1 then .next s
    else
      let s := { s with tier := { s.tier with flashSoft := Table.put 0 s.tier.flashSoft c (satAdd (Table.get 0 s.tier.flashSoft c) 1) } }
      if outcome = 2 then
        if s.tier.softOnce.contains b then .next (s.retireBlock c (b2n die) block)
        else .next { s with tier := { s.tier with softOnce := s.tier.softOnce ++ [b] } }
      else
        let s := { s with tier := { s.tier with flashUnread := Table.put 0 s.tier.flashUnread c (satAdd (Table.get 0 s.tier.flashUnread c) 1) } }
        let s := (s.count 0x704003 1).retireBlock c (b2n die) block
        match content with
        | .other => .next s
        | .shard n => .next (s.shardFailed n)
        | .parked id => .next (s.parkedLost id)
        | .log first count =>
          .next (s.logLost ((List.range count).map (fun i => first + i)))

end Sys2Proof.Machine
end

