-- ==== Sys2Proof/Machine/Links.lean ====
section
/-! DEFINITION. The commands of the tensor links: codewords, flows, bulk transfers, control words, training, hails, markers,
and a redundant pair (chapter 11). -/

namespace Sys2Proof.Machine

/-! ## Codewords and flows -/

/-- The flow being received is tainted (R540). -/
def State.taintFlow (s : State) (k : Nat) : State :=
  match (s.link k).flow with
  | some f =>
    if f.taint then s
    else (s.updLink k (fun l => { l with flow := some { f with taint := true }, taint := true })).count 0x600007 1
  | none => s

/-- Blocks a receiver discards and counts with their codeword (R537): control words and markers that fail their CRC-16, and reserved
types. Flow trailers and bulk headers are checked as they are received. -/
def badBlocks (bs : List (BitVec 4 × Bytes)) : Nat :=
  (bs.filter (fun b => decide (7 ≤ b.1.toNat) || ((b.1 = 4 || b.1 = 5) && !blockCrcOk b.2))).length

/-- What 128 bytes hold as a flow header (R541). -/
def flowHeaderOf (b : Bytes) : FlowHeader :=
  { head := headOf b
    count := fieldNat b 12 1
    poison := BitVec.ofNat 48 (fieldNat b 14 6)
    lines := (List.range 48).map (fun n => BitVec.ofNat 16 (fieldNat b (20 + 2 * n) 2)) }

/-- What 128 bytes hold as a bulk header (R544). -/
def bulkHeaderOf (b : Bytes) : BulkHeader :=
  { kind := fieldNat b 0 1
    count := fieldNat b 1 1
    lastBytes := fieldNat b 2 2
    segment := fieldNat b 4 4
    object := BitVec.ofNat 64 (fieldNat b 8 8)
    offset := fieldNat b 16 8
    total := fieldNat b 24 8 }

/-- The commit flit of a flow trailer (R543): its head, and body bytes 0-79 with the others zero. -/
def trailerFlit (b : Bytes) : Flit := { head := headOf b, body := padTo 128 (slice b 12 80) }

/-- CODEWORD_RECEIVE (R536, R537, R540, R551): good (0), corrected (1) or uncorrectable (2), with its five blocks by type. -/
def execCodewordReceive (k : BitVec 7) (outcome : BitVec 2) (blocks : List (BitVec 4 × Bytes)) (s : State) :
    Host.Outcome State Fault Refusal :=
  let kn := k.toNat
  if (s.link kn).state = 0 || (s.link kn).state = 3 then .next s
  else if outcome = 2 then
    let s := s.updLink kn (fun l => { l with uncorrectable := satAdd l.uncorrectable 1, badRun := l.badRun + 1, badNow := true })
    let s := s.taintFlow kn
    .next (if 8 ≤ (s.link kn).badRun then s.linkFalls kn else s)
  else
    .next (s.updLink kn (fun l => { l with
      corrected := if outcome = 1 then satAdd l.corrected 1 else l.corrected
      crcFail := satAdd l.crcFail (badBlocks blocks)
      badRun := 0
      badNow := false }))

/-- FLOW_HEADER_RECEIVE (R540, R541): the next data blocks and where they land. -/
def execFlowHeaderReceive (k : BitVec 7) (block : Bytes) (s : State) : Host.Outcome State Fault Refusal :=
  let h := flowHeaderOf block
  let l := s.link k.toNat
  if l.state ≠ 2 then .next s
  else
    let old := match l.flow with
      | some f => f.taint
      | none => false
    let s := s.updLink k.toNat (fun l => { l with
      flow := some { head := h.head, left := h.count, done := 0, poison := h.poison, lines := h.lines, taint := old } })
    .next (if l.badNow then s.taintFlow k.toNat else s)

/-- A port injects a flit at the tile under it (R513). -/
def State.injectAt (s : State) (r x : Nat) (f : Flit) : State :=
  if s.route r f.head.dreg.toNat = 15 then s.updMesh r (fun m => { m with unreach := satAdd m.unreach 1 })
  else { s with transit := s.transit ++ [(r, x, 0, f)] }

/-- FLOW_DATA_BLOCK (R540-R542): a data flit with its landing line, its poison, and TAINT if its header or the flow is tainted; the
sending port has written its destination. -/
def execFlowDataBlock (k : BitVec 7) (data : Bytes) (s : State) : Host.Outcome State Fault Refusal :=
  let kn := k.toNat
  match (s.link kn).flow with
  | none => .next s
  | some f =>
    if f.left = 0 || (s.link kn).state ≠ 2 then .next s
    else
      let taint := f.head.taint || f.taint || (s.link kn).badNow
      let head := { f.head with
        lineOrCrc := f.lines.getD f.done 0
        poison := decide (f.done < 48) && f.poison.getLsbD f.done
        taint := taint }
      let s := s.updLink kn (fun l => { l with flow := some { f with left := f.left - 1, done := f.done + 1 } })
      .next (s.injectAt (linkRegion kn) f.head.dx.toNat { head := withParity head, body := padTo 128 data })

/-- FLOW_TRAILER_RECEIVE (R537, R538, R540, R543): a trailer that passes its check gives the commit flit, body bytes 80-127 zero; the
flow ends. The commit of a tainted flow carries TAINT, so that its delivery is late although its data came before the taint (R79; log
entry 25). -/
def execFlowTrailerReceive (k : BitVec 7) (block : Bytes) (s : State) : Host.Outcome State Fault Refusal :=
  let kn := k.toNat
  if (s.link kn).state ≠ 2 then .next s
  else
    let s := if (s.link kn).badNow then s.taintFlow kn else s
    let taint : Bool := match (s.link kn).flow with
      | some f => f.taint
      | none => false
    let s := s.updLink kn (fun l => { l with flow := none })
    if !blockCrcOk block then .next (s.updLink kn (fun l => { l with crcFail := satAdd l.crcFail 1 }))
    else
      let f := trailerFlit block
      let f := if taint && crcOk f then sealFlit { f with head := { f.head with taint := true } } else f
      .next (s.injectAt (linkRegion kn) f.head.dx.toNat f)

/-! ## Control words -/

/-- Words up to an ACK are released, and waiting words take their places (R546, R548). -/
def ackWords (ack : BitVec 16) (l : Link) : Link :=
  if l.unacked.any (fun w => w.seq = ack) then
    drainWords 64 { l with unacked := (l.unacked.dropWhile (fun w => w.seq ≠ ack)).drop 1 }
  else l

/-- A block is a control word of a kind (R537, R538, R546): one that fails its CRC-16 has been discarded, and counted with its codeword. -/
def isWord (b : Bytes) (kind : Nat) : Bool := blockCrcOk b && decide (fieldNat b 0 1 = kind)

/-- What every sequenced control word passes first (R546, R548, R577): one in an uncorrectable codeword is lost; its ACK is taken,
a word accepted before is acknowledged again and discarded, and a word that is not the next in order waits for its resend (log
entry 25). -/
def State.takeWord (s : State) (k kind : Nat) (b : Bytes) (f : State → State) : State :=
  if (s.link k).state = 0 || (s.link k).state = 3 || (s.link k).badNow || !isWord b kind then s
  else
    let s := s.updLink k (ackWords (wordAck b))
    if wordSeq b = nextSeq (s.link k).ack then
      f ((s.updLink k (fun l => { l with ack := wordSeq b })).sendWord k .ack)
    else s.sendWord k .ack

/-- ACK_ONLY (R547, R548). -/
def execAckOnly (k : BitVec 7) (block : Bytes) (s : State) : Host.Outcome State Fault Refusal :=
  if (s.link k.toNat).badNow || !isWord block 2 then .next s else .next (s.updLink k.toNat (ackWords (wordAck block)))

/-- HALT_WORD (R561, R577): passed on, and holding easy-all at the next catch; a resume below its stroke is discarded. -/
def execHaltWord (k : BitVec 7) (block : Bytes) (s : State) : Host.Outcome State Fault Refusal :=
  let serial := wordSerial block
  let stroke := wordStroke block 24
  .next (s.takeWord k.toNat 4 block (fun s =>
    if !s.inRegatta then s
    else
      let s := s.updLinks (fun l => { l with haltStroke := laterOf l.haltStroke stroke.toNat })
      let s := s.sendWords (s.treeLinks.filter (fun j => j ≠ k.toNat)) (.halt serial stroke.toNat)
      if s.clk.running then
        if s.clk.named.any (fun e => e.at_.isNone) then s else s.nameEasy 10 false none
      else match s.clk.resume with
        | some r =>
          if laterMod 48 r.stroke stroke.toNat then s
          else State.nameResume { s with clk := { s.clk with resume := none } } s.clk.step
        | none => s))

/-- RESUME_WORD (R88, R562, R577): the root names the resume tick; a member that still holds for a cause of its own sends a halt
again. -/
def execResumeWord (k : BitVec 7) (block : Bytes) (s : State) : Host.Outcome State Fault Refusal :=
  let tick := fieldNat block 8 8
  let len := wordLen block 16
  let fin := wordFin block 16
  let step := wordStep block 16
  let stroke := wordStroke block 21
  .next (s.takeWord k.toNat 5 block (fun s =>
    if !s.isMember || s.links.parent ≠ some k.toNat then s
    else
      let s := s.sendWords s.children (.resume tick len.toNat fin.toNat step.toNat stroke.toNat)
      if s.clk.running || laterMod 48 s.links.haltStroke stroke.toNat then s
      else if s.clk.causes ≠ [] then s.sendWord k.toNat (.halt s.ident.serial s.clk.stroke.toNat)
      else
        let s := (s.takeEffect [0x610004]).updLinks (fun l => { l with period := s.dictNat 0x610004 })
        { s with clk := { s.clk with
        resume := some { tick := tick, len := len.toNat, fin := fin.toNat, step := step.toNat, stroke := stroke.toNat } } }))

/-- STAKE (R558, R560): passed on; the member aligns at the stake tick and holds to the first catch. -/
def execStake (k : BitVec 7) (block : Bytes) (s : State) : Host.Outcome State Fault Refusal :=
  let tick := fieldNat block 8 8
  let first := fieldNat block 16 8
  let stroke := wordStroke block 24
  let len := wordLen block 32
  let fin := wordFin block 32
  let step := wordStep block 32
  .next (s.takeWord k.toNat 6 block (fun s =>
    if !s.isMember || s.links.parent ≠ some k.toNat then s
    else
      let s := s.sendWords s.children (.stake tick first stroke.toNat len.toNat fin.toNat step.toNat)
      let s := s.takeEffect [0x610004]
      let s := s.updLinks (fun l => { l with
        period := s.dictNat 0x610004
        stake := some (tick, first, stroke.toNat, len.toNat, fin.toNat, step.toNat)
        aligned := false })
      if s.clk.running || !s.boot.filled_ || s.clk.causes ≠ [] then s
      else { s with
        boot := { s.boot with staked := true }
        clk := { s.clk with
          len := len.toNat
          fin := fin.toNat
          step := step.toNat
          resume := some { tick := first, len := len.toNat, fin := fin.toNat, step := step.toNat, stroke := stroke.toNat } } }))

/-- STROKE_CHANGE (R68, R563): passed on, and armed in every region of the plan. -/
def execStrokeChange (k : BitVec 7) (block : Bytes) (s : State) : Host.Outcome State Fault Refusal :=
  let stroke := wordStroke block 8
  let len := wordLen block 16
  let fin := wordFin block 16
  let step := wordStep block 16
  .next (s.takeWord k.toNat 7 block (fun s =>
    if !s.isMember then s
    else
      let s := s.sendWords s.children (.strokeChange stroke.toNat len.toNat fin.toNat step.toNat)
      s.armChange stroke len fin step))

/-- MODE_REPORT (R298, R299, R305, R563): the root's mode controller learns what a member's referees found, and widens the passes replayed there;
other members pass it on toward the root. -/
def execModeReport (k : BitVec 7) (block : Bytes) (s : State) : Host.Outcome State Fault Refusal :=
  let stroke := wordStroke block 8
  .next (s.takeWord k.toNat 8 block (fun s =>
    if s.isRoot then
      (reportPairs block).foldl (fun (s : State) v =>
        if 128 ≤ v.1 then s
        else if v.2 = 1 then
          let s := s.modeCrab v.1
          if s.fixedPolicy then s else s.widenAt v.1 stroke.toNat
        else if v.2 = 2 then (if s.fixedPolicy then s else s.modeRefusal v.1)
        else if v.2 = 0 then { s with mode := { s.mode with crabRun := Table.put 0 s.mode.crabRun v.1 0 } }
        else s) s
    else match s.links.parent with
      | some j => if s.isMember then s.sendWord j (.modeReport stroke.toNat (reportPairs block)) else s
      | none => s))

/-- MODE_CHANGE (R298, R299, R306, R563): fallbacks and a wide run, of the length the word gives, from the stroke named. -/
def execModeChange (k : BitVec 7) (block : Bytes) (s : State) : Host.Outcome State Fault Refusal :=
  let stroke := wordStroke block 8
  let fall := BitVec.ofNat 128 (fieldNat block 16 16)
  let wide := fieldNat block 32 2
  .next (s.takeWord k.toNat 9 block (fun s =>
    if !s.isMember then s
    else
      let s := s.sendWords s.children (.modeChange stroke.toNat fall wide)
      let falls := (List.range 128).filterMap (fun i => if fall.getLsbD i then some (ModeChange.mk stroke (some i) (s.dictNat 0x211002)) else none)
      let runs := if wide = 0 then [] else [ModeChange.mk stroke none wide]
      if s.fixedPolicy then s else { s with mode := { s.mode with changes := s.mode.changes ++ falls ++ runs } }))

/-- SHARD_REREQUEST (R374, R375): the reader sends the record again toward the member that asks; its third failure fails the
load; a member passes the word on toward the reader. -/
def execShardRerequest (k : BitVec 7) (block : Bytes) (s : State) : Host.Outcome State Fault Refusal :=
  let shard := fieldNat block 8 4
  let fails := fieldNat block 12 1
  .next (s.takeWord k.toNat 10 block (fun s =>
    if s.isMember then
      match s.links.parent with
      | some j => if j = k.toNat then s else s.sendWord j (.rerequest shard fails)
      | none => s
    else match s.weights.load with
      | none => s
      | some _ =>
        let member := match s.partnerOn k.toNat with
          | some p => ((List.range 512).find? (fun m => s.mapSerial m = p.hail.serial)).getD 0
          | none => 0
        let s := s.event 0x0901 0xFF (natLE 4 shard ++ natLE 1 fails ++ natLE 2 member)
        if 3 ≤ fails then s.fillFails 5
        else s.sendObject k.toNat 2 shard (s.recordHeld shard)))

/-- What goes out again of a segment (R545): that of the manifest in hand, or the item of an object without a byte layout (log entry 64). -/
def State.segmentAgain (s : State) (kind object segment : Nat) : List LinkOut :=
  match kind, s.weights.load.bind (fun l => l.man) with
  | 1, some m => segmentOut 1 object (manifestBytes m) segment
  | _, _ => [.bulk kind object segment]

/-- BULK_NAK (R545): the sender sends the segment again. -/
def execBulkNak (k : BitVec 7) (block : Bytes) (s : State) : Host.Outcome State Fault Refusal :=
  let kind := fieldNat block 8 1
  .next (s.takeWord k.toNat 11 block (fun s =>
    if kind = 2 then s
    else s.updLink k.toNat (fun l => { l with out := l.out ++ s.segmentAgain kind (fieldNat block 9 8) (fieldNat block 17 4) })))

/-- BULK_ACK (R570): an acknowledged mirror batch, and those before it, leave the ring. -/
def execBulkAck (k : BitVec 7) (block : Bytes) (s : State) : Host.Outcome State Fault Refusal :=
  .next (s.takeWord k.toNat 12 block (fun s =>
    if fieldNat block 8 1 ≠ 3 then s
    else s.updLinks (fun l => { l with mirror := l.mirror.filter (fun b => laterMod 48 b.stroke (fieldNat block 9 8)) })))

/-- DELAY_PROBE (R550): a probe is answered with its turnaround, which the spec leaves open (log entry 5); a reply gives a round
trip less the partner's turnaround. -/
def execDelayProbe (k : BitVec 7) (block : Bytes) (trip : Nat) (s : State) : Host.Outcome State Fault Refusal :=
  .next (s.takeWord k.toNat 13 block (fun s =>
    if fieldNat block 9 1 = 1 then
      if (s.link k.toNat).state = 1 && (s.link k.toNat).trips.length < 16 then
        s.updLink k.toNat (fun l => { l with trips := l.trips ++ [trip - fieldNat block 10 4] })
      else s
    else
      let t := ((Config.freeBits s.free).setWidth 32).toNat
      (s.useFree 1).sendWord k.toNat (.probe (fieldNat block 8 1) true t)))

/-- CONTROL_WORD_RESEND (R548): the oldest unacknowledged word is sent again; after 8 resends the link is down. -/
def execControlWordResend (k : BitVec 7) (s : State) : Host.Outcome State Fault Refusal :=
  match (s.link k.toNat).unacked with
  | [] => .next s
  | w :: rest =>
    if 8 ≤ w.resends then .next (s.linkFalls k.toNat)
    else
      let s := s.count 0x600008 1
      .next (s.updLink k.toNat (fun l => { l with
        retries := satAdd l.retries 1
        unacked := { w with resends := w.resends + 1 } :: rest
        out := l.out ++ [.block 4 (wordBlock w.seq l.ack w.word)] }))

/-! ## Bulk transfers -/

/-- Bytes of a segment (R544). -/
def segmentBytes (h : BulkHeader) : Nat := 128 * (h.count - 1) + h.lastBytes

/-- A batch is applied (R570): its tables, and its rows and pages to this module's own scratch and stack tier. -/
def State.applyBatch (s : State) (b : BatchContent) : State :=
  let s := (s.updServe (fun v => { v with t := b.tables })).updLinks (fun l => { l with staging := b.staging })
  let s := b.rows.foldl (fun (s : State) e => s.updTile e.1.1 (fun x => writeLine x e.1.2.toNat (padTo 128 e.2) false)) s
  b.pages.foldl (fun (s : State) e =>
    let n := ceilDiv e.2.length 128
    s.storeExtents [(e.1, n)] (chunksOf 128 n e.2)) s

/-- Mirror batches are applied in order (R570): each is acknowledged on the link it came by. -/
def State.applyBatches (s : State) (k : Nat) : Nat → State
  | 0 => s
  | n + 1 =>
    match sortBy (fun (b : Nat × BatchContent) => b.1) s.links.received with
    | [] => s
    | b :: rest =>
      let s := s.updLinks (fun l => { l with received := rest, applied := b.1 })
      ((s.applyBatch b.2).sendWord k (.bulkAck 3 b.1)).applyBatches k n

/-- A hand-off entry has arrived whole (R449, R450): it is stored as a parked request, unless no entry is free or its ID is
held. The acknowledgement (R547) tells the sender. -/
def State.storeEntry (s : State) (k : Nat) (r : Request) : State :=
  if (s.req r.id).isSome || s.serve.t.reqs.length ≥ 65536 then s
  else
    let r := { r with
      state := .parked
      slot := none
      sets := []
      reserved := 0
      boat := (r.boat.map (fun b => { b with flash := false, edge := s.boatEdge false, parkMs := s.ms, tierMs := s.ms, turn := r.turn, par := r.par, tokens := r.tokens })) }
    ((s.updTables (fun t => { t with reqs := t.reqs ++ [r] })).sendWord k (.bulkAck 4 r.id.toNat)).boatFit 65536

/-- The bytes of an object from its segments, in the order of their offsets. -/
def bulkBytes (b : BulkIn) : Bytes := b.data.flatMap (fun e => e.2)

/-- An object has arrived whole: a member takes the manifest and the shard records that its parent sends (R371, R373). -/
def State.bulkDone (s : State) (k : Nat) (h : BulkHeader) (b : BulkIn) (c : BulkContent) : State :=
  if h.kind ≤ 2 then
    if !s.isMember || s.links.parent ≠ some k then s
    else if h.kind = 1 then s.takeManifest (some (bulkBytes b))
    else if h.kind = 2 then s.takeShard h.object.toNat (bulkBytes b)
    else s
  else match c with
  | .batch b =>
    if h.kind = 3 && [4, 5].contains s.links.pairState then
      let s := s.updLinks (fun l => { l with received := l.received ++ [(h.object.toNat, b)] })
      if s.links.pairState = 5 then s.applyBatches k s.links.received.length else s
    else s
  | .entry r => if h.kind = 4 then s.storeEntry k r else s
  | .other => s

/-- BULK_SEGMENT (R373, R538, R544, R545): one whose header fails its CRC-16 is discarded; a segment that a codeword taints is discarded whole and, but for a shard record, asked for
again; the last segment completes its object, and members pass each segment of a manifest or a shard record on as it arrives. What an object
without a byte layout brings is `c` (log entry 64). -/
def execBulkSegment (k : BitVec 7) (header : Bytes) (data : List Bytes) (c : BulkContent) (s : State) : Host.Outcome State Fault Refusal :=
  let kn := k.toNat
  let h := bulkHeaderOf header
  if (s.link kn).state ≠ 2 then .next s
  else if !blockCrcOk header then .next (s.updLink kn (fun l => { l with crcFail := satAdd l.crcFail 1 }))
  else if (s.link kn).badNow then
    .next (if h.kind = 2 then s else s.sendWord kn (.bulkNak h.kind h.object.toNat h.segment))
  else
    let l := s.link kn
    let old : BulkIn := (l.bulk.find? (fun b => b.kind = h.kind && b.object = h.object.toNat)).getD
      { kind := h.kind, object := h.object.toNat, total := h.total }
    let part := (data.flatMap id).take (segmentBytes h)
    let new : BulkIn := { old with got := Table.put 0 old.got h.segment (segmentBytes h), data := Table.put [] old.data h.offset part }
    let rest := l.bulk.filter (fun b => !(b.kind = h.kind && b.object = h.object.toNat))
    let whole := decide (h.total ≤ new.got.foldl (fun n e => n + e.2) 0)
    let s := s.updLink kn (fun l => { l with bulk := if whole then rest else rest ++ [new] })
    let s := if h.kind ≤ 2 then
        (s.children.filter (fun j => j ≠ kn)).foldl (fun (s : State) j =>
          s.updLink j (fun l => { l with out := l.out ++ .block 6 header :: data.map (fun b => .block 2 (padTo 128 b)) })) s
      else s
    .next (if whole then s.bulkDone kn h new c else s)

/-! ## Training -/

/-- LINK_DOWN (R551): loss of codeword lock. -/
def execLinkDown (k : BitVec 7) (s : State) : Host.Outcome State Fault Refusal := .next (s.linkFalls k.toNat)

/-- LINK_RETRAIN (R551): TL_CTL.RETRAIN. -/
def execLinkRetrain (k : BitVec 7) (s : State) : Host.Outcome State Fault Refusal :=
  .next (s.regAccess (linkRegion k.toNat) (fun s => s.linkFalls k.toNat))

/-- The longest delay a link of a class may train with (R534, 0x6000.04). -/
def State.delayLimit (s : State) (cls gen : Nat) : Nat :=
  let reach := if gen = 2 then [56, 60, 360].getD cls 0 else [72, 76, 376].getD cls 0
  min reach (s.dictNat 0x600004)

/-- LINK_TRAINED (R117, R549-R552): 16 probes have been measured; `two` tells that both ends offer generation 2 and its test
saw no uncorrectable codeword. -/
def execLinkTrained (k : BitVec 7) (two : Bool) (s : State) : Host.Outcome State Fault Refusal :=
  let kn := k.toNat
  let l := s.link kn
  let cls := ((s.blob 0x600002).getD kn 0).toNat
  let want := ((s.blob 0x600003).getD kn 0).toNat
  let gen := if two && want ≠ 1 then 2 else 1
  let exact := (l.trips.foldl max 0 + 1) / 2
  if l.state ≠ 1 || l.trips.length < 16 || (want = 2 && gen = 1) || s.delayLimit cls gen * 64 < exact then .next s
  else
    let pub := ceilDiv exact 64 + 2
    let s := s.updLink kn (fun l => { l with
      state := 2
      cls := BitVec.ofNat 2 cls
      gen := BitVec.ofNat 2 want
      genAct := BitVec.ofNat 2 gen
      exact_ := BitVec.ofNat 16 exact
      published := BitVec.ofNat 16 pub })
    let s := (s.takeEffect [0x600002, 0x600003, 0x600004]).sendHail kn
    let s := s.regionEvent (linkRegion kn) 0x0701 (natLE 1 kn ++ natLE 2 pub)
    .next (s.afterRetrain kn)

/-- TRAINING_TIMEOUT (R549): training starts again from step 1. -/
def execTrainingTimeout (k : BitVec 7) (s : State) : Host.Outcome State Fault Refusal :=
  let l := s.link k.toNat
  if l.state ≠ 1 then .next s
  else
    let lim := if ((s.blob 0x600002).getD k.toNat 0).toNat = 2 then 200 else 100
    let s := s.advanceTo ((l.trainMs + lim) * msTicks)
    .next (s.updLink k.toNat (fun l => { l with trips := [], trainMs := s.ms }))

/-! ## Hails and partners -/

/-- HAIL_SEND (R552). -/
def execHailSend (k : BitVec 7) (s : State) : Host.Outcome State Fault Refusal :=
  if (s.link k.toNat).state ≠ 2 then .next s else .next (s.sendHail k.toNat)

/-- The state a partner's entry takes by what names it (R553, R554). -/
def State.partnerState (s : State) (h : Hail) : PartnerState :=
  if s.namedMember h.serial && h.regattaId = s.links.regattaId then .member
  else if h.serial = s.pairSerial && s.pairSerial ≠ 0 then .pair
  else .bench

/-- Flow rate of a link's bulk data in B/s (R539, R568): blocks of 128 bytes at 48/49 of the flow rate. -/
def Link.bulkRate (l : Link) : Nat := (if l.genAct = 2 then 1562500000 else 781250000) * 128 * 48 / 49

/-- The links on which a pair may run (R568): those of 0x6200.02 to the partner, up, and used by no plan. -/
def State.pairable (s : State) (serial : BitVec 128) : List Nat :=
  let mask := leNat (s.blob 0x620002)
  let used : List Nat := match s.boot.plan with
    | some p => p.planLinks.flatMap (fun e => [e.1, e.2])
    | none => []
  s.upLinks.filter (fun k => decide (mask / 2 ^ k % 2 = 1) && !used.contains k && (match s.partnerOn k with
    | some p => decide (p.hail.serial = serial)
    | none => false))

/-- Paired mode is possible with a partner (R568); what the hail does not carry of the partner's side is `agrees`. -/
def State.pairOk (s : State) (h : Hail) (agrees : Bool) : Bool :=
  match s.boot.plan with
  | none => false
  | some p =>
    let ks := s.pairable h.serial
    let rates := ks.map (fun k => (s.link k).bulkRate)
    let rest := rates.foldl (fun a b => a + b) 0 - rates.foldl max 0
    agrees && decide (s.pairSerial ≠ 0) && decide (h.serial = s.pairSerial) && decide (2 ≤ ks.length) &&
      decide (h.planId = p.digest.setWidth 64) && decide (h.epoch = s.weights.epoch) && s.boot.policyFixed &&
      decide (5 * p.mirrorRate ≤ 4 * rest)

/-- The module pairs (R569): as active, which sends a resynchronisation, or as standby, which gives up what it served and
holds. -/
def State.pairUp (s : State) (serial : BitVec 128) (active : Bool) : State :=
  let ks := s.pairable serial
  let s := s.takeEffect [0x620001, 0x620002, 0x620006, 0x620009]
  let s := ks.foldl (fun (s : State) k => s.updLink k (fun l => { l with pair := true })) s
  if active then
    let s := s.updLinks (fun l => { l with pairState := 1, misses := 0, beat := false, mirror := [] })
    match ks with
    | k :: _ => s.updLink k (fun l => { l with out := l.out ++ [.bulk 5 0 0] })
    | [] => s
  else
    let s := if s.clk.running then s.enterEasy [] else s
    let s := (s.updTables (fun _ => {})).updServe (fun v => { v with conns := [], moves := [] })
    s.updLinks (fun l => { l with pairState := 4, misses := 0, beat := false, received := [] })

/-- Which module becomes active (R569, R575): the one that prefers it, else the lower serial; after both have served, the lower
serial. -/
def State.goesActive (s : State) (h : Hail) (prefers : Bool) : Bool :=
  let mine := decide (s.dictNat 0x620009 = 1)
  let lower := decide (s.ident.serial.toNat < h.serial.toNat)
  if s.links.pairState = 3 && h.pairState.toNat = 3 then lower
  else if s.links.pairState = 3 then true
  else if h.pairState.toNat = 3 then false
  else if mine = prefers then lower else mine

/-- HAIL (R552-R556, R568, R569): the partner table takes the hail's fields; `agrees` tells that the partner's own side of R568
holds, and `prefers` that its 0x6200.09 is set (log entry 26). -/
def execHail (k : BitVec 7) (block : Bytes) (agrees prefers : Bool) (s : State) : Host.Outcome State Fault Refusal :=
  let kn := k.toNat
  let h := hailIn block
  if (s.link kn).state ≠ 2 || (s.link kn).badNow || !isWord block 1 then .next s
  else
    let s := s.updLink kn (fun l => ackWords (wordAck block) { l with peer := h.link.setWidth 7 })
    let s := match s.partnerOn kn with
      | some p => if p.hail.serial = h.serial then s else s.leavePartner kn
      | none => s
    let was := s.links.partners.find? (fun p => p.hail.serial = h.serial)
    let state := s.partnerState h
    let mask := (match was with
      | some p => p.links
      | none => 0) ||| (1#96 <<< kn)
    let s :=
      if was.isSome then s.updLinks (fun l => { l with partners := l.partners.map (fun p =>
        if p.hail.serial = h.serial then { p with hail := h, links := mask, state := state } else p) })
      else if s.links.partners.length < 96 then
        s.updLinks (fun l => { l with partners := l.partners ++ [{ hail := h, links := mask, state := state }] })
      else s
    let wasMember : Bool := (was.map (fun p => p.state)) == some PartnerState.member
    let s := if wasMember && state != PartnerState.member then s.haltLinks else s
    let s := s.chooseParent
    let s := if s.links.linksHalt && s.linksWhole && s.slackNow then
        (s.updLinks (fun l => { l with linksHalt := false })).nameResume s.clk.step else s
    let s := if ([0, 3].contains s.links.pairState) && s.pairOk h agrees then s.pairUp h.serial (s.goesActive h prefers) else s
    .next s.refFollow

/-- PARTNER_HOLD_EXPIRY (R554): a lost entry is freed after 0x6010.03 with no link up. -/
def execPartnerHoldExpiry (serial : BitVec 128) (s : State) : Host.Outcome State Fault Refusal :=
  match s.links.partners.find? (fun p => p.hail.serial = serial) with
  | none => .next s
  | some p =>
    if p.state ≠ .lost || p.links ≠ 0 then .next s
    else
      let s := s.advanceTo ((p.lostMs + s.dictNat 0x601003) * msTicks)
      .next (s.updLinks (fun l => { l with partners := l.partners.filter (fun p => p.hail.serial ≠ serial) }))

/-! ## Markers and alignment -/

/-- The marker this module sends now (R557). -/
def State.markerOf (s : State) : Marker :=
  { tick := s.clk.tick, stroke := s.clk.stroke, hop := BitVec.ofNat 8 s.links.hop, easy := BitVec.ofNat 8 s.clk.easy,
    regattaId := s.links.regattaId }

/-- A marker goes out on links. -/
def State.sendMarkers (s : State) (ks : List Nat) (m : Marker) : State :=
  ks.foldl (fun (s : State) k => s.updLink k (fun l => { l with out := l.out ++ [.block 5 (markerBlock m)] })) s

/-- A member's own marker in place of its parent's (R557): the stroke number goes on, TICK, HOP and EASY are the sender's (log entry 27). -/
def State.passMarker (s : State) (m : Marker) : State :=
  s.sendMarkers s.children { s.markerOf with
    stroke := m.stroke
    regattaId := m.regattaId }

/-- MARKER_SEND (R557): the root's marker on every link to a member. -/
def execMarkerSend (s : State) : Host.Outcome State Fault Refusal :=
  if !s.isRoot || !s.clk.ticking then .next s
  else
    let p := max 1 s.links.period
    let s := s.advanceToTick ((s.clk.tick.toNat / p + 1) * p)
    .next (s.sendMarkers s.memberLinks s.markerOf)

/-- A marker agrees with the member's counter: the error lies within one tick. -/
def markerGood (err : Int) : Bool := decide (-64 ≤ err) && decide (err ≤ 64)

/-- The largest alignment error is an extreme (R757): its magnitude counts (log entry 30). -/
def State.alignExtreme (s : State) : State := s.extreme 7 s.links.alignErr.natAbs true 0xFF

/-- STROKE_MARKER (R557-R559): the parent's marker, `phase` 1/64 ticks after this module's own tick edge. It goes on to the
children, sets the counter at a stake, and is compared otherwise. -/
def execStrokeMarker (k : BitVec 7) (block : Bytes) (phase : BitVec 6) (s : State) : Host.Outcome State Fault Refusal :=
  let kn := k.toNat
  let m := markerIn block
  if !s.isMember || !blockCrcOk block || s.links.parent ≠ some kn || (s.link kn).state ≠ 2 || (s.link kn).badNow || m.regattaId ≠ s.links.regattaId || !s.clk.ticking then .next s
  else
    let exact := (s.link kn).exact_.toNat
    let here := s.now
    if s.links.stake.isSome && !s.links.aligned && !s.clk.running then
      let s : State := { s with clk := { s.clk with tick := m.tick + BitVec.ofNat 64 (exact / 64), stroke := m.stroke } }
      .next (((s.passMarker m).updLinks (fun l => { l with aligned := true, alignErr := 0, badMarkers := 0, markerAt := here, stake := none })).updLink kn
        (fun l => { l with marker := true }))
    else
      let s := s.passMarker m
      let err : Int := 64 * (s.clk.tick.toNat : Int) + phase.toNat - (64 * (m.tick.toNat : Int) + exact)
      if markerGood err then
        let s := (s.updLinks (fun l => { l with alignErr := err, badMarkers := 0, markerAt := here, aligned := true })).alignExtreme
        let s := s.updLink kn (fun l => { l with marker := true })
        .next (if s.clk.causes.contains 8 then s.clearCause 8 else s)
      else
        let shown : Int := if err < 0 then -64 else 64
        let s := (s.updLinks (fun l => { l with alignErr := shown, badMarkers := l.badMarkers + 1 })).alignExtreme
        let s := s.updLink kn (fun l => { l with marker := false })
        .next (if 2 ≤ s.links.badMarkers && s.links.aligned then s.loseAlignment else s)

/-- MARKER_TIMEOUT (R559): no good marker for four periods. -/
def execMarkerTimeout (s : State) : Host.Outcome State Fault Refusal :=
  if !s.isMember || !s.links.aligned then .next s
  else
    let s := s.advanceTo (s.links.markerAt + 4 * s.links.period)
    .next s.loseAlignment

/-! ## Redundant pairs -/

/-- HEARTBEAT_SEND (R572). -/
def execHeartbeatSend (s : State) : Host.Outcome State Fault Refusal :=
  if s.links.pairState = 0 then .next s else .next (s.sendWords s.pairLinks (.heartbeat s.links.sentBatch))

/-- HEARTBEAT (R572). -/
def execHeartbeat (k : BitVec 7) (block : Bytes) (s : State) : Host.Outcome State Fault Refusal :=
  let l := s.link k.toNat
  if l.state ≠ 2 || !l.pair || l.badNow || !isWord block 3 then .next s
  else .next ((s.updLink k.toNat (ackWords (wordAck block))).updLinks (fun q => { q with beat := true, misses := 0 }))

/-- The lowest token index the new active sends again on a connection (R573): of a token committed at or after the finish of
the last applied batch. -/
def State.nextIndex (s : State) (tag : Nat) : Nat :=
  let rs := (s.requestsOf tag).filter (fun r => r.state = .generating || r.state = .prefill || r.state = .parking)
  rs.foldl (fun n r =>
    let old := (r.committed.filter (fun c => laterMod 32 s.links.applied c.stroke.toNat)).length
    min n old) (2 ^ 32 - 1)

/-- The standby of a pair takes over (R348, R392, R397, R451, R573, R574, R577): a swap that the active was staging is staged from its start, the passes in flight are retried, and each connection with a live request
is told of it and sent the tokens from NEXT_INDEX on. -/
def State.pairTakeover (s : State) : State :=
  let s := s.sendWords s.pairLinks (.takeover s.ident.serial)
  let s := s.restartFlight
  let lost := s.pairSerial
  let s := (s.updLinks (fun l => { l with pairState := 3, misses := 0, received := [] })).count 0x620008 1
  let s := s.event 0x0705 0xFF (natLE 8 s.links.applied)
  let s := s.serve.conns.foldl (fun (s : State) e =>
    if e.2.isSome && s.requestsOf e.1 ≠ [] then
      let n := s.nextIndex e.1
      let first := if n = 2 ^ 32 - 1 then 0 else n
      let s := (s.useFree 1).sendMsg e.1 (.handOff 0 2 0 lost first ((Config.freeBits s.free).setWidth 16))
      (s.requestsOf e.1).foldl (fun (s : State) (r : Request) =>
        (s.resendTokens r first).updReq r.id (fun q => { q with recorded := q.committed.length })) s
    else s) s
  let s := match s.links.staging with
    | some r => if s.loadBusy then s else s.startStaging r
    | none => s
  s.nameResume s.clk.step

/-- HEARTBEAT_MISS (R572, R577): a heartbeat period ends. -/
def execHeartbeatMiss (s : State) : Host.Outcome State Fault Refusal :=
  if ! [4, 5].contains s.links.pairState then .next s
  else if s.links.beat then .next (s.updLinks (fun l => { l with beat := false, misses := 0 }))
  else
    let s := s.updLinks (fun l => { l with misses := l.misses + 1 })
    if s.links.misses < s.dictNat 0x620005 then .next s
    else if s.links.pairState = 5 then .next s.pairTakeover
    else .next (s.event 0x0704 0xFF (natLE 1 (min 255 s.links.misses)))

/-- TAKEOVER (R573): the partner has become active; this module holds as its standby and waits for a resynchronisation. -/
def execTakeover (k : BitVec 7) (block : Bytes) (s : State) : Host.Outcome State Fault Refusal :=
  let serial := wordSerial block
  .next (s.takeWord k.toNat 14 block (fun s =>
    if serial ≠ s.pairSerial || s.links.pairState = 0 || !(s.link k.toNat).pair then s else s.pairUp serial false))

/-- RESYNC_COMPLETE (R569): the standby's tables, rows and pages are those of the resynchronisation with the batches since; the
active counts its standby ready. -/
def execResyncComplete (b : BatchContent) (s : State) : Host.Outcome State Fault Refusal :=
  if s.links.pairState = 4 then
    let s := (s.applyBatch b).updLinks (fun l => { l with pairState := 5 })
    .next (match s.pairLinks with
      | k :: _ => (s.applyBatches k s.links.received.length).sendWord k (.bulkAck 5 0)
      | [] => s.applyBatches 0 s.links.received.length)
  else if s.links.pairState = 1 then .next (s.updLinks (fun l => { l with pairState := 2 }))
  else .next s

end Sys2Proof.Machine
end

