-- ==== Sys2Proof/Machine/Recording.lean ====
section
/-! DEFINITION. The commands of the event recorder (chapter 16). -/

namespace Sys2Proof.Machine

/-! ## Records -/

/-- EVENT_RECORD_RECEIVE (R737, R738): the oldest record that waits in a region reaches Cox. Once the queue has room again, the region
reports what it discarded. -/
def execEventRecordReceive (r : BitVec 6) (s : State) : Host.Outcome State Fault Refusal :=
  let e := (s.region r.toNat).evr
  match e.evrQ with
  | [] => .next s
  | q :: rest =>
    if !s.coxUp then .next s
    else
      let s := s.updEvr r.toNat (fun e => { e with
        evrQ := rest
        evrLost := 0 })
      let s := if e.evrLost = 0 then s
        else s.regionEvent r.toNat 0x0003 (natLE 8 0 ++ natLE 4 e.evrLost ++ natLE 1 3)
      .next (s.recordMade q)

/-- Codes that have suppressed records and none recorded in this interval (R741). -/
def dueSummaries (rates : Table RateState) : List (Nat × Nat) :=
  rates.filterMap (fun p => if p.2.suppressed ≠ 0 && p.2.recorded = 0 then some (p.1, p.2.suppressed) else none)

/-- RATE_INTERVAL_END (R740-R742, R767): summaries, and the next interval with the limits that now stand. -/
def execRateIntervalEnd (s : State) : Host.Outcome State Fault Refusal :=
  if !s.coxUp then .next s
  else
    let s := s.advanceTo ((s.log.intervalStart + 1000) * msTicks)
    let due := dueSummaries s.log.rates
    let s := due.foldl (fun (s : State) p => s.event 0x0002 0xFF (natLE 2 p.1 ++ natLE 4 p.2)) s
    let rates := Table.mapVals ({} : RateState) (fun (q : RateState) => { q with
      suppressed := if q.recorded = 0 then 0 else q.suppressed
      recorded := 0 }) s.log.rates
    .next { s with log := { s.log with
      rates := rates
      limit := s.dictNat 0x501001
      overrides := s.blob 0x501002
      intervalStart := s.log.intervalStart + 1000 } }

/-! ## Flushes -/

/-- FLUSH_PERIOD_EXPIRY (R744, R758): the period since the last flush has passed; the counts are written with it. -/
def execFlushPeriodExpiry (s : State) : Host.Outcome State Fault Refusal :=
  if !s.coxUp then .next s
  else
    let s := s.advanceTo ((s.log.lastFlush + 1000 * s.dictNat 0x500003) * msTicks)
    .next (State.startFlush { s with log := { s.log with
      histFlash := s.log.hist
      stageFlash := s.log.stageCnt
      extFlash := s.log.extremes } })

/-- FLUSH (R744): a write of 0x5000.06. -/
def execFlush (value : Byte) (s : State) : Host.Outcome State Fault Refusal := .next (s.writeKey .can 0x500006 [value])

/-- FLUSH_COMPLETE (R744-R747): the pages have been written, or flash was not available and the flush goes on; records that the ring
lost meanwhile are reported once flash is available. -/
def execFlushComplete (ok : Bool) (s : State) : Host.Outcome State Fault Refusal :=
  if s.log.flushing.isNone then .next s
  else if !ok then .next { s with log := { s.log with flashOk := false } }
  else
    let s := s.endFlush
    let first := s.log.lostFirst
    let n := s.log.lostCount
    let s : State := { s with log := { s.log with
      flashOk := true
      lostFirst := 0
      lostCount := 0 } }
    .next (if n = 0 then s else s.event 0x0003 0xFF (natLE 8 first ++ natLE 4 n ++ natLE 1 2))

/-! ## Reading the log -/

/-- CURSOR_WRITE (R749, R750): a write of 0x5020.01. -/
def execCursorWrite (value : BitVec 64) (s : State) : Host.Outcome State Fault Refusal :=
  .next (s.writeKey .can 0x502001 (natLE 8 value.toNat))

/-- EXPORT (R751): a write of 0x5030.01. -/
def execExport (value : Bytes) (s : State) : Host.Outcome State Fault Refusal := .next (s.writeKey .can 0x503001 value)

/-! ## Snapshots -/

/-- SNAPSHOT_TRIGGER (R752-R754): triggers of the mask fire in a region in one tick. -/
def execSnapshotTrigger (r : BitVec 6) (mask : BitVec 12) (s : State) : Host.Outcome State Fault Refusal :=
  .next (if s.powered r.toNat then s.trigger r.toNat (mask.setWidth 16) else s)

/-- A write of EVR_SNAP_SW (R755). -/
def State.snapFire (s : State) (r : Nat) (value : Word) : State := if value.getLsbD 0 then s.trigger r (trig 11) else s

/-- SNAPSHOT_SOFTWARE_FIRE (R755). -/
def execSnapshotSoftwareFire (r : BitVec 6) (value : Word) (s : State) : Host.Outcome State Fault Refusal :=
  .next (s.regAccess r.toNat (fun s => s.snapFire r.toNat value))

/-- A write of EVR_SNAP_STAT (R755): each 1 of FULL frees its slot. -/
def State.snapFree (s : State) (r : Nat) (value : Word) : State :=
  s.updEvr r (fun e => { e with snaps := e.snaps.filter (fun p => !(decide (p.1 < 16) && value.getLsbD p.1)) })

/-- SNAPSHOT_FREE (R755). -/
def execSnapshotFree (r : BitVec 6) (value : Word) (s : State) : Host.Outcome State Fault Refusal :=
  .next (s.regAccess r.toNat (fun s => s.snapFree r.toNat value))

/-! ## Histograms, stage counters and extremes -/

/-- HISTOGRAM_CLEAR (R756): a write of 0x5100.0F. -/
def execHistogramClear (value : Byte) (s : State) : Host.Outcome State Fault Refusal := .next (s.writeKey .can 0x51000F [value])

/-- STAGE_COUNTERS_CLEAR (R757): a write of 0x5110.02. -/
def execStageCountersClear (value : Byte) (s : State) : Host.Outcome State Fault Refusal := .next (s.writeKey .can 0x511002 [value])

/-- EXTREMES_CLEAR (R757): a write of 0x5120.02. -/
def execExtremesClear (value : Byte) (s : State) : Host.Outcome State Fault Refusal := .next (s.writeKey .can 0x512002 [value])

/-- COUNTER_MIRROR (R758): the counts go to a standby that is ready. -/
def execCounterMirror (s : State) : Host.Outcome State Fault Refusal :=
  if s.boot.standby ≠ 2 then .next s
  else .next { s with log := { s.log with
    histMirror := s.log.hist
    stageMirror := s.log.stageCnt
    extMirror := s.log.extremes } }

/-- HISTOGRAM_PERIOD_SAMPLE (R756): HOT of each powered region, and HIGH_WATER of each of its seam sides, every 100 ms. -/
def execHistogramPeriodSample (s : State) : Host.Outcome State Fault Refusal :=
  if !s.coxUp then .next s
  else
    let s := s.poweredList.foldl (fun (s : State) r => s.histAdd 4 (linBin 40 2 ((s.region r).pwr.hot.toNat / 8))) s
    .next (s.poweredList.foldl (fun (s : State) r =>
      ((List.range 4).filter (fun d => (neighbour r d).isSome)).foldl (fun (s : State) d =>
        s.histAdd 5 (linBin 0 1 (s.seam r d).highWater.toNat)) s) s)

end Sys2Proof.Machine
end

