-- ==== Sys2Proof/Machine/Regs.lean ====
section
/-! DEFINITION. Reads and writes of the device registers by their access codes (R16-R19, R457-R460). -/

namespace Sys2Proof.Machine

/-! ## What a read clears (R16: RC) -/

/-- Reading a register of CLK_. -/
def State.rcClk (s : State) (r off : Nat) : State :=
  match off with
  | 0x00 => s.after (execClkTickLoRead (BitVec.ofNat 6 r))
  | 0x08 => s.after (execClkStrokeLoRead (BitVec.ofNat 6 r))
  | 0x20 => s.updClk r (fun c => { c with lateCount := 0 })
  | 0x44 => s.updLoop r (fun l => { l with unlocks := 0 })
  | 0x4C => s.updLoop r (fun l => { l with droops := 0 })
  | 0x108 => s.updLoopRef (fun q => { q with losses := 0 })
  | _ => s

/-- Reading a register of ECC_. -/
def State.rcEcc (s : State) (r off : Nat) : State :=
  match off with
  | 0x08 => s.updEcc r (fun e => { e with lbOverflows := 0 })
  | 0x10 => s.updEcc r (fun e => { e with scrubLongest := 0 })
  | 0x14 => s.updEcc r (fun e => { e with pagesRebuilt := 0, pagesLost := 0 })
  | _ => s

/-- Reading a register of MSH_ or SEAM_. -/
def State.rcMsh (s : State) (r off : Nat) : State :=
  if off = 0x124 then s.updMesh r (fun m => { m with parity := 0, crc := 0, stray := 0, unreach := 0 })
  else if 0x310 ≤ off && off < 0x320 then s.updSeam r ((off - 0x310) / 4) (fun d => { d with highWater := 0, drops := 0 })
  else s

/-- Reading a register of the region's SEQ_ and RQU_; the umpire's are gated in service mode (R128). -/
def State.rcSeq (s : State) (r off : Nat) : State :=
  match off with
  | 0 => if s.boot.debug then s.updClk r (fun c => { c with umpCount := 0 }) else s
  | 4 => s.updRef r (fun q => { q with crabs := 0, refusals := 0 })
  | _ => s

/-- Reading a register of EVR_. -/
def State.rcEvr (s : State) (r off : Nat) : State :=
  match off with
  | 0x008 => s.updEvr r (fun e => { e with snapDropped := 0 })
  | 0x010 => s.updEvr r (fun e => { e with evrOverflow := 0 })
  | _ => s

/-- Reading a register of STK_ or MDT_: `c` is the channel of j = 0, `b` its block. -/
def State.rcChan (s : State) (r c b off : Nat) : State :=
  let k := c + off / 0x100
  if off % 0x100 = 4 && s.blockReady r (b + off / 0x100) then
    { s with tier := { s.tier with
      corrected := Table.put 0 s.tier.corrected k 0
      rebuilt := Table.put 0 s.tier.rebuilt k 0
      lost := Table.put 0 s.tier.lost k 0 } }
  else s

/-- Reading a register of FLT_. -/
def State.rcFlt (s : State) (r e off : Nat) : State :=
  let k := 2 * e + off / 0x100
  if s.blockReady r (4 + off / 0x100) then
    { s with tier := { s.tier with
      flashRetries := Table.put 0 s.tier.flashRetries k 0
      flashSoft := Table.put 0 s.tier.flashSoft k 0
      flashUnread := Table.put 0 s.tier.flashUnread k 0 } }
  else s

/-- Reading a register of TL_. -/
def State.rcTl (s : State) (e off : Nat) : State :=
  let k := 6 * e + off / 0x100
  if 0x1000 ≤ off || !s.linkReady k then s
  else match off % 0x100 with
    | 0x04 => s.updLink k (fun l => { l with flaps := 0 })
    | 0x0C => s.updLink k (fun l => { l with corrected := 0, uncorrectable := 0 })
    | 0x10 => s.updLink k (fun l => { l with retries := 0, crcFail := 0 })
    | _ => s

/-- Reading a register of a tile of a crew. -/
def rcTile (x : Tile) (off : Nat) : Tile :=
  match off with
  | 0x10 => { x with conflict := 0, poisonCnt := 0 }
  | 0x1C => { x with misses := 0 }
  | 0x28 => { x with discards := 0 }
  | _ => x

/-- What the read of a register changes. -/
def State.readClear (s : State) (r off : Nat) : State :=
  let o := off % 0x10000
  match tileAt r off with
  | some t => if (s.tile t).stage.isSome then s.updTile t (fun x => rcTile x (off % 0x400)) else s
  | none =>
    let e := (edgeIndex r).getD 0
    match off / 0x10000 with
    | 0 => s.rcClk r o
    | 1 => if o = 0x00C then s.updPwr r (fun p => { p with warns := 0 }) else s
    | 2 => if o = 0x000 then s.updPwr r (fun p => { p with peak := 0 }) else s
    | 3 => s.rcEcc r o
    | 4 => s.rcMsh r o
    | 5 => s.rcSeq r o
    | 6 => s.rcEvr r o
    | 8 => s.rcChan r (2 * e) 0 o
    | 9 => s.rcChan r (32 + 2 * e) 2 o
    | 10 => s.rcFlt r e o
    | 11 => s.rcTl e o
    | _ => s

/-- An access of Cox (`none`) or of a region's control core to a register of region `r` (R38, R459): a control core reaches its own
region's window only. -/
def State.accessBy (s : State) (by_ : Option (BitVec 6)) (r : Nat) (f : State → State) : State :=
  if by_.all (fun q => decide (q.toNat = r)) then s.regAccess r f else { s with accessFault := true, readOut := none }

/-- REGISTER_READ_CLEAR (R16): the value is returned, and RC fields are cleared in the same access. An offset that holds no register, and
the window of an unpowered region, fault (R459, R651). -/
def execRegisterReadClear (by_ : Option (BitVec 6)) (r : BitVec 6) (off : BitVec 24) (s : State) : Host.Outcome State Fault Refusal :=
  .next (s.accessBy by_ r.toNat (fun s =>
    match peekReg s r.toNat off.toNat with
    | none => { s with
        accessFault := true
        readOut := none }
    | some v => { (s.readClear r.toNat off.toNat) with readOut := some v }))

/-! ## Writes -/

/-- Writing the registers of the stroke contract (R58). -/
def State.wrStroke (s : State) (r off : Nat) (v : Word) : State :=
  match off with
  | 0x14 => s.updClk r (fun c => { c with nextLen := v.setWidth 16, nextFin := BitVec.ofNat 16 (bits v 16 16) })
  | 0x18 => s.after (execClkStrokeArm (BitVec.ofNat 6 r) v)
  | 0x1C => s.updClk r (fun c => { c with
      late := c.late && !v.getLsbD 2
      replay := c.replay && !v.getLsbD 3
      forced := c.forced && !v.getLsbD 4
      armRefused := c.armRefused && !v.getLsbD 5 })
  | _ => s

/-- Writing CLK_GATE (R646-R649): the enable bits of the blocks the region holds. -/
def State.wrGate (s : State) (r : Nat) (v : Word) : State :=
  (heldBlocks r).foldl (fun (s : State) b =>
    let on := (s.region r).loop.gate.getLsbD b
    if v.getLsbD b && !on then s.enableBlock r b
    else if !v.getLsbD b && on then s.after (execBlockDisable (BitVec.ofNat 6 r) (BitVec.ofNat 4 b))
    else s) s

/-- Writing the region's loop, droop detector and monitors (R637-R650). -/
def State.wrLoop (s : State) (r off : Nat) (v : Word) : State :=
  match off with
  | 0x40 =>
    let s := s.updLoop r (fun l => { l with step := v.setWidth 4, stop := v.getLsbD 5 })
    if v.getLsbD 4 then s.after (execLoopGo (BitVec.ofNat 6 r) (v.setWidth 4)) else s
  | 0x44 => s.updLoop r (fun l => { l with refused := l.refused && !v.getLsbD 7 })
  | 0x48 => s.updLoop r (fun l => { l with thresh := v.setWidth 7, droopEn := v.getLsbD 7 })
  | 0x50 => s.updLoop r (fun l => { l with monCfg := v.setWidth 25, monUse := v.setWidth 25 })
  | 0x54 => s.updLoop r (fun l => { l with monWarn := l.monWarn && !v.getLsbD 12, monLimit := l.monLimit && !v.getLsbD 13 })
  | 0x58 => s.wrGate r v
  | _ => s

/-- Writing the reference registers (R628-R634). -/
def State.wrRef (s : State) (off : Nat) (v : Word) : State :=
  match off with
  | 0x100 => s.after (execPlannedSwitch (v.setWidth 7))
  | 0x104 =>
    let s := s.updLoopRef (fun q => { q with
      autoAlt := v.getLsbD 2
      search := v.getLsbD 3
      bridge := BitVec.ofNat 10 (bits v 16 10) })
    let s := if v.getLsbD 0 then s.after execForce else s
    let s := if v.getLsbD 1 then s.after execMuxRst else s
    s.searchRef.autoAlternate
  | 0x108 => s.updLoopRef (fun q => { q with
      refLost := q.refLost && !v.getLsbD 12
      forced := q.forced && !v.getLsbD 13
      refused := q.refused && !v.getLsbD 14 })
  | 0x10C => State.autoAlternate (s.updLoopRef (fun q => { q with alt := v.setWidth 7 }))
  | _ => s

/-- A bit of PWR_SEQ_ON is written (R650, R665): a region is asked for, or its power is removed. -/
def State.wrOn (s : State) (q : Nat) (on : Bool) : State :=
  if on then (if s.power.on.getLsbD q then s else s.askPower q)
  else if !s.power.on.getLsbD q then s
  else if !s.powered q then
    s.updPower (fun p => { p with
      on := p.on &&& ~~~(1#64 <<< q)
      group := p.group.filter (fun x => x ≠ q) })
  else if s.boot.excluded.getLsbD q then s.switchOff q
  else (s.loseRegion q true).regionGone 3

/-- A 1 is written to a bit of PWR_SEQ_LATCH: honoured during easy-all or while no plan is loaded (R671). -/
def State.wrLatch (s : State) (q : Nat) : State :=
  if s.boot.plan.isSome && s.clk.easy = 0 then s
  else if !s.power.latch.getLsbD q then s
  else s.updPower (fun p => { p with
    latch := p.latch &&& ~~~(1#64 <<< q)
    retryMs := Table.put 0 p.retryMs q (s.ms + 1) })

/-- Writing PWR_. -/
def State.wrPwr (s : State) (r off : Nat) (v : Word) : State :=
  let each (base : Nat) (f : State → Nat → Bool → State) : State :=
    (List.range 32).foldl (fun (s : State) i => f s (base + i) (v.getLsbD i)) s
  match off with
  | 0x00C => s.updPwr r (fun p => { p with ocWarn := p.ocWarn && !v.getLsbD 0, ocForced := p.ocForced && !v.getLsbD 1 })
  | 0x800 => each 0 (fun s q b => s.wrOn q b)
  | 0x804 => each 32 (fun s q b => s.wrOn q b)
  | 0x810 => each 0 (fun s q b => if b then s.wrLatch q else s)
  | 0x814 => each 32 (fun s q b => if b then s.wrLatch q else s)
  | 0x818 => s.updPower (fun p => { p with pfail := p.pfail && !v.getLsbD 20, range := p.range && !v.getLsbD 21 })
  | 0x81C => s.updPower (fun p => { p with convFailed := p.convFailed &&& ~~~(BitVec.ofNat 16 (bits v 16 16)) })
  | _ => s

/-- Writing THM_. -/
def State.wrThm (s : State) (r off : Nat) (v : Word) : State :=
  match off with
  | 0x008 => s.updPwr r (fun p => { p with trip := v.setWidth 12 })
  | 0x00C => s.updPwr r (fun p => { p with tripped := p.tripped && !v.getLsbD 0, rate := p.rate && !v.getLsbD 1 })
  | 0x808 => s.updPower (fun p => { p with
      faults := p.faults &&& ~~~(v.setWidth 3)
      flowLow := p.flowLow && !v.getLsbD 4
      inletOver := p.inletOver && !v.getLsbD 5 })
  | 0x80C => s.updPower (fun p => { p with
      flowMin := v.setWidth 8
      rateMax := BitVec.ofNat 8 (bits v 8 8)
      faultEn := v.getLsbD 16 })
  | _ => s

/-- Writing ECC_TW_CTL (R486, R487): with GO the operation of MODE runs. -/
def State.wrTw (s : State) (r : Nat) (v : Word) : State :=
  let r6 := BitVec.ofNat 6 r
  let x := v.setWidth 4
  let y := BitVec.ofNat 4 (bits v 4 4)
  let bank := BitVec.ofNat 5 (bits v 8 5)
  let line := BitVec.ofNat 10 (bits v 13 10)
  let word := BitVec.ofNat 2 (bits v 23 2)
  let s := s.updEcc r (fun e => { e with twCtl := v.setWidth 29 })
  if !v.getLsbD 31 then s
  else match bits v 25 4 with
    | 0 => s.after (execTwNormalWrite r6 x y bank line word)
    | 1 => s.after (execTwRawWrite r6 x y bank line word)
    | 2 => s.after (execTwCheckedRead r6 x y bank line word)
    | 3 => s.after (execTwRawRead r6 x y bank line word)
    | 4 => s.after (execTwCheckBytesRead r6 x y bank line)
    | 5 => s.after (execTwCheckBytesWrite r6 x y bank line)
    | 6 => s.after (execTwQueueRebuild r6 x y bank line word)
    | 7 => s.after (execTwRemapRead r6 x y bank line)
    | 8 => s.after (execTwRemapWrite r6 x y bank line)
    | m => s.after (execTwReservedMode r6 (BitVec.ofNat 4 m))

/-- Put a word into a run of words. -/
def putWord {w : Nat} (x : BitVec w) (i : Nat) (v : Word) : BitVec w :=
  (x &&& ~~~((BitVec.allOnes 32).setWidth w <<< (32 * i))) ||| (v.setWidth w <<< (32 * i))

/-- Writing ECC_. -/
def State.wrEcc (s : State) (r off : Nat) (v : Word) : State :=
  match off with
  | 0x00 => s.writeLbDepth r (v.setWidth 8)
  | 0x04 => s.updEcc r (fun e => { e with lbPeriod := v.setWidth 16 })
  | 0x08 => s.updEcc r (fun e => { e with lbOvf := e.lbOvf && !v.getLsbD 8 })
  | 0x0C => s.updEcc r (fun e => { e with scrubEn := v.getLsbD 0 })
  | 0x18 => s.updEcc r (fun e => { e with remapThresh := v.setWidth 4 })
  | 0x40 => s.wrTw r v
  | 0x44 => s.updEcc r (fun e => { e with twCheck := v.setWidth 10, twRefused := e.twRefused && !v.getLsbD 31 })
  | _ => if 0x60 ≤ off && off < 0x80 then s.updEcc r (fun e => { e with twData := putWord e.twData ((off - 0x60) / 4) v }) else s

/-- A control core's descriptor is issued (R470): unscheduled, on the lane of fills (R126), to the controller of its first extent
(R471). -/
def State.issueDma (s : State) (r : Nat) : State :=
  let body := padTo 128 (Table.get [] s.tier.port r)
  let edge := match (parseDesc body).extents with
    | e :: _ => (match addrChan e.1 with
      | some (c, _) => chanEdge c
      | none => 0)
    | [] => 0
  s.inject (sealFlit {
    head := { zeroHead with
      dkind := 1
      dreg := BitVec.ofNat 6 (edgeRegion edge)
      kind := 3
      lane := 1
      sreg := BitVec.ofNat 6 r }
    body := body })

/-- Writing SEAM_CTL (R525, R526): HOLD set empties the side; a 0 releases it under R526. -/
def State.wrSeam (s : State) (r side : Nat) (v : Word) : State :=
  let s := s.updSeam r side (fun d => { d with auto := d.auto && !v.getLsbD 2 })
  if v.getLsbD 0 then s.holdSide r side false
  else if (s.seam r side).hold then s.releaseSide r side else s

/-- Writing MSH_ and SEAM_. -/
def State.wrMsh (s : State) (r off : Nat) (v : Word) : State :=
  if off = 0 then s.updClk r (fun c => { c.setWindow s.clk.tick.toNat (BitVec.ofNat 6 (bits v 8 6)) with laneEn := v.getLsbD 0 })
  else if 0x080 ≤ off && off < 0x100 then
    s.updClk r (fun c => { c with lanes := Table.put 0 c.lanes ((off - 0x080) / 4) (v.setWidth 8) })
  else if 0x100 ≤ off && off < 0x120 then
    s.updMesh r (fun m => { m with rtab := (List.range 8).foldl (fun (t : Table (BitVec 4)) j =>
      Table.put 0 t (8 * ((off - 0x100) / 4) + j) (BitVec.ofNat 4 (bits v (4 * j) 4))) m.rtab })
  else if off = 0x120 then s.updMesh r (fun m => { m with coxRegion := v.setWidth 6 })
  else if 0x200 ≤ off && off < 0x280 then
    let old := padTo 128 (Table.get [] s.tier.port r)
    let i := off - 0x200
    let new := old.take i ++ natLE 4 v.toNat ++ old.drop (i + 4)
    let s : State := { s with tier := { s.tier with port := Table.put [] s.tier.port r new } }
    if i = 124 then s.issueDma r else s
  else if 0x300 ≤ off && off < 0x310 then s.wrSeam r ((off - 0x300) / 4) v
  else s

/-- Writing SEQ_UMP_CTL: gated in service mode (R128). -/
def State.wrUmp (s : State) (r : Nat) (v : Word) : State :=
  if !s.boot.debug then s
  else s.updClk r (fun c => { c with umpEn := v.getLsbD 0, umpHalt := v.getLsbD 1, umpChecks := BitVec.ofNat 4 (bits v 2 4) })

/-- Writing EVR_. -/
def State.wrEvr (s : State) (r off : Nat) (v : Word) : State :=
  match off with
  | 0x000 => s.updEvr r (fun e => { e with
      snapMode := v.getLsbD 0
      snapLen := BitVec.ofNat 7 (bits v 1 7)
      snapHoldoff := BitVec.ofNat 16 (bits v 8 16) })
  | 0x004 => s.updEvr r (fun e => { e with snapTrig := v.setWidth 12 })
  | 0x008 => s.snapFree r v
  | 0x00C => s.snapFire r v
  | _ =>
    if 0x100 ≤ off && off < 0x200 then
      s.updEvr r (fun e => { e with snapList := Table.put 0 e.snapList ((off - 0x100) / 4) (v.setWidth 24) })
    else s

/-- Writing STK_ or MDT_. -/
def State.wrChan (s : State) (r c b off : Nat) (v : Word) : State :=
  if off % 0x100 = 0 && s.blockReady r (b + off / 0x100) then s.setCoded (c + off / 0x100) (bits v 0 25) else s

/-- Writing TL_CTL (R551, R578, R646). -/
def State.wrTlCtl (s : State) (r e j : Nat) (v : Word) : State :=
  let k := 6 * e + j
  let was := s.link k
  let s :=
    if v.getLsbD 0 && !was.en then s.enableBlock r (9 + j)
    else if !v.getLsbD 0 && was.en then s.after (execBlockDisable (BitVec.ofNat 6 r) (BitVec.ofNat 4 (9 + j)))
    else s
  let s := s.updLink k (fun l => { l with gen := BitVec.ofNat 2 (bits v 1 2), cls := BitVec.ofNat 2 (bits v 3 2), pair := v.getLsbD 6 })
  if !v.getLsbD 0 then s.updLink k (fun l => { l with isolate := v.getLsbD 7 })
  else
    let s := if v.getLsbD 5 then s.linkFalls k else s
    if v.getLsbD 7 then
      let s := if (s.link k).state = 2 then s.linkFalls k else s
      s.updLink k (fun l => { l with isolate := true, state := 3 })
    else if (s.link k).isolate && was.isolate then
      s.updLink k (fun l => { l with
        isolate := false
        state := 1
        downs := []
        trips := []
        trainMs := s.ms })
    else s

/-- Writing TL_. -/
def State.wrTl (s : State) (r e off : Nat) (v : Word) : State :=
  if 0x1000 ≤ off then
    let k := 6 * e + (off - 0x1000) / 0x400
    if s.linkReady k then
      s.updLink k (fun l => { l with remote := Table.put 0 l.remote ((off - 0x1000) % 0x400 / 4) (v &&& 0x1FFFF) })
    else s
  else
    let j := off / 0x100
    let k := 6 * e + j
    match off % 0x100 with
    | 0x00 => s.wrTlCtl r e j v
    | 0x04 => if s.linkReady k then s.updLink k (fun l => { l with taint := l.taint && !v.getLsbD 6 }) else s
    | 0x14 => if s.linkReady k then s.updLink k (fun l => { l with alt := v.setWidth 7 }) else s
    | _ => s

/-- Writing SCR_BANK_PWR (R489, R491) or SCR_BANK_FORCE (R490). -/
def State.wrBanks (s : State) (t : TileId) (off : Nat) (v : Word) : State :=
  (List.range 32).foldl (fun (s : State) b =>
    if off = 0x24 then (if v.getLsbD b then s.bankForce t b else s)
    else if v.getLsbD b then s.bankUpNow t b else s.bankDown t b) s

/-- Writing SEQ_PATCH_CTL (R187): refused while GO is set. -/
def State.wrPatch (s : State) (t : TileId) (v : Word) : State :=
  if (s.tile t).patchGo then s.updTile t (fun x => { x with patchRefused := true })
  else
    let s := s.updTile t (fun x => { x with patchAddr := v.setWidth 12, patchRefused := x.patchRefused && !v.getLsbD 13 })
    if v.getLsbD 12 then s.after (execSeqPatchGo t (v.setWidth 12)) else s

/-- Writing SCR_CACHE_CTL (R155, R159): a MASK that differs from the one in force begins a change. -/
def State.wrCacheCtl (s : State) (t : TileId) (v : Word) : State :=
  let s := s.updTile t (fun x => { x with walloc := v.getLsbD 8 })
  if (s.tile t).cacheMask = v.setWidth 8 then s else s.after (execCacheMaskWrite t (v.setWidth 8))

/-- Writing a register of a tile of a crew. -/
def State.wrTile (s : State) (t : TileId) (off : Nat) (v : Word) : State :=
  match off with
  | 0x00 => s.updTile t (fun x => { x with run := v.getLsbD 0 })
  | 0x04 => s.updTile t (fun x => { x with
      abandon := x.abandon && !v.getLsbD 13
      withheldStat := x.withheldStat && !v.getLsbD 14
      fetchErr := x.fetchErr && !v.getLsbD 15 })
  | 0x14 => s.wrCacheCtl t v
  | 0x18 =>
    if (s.tile t).cacheBusy then s.updTile t (fun x => { x with cacheRefused := true })
    else if bits v 0 2 = 0 then s else s.startCacheOp t (v.setWidth 2)
  | 0x1C => s.updTile t (fun x => { x with cacheRefused := x.cacheRefused && !v.getLsbD 1, cacheLost := x.cacheLost && !v.getLsbD 2 })
  | 0x20 => s.wrBanks t 0x20 v
  | 0x24 => s.wrBanks t 0x24 v
  | 0x28 => s.updTile t (fun x => { x with pwrRefused := x.pwrRefused && !v.getLsbD 0, pwrForced := x.pwrForced && !v.getLsbD 1 })
  | 0x40 => s.updTile t (fun x => { x with srKey0 := v })
  | 0x44 => s.updTile t (fun x => { x with srKey1 := v })
  | 0x48 => s.updTile t (fun x => { x with srCfg := v.setWidth 7 })
  | 0x50 => s.updTile t (fun x => { x with chkEn := v.getLsbD 0, mapLen := BitVec.ofNat 9 (bits v 8 9) })
  | 0x54 => s.updTile t (fun x => { x with chkSend := v.setWidth 20 })
  | 0x58 => s.updTile t (fun x => { x with
      crab := x.crab && !v.getLsbD 1
      granted := x.granted && !v.getLsbD 2
      refused := x.refused && !v.getLsbD 3
      lateVerdict := x.lateVerdict && !v.getLsbD 4 })
  | 0x80 => s.wrPatch t v
  | _ => if 0x84 ≤ off && off < 0xA4 then s.updTile t (fun x => { x with patchD := putWord x.patchD ((off - 0x84) / 4) v }) else s

/-- What the write of a register that is there changes: read-only and RC fields, reserved bits and gated blocks ignore it. -/
def State.writeReg (s : State) (r off : Nat) (v : Word) : State :=
  let o := off % 0x10000
  match tileAt r off with
  | some t => if (s.tile t).stage.isSome then s.wrTile t (off % 0x400) v else s
  | none =>
    let e := (edgeIndex r).getD 0
    match off / 0x10000 with
    | 0 => if o < 0x40 then s.wrStroke r o v else if o < 0x100 then s.wrLoop r o v else s.wrRef o v
    | 1 => s.wrPwr r o v
    | 2 => s.wrThm r o v
    | 3 => s.wrEcc r o v
    | 4 => s.wrMsh r o v
    | 5 => if o = 0 then s.wrUmp r v else s
    | 6 => s.wrEvr r o v
    | 8 => s.wrChan r (2 * e) 0 o v
    | 9 => s.wrChan r (32 + 2 * e) 2 o v
    | 11 => s.wrTl r e o v
    | _ => s

/-- REGISTER_WRITE (R16): the write acts by the access code of each field. An offset that holds no register, and the window of an
unpowered region, fault (R459, R651). -/
def execRegisterWrite (by_ : Option (BitVec 6)) (r : BitVec 6) (off : BitVec 24) (value : Word) (s : State) : Host.Outcome State Fault Refusal :=
  .next (s.accessBy by_ r.toNat (fun s =>
    match peekReg s r.toNat off.toNat with
    | none => { s with accessFault := true }
    | some _ => s.writeReg r.toNat off.toNat value))

end Sys2Proof.Machine
end

