-- ==== Sys2Proof/Machine/Vec.lean ====
section
/-! DEFINITION. The VEC slot (R230-R233). -/

namespace Sys2Proof.Machine

/-- A vector operation: sources are read at issue, poison is consumed (R199, R171, R172), and the whole result leaves after `lat`. With a poisoned
source the result's lanes are those the operation makes of the stored lanes: the spec gives no value (R233, log entry 48). -/
def vecRun (s : State) (t : TileId) (pred : Nat) (d : BitVec 5) (srcs : List Nat) (lat : Nat) (f : Tile → List Word) : State :=
  slotRun s t pred (fun s =>
    let s := srcs.foldl (fun s v => s.staleRead t .vec (.vreg (BitVec.ofNat 5 v)) (0x100 + v)) s
    let x := s.tile t
    let poison := srcs.any (fun v => vPoison x v)
    let ws := f x
    (s.consume t poison).launch t .vec lat (.vreg d)
      (.lanes true ((ws.zipIdx).map (fun (p : Word × Nat) => (p.2, p.1))) poison))

/-- A long operation one cycle after the last of its kind is discarded and its destination marked poisoned (R252, R171). -/
def longRun (s : State) (t : TileId) (pred : Nat) (d a : BitVec 5) (f : FP → Word) : State :=
  slotRun s t pred (fun s =>
    let x := s.tile t
    if x.lastLong = some (x.cycle - 1) && 0 < x.cycle then
      let s := s.umpire t 2 3 0x27 (lastUse x 0x27) 0
      s.launch t .vec (s.lat 11) (.vreg d) (.lanes false [] true)
    else
      let s := vecRun s t 0 d [a.toNat] (s.lat 11) (fun x => (valsOf x a.toNat).map f)
      s.updTile t (fun x => { (markUse x 0x27) with lastLong := some x.cycle }))

/-- Adjacent pairs combined, level by level (R232). -/
def pairTree (f : Word → Word → Word) : Nat → List Word → List Word
  | 0, xs => xs
  | n + 1, xs => pairTree f n (pairs xs)
where
  /-- One level. -/
  pairs : List Word → List Word
    | x :: y :: r => f x y :: pairs r
    | r => r

/-- The result of a cross-lane reduction (R230, R232): IMM[0] = 0 over 128 lanes, 1 over each half. -/
def reduceLanes (f : Word → Word → Word) (half : Bool) (xs : List Word) : List Word :=
  if half then
    List.replicate 64 ((pairTree f 6 (xs.take 64)).getD 0 0) ++ List.replicate 64 ((pairTree f 6 (xs.drop 64)).getD 0 0)
  else List.replicate 128 ((pairTree f 7 xs).getD 0 0)

/-- VADD (R230, R231, R233): lane-wise a + b. -/
def execVadd (t : TileId) (pred : BitVec 2) (d a b : BitVec 5) (s : State) : Host.Outcome State Fault Refusal :=
  .next (vecRun s t pred.toNat d [a.toNat, b.toNat] (s.lat 10) (fun x => List.zipWith (fun p q => fpAdd p q) (valsOf x a.toNat) (valsOf x b.toNat)))

/-- VSUB (R230, R231, R233): lane-wise a - b. -/
def execVsub (t : TileId) (pred : BitVec 2) (d a b : BitVec 5) (s : State) : Host.Outcome State Fault Refusal :=
  .next (vecRun s t pred.toNat d [a.toNat, b.toNat] (s.lat 10) (fun x => List.zipWith (fun p q => fpAdd p (FP.neg q)) (valsOf x a.toNat) (valsOf x b.toNat)))

/-- VMUL (R230, R231, R233): lane-wise a * b. -/
def execVmul (t : TileId) (pred : BitVec 2) (d a b : BitVec 5) (s : State) : Host.Outcome State Fault Refusal :=
  .next (vecRun s t pred.toNat d [a.toNat, b.toNat] (s.lat 10) (fun x => List.zipWith (fun p q => fpMul p q) (valsOf x a.toNat) (valsOf x b.toNat)))

/-- VFMA (R230, R231, R233): lane-wise a * b + c, rounded once. -/
def execVfma (t : TileId) (pred : BitVec 2) (d a b c : BitVec 5) (s : State) : Host.Outcome State Fault Refusal :=
  .next (vecRun s t pred.toNat d [a.toNat, b.toNat, c.toNat] (s.lat 10) (fun x =>
    List.zipWith (fun pq r => fpFma pq.1 pq.2 r) (List.zip (valsOf x a.toNat) (valsOf x b.toNat)) (valsOf x c.toNat)))

/-- VMAX (R230, R231, R233): the greater of a and b. -/
def execVmax (t : TileId) (pred : BitVec 2) (d a b : BitVec 5) (s : State) : Host.Outcome State Fault Refusal :=
  .next (vecRun s t pred.toNat d [a.toNat, b.toNat] (s.lat 10) (fun x => List.zipWith (fun p q => fpMax p q) (valsOf x a.toNat) (valsOf x b.toNat)))

/-- VMIN (R230, R231, R233): the lesser of a and b. -/
def execVmin (t : TileId) (pred : BitVec 2) (d a b : BitVec 5) (s : State) : Host.Outcome State Fault Refusal :=
  .next (vecRun s t pred.toNat d [a.toNat, b.toNat] (s.lat 10) (fun x => List.zipWith (fun p q => fpMin p q) (valsOf x a.toNat) (valsOf x b.toNat)))

/-- VCMPLT (R230, R231, R233): all ones if a < b, else 0. -/
def execVcmplt (t : TileId) (pred : BitVec 2) (d a b : BitVec 5) (s : State) : Host.Outcome State Fault Refusal :=
  .next (vecRun s t pred.toNat d [a.toNat, b.toNat] (s.lat 10) (fun x => List.zipWith (fun p q => if fpLt p q then 0xFFFFFFFF#32 else 0) (valsOf x a.toNat) (valsOf x b.toNat)))

/-- VSEL (R230, R233): a where c is nonzero as a bit pattern, else b. -/
def execVsel (t : TileId) (pred : BitVec 2) (d a b c : BitVec 5) (s : State) : Host.Outcome State Fault Refusal :=
  .next (vecRun s t pred.toNat d [a.toNat, b.toNat, c.toNat] (s.lat 10) (fun x =>
    List.zipWith (fun (pq : Word × Word) (r : Word) => if r = 0 then pq.2 else pq.1)
      (List.zip (lanesOf x a.toNat) (lanesOf x b.toNat)) (lanesOf x c.toNat)))

/-- VADDI (R230): lane-wise a plus a BF16 immediate. -/
def execVaddi (t : TileId) (pred : BitVec 2) (d a : BitVec 5) (imm : BitVec 16) (s : State) : Host.Outcome State Fault Refusal :=
  .next (vecRun s t pred.toNat d [a.toNat] (s.lat 10) (fun x => (valsOf x a.toNat).map (fun p => fpAdd p (bf16 imm))))

/-- VMULI (R230): lane-wise a times a BF16 immediate. -/
def execVmuli (t : TileId) (pred : BitVec 2) (d a : BitVec 5) (imm : BitVec 16) (s : State) : Host.Outcome State Fault Refusal :=
  .next (vecRun s t pred.toNat d [a.toNat] (s.lat 10) (fun x => (valsOf x a.toNat).map (fun p => fpMul p (bf16 imm))))

/-- VEXP (R230, R231, R233): e raised to a, correctly rounded. -/
def execVexp (t : TileId) (pred : BitVec 2) (d a : BitVec 5) (s : State) : Host.Outcome State Fault Refusal :=
  .next (longRun s t pred.toNat d a fpExp)

/-- VRCP (R230, R231, R233): 1 / a, correctly rounded. -/
def execVrcp (t : TileId) (pred : BitVec 2) (d a : BitVec 5) (s : State) : Host.Outcome State Fault Refusal :=
  .next (longRun s t pred.toNat d a fpRcp)

/-- VRSQ (R230, R231, R233): 1 / sqrt a, correctly rounded. -/
def execVrsq (t : TileId) (pred : BitVec 2) (d a : BitVec 5) (s : State) : Host.Outcome State Fault Refusal :=
  .next (longRun s t pred.toNat d a fpRsq)

/-- VRSUM (R230, R232): the sum by the fixed pairwise tree. -/
def execVrsum (t : TileId) (pred : BitVec 2) (d a : BitVec 5) (imm : BitVec 16) (s : State) : Host.Outcome State Fault Refusal :=
  .next (vecRun s t pred.toNat d [a.toNat] (2 * s.lat 10) (fun x =>
    reduceLanes (fun p q => fpAdd (fp32 p) (fp32 q)) (imm.getLsbD 0) (lanesOf x a.toNat)))

/-- VRMAX (R230, R232): the maximum by the fixed pairwise tree. -/
def execVrmax (t : TileId) (pred : BitVec 2) (d a : BitVec 5) (imm : BitVec 16) (s : State) : Host.Outcome State Fault Refusal :=
  .next (vecRun s t pred.toNat d [a.toNat] (2 * s.lat 10) (fun x =>
    reduceLanes (fun p q => fpMax (fp32 p) (fp32 q)) (imm.getLsbD 0) (lanesOf x a.toNat)))

/-- VBCAST (R230, R233): lane IMM[6:0] of a in every lane, bits unchanged. -/
def execVbcast (t : TileId) (pred : BitVec 2) (d a : BitVec 5) (imm : BitVec 16) (s : State) : Host.Outcome State Fault Refusal :=
  .next (vecRun s t pred.toNat d [a.toNat] (s.lat 10) (fun x => List.replicate 128 ((lanesOf x a.toNat).getD (imm.toNat % 128) 0)))

/-- VRND (R230, R233): a rounded to BF16 precision in an FP32 container. -/
def execVrnd (t : TileId) (pred : BitVec 2) (d a : BitVec 5) (s : State) : Host.Outcome State Fault Refusal :=
  .next (vecRun s t pred.toNat d [a.toNat] (s.lat 10) (fun x => (valsOf x a.toNat).map fpRnd))

/-- VMOV (R230, R233): a, bits unchanged. -/
def execVmov (t : TileId) (pred : BitVec 2) (d a : BitVec 5) (s : State) : Host.Outcome State Fault Refusal :=
  .next (vecRun s t pred.toNat d [a.toNat] (s.lat 10) (fun x => lanesOf x a.toNat))

/-- VSC2 (R230): a times 2 raised to sext(IMM[7:0]), rounded once. -/
def execVsc2 (t : TileId) (pred : BitVec 2) (d a : BitVec 5) (imm : BitVec 16) (s : State) : Host.Outcome State Fault Refusal :=
  .next (vecRun s t pred.toNat d [a.toNat] (s.lat 10) (fun x =>
    (valsOf x a.toNat).map (fun p => fpScale p (imm.setWidth 8).toInt)))

end Sys2Proof.Machine
end

