-- ==== Sys2Proof/Machine/Dispatch.lean ====
section
/-! DEFINITION. The dispatch: one arm per command. -/

namespace Sys2Proof.Machine

/-- The effect of a command on everything but the queue. -/
def exec (i : Instr) (s : State) : Host.Outcome State Fault Refusal :=
  match i with
  | .catch_ => Sys2Proof.Machine.execCatch s
  | .finish => Sys2Proof.Machine.execFinish s
  | .dueTick t deliv => Sys2Proof.Machine.execDueTick t deliv s
  | .resumeTick => Sys2Proof.Machine.execResumeTick s
  | .clkStrokeArm r value => Sys2Proof.Machine.execClkStrokeArm r value s
  | .clkTickLoRead r => Sys2Proof.Machine.execClkTickLoRead r s
  | .clkStrokeLoRead r => Sys2Proof.Machine.execClkStrokeLoRead r s
  | .halt value => Sys2Proof.Machine.execHalt value s
  | .laneEntryAdvance => Sys2Proof.Machine.execLaneEntryAdvance s
  | .laneWindowApply r => Sys2Proof.Machine.execLaneWindowApply r s
  | .nop t slot op fetchBad => Sys2Proof.Machine.execNop t slot op fetchBad s
  | .end_ t => Sys2Proof.Machine.execEnd t s
  | .li t d imm => Sys2Proof.Machine.execLi t d imm s
  | .addi t d a imm => Sys2Proof.Machine.execAddi t d a imm s
  | .add t d a b => Sys2Proof.Machine.execAdd t d a b s
  | .sub t d a b => Sys2Proof.Machine.execSub t d a b s
  | .and t d a b => Sys2Proof.Machine.execAnd t d a b s
  | .or t d a b => Sys2Proof.Machine.execOr t d a b s
  | .xor t d a b => Sys2Proof.Machine.execXor t d a b s
  | .shl t d a b => Sys2Proof.Machine.execShl t d a b s
  | .shr t d a b => Sys2Proof.Machine.execShr t d a b s
  | .scalarMul t d a b => Sys2Proof.Machine.execScalarMul t d a b s
  | .slt t d a b => Sys2Proof.Machine.execSlt t d a b s
  | .bnz t a imm => Sys2Proof.Machine.execBnz t a imm s
  | .bdec t a imm => Sys2Proof.Machine.execBdec t a imm s
  | .waitc t a imm => Sys2Proof.Machine.execWaitc t a imm s
  | .waitg t a imm => Sys2Proof.Machine.execWaitg t a imm s
  | .waitRelease t n => Sys2Proof.Machine.execWaitRelease t n s
  | .pred t d a imm => Sys2Proof.Machine.execPred t d a imm s
  | .rdcyc t d => Sys2Proof.Machine.execRdcyc t d s
  | .rdstk t d => Sys2Proof.Machine.execRdstk t d s
  | .cqn t d => Sys2Proof.Machine.execCqn t d s
  | .cqrd t d imm => Sys2Proof.Machine.execCqrd t d imm s
  | .cqpop t => Sys2Proof.Machine.execCqpop t s
  | .ld t pred v a line ext => Sys2Proof.Machine.execLd t pred v a line ext s
  | .st t pred v a line ext => Sys2Proof.Machine.execSt t pred v a line ext s
  | .ldx t pred a line ext => Sys2Proof.Machine.execLdx t pred a line ext s
  | .clr t pred a line => Sys2Proof.Machine.execClr t pred a line s
  | .wset t set banks => Sys2Proof.Machine.execWset t set banks s
  | .wrd t set a line => Sys2Proof.Machine.execWrd t set a line s
  | .gath t pred a line tag => Sys2Proof.Machine.execGath t pred a line tag s
  | .gatherComplete t tag => Sys2Proof.Machine.execGatherComplete t tag s
  | .bld t fmt => Sys2Proof.Machine.execBld t fmt s
  | .blockReady t => Sys2Proof.Machine.execBlockReady t s
  | .bsw t => Sys2Proof.Machine.execBsw t s
  | .mul t pred arow x e fmt j init => Sys2Proof.Machine.execMul t pred arow x e fmt j init s
  | .aclr t pred arow count => Sys2Proof.Machine.execAclr t pred arow count s
  | .amov t pred arow v => Sys2Proof.Machine.execAmov t pred arow v s
  | .vadd t pred d a b => Sys2Proof.Machine.execVadd t pred d a b s
  | .vsub t pred d a b => Sys2Proof.Machine.execVsub t pred d a b s
  | .vmul t pred d a b => Sys2Proof.Machine.execVmul t pred d a b s
  | .vfma t pred d a b c => Sys2Proof.Machine.execVfma t pred d a b c s
  | .vmax t pred d a b => Sys2Proof.Machine.execVmax t pred d a b s
  | .vmin t pred d a b => Sys2Proof.Machine.execVmin t pred d a b s
  | .vcmplt t pred d a b => Sys2Proof.Machine.execVcmplt t pred d a b s
  | .vsel t pred d a b c => Sys2Proof.Machine.execVsel t pred d a b c s
  | .vaddi t pred d a imm => Sys2Proof.Machine.execVaddi t pred d a imm s
  | .vmuli t pred d a imm => Sys2Proof.Machine.execVmuli t pred d a imm s
  | .vexp t pred d a => Sys2Proof.Machine.execVexp t pred d a s
  | .vrcp t pred d a => Sys2Proof.Machine.execVrcp t pred d a s
  | .vrsq t pred d a => Sys2Proof.Machine.execVrsq t pred d a s
  | .vrsum t pred d a imm => Sys2Proof.Machine.execVrsum t pred d a imm s
  | .vrmax t pred d a imm => Sys2Proof.Machine.execVrmax t pred d a imm s
  | .vbcast t pred d a imm => Sys2Proof.Machine.execVbcast t pred d a imm s
  | .vrnd t pred d a => Sys2Proof.Machine.execVrnd t pred d a s
  | .vmov t pred d a => Sys2Proof.Machine.execVmov t pred d a s
  | .vsc2 t pred d a imm => Sys2Proof.Machine.execVsc2 t pred d a imm s
  | .rot t pred a d fmt mode imm => Sys2Proof.Machine.execRot t pred a d fmt mode imm s
  | .irot t pred a d fmt mode imm => Sys2Proof.Machine.execIrot t pred a d fmt mode imm s
  | .pfeed t pred a => Sys2Proof.Machine.execPfeed t pred a s
  | .pack t pred fmt mode sreg imm => Sys2Proof.Machine.execPack t pred fmt mode sreg imm s
  | .unpk t pred d fmt mode sreg imm => Sys2Proof.Machine.execUnpk t pred d fmt mode sreg imm s
  | .sincos t pred d mode sreg => Sys2Proof.Machine.execSincos t pred d mode sreg s
  | .srset t pred mode sreg => Sys2Proof.Machine.execSrset t pred mode sreg s
  | .pclr t pred => Sys2Proof.Machine.execPclr t pred s
  | .send t pred sreg line entry => Sys2Proof.Machine.execSend t pred sreg line entry s
  | .sendq t pred sreg entry => Sys2Proof.Machine.execSendq t pred sreg entry s
  | .commit t pred entry => Sys2Proof.Machine.execCommit t pred entry s
  | .dma t pred sreg line => Sys2Proof.Machine.execDma t pred sreg line s
  | .resultWriteback t => Sys2Proof.Machine.execResultWriteback t s
  | .landingWrite t => Sys2Proof.Machine.execLandingWrite t s
  | .dataFlitAccept t f => Sys2Proof.Machine.execDataFlitAccept t f s
  | .commitFlitArrive t f => Sys2Proof.Machine.execCommitFlitArrive t f s
  | .controlFlitEnqueue t f => Sys2Proof.Machine.execControlFlitEnqueue t f s
  | .cacheAccess t addr write => Sys2Proof.Machine.execCacheAccess t addr write s
  | .cacheFill t lost => Sys2Proof.Machine.execCacheFill t lost s
  | .cacheMaskWrite t mask => Sys2Proof.Machine.execCacheMaskWrite t mask s
  | .cacheMaskChangeDone t => Sys2Proof.Machine.execCacheMaskChangeDone t s
  | .cacheOpWriteBack t => Sys2Proof.Machine.execCacheOpWriteBack t s
  | .cacheOpInvalidate t => Sys2Proof.Machine.execCacheOpInvalidate t s
  | .cacheOpWriteBackInvalidate t => Sys2Proof.Machine.execCacheOpWriteBackInvalidate t s
  | .cacheOpComplete t => Sys2Proof.Machine.execCacheOpComplete t s
  | .seqPatchGo t addr => Sys2Proof.Machine.execSeqPatchGo t addr s
  | .scrubRead t bank => Sys2Proof.Machine.execScrubRead t bank s
  | .scrubWriteBack t bank => Sys2Proof.Machine.execScrubWriteBack t bank s
  | .pageRebuild t bank => Sys2Proof.Machine.execPageRebuild t bank s
  | .rowRemap t bank => Sys2Proof.Machine.execRowRemap t bank s
  | .bucketLeak r => Sys2Proof.Machine.execBucketLeak r s
  | .eccLbDepthWrite r depth => Sys2Proof.Machine.execEccLbDepthWrite r depth s
  | .bankPowerDown t bank => Sys2Proof.Machine.execBankPowerDown t bank s
  | .bankPowerUp t bank => Sys2Proof.Machine.execBankPowerUp t bank s
  | .bankFillDone t bank => Sys2Proof.Machine.execBankFillDone t bank s
  | .bankForceOff t bank => Sys2Proof.Machine.execBankForceOff t bank s
  | .scratchFillDone b => Sys2Proof.Machine.execScratchFillDone b s
  | .twNormalWrite r x y bank line word => Sys2Proof.Machine.execTwNormalWrite r x y bank line word s
  | .twRawWrite r x y bank line word => Sys2Proof.Machine.execTwRawWrite r x y bank line word s
  | .twCheckedRead r x y bank line word => Sys2Proof.Machine.execTwCheckedRead r x y bank line word s
  | .twRawRead r x y bank line word => Sys2Proof.Machine.execTwRawRead r x y bank line word s
  | .twCheckBytesRead r x y bank line => Sys2Proof.Machine.execTwCheckBytesRead r x y bank line s
  | .twCheckBytesWrite r x y bank line => Sys2Proof.Machine.execTwCheckBytesWrite r x y bank line s
  | .twQueueRebuild r x y bank line word => Sys2Proof.Machine.execTwQueueRebuild r x y bank line word s
  | .twRemapRead r x y bank line => Sys2Proof.Machine.execTwRemapRead r x y bank line s
  | .twRemapWrite r x y bank line => Sys2Proof.Machine.execTwRemapWrite r x y bank line s
  | .twReservedMode r mode => Sys2Proof.Machine.execTwReservedMode r mode s
  | .checkFlitSend t => Sys2Proof.Machine.execCheckFlitSend t s
  | .refereeVerdict stage => Sys2Proof.Machine.execRefereeVerdict stage s
  | .verdictFlitArrive t f => Sys2Proof.Machine.execVerdictFlitArrive t f s
  | .modeVectorSend => Sys2Proof.Machine.execModeVectorSend s
  | .request a => Sys2Proof.Machine.execRequest a s
  | .cancel a => Sys2Proof.Machine.execCancel a s
  | .park a => Sys2Proof.Machine.execPark a s
  | .resume a => Sys2Proof.Machine.execResume a s
  | .handOff a => Sys2Proof.Machine.execHandOff a s
  | .handOffConfirm id result => Sys2Proof.Machine.execHandOffConfirm id result s
  | .partTimeout id => Sys2Proof.Machine.execPartTimeout id s
  | .queueTimeout id => Sys2Proof.Machine.execQueueTimeout id s
  | .classAging id => Sys2Proof.Machine.execClassAging id s
  | .entryStrokePlanning => Sys2Proof.Machine.execEntryStrokePlanning s
  | .tokenCommit id logits poisoned => Sys2Proof.Machine.execTokenCommit id logits poisoned s
  | .idleTimeExpiry id => Sys2Proof.Machine.execIdleTimeExpiry id s
  | .moduleTtlExpiry id => Sys2Proof.Machine.execModuleTtlExpiry id s
  | .flashTtlExpiry id => Sys2Proof.Machine.execFlashTtlExpiry id s
  | .resumeCopyComplete id => Sys2Proof.Machine.execResumeCopyComplete id s
  | .udpIdleTimeout tag => Sys2Proof.Machine.execUdpIdleTimeout tag s
  | .detachTimeout tag => Sys2Proof.Machine.execDetachTimeout tag s
  | .swapRequest value => Sys2Proof.Machine.execSwapRequest value s
  | .swapCancel value => Sys2Proof.Machine.execSwapCancel value s
  | .manifestReceive manifest => Sys2Proof.Machine.execManifestReceive manifest s
  | .shardRecordReceive shard record => Sys2Proof.Machine.execShardRecordReceive shard record s
  | .shardTimeout shard => Sys2Proof.Machine.execShardTimeout shard s
  | .stagingComplete => Sys2Proof.Machine.execStagingComplete s
  | .swapSwitch => Sys2Proof.Machine.execSwapSwitch s
  | .drainTimeout => Sys2Proof.Machine.execDrainTimeout s
  | .switchRefillComplete failed => Sys2Proof.Machine.execSwitchRefillComplete failed s
  | .slotCommitComplete => Sys2Proof.Machine.execSlotCommitComplete s
  | .adapterRegister value fetched => Sys2Proof.Machine.execAdapterRegister value fetched s
  | .adapterUnregister id => Sys2Proof.Machine.execAdapterUnregister id s
  | .adapterResident id => Sys2Proof.Machine.execAdapterResident id s
  | .dmaRead edge f erased => Sys2Proof.Machine.execDmaRead edge f erased s
  | .dmaWrite edge f lines => Sys2Proof.Machine.execDmaWrite edge f lines s
  | .dmaCopy edge f erased => Sys2Proof.Machine.execDmaCopy edge f erased s
  | .dmaComplete edge => Sys2Proof.Machine.execDmaComplete edge s
  | .tierPageRead chan page erased corrected => Sys2Proof.Machine.execTierPageRead chan page erased corrected s
  | .tierPatrol chan erased corrected => Sys2Proof.Machine.execTierPatrol chan erased corrected s
  | .codedPagesWrite chan count => Sys2Proof.Machine.execCodedPagesWrite chan count s
  | .flashCodewordRead chan die block page codeword outcome content => Sys2Proof.Machine.execFlashCodewordRead chan die block page codeword outcome content s
  | .flitReceive r x y f => Sys2Proof.Machine.execFlitReceive r x y f s
  | .seamCreditReturn r side ch lane0 => Sys2Proof.Machine.execSeamCreditReturn r side ch lane0 s
  | .seamRelease r side => Sys2Proof.Machine.execSeamRelease r side s
  | .codewordReceive k outcome blocks => Sys2Proof.Machine.execCodewordReceive k outcome blocks s
  | .flowHeaderReceive k block => Sys2Proof.Machine.execFlowHeaderReceive k block s
  | .flowDataBlock k data => Sys2Proof.Machine.execFlowDataBlock k data s
  | .flowTrailerReceive k block => Sys2Proof.Machine.execFlowTrailerReceive k block s
  | .bulkSegment k header data c => Sys2Proof.Machine.execBulkSegment k header data c s
  | .strokeMarker k block phase => Sys2Proof.Machine.execStrokeMarker k block phase s
  | .hail k block agrees prefers => Sys2Proof.Machine.execHail k block agrees prefers s
  | .ackOnly k block => Sys2Proof.Machine.execAckOnly k block s
  | .heartbeat k block => Sys2Proof.Machine.execHeartbeat k block s
  | .haltWord k block => Sys2Proof.Machine.execHaltWord k block s
  | .resumeWord k block => Sys2Proof.Machine.execResumeWord k block s
  | .stake k block => Sys2Proof.Machine.execStake k block s
  | .strokeChange k block => Sys2Proof.Machine.execStrokeChange k block s
  | .modeReport k block => Sys2Proof.Machine.execModeReport k block s
  | .modeChange k block => Sys2Proof.Machine.execModeChange k block s
  | .shardRerequest k block => Sys2Proof.Machine.execShardRerequest k block s
  | .bulkNak k block => Sys2Proof.Machine.execBulkNak k block s
  | .bulkAck k block => Sys2Proof.Machine.execBulkAck k block s
  | .delayProbe k block trip => Sys2Proof.Machine.execDelayProbe k block trip s
  | .takeover k block => Sys2Proof.Machine.execTakeover k block s
  | .controlWordResend k => Sys2Proof.Machine.execControlWordResend k s
  | .linkDown k => Sys2Proof.Machine.execLinkDown k s
  | .linkRetrain k => Sys2Proof.Machine.execLinkRetrain k s
  | .linkTrained k two => Sys2Proof.Machine.execLinkTrained k two s
  | .trainingTimeout k => Sys2Proof.Machine.execTrainingTimeout k s
  | .hailSend k => Sys2Proof.Machine.execHailSend k s
  | .markerSend => Sys2Proof.Machine.execMarkerSend s
  | .markerTimeout => Sys2Proof.Machine.execMarkerTimeout s
  | .partnerHoldExpiry serial => Sys2Proof.Machine.execPartnerHoldExpiry serial s
  | .heartbeatSend => Sys2Proof.Machine.execHeartbeatSend s
  | .heartbeatMiss => Sys2Proof.Machine.execHeartbeatMiss s
  | .resyncComplete b => Sys2Proof.Machine.execResyncComplete b s
  | .portLinkUp port supports => Sys2Proof.Machine.execPortLinkUp port supports s
  | .pluggableInsert port watts => Sys2Proof.Machine.execPluggableInsert port watts s
  | .pfcFrame port prios off => Sys2Proof.Machine.execPfcFrame port prios off s
  | .pfcStorm port prio => Sys2Proof.Machine.execPfcStorm port prio s
  | .pfcStormClear port prio => Sys2Proof.Machine.execPfcStormClear port prio s
  | .roceSendReceive qp kind len ce => Sys2Proof.Machine.execRoceSendReceive qp kind len ce s
  | .cnpReceive qp => Sys2Proof.Machine.execCnpReceive qp s
  | .rateIncrease qp => Sys2Proof.Machine.execRateIncrease qp s
  | .cmReq port rc readDepth mtu => Sys2Proof.Machine.execCmReq port rc readDepth mtu s
  | .cmRtu qp => Sys2Proof.Machine.execCmRtu qp s
  | .cmDreq qp => Sys2Proof.Machine.execCmDreq qp s
  | .cmDrep qp => Sys2Proof.Machine.execCmDrep qp s
  | .cmRej qp => Sys2Proof.Machine.execCmRej qp s
  | .rdmaReadResponse qp record => Sys2Proof.Machine.execRdmaReadResponse qp record s
  | .ackTimeout qp => Sys2Proof.Machine.execAckTimeout qp s
  | .arpRequest port addr => Sys2Proof.Machine.execArpRequest port addr s
  | .neighbourSolicitation port addr => Sys2Proof.Machine.execNeighbourSolicitation port addr s
  | .icmpEcho port addr ident => Sys2Proof.Machine.execIcmpEcho port addr ident s
  | .routerAdvertisement port pfx => Sys2Proof.Machine.execRouterAdvertisement port pfx s
  | .dhcpReply port addr => Sys2Proof.Machine.execDhcpReply port addr s
  | .dhcpTimeout port => Sys2Proof.Machine.execDhcpTimeout port s
  | .leaseExpiry port => Sys2Proof.Machine.execLeaseExpiry port s
  | .dapRead ip src dst msg n => Sys2Proof.Machine.execDapRead ip src dst msg n s
  | .dapWrite ip src dst msg n fetched => Sys2Proof.Machine.execDapWrite ip src dst msg n fetched s
  | .dapList ip src dst msg => Sys2Proof.Machine.execDapList ip src dst msg s
  | .dapIdentify ip src dst msg => Sys2Proof.Machine.execDapIdentify ip src dst msg s
  | .pieceTimeout c index sub => Sys2Proof.Machine.execPieceTimeout c index sub s
  | .keptValueExpiry c index sub => Sys2Proof.Machine.execKeptValueExpiry c index sub s
  | .canSegment ident ext remote fd brs data fetched => Sys2Proof.Machine.execCanSegment ident ext remote fd brs data fetched s
  | .canBusOffRecovery => Sys2Proof.Machine.execCanBusOffRecovery s
  | .store_ value => Sys2Proof.Machine.execStore value s
  | .storeComplete ok => Sys2Proof.Machine.execStoreComplete ok s
  | .restoreDefaults value => Sys2Proof.Machine.execRestoreDefaults value s
  | .solicit => Sys2Proof.Machine.execSolicit s
  | .offer server msg => Sys2Proof.Machine.execOffer server msg s
  | .recoveryData server msg => Sys2Proof.Machine.execRecoveryData server msg s
  | .fetchRetry => Sys2Proof.Machine.execFetchRetry s
  | .recoveryVerify => Sys2Proof.Machine.execRecoveryVerify s
  | .serverIgnoreExpiry server => Sys2Proof.Machine.execServerIgnoreExpiry server s
  | .candidateReady c => Sys2Proof.Machine.execCandidateReady c s
  | .referenceLock => Sys2Proof.Machine.execReferenceLock s
  | .referenceEdgeLoss => Sys2Proof.Machine.execReferenceEdgeLoss s
  | .bridgeExpiry => Sys2Proof.Machine.execBridgeExpiry s
  | .plannedSwitch c => Sys2Proof.Machine.execPlannedSwitch c s
  | .switchStepComplete => Sys2Proof.Machine.execSwitchStepComplete s
  | .muxHang => Sys2Proof.Machine.execMuxHang s
  | .force => Sys2Proof.Machine.execForce s
  | .muxRst => Sys2Proof.Machine.execMuxRst s
  | .loopGo r step => Sys2Proof.Machine.execLoopGo r step s
  | .idlePathLock r => Sys2Proof.Machine.execIdlePathLock r s
  | .loopStop r => Sys2Proof.Machine.execLoopStop r s
  | .pathLockLoss r => Sys2Proof.Machine.execPathLockLoss r s
  | .droop r mv => Sys2Proof.Machine.execDroop r mv s
  | .monitorWindow r jit duty => Sys2Proof.Machine.execMonitorWindow r jit duty s
  | .blockEnable r block => Sys2Proof.Machine.execBlockEnable r block s
  | .blockDisable r block => Sys2Proof.Machine.execBlockDisable r block s
  | .busCharged => Sys2Proof.Machine.execBusCharged s
  | .powerOn => Sys2Proof.Machine.execPowerOn s
  | .inputOutOfRange vin => Sys2Proof.Machine.execInputOutOfRange vin s
  | .powerFail vin => Sys2Proof.Machine.execPowerFail vin s
  | .inputRestored vin => Sys2Proof.Machine.execInputRestored vin s
  | .inputOvercurrent iin => Sys2Proof.Machine.execInputOvercurrent iin s
  | .converterFail c => Sys2Proof.Machine.execConverterFail c s
  | .regionPowerRequest r => Sys2Proof.Machine.execRegionPowerRequest r s
  | .regionPowerGood r => Sys2Proof.Machine.execRegionPowerGood r s
  | .powerGoodTimeout r domain amps mv => Sys2Proof.Machine.execPowerGoodTimeout r domain amps mv s
  | .regionPowerGoodFall r => Sys2Proof.Machine.execRegionPowerGoodFall r s
  | .overcurrentWarning r domain amps => Sys2Proof.Machine.execOvercurrentWarning r domain amps s
  | .regionShort r domain amps mv => Sys2Proof.Machine.execRegionShort r domain amps mv s
  | .lossVariantRefillDone => Sys2Proof.Machine.execLossVariantRefillDone s
  | .regionRetry r => Sys2Proof.Machine.execRegionRetry r s
  | .thetaSample x => Sys2Proof.Machine.execThetaSample x s
  | .powerCapCompute x => Sys2Proof.Machine.execPowerCapCompute x s
  | .inletOverLimit inlet => Sys2Proof.Machine.execInletOverLimit inlet s
  | .flowLow flow => Sys2Proof.Machine.execFlowLow flow s
  | .coolantFault cause flow rise r => Sys2Proof.Machine.execCoolantFault cause flow rise r s
  | .coolantFaultClear flow leak => Sys2Proof.Machine.execCoolantFaultClear flow leak s
  | .coolantFaultTimeout n => Sys2Proof.Machine.execCoolantFaultTimeout n s
  | .coolantParkDeadline => Sys2Proof.Machine.execCoolantParkDeadline s
  | .coolantAutoRestart flow inlet leak => Sys2Proof.Machine.execCoolantAutoRestart flow inlet leak s
  | .thermalTrip r hot => Sys2Proof.Machine.execThermalTrip r hot s
  | .regionHeatOff r hot => Sys2Proof.Machine.execRegionHeatOff r hot s
  | .regionCooled r hot => Sys2Proof.Machine.execRegionCooled r hot s
  | .coxWatchdogExpiry b => Sys2Proof.Machine.execCoxWatchdogExpiry b s
  | .coxFatalFault f b => Sys2Proof.Machine.execCoxFatalFault f b s
  | .standbyReady => Sys2Proof.Machine.execStandbyReady s
  | .attestationNonce nonce => Sys2Proof.Machine.execAttestationNonce nonce s
  | .reportSigned => Sys2Proof.Machine.execReportSigned s
  | .authorisation c value => Sys2Proof.Machine.execAuthorisation c value s
  | .ownerKeysWrite c value => Sys2Proof.Machine.execOwnerKeysWrite c value s
  | .publisherSlotWrite c slot value => Sys2Proof.Machine.execPublisherSlotWrite c slot value s
  | .firmwareUpdate c value => Sys2Proof.Machine.execFirmwareUpdate c value s
  | .firmwareWriteComplete fetched => Sys2Proof.Machine.execFirmwareWriteComplete fetched s
  | .planLoad value => Sys2Proof.Machine.execPlanLoad value s
  | .planCheckComplete fetched => Sys2Proof.Machine.execPlanCheckComplete fetched s
  | .planSwitch => Sys2Proof.Machine.execPlanSwitch s
  | .stakeBegin => Sys2Proof.Machine.execStakeBegin s
  | .eventRecordReceive r => Sys2Proof.Machine.execEventRecordReceive r s
  | .rateIntervalEnd => Sys2Proof.Machine.execRateIntervalEnd s
  | .flushPeriodExpiry => Sys2Proof.Machine.execFlushPeriodExpiry s
  | .flush value => Sys2Proof.Machine.execFlush value s
  | .flushComplete ok => Sys2Proof.Machine.execFlushComplete ok s
  | .cursorWrite value => Sys2Proof.Machine.execCursorWrite value s
  | .export_ value => Sys2Proof.Machine.execExport value s
  | .snapshotTrigger r mask => Sys2Proof.Machine.execSnapshotTrigger r mask s
  | .snapshotSoftwareFire r value => Sys2Proof.Machine.execSnapshotSoftwareFire r value s
  | .snapshotFree r value => Sys2Proof.Machine.execSnapshotFree r value s
  | .histogramClear value => Sys2Proof.Machine.execHistogramClear value s
  | .stageCountersClear value => Sys2Proof.Machine.execStageCountersClear value s
  | .extremesClear value => Sys2Proof.Machine.execExtremesClear value s
  | .counterMirror => Sys2Proof.Machine.execCounterMirror s
  | .tensorAssemblyMate j active => Sys2Proof.Machine.execTensorAssemblyMate j active s
  | .tensorAssemblyUnmate j => Sys2Proof.Machine.execTensorAssemblyUnmate j s
  | .auxFault j => Sys2Proof.Machine.execAuxFault j s
  | .busbarMate => Sys2Proof.Machine.execBusbarMate s
  | .registerWrite by_ r off value => Sys2Proof.Machine.execRegisterWrite by_ r off value s
  | .registerReadClear by_ r off => Sys2Proof.Machine.execRegisterReadClear by_ r off s
  | .portLinkDown port => Sys2Proof.Machine.execPortLinkDown port s
  | .ackNakReceive qp kind psn => Sys2Proof.Machine.execAckNakReceive qp kind psn s
  | .candidateNotReady c => Sys2Proof.Machine.execCandidateNotReady c s
  | .histogramPeriodSample => Sys2Proof.Machine.execHistogramPeriodSample s
  | .canBusError tx eight => Sys2Proof.Machine.execCanBusError tx eight s

end Sys2Proof.Machine
end

