-- ==== Sys2Proof/WellFormed.lean ====
section
/-! DEFINITION. Well-formed commands: operands within what the spec gives their fields. A command that is not well formed is never
sent; `exec` still answers it. -/

namespace Sys2Proof

open Machine

/-- The tile a command runs on, for the commands that name one. -/
def Instr.tile : Instr → Option TileId
  | .nop t _ _ _ => some t
  | .end_ t => some t
  | .li t _ _ => some t
  | .addi t _ _ _ => some t
  | .add t _ _ _ => some t
  | .sub t _ _ _ => some t
  | .and t _ _ _ => some t
  | .or t _ _ _ => some t
  | .xor t _ _ _ => some t
  | .shl t _ _ _ => some t
  | .shr t _ _ _ => some t
  | .scalarMul t _ _ _ => some t
  | .slt t _ _ _ => some t
  | .bnz t _ _ => some t
  | .bdec t _ _ => some t
  | .waitc t _ _ => some t
  | .waitg t _ _ => some t
  | .waitRelease t _ => some t
  | .pred t _ _ _ => some t
  | .rdcyc t _ => some t
  | .rdstk t _ => some t
  | .cqn t _ => some t
  | .cqrd t _ _ => some t
  | .cqpop t => some t
  | .ld t _ _ _ _ _ => some t
  | .st t _ _ _ _ _ => some t
  | .ldx t _ _ _ _ => some t
  | .clr t _ _ _ => some t
  | .wset t _ _ => some t
  | .wrd t _ _ _ => some t
  | .gath t _ _ _ _ => some t
  | .gatherComplete t _ => some t
  | .bld t _ => some t
  | .blockReady t => some t
  | .bsw t => some t
  | .mul t _ _ _ _ _ _ _ => some t
  | .aclr t _ _ _ => some t
  | .amov t _ _ _ => some t
  | .vadd t _ _ _ _ => some t
  | .vsub t _ _ _ _ => some t
  | .vmul t _ _ _ _ => some t
  | .vfma t _ _ _ _ _ => some t
  | .vmax t _ _ _ _ => some t
  | .vmin t _ _ _ _ => some t
  | .vcmplt t _ _ _ _ => some t
  | .vsel t _ _ _ _ _ => some t
  | .vaddi t _ _ _ _ => some t
  | .vmuli t _ _ _ _ => some t
  | .vexp t _ _ _ => some t
  | .vrcp t _ _ _ => some t
  | .vrsq t _ _ _ => some t
  | .vrsum t _ _ _ _ => some t
  | .vrmax t _ _ _ _ => some t
  | .vbcast t _ _ _ _ => some t
  | .vrnd t _ _ _ => some t
  | .vmov t _ _ _ => some t
  | .vsc2 t _ _ _ _ => some t
  | .rot t _ _ _ _ _ _ => some t
  | .irot t _ _ _ _ _ _ => some t
  | .pfeed t _ _ => some t
  | .pack t _ _ _ _ _ => some t
  | .unpk t _ _ _ _ _ _ => some t
  | .sincos t _ _ _ _ => some t
  | .srset t _ _ _ => some t
  | .pclr t _ => some t
  | .send t _ _ _ _ => some t
  | .sendq t _ _ _ => some t
  | .commit t _ _ => some t
  | .dma t _ _ _ => some t
  | .resultWriteback t => some t
  | .landingWrite t => some t
  | .dataFlitAccept t _ => some t
  | .commitFlitArrive t _ => some t
  | .controlFlitEnqueue t _ => some t
  | .cacheAccess t _ _ => some t
  | .cacheFill t _ => some t
  | .cacheMaskWrite t _ => some t
  | .cacheMaskChangeDone t => some t
  | .cacheOpWriteBack t => some t
  | .cacheOpInvalidate t => some t
  | .cacheOpWriteBackInvalidate t => some t
  | .cacheOpComplete t => some t
  | .seqPatchGo t _ => some t
  | .scrubRead t _ => some t
  | .scrubWriteBack t _ => some t
  | .pageRebuild t _ => some t
  | .rowRemap t _ => some t
  | .bankPowerDown t _ => some t
  | .bankPowerUp t _ => some t
  | .bankFillDone t _ => some t
  | .bankForceOff t _ => some t
  | .checkFlitSend t => some t
  | .verdictFlitArrive t _ => some t
  | _ => none

/-- The instruction is one a bundle may hold (R189-R243), with a NOP written as opcode 0. -/
def Instr.bundleInstr : Instr → Bool
  | .nop _ _ op bad => op = 0 && !bad
  | .end_ _ | .li _ _ _ | .addi _ _ _ _ | .add _ _ _ _ | .sub _ _ _ _ | .and _ _ _ _ | .or _ _ _ _ | .xor _ _ _ _ => true
  | .shl _ _ _ _ | .shr _ _ _ _ | .scalarMul _ _ _ _ | .slt _ _ _ _ | .bnz _ _ _ | .bdec _ _ _ | .waitc _ _ _ => true
  | .waitg _ _ _ | .pred _ _ _ _ | .rdcyc _ _ | .rdstk _ _ | .cqn _ _ | .cqrd _ _ _ | .cqpop _ => true
  | .ld _ _ _ _ _ _ | .st _ _ _ _ _ _ | .ldx _ _ _ _ _ | .clr _ _ _ _ | .wset _ _ _ | .wrd _ _ _ _ | .gath _ _ _ _ _ => true
  | .bld _ _ | .bsw _ | .mul _ _ _ _ _ _ _ _ | .aclr _ _ _ _ | .amov _ _ _ _ => true
  | .vadd _ _ _ _ _ | .vsub _ _ _ _ _ | .vmul _ _ _ _ _ | .vfma _ _ _ _ _ _ | .vmax _ _ _ _ _ | .vmin _ _ _ _ _ => true
  | .vcmplt _ _ _ _ _ | .vsel _ _ _ _ _ _ | .vaddi _ _ _ _ _ | .vmuli _ _ _ _ _ | .vexp _ _ _ _ | .vrcp _ _ _ _ => true
  | .vrsq _ _ _ _ | .vrsum _ _ _ _ _ | .vrmax _ _ _ _ _ | .vbcast _ _ _ _ _ | .vrnd _ _ _ _ | .vmov _ _ _ _ => true
  | .vsc2 _ _ _ _ _ | .rot _ _ _ _ _ _ _ | .irot _ _ _ _ _ _ _ | .pfeed _ _ _ | .pack _ _ _ _ _ _ | .unpk _ _ _ _ _ _ _ => true
  | .sincos _ _ _ _ _ | .srset _ _ _ _ | .pclr _ _ | .send _ _ _ _ _ | .sendq _ _ _ _ | .commit _ _ _ | .dma _ _ _ _ => true
  | _ => false

/-- A tile that exists: x of 0-15, y below the rows of its region (R28, R31). -/
def tileExists (t : TileId) : Bool := decide (t.y.toNat < regionRows t.region.toNat)

/-- A flit's body holds 128 bytes (R503). -/
def flitWf (f : Flit) : Bool := f.body.length = 128

/-- One of the 96 tensor links (R532). -/
def linkWf (k : BitVec 7) : Bool := decide (k.toNat < 96)

/-- One of the eight host ports, or M0 as 8 (R579, R593). -/
def portWf (p : BitVec 4) : Bool := decide (p.toNat ≤ 8)

/-- A voltage domain of a region (R661): VCORE, VSRAM, VLINK, and VPHY in edge regions. -/
def domainWf (r : BitVec 6) (d : BitVec 2) : Bool := decide (d.toNat < 3) || isEdge r.toNat

/-- Data of at most `n` bytes. -/
def upTo (n : Nat) (bs : Bytes) : Bool := decide (bs.length ≤ n)

/-- A command within its operands. -/
def Instr.wf (i : Instr) : Bool :=
  (match i.tile with
    | some t => tileExists t
    | none => true) &&
  match i with
  | .dataFlitAccept _ f | .commitFlitArrive _ f | .controlFlitEnqueue _ f | .verdictFlitArrive _ f => flitWf f
  | .cacheAccess _ addr (some bs) => upTo 128 bs && decide (addr % 128 + bs.length ≤ 128)
  | .twNormalWrite r _ y _ _ _ | .twRawWrite r _ y _ _ _ | .twCheckedRead r _ y _ _ _ | .twRawRead r _ y _ _ _
  | .twCheckBytesRead r _ y _ _ | .twCheckBytesWrite r _ y _ _ | .twQueueRebuild r _ y _ _ _ | .twRemapRead r _ y _ _
  | .twRemapWrite r _ y _ _ => decide (y.toNat < regionRows r.toNat)
  | .twReservedMode _ mode => decide (9 ≤ mode.toNat)
  | .flitReceive r _ y f => decide (y.toNat < regionRows r.toNat) && flitWf f
  | .dmaRead _ f _ | .dmaCopy _ f _ => flitWf f
  | .dmaWrite _ f lines => flitWf f && lines.all (fun l => l.1.length = 128)
  | .tierPageRead chan page erased _ => decide (page < (if chan.toNat < 32 then 23437500 else 15625000)) && erased.all (fun w => decide (w < 128))
  | .tierPatrol _ erased _ => erased.all (fun w => decide (w < 128))
  | .shardRecordReceive _ record => upTo 4194352 record
  | .offer _ msg | .recoveryData _ msg => upTo 1472 msg
  | .rdmaReadResponse _ record => upTo 4194352 record
  | .flowDataBlock k bs => linkWf k && decide (bs.length = 128)
  | .flowHeaderReceive k bs | .flowTrailerReceive k bs => linkWf k && decide (bs.length = 128)
  | .bulkSegment k bs data _ => linkWf k && decide (bs.length = 128) && decide (data.length ≤ 48) && data.all (fun b => b.length = 128)
  | .codewordReceive k _ bs => linkWf k && decide (bs.length = 5) && bs.all (fun b => b.2.length = 128)
  | .strokeMarker k bs _ | .hail k bs _ _ | .ackOnly k bs | .heartbeat k bs | .haltWord k bs | .resumeWord k bs | .stake k bs
  | .strokeChange k bs | .modeReport k bs | .modeChange k bs | .shardRerequest k bs | .bulkNak k bs | .bulkAck k bs
  | .delayProbe k bs _ | .takeover k bs => linkWf k && decide (bs.length = 128)
  | .controlWordResend k | .linkDown k | .linkRetrain k | .linkTrained k _
  | .trainingTimeout k | .hailSend k => linkWf k
  | .portLinkUp p _ | .arpRequest p _ | .neighbourSolicitation p _ | .icmpEcho p _ _ | .routerAdvertisement p _ | .dhcpReply p _
  | .dhcpTimeout p | .leaseExpiry p | .portLinkDown p => portWf p
  | .dapRead _ _ _ msg _ | .dapWrite _ _ _ msg _ _ | .dapList _ _ _ msg | .dapIdentify _ _ _ msg => upTo 1472 msg
  | .canSegment _ _ _ fd _ data _ => upTo (if fd then 64 else 8) data
  | .overcurrentWarning r d _ | .regionShort r d _ _ | .powerGoodTimeout r d _ _ => domainWf r d
  | .request a | .cancel a | .park a | .resume a | .handOff a => upTo 65536 a.unit
  | .attestationNonce bs => decide (bs.length = 32)
  | .export_ bs => decide (bs.length = 32)
  | _ => true

end Sys2Proof
end

