-- ==== Sys2Proof/Safety.lean ====
section
/-! DEFINITION. The terms in which claims about the module are made: a command completes, what alone changed, canonical data, and the
conditions under which an instruction of a tile issues. -/

namespace Sys2Proof.Machine

/-- The command answers a next state, and that state satisfies `P`. -/
def Completes (c : Instr) (s : State) (P : State → Prop) : Prop := ∃ u, exec c s = .next u ∧ P u

/-! ## What alone changed -/

/-- Nothing but tile `t` changed. -/
def OnlyTile (t : TileId) (s u : State) : Prop :=
  u = { s with tiles := u.tiles } ∧ ∀ k, k ≠ t.key → Table.get {} u.tiles k = Table.get {} s.tiles k

/-- Every tile but `t` is as it was. -/
def OtherTiles (t : TileId) (s u : State) : Prop := ∀ k, k ≠ t.key → Table.get {} u.tiles k = Table.get {} s.tiles k

/-- Every region but `r` is as it was. -/
def OtherRegions (r : Nat) (s u : State) : Prop := ∀ q, q ≠ r → Table.get {} u.regions q = Table.get {} s.regions q

/-- Nothing but region `r` changed, save the answer of the register access. -/
def OnlyRegion (r : Nat) (s u : State) : Prop :=
  u = { s with regions := u.regions, accessFault := u.accessFault, readOut := u.readOut } ∧ OtherRegions r s u

/-- Nothing but tensor link `k` changed. -/
def OnlyLink (k : Nat) (s u : State) : Prop :=
  u = { s with links := { s.links with links := u.links.links } } ∧
    ∀ j, j ≠ k → Table.get {} u.links.links j = Table.get {} s.links.links j

/-! ## Canonical data -/

/-- The tables of a tile are in canonical form. -/
def Tile.canon (x : Tile) : Bool :=
  Table.wf 0 x.scratch && Table.wf 0 x.chk && Table.wf 0 x.pageChk && Table.wf false x.linePoison && Table.wf false x.lostLine &&
    Table.wf 0 x.s && Table.wf false x.p && Table.wf {} x.v && Table.wf {} x.acc && Table.wf {} x.opbuf && Table.wf noBanks x.bankSets &&
    Table.wf {} x.gtag && Table.wf {} x.scrub && Table.wf 0 x.remap && Table.wf {} x.cacheDir && Table.wf none x.progChk

/-- The memories and the tables of tiles and regions are in canonical form. -/
def State.canon (s : State) : Bool :=
  Table.wf {} s.tiles && Table.wf {} s.regions && Table.wf 0 s.tier.mem && s.tiles.all (fun e => (e.2 : Tile).canon)

/-! ## Reading what an instruction reads -/

/-- Byte `a` of a tile's scratch. -/
def Tile.byte (x : Tile) (a : Nat) : Byte := Table.get 0 x.scratch a

/-- Byte `a` of the tiers. -/
def State.tierByte (s : State) (a : Nat) : Byte := Table.get 0 s.tier.mem a

/-- Lane `i` of vector register `v`. -/
def lane (x : Tile) (v i : Nat) : Word := Table.get 0 (Table.get {} x.v v).lanes i

/-- An instruction of a slot with predicate `pred` runs, and no umpire watches it: the sequencer issues, the bundle can be read (R185),
the predicate holds, and the module is not in debug mode. -/
def slotReady (s : State) (t : TileId) (pred : Nat) : Bool :=
  issuing s t && !bundleBad (s.tile t) && preg (s.tile t) pred && !s.boot.debug

/-- No part joins the rotation block in hand in this cycle: the block is broken as the bundle closes (R235). -/
def rotGapNow (x : Tile) : Bool :=
  match x.rotNow with
  | some b => decide (b.cycle ≠ x.cycle)
  | none => false

/-- A CTL instruction runs, with nothing for an umpire to record: the sequencer issues, the bundle can be read (R185), and the module is not
in debug mode unless no rotation block breaks. -/
def ctlReady (s : State) (t : TileId) : Bool :=
  issuing s t && !bundleBad (s.tile t) && (!s.boot.debug || !rotGapNow (s.tile t))

/-- A line can be read through the activation port in this cycle, without correction: port and bank are free, the bank is up and
not in cache mode, and the line is clean. -/
def lineReady (x : Tile) (line : Nat) : Bool :=
  !x.uses.any (fun u => u.1 = 0x20) && !x.uses.any (fun u => u.1 = bankOf line) && bankUp x (bankOf line) && !cacheBank x (bankOf line) &&
    decide ((lineRead x line).fixed = []) && decide ((lineRead x line).bad = []) && !(lineRead x line).marked

/-- The state a message of the token service finds once its unit is taken and its connection is bound (R421, R424, R425); none where
it is discarded. -/
def State.opened (s : State) (a : Arrival) (type length : Nat) : Option State :=
  if s.listens a && headerOk (arrivedHeader a) a.unit.length type length then (s.takeUnit a false).bind (fun (v : State) => v.bindMsg a) else none

/-- A sequenced control word comes next in order on a link that is up or in training (R546). -/
def State.wordNext (s : State) (k : Nat) (seq : BitVec 16) : Bool :=
  ((s.link k).state = 1 || (s.link k).state = 2) && !(s.link k).badNow && decide (seq = nextSeq (s.link k).ack)

/-- The state such a word acts on: its ACK is taken, and it is acknowledged (R546, R548). -/
def State.wordTaken (s : State) (k : Nat) (seq ack : BitVec 16) : State :=
  ((s.updLink k (ackWords ack)).updLink k (fun (l : Link) => { l with ack := seq })).sendWord k .ack

/-! ## What an instruction leaves in a tile -/

/-- A tile with one more result in flight (R248). -/
def launched (x : Tile) (slot : Slot) (lat : Nat) (d : Dest) (v : ResultValue) : Tile :=
  { x with
    nextId := x.nextId + 1
    inflight := x.inflight ++ [{ id := x.nextId, slot := slot, done := x.cycle + lat, dest := d, value := v, pc := BitVec.ofNat 12 x.nextPc,
                                 at_ := x.cycle }] }

/-- The sequencer has gone past a bundle, whose successor is `next` (R192, R195, R206, R207). -/
def Advanced (x y : Tile) (next : Nat) : Prop :=
  y.pc = BitVec.ofNat 12 x.nextPc ∧ y.nextPc = next % 4096 ∧ y.cycle = min 0xFFFFFFFF (x.cycle + 1) ∧ y.done = decide (4096 ≤ next)

/-- What a CTL instruction leaves alone in its tile: everything but scalars, predicates and the sequencer. -/
def CtlFrame (x y : Tile) : Prop :=
  y = { x with
    s := y.s
    p := y.p
    pc := y.pc
    nextPc := y.nextPc
    cycle := y.cycle
    uses := []
    bgUses := []
    rotNow := if rotGapNow x then none else x.rotNow
    done := y.done
    endCycle := y.endCycle
    bswWait := if x.bswWait = 1 then 2 else x.bswWait
    netWait := if x.netWait = 1 then 2 else x.netWait }

/-- A CTL instruction wrote `v` to s[D] (a write to s0 is discarded, R194), and the bundle closed. -/
def ScalarResult (s : State) (t : TileId) (d : Nat) (v : Word) (u : State) : Prop :=
  OnlyTile t s u ∧ CtlFrame (s.tile t) (u.tile t) ∧ Advanced (s.tile t) (u.tile t) ((s.tile t).nextPc + 1) ∧
    (∀ n, sreg (u.tile t) n = if n = d ∧ n ≠ 0 then v else sreg (s.tile t) n) ∧ (u.tile t).p = (s.tile t).p

/-- A vector result of 128 lanes, lane `i` being `w i`, is in flight to v[D]; nothing else changed (R248). -/
def VecResult (s : State) (t : TileId) (slot : Slot) (d : BitVec 5) (lat : Nat) (w : Nat → Word) (u : State) : Prop :=
  ∃ ws : List Word, ws.length = 128 ∧ (∀ i, i < 128 → ws.getD i 0 = w i) ∧ OnlyTile t s u ∧
    u.tile t = launched (s.tile t) slot lat (.vreg d) (.lanes true ((ws.zipIdx).map (fun (p : Word × Nat) => (p.2, p.1))) false)

/-- The value of a fixed pairwise tree of `k` levels over the values `f` (R232): node `i` of level `k`. -/
def treeVal (op : Word → Word → Word) (f : Nat → Word) : Nat → Nat → Word
  | 0, i => f i
  | k + 1, i => op (treeVal op f k (2 * i)) (treeVal op f k (2 * i + 1))

end Sys2Proof.Machine
end

