-- ==== Sys2Proof/Certificates/Slice0/Obligations.lean ====
section
/-! DEFINITION. The statements about the model, family by family. -/

open Sys2Proof Sys2Proof.Machine

/-! ## The queue, reset -/

/-- A step runs the command at the front of the queue on the state whose queue is the rest (the model's queue, log entry 1), and every
command answers a next state, in every state and with every operand. -/
def Obligations.StepRunsFront : Prop :=
  ∀ (c : Instr) (rest : List Instr) (s : State), step { s with pending := c :: rest } = exec c { s with pending := rest } ∧
    ∃ u, exec c s = .next u

/-- With no command waiting, one nominal tick passes and nothing else changes; the tick count rises with it while it advances
(R55; log entry 1: the model's choice). A timer's command lets the time pass to its deadline, no further, where that lies ahead (log entry
4: the model's choice). -/
def Obligations.IdleStepPassesOneTick : Prop :=
  ∀ s : State, (s.pending = [] → ∃ u, step s = .next u ∧ u.now = s.now + 1 ∧
    u.clk.tick = (if s.clk.ticking then s.clk.tick + 1 else s.clk.tick) ∧ u = { s with now := u.now, clk := { s.clk with tick := u.clk.tick } }) ∧
    let upTo := fun (c : Instr) (m : Nat) => Completes c s (fun u => u.now = max s.now m)
    (∀ id r, s.req id = some r → r.state = .queued → s.dictNat 0x301006 ≠ 0 → r.atHead = false →
      upTo (.queueTimeout id) (r.joined + s.dictNat 0x301006 * msTicks)) ∧
    (∀ (tag : BitVec 16) c ip port, s.conn tag.toNat = some c → c.endpoint = some (.udp ip port) → s.requestsOf tag.toNat = [] →
      upTo (.udpIdleTimeout tag) ((c.lastMs + 1000 * s.dictNat 0x300006) * msTicks)) ∧
    (∀ id r b, s.req id = some r → r.state = .parked → r.boat = some b → b.flash = true →
      upTo (.flashTtlExpiry id) ((b.tierMs + 1000 * s.dictNat 0x312003) * msTicks)) ∧
    (s.coxUp = true → upTo .flushPeriodExpiry ((s.log.lastFlush + 1000 * s.dictNat 0x500003) * msTicks)) ∧
    (s.coxUp = true → upTo .rateIntervalEnd ((s.log.intervalStart + 1000) * msTicks)) ∧
    (∀ (port prio : BitVec 3), let q := s.port port.toNat
      (q.paused.getLsbD prio.toNat = true → upTo (.pfcStorm port prio) (Table.get 0 q.pausedAt prio.toNat + s.dictNat 0x118005 * msTicks)) ∧
      (q.storm.getLsbD prio.toNat = true → upTo (.pfcStormClear port prio) (Table.get 0 q.lastPause prio.toNat + s.dictNat 0x118005 * msTicks))) ∧
    (∀ n q, s.qp n = some q → q.rate < lineRate q.port (s.port q.port).state →
      upTo (.rateIncrease n) (q.cnpAt + usTicks (s.dictNat 0x118007))) ∧
    (∀ id r, s.req id = some r → r.state = .queued → s.dictNat 0x301005 ≠ 0 → r.cls ≠ 0 →
      upTo (.classAging id) ((r.clsMs + s.dictNat 0x301005) * msTicks)) ∧
    (∀ (k : BitVec 7), (s.link k.toNat).state = 1 → upTo (.trainingTimeout k) (((s.link k.toNat).trainMs +
      if ((s.blob 0x600002).getD k.toNat 0).toNat = 2 then 200 else 100) * msTicks)) ∧
    (∀ (serial : BitVec 128) p, s.links.partners.find? (fun p => p.hail.serial = serial) = some p → p.state = .lost → p.links = 0 →
      upTo (.partnerHoldExpiry serial) ((p.lostMs + s.dictNat 0x601003) * msTicks))

/-- Right after reset no stroke runs and no tick is counted, every bank is powered, no region has power-good, every tile is gated, no
plan is loaded, every scratch byte and every tier byte (the model's choice, log entry 3) reads zero, the queue is empty and the data is
canonical. -/
def Obligations.ResetState : Prop :=
  State.reset.clk.running = false ∧ State.reset.clk.tick = 0 ∧ State.reset.clk.stroke = 0 ∧
  (∀ r, State.reset.powered r = false) ∧ (∀ t, (State.reset.tile t).bankPwr = 0xFFFFFFFF ∧ (State.reset.tile t).stage = none) ∧
  (∀ t a, (State.reset.tile t).byte a = 0) ∧ (∀ a, State.reset.tierByte a = 0) ∧ State.reset.boot.plan = none ∧
  (∀ r, (State.reset.region r).mesh.coxRegion = 4 ∧ (State.reset.region r).clk.laneWin = 8) ∧
  State.reset.pending = [] ∧ State.reset.canon = true

/-! ## The tile instruction set: CTL -/

/-- s0 always reads zero and p0 always reads 1; what is written to them is discarded, and every other register is written alone. -/
def Obligations.HardwiredRegisters : Prop :=
  ∀ (x : Tile) (n : Nat) (v : Word) (b : Bool), sreg x 0 = 0 ∧ preg x 0 = true ∧ setSreg x 0 v = x ∧ setPreg x 0 b = x ∧
    (Table.wf 0 x.s = true → n ≠ 0 → sreg (setSreg x n v) n = v ∧ ∀ m, m ≠ n → sreg (setSreg x n v) m = sreg x m) ∧
    (Table.wf false x.p = true → n ≠ 0 → preg (setPreg x n b) n = b ∧ ∀ m, m ≠ n → preg (setPreg x n b) m = preg x m)

/-- Every CTL instruction that computes a scalar writes its result to s[D] modulo 2^32, changes no other register, no predicate, no byte
and no other tile, and the sequencer goes on to the next bundle. -/
def Obligations.CtlScalarResults : Prop :=
  ∀ (s : State) (t : TileId) (d a b : BitVec 4) (imm : BitVec 22), ctlReady s t = true → Table.wf 0 (s.tile t).s = true →
    let x := s.tile t
    let va := sreg x a.toNat
    let vb := sreg x b.toNat
    let R := fun (c : Instr) (v : Word) => Completes c s (ScalarResult s t d.toNat v)
    R (.li t d imm) (imm.signExtend 32) ∧
    R (.addi t d a imm) (va + imm.signExtend 32) ∧
    R (.add t d a b) (va + vb) ∧
    R (.sub t d a b) (va - vb) ∧
    R (.and t d a b) (va &&& vb) ∧
    R (.or t d a b) (va ||| vb) ∧
    R (.xor t d a b) (va ^^^ vb) ∧
    R (.shl t d a b) (BitVec.ofNat 32 (va.toNat * 2 ^ (vb.toNat % 32))) ∧
    R (.shr t d a b) (BitVec.ofNat 32 (va.toNat / 2 ^ (vb.toNat % 32))) ∧
    R (.scalarMul t d a b) (BitVec.ofNat 32 (va.toNat * vb.toNat)) ∧
    R (.slt t d a b) (if va.toInt < vb.toInt then 1 else 0) ∧
    R (.rdcyc t d) (BitVec.ofNat 32 x.cycle) ∧
    R (.rdstk t d) (s.clk.stroke.setWidth 32) ∧
    R (.cqn t d) (BitVec.ofNat 32 x.ctlQ.length) ∧
    R (.cqrd t d imm) (match x.ctlQ with
      | [] => 0
      | f :: _ => BitVec.ofNat 32 (leNat ((f.body.drop (4 + 4 * (imm.toNat % 4))).take 4)))

/-- The CTL instructions that direct the program: an empty bundle goes on, a bundle whose fetch finds a double error issues empty, every
slot of it, until it is repaired, goes on too and withholds, an empty slot does nothing, END stops it until the next catch, a taken BNZ or BDEC
names the next bundle, PRED reads one bit of the present-row mask, CQPOP removes the head flit, and bundle 4,095 ends the program. -/
def Obligations.CtlProgramFlow : Prop :=
  ∀ (s : State) (t : TileId) (d a b : BitVec 4) (imm : BitVec 22) (op : BitVec 6), issuing s t = true →
    Table.wf 0 (s.tile t).s = true → Table.wf false (s.tile t).p = true →
    let x := s.tile t
    let va := sreg x a.toNat
    let on := fun (u : State) => OnlyTile t s u ∧ CtlFrame x (u.tile t)
    let empty := fun (u : State) => OtherTiles t s u ∧ (u.tile t).s = x.s ∧ (u.tile t).p = x.p ∧ (u.tile t).scratch = x.scratch ∧
      (u.tile t).fetchErr = true ∧ (u.tile t).errAddr = BitVec.ofNat 12 x.nextPc ∧ (u.tile t).withhold = true ∧
      Advanced x (u.tile t) (x.nextPc + 1)
    (∀ sl, sl ≠ .ctl → exec (.nop t sl op false) s = .next s) ∧
    (Table.get 0 x.progRepairs x.nextPc < 2 → Table.wf none x.progChk = true → bundleBad x = false →
      Completes (.nop t .ctl op true) s (fun u => empty u ∧
        Table.get none (u.tile t).progChk x.nextPc = some (checkBits (Table.get 0 x.prog x.nextPc) ^^^ 3))) ∧
    (2 ≤ Table.get 0 x.progRepairs x.nextPc → x.failing = false → Table.wf none x.progChk = true → bundleBad x = false →
      s.bypassNext t.region.toNat t.x.toNat = 0xFF ∨ s.boot.plan ≠ none →
      Completes (.nop t .ctl op true) s (fun u => empty u ∧ (u.tile t).failing = true)) ∧
    (bundleBad x = true → ∀ c ∈ ([.nop t .ctl op false, .end_ t, .li t d imm, .addi t d a imm, .add t d a b, .sub t d a b, .and t d a b,
      .or t d a b, .xor t d a b, .shl t d a b, .shr t d a b, .scalarMul t d a b, .slt t d a b, .bnz t a imm, .bdec t a imm, .waitc t a imm,
      .waitg t a imm, .pred t d a imm, .rdcyc t d, .rdstk t d, .cqn t d, .cqrd t d imm, .cqpop t] : List Instr), Completes c s empty) ∧
    (ctlReady s t = true →
    Completes (.nop t .ctl op false) s (fun u => on u ∧ (u.tile t).s = x.s ∧ (u.tile t).p = x.p ∧ Advanced x (u.tile t) (x.nextPc + 1)) ∧
    Completes (.end_ t) s (fun u => on u ∧ (u.tile t).s = x.s ∧ (u.tile t).p = x.p ∧ (u.tile t).done = true ∧ issuing u t = false) ∧
    Completes (.bnz t a imm) s (fun u => on u ∧ (u.tile t).s = x.s ∧ (u.tile t).p = x.p ∧
      Advanced x (u.tile t) (if va = 0 then x.nextPc + 1 else imm.toNat % 4096)) ∧
    Completes (.bdec t a imm) s (fun u => on u ∧ (u.tile t).p = x.p ∧
      (∀ n, sreg (u.tile t) n = if n = a.toNat ∧ n ≠ 0 then va - 1 else sreg x n) ∧
      Advanced x (u.tile t) (if va - 1 = 0 then x.nextPc + 1 else imm.toNat % 4096)) ∧
    Completes (.pred t d a imm) s (fun u => on u ∧ (u.tile t).s = x.s ∧
      (∀ n, preg (u.tile t) n = if n = d.toNat % 4 ∧ n ≠ 0 then
        (if (va + imm.signExtend 32).toNat < 576 then x.present.getLsbD (va + imm.signExtend 32).toNat else false) else preg x n) ∧
      Advanced x (u.tile t) (x.nextPc + 1)) ∧
    Completes (.cqpop t) s (fun u => OnlyTile t s u ∧ (x.ctlWait = [] → (u.tile t).ctlQ = x.ctlQ.drop 1) ∧ (u.tile t).s = x.s ∧
      (u.tile t).p = x.p ∧ (u.tile t).scratch = x.scratch ∧ Advanced x (u.tile t) (x.nextPc + 1)))

/-- WAITC and WAITG issue their bundle and then hold the sequencer until their condition: the counter reaches s[A] + IMM, or the tag is
complete or the deadline passes. WAIT_RELEASE then ends
the hold: a counter wait moves the counter to its target, a gather wait whose tag is complete moves it by the cycles held, to its deadline at most, and one that ends at its
deadline marks every line of its destination poisoned and makes the tile withhold its commits, as does a WAITG whose deadline has passed at issue. -/
def Obligations.CtlWaits : Prop :=
  ∀ (s : State) (t : TileId) (a : BitVec 4) (imm : BitVec 22) (m : Nat),
    let x := s.tile t
    let target := (sreg x a.toNat + imm.setWidth 32).toNat
    let g := imm.toNat % 16
    let deadline := (sreg x a.toNat + BitVec.ofNat 32 (imm.toNat / 16)).toNat
    let free := s.clk.running = true ∧ x.stage.isSome ∧ x.bswWait ≠ 2 ∧ x.netWait ≠ 2
    let c := min 0xFFFFFFFF (x.cycle + 1)
    let missed := fun (u : State) (e : Gather) => ∀ i, i < e.lines →
      Table.get false (u.tile t).linePoison ((e.line.toNat + i) % 32768) = true
    (ctlReady s t = true → Completes (.waitc t a imm) s (fun u => OnlyTile t s u ∧ (u.tile t).s = x.s ∧ (u.tile t).p = x.p ∧ (u.tile t).scratch = x.scratch ∧
      (u.tile t).hold = (if target ≤ c then .none else .waitC target) ∧ Advanced x (u.tile t) (x.nextPc + 1))) ∧
    (ctlReady s t = true → c < deadline → (Table.get {} x.gtag g).outstanding = true →
      Completes (.waitg t a imm) s (fun u => OnlyTile t s u ∧ (u.tile t).s = x.s ∧ (u.tile t).scratch = x.scratch ∧
        (u.tile t).hold = .waitG (BitVec.ofNat 4 g) deadline ∧ Advanced x (u.tile t) (x.nextPc + 1))) ∧
    (ctlReady s t = true → deadline ≤ c → (Table.get {} x.gtag g).outstanding = true → Table.wf false x.linePoison = true →
      Completes (.waitg t a imm) s (fun u => OtherTiles t s u ∧ (u.tile t).s = x.s ∧ (u.tile t).scratch = x.scratch ∧ (u.tile t).hold = .none ∧
        (u.tile t).withhold = true ∧ missed u (Table.get {} x.gtag g) ∧
        Advanced x (u.tile t) (x.nextPc + 1))) ∧
    (ctlReady s t = true → (Table.get {} x.gtag g).outstanding = false →
      Completes (.waitg t a imm) s (fun u => OnlyTile t s u ∧ (u.tile t).hold = .none ∧ Advanced x (u.tile t) (x.nextPc + 1))) ∧
    (free → ∀ n, x.hold = .waitC n → Completes (.waitRelease t m) s (fun u => OnlyTile t s u ∧
      u.tile t = { x with hold := .none, cycle := max x.cycle (min 0xFFFFFFFF n) })) ∧
    (free → ∀ (g : BitVec 4) (n : Nat), x.hold = .waitG g n → (Table.get {} x.gtag g.toNat).outstanding = false →
      Completes (.waitRelease t m) s (fun u => OnlyTile t s u ∧ u.tile t = { x with hold := .none, cycle := heldTo x m n })) ∧
    (free → ∀ (g : BitVec 4) (n : Nat), x.hold = .waitG g n → (Table.get {} x.gtag g.toNat).outstanding = true →
      Table.wf false x.linePoison = true →
      Completes (.waitRelease t m) s (fun u => OtherTiles t s u ∧ (u.tile t).hold = .none ∧ (u.tile t).withhold = true ∧
        missed u (Table.get {} x.gtag g.toNat) ∧ (u.tile t).scratch = x.scratch))

/-- An instruction whose predicate holds 0 is skipped: it reads nothing, writes nothing and uses nothing; a marked PACK that is skipped
still counts. -/
def Obligations.PredicateSkips : Prop :=
  ∀ (s : State) (t : TileId) (pred : BitVec 2) (v d a b c : BitVec 5) (ra sr : BitVec 4) (line : BitVec 15) (ext imm : BitVec 16)
    (op : BitVec 8) (tag fmt mode : BitVec 4) (arow n : BitVec 6) (e i10 : BitVec 10) (j : BitVec 3) (init : Bool) (entry : BitVec 8),
    preg (s.tile t) pred.toNat = false →
    (mode.getLsbD 2 = false → exec (.pack t pred fmt mode sr i10) s = .next s) ∧
    (mode.getLsbD 2 = true → issuing s t = true → Completes (.pack t pred fmt mode sr i10) s (fun u => OnlyTile t s u ∧
      u.tile t = { s.tile t with marked := (s.tile t).marked + 1 })) ∧
    ∀ i ∈ ([.ld t pred v ra line ext, .st t pred v ra line ext, .ldx t pred ra line op, .clr t pred ra line, .gath t pred ra line tag,
      .mul t pred arow op e fmt j init, .aclr t pred arow n, .amov t pred arow v, .vadd t pred d a b, .vsub t pred d a b,
      .vmul t pred d a b, .vfma t pred d a b c, .vmax t pred d a b, .vmin t pred d a b, .vcmplt t pred d a b, .vsel t pred d a b c,
      .vaddi t pred d a imm, .vmuli t pred d a imm, .vexp t pred d a, .vrcp t pred d a, .vrsq t pred d a, .vrsum t pred d a imm,
      .vrmax t pred d a imm, .vbcast t pred d a imm, .vrnd t pred d a, .vmov t pred d a, .vsc2 t pred d a imm, .rot t pred a d fmt mode i10,
      .irot t pred a d fmt mode i10, .pfeed t pred a, .unpk t pred d fmt mode sr i10, .sincos t pred d mode sr,
      .srset t pred mode sr, .pclr t pred, .send t pred sr line entry, .sendq t pred sr entry, .commit t pred entry,
      .dma t pred sr line] : List Instr), exec i s = .next s

/-! ## The tile instruction set: LSU -/

/-- A load of a clean line puts its words or BF16 values, or its bytes, in flight to a vector register or an operand-buffer line; it
uses the activation port and the bank, and writes no byte. Mode m of 0-3 fills lanes 32m to 32m + 31 with the line's 32 words, mode 4 or 5
fills 64 lanes with its BF16 values widened exactly. -/
def Obligations.LsuLoads : Prop :=
  ∀ (s : State) (t : TileId) (pred : BitVec 2) (v : BitVec 5) (a : BitVec 4) (line : BitVec 15) (ext : BitVec 16) (n : BitVec 8) (bs : Bytes) (i : Nat),
    slotReady s t pred.toNat = true →
    let x := s.tile t
    let l := ((sreg x a.toNat).toNat + line.toNat) % 32768
    let used := { x with uses := x.uses ++ [(0x20, Slot.lsu), (bankOf l, Slot.lsu)] }
    lineReady x l = true →
    (ext.toNat % 8 < 6 → Completes (.ld t pred v a line ext) s (fun u => OnlyTile t s u ∧
      u.tile t = launched used .lsu (s.lat 7) (.vreg v) (.lanes false (loadLanes (ext.toNat % 8) (lineRead x l).bytes) false))) ∧
    Completes (.ldx t pred a line n) s (fun u => OnlyTile t s u ∧
      u.tile t = launched used .lsu (s.lat 7) (.opLine n) (.line (lineRead x l).bytes false)) ∧
    (ext.toNat % 8 < 4 → i < 32 →
      (loadLanes (ext.toNat % 8) bs).getD i (0, 0) = (32 * (ext.toNat % 8) + i, BitVec.ofNat 32 (leNat ((bs.drop (4 * i)).take 4)))) ∧
    (ext.toNat % 8 = 4 ∨ ext.toNat % 8 = 5 → i < 64 →
      (loadLanes (ext.toNat % 8) bs).getD i (0, 0) =
        (64 * (ext.toNat % 8 - 4) + i, BitVec.ofNat 32 (2 ^ 16 * leNat ((bs.drop (2 * i)).take 2)))) ∧
    (ext.toNat % 8 < 6 → (loadLanes (ext.toNat % 8) bs).length = (if ext.toNat % 8 < 4 then 32 else 64))

/-- A store or a clear puts a whole line in flight to the line address it names, and no byte changes before its latency ends. -/
def Obligations.LsuStores : Prop :=
  ∀ (s : State) (t : TileId) (pred : BitVec 2) (v : BitVec 5) (a : BitVec 4) (line : BitVec 15) (ext : BitVec 16),
    slotReady s t pred.toNat = true → vPoison (s.tile t) v.toNat = false →
    let x := s.tile t
    let l := ((sreg x a.toNat).toNat + line.toNat) % 32768
    let used := { x with uses := x.uses ++ [(0x20, Slot.lsu), (bankOf l, Slot.lsu)] }
    lineReady x l = true →
    (ext.toNat % 8 < 6 → Completes (.st t pred v a line ext) s (fun u => OnlyTile t s u ∧
      u.tile t = launched used .lsu (s.lat 7) (.scratch (BitVec.ofNat 15 l)) (.line (storeLine (ext.toNat % 8) (lanesOf x v.toNat)) false))) ∧
    Completes (.clr t pred a line) s (fun u => OnlyTile t s u ∧
      u.tile t = launched used .lsu (s.lat 7) (.scratch (BitVec.ofNat 15 l)) (.line (List.replicate 128 0) false))

/-- A gather whose address lies outside the tiers marks its line poisoned and completes its tag at once; one inside, not in the cache, makes
the tag outstanding on its line and waits for its tier. The data of a gather waits while its bank is in use, is written to its line, unless
that stands in a weight bank (the model's discard, log entry 54), and completes its tag; a failed one marks the line poisoned; where the tag
was taken over since, it is discarded. -/
def Obligations.Gathers : Prop :=
  ∀ (s : State) (t : TileId) (pred : BitVec 2) (a : BitVec 4) (line : BitVec 15) (tag : BitVec 4) (n : Nat) (bs : Bytes)
    (rest : List (Nat × Nat × Option Bytes)), Table.wf {} (s.tile t).gtag = true →
    let x := s.tile t
    let g := Table.get {} x.gtag tag.toNat
    let addr := 128 * ((sreg x a.toNat).toNat + 2 ^ 32 * (sreg x (a.toNat + 1)).toNat)
    (slotReady s t pred.toNat = true → Table.wf false x.linePoison = true → a.getLsbD 0 = false → cacheBank x (bankOf line.toNat) = false →
      s.inTier addr = false →
      Completes (.gath t pred a line tag) s (fun u => OnlyTile t s u ∧ (Table.get {} (u.tile t).gtag tag.toNat).outstanding = false ∧
        Table.get false (u.tile t).linePoison line.toNat = true ∧ (u.tile t).scratch = x.scratch ∧ (u.tile t).v = x.v)) ∧
    (slotReady s t pred.toNat = true → a.getLsbD 0 = false → cacheBank x (bankOf line.toNat) = false → s.inTier addr = true →
      x.cacheBusy = false → cacheHit x addr = none →
      Completes (.gath t pred a line tag) s (fun u => OnlyTile t s u ∧ (u.tile t).scratch = x.scratch ∧ (u.tile t).v = x.v ∧
        Table.get {} (u.tile t).gtag tag.toNat = { outstanding := true, line := line, serial := x.gatherSerial + 1, addr := addr } ∧
        (u.tile t).cacheMissQ = x.cacheMissQ ++ [{ addr := addr, gather := some (tag.toNat, x.gatherSerial + 1) }])) ∧
    (x.gatherReady = (tag.toNat, n, some bs) :: rest → g.outstanding = true → g.serial = n →
      bankUp x (bankOf g.line.toNat) = true → s.bankBusy t (bankOf g.line.toNat) = false →
      Completes (.gatherComplete t tag) s (fun u => OnlyTile t s u ∧ (Table.get {} (u.tile t).gtag tag.toNat).outstanding = false ∧
        (u.tile t).gatherReady = rest ∧ (u.tile t).scratch = if x.weightBank (bankOf g.line.toNat) then x.scratch else
          (writeLine { x with
            bgUses := x.bgUses ++ [bankOf g.line.toNat]
            gatherReady := rest } g.line.toNat bs false).scratch)) ∧
    (x.gatherReady = (tag.toNat, n, some bs) :: rest → g.outstanding = true → g.serial = n →
      s.bankBusy t (bankOf g.line.toNat) = true → exec (.gatherComplete t tag) s = .next s) ∧
    (x.gatherReady = (tag.toNat, n, none) :: rest → g.outstanding = true → g.serial = n → Table.wf false x.linePoison = true →
      Completes (.gatherComplete t tag) s (fun u => OnlyTile t s u ∧ (Table.get {} (u.tile t).gtag tag.toNat).outstanding = false ∧
        (u.tile t).gatherReady = rest ∧ (u.tile t).scratch = x.scratch ∧
        Table.get false (u.tile t).linePoison g.line.toNat = true)) ∧
    (x.gatherReady = (tag.toNat, n, some bs) :: rest → g.outstanding = false ∨ g.serial ≠ n →
      Completes (.gatherComplete t tag) s (fun u => OnlyTile t s u ∧ u.tile t = { x with gatherReady := rest }))

/-! ## The tile instruction set: MXU, VEC, RQU, NET -/

/-- WSET names a set's six banks, and is refused unless they are distinct and none is a cache-mode bank; WRD of a set puts one line of
each of its banks in flight to the staging queue, in set order, while the queue has room. BLD starts the loading block afresh
when it is ready and is discarded when it is not, BLOCK_READY makes a filled block ready, and BSW swaps the blocks or waits. -/
def Obligations.WeightPath : Prop :=
  ∀ (s : State) (t : TileId) (set : BitVec 3) (banks : BitVec 30) (a : BitVec 4) (line : BitVec 10) (fmt : BitVec 4),
    Table.wf noBanks (s.tile t).bankSets = true →
    let x := s.tile t
    let bs := (List.range 6).map (fun i => BitVec.ofNat 5 (banks.toNat / 32 ^ i))
    let ok := bs.Nodup ∧ ∀ b ∈ bs, cacheBank x b.toNat = false
    let l := ((sreg x a.toNat).toNat + line.toNat) % 1024
    let named := Table.get noBanks x.bankSets set.toNat
    (slotReady s t 0 = true → ok → Completes (.wset t set banks) s (fun u => OnlyTile t s u ∧ Table.get noBanks (u.tile t).bankSets set.toNat = bs ∧
      u.tile t = { x with bankSets := (u.tile t).bankSets } ∧
      ∀ k, k ≠ set.toNat → Table.get noBanks (u.tile t).bankSets k = Table.get noBanks x.bankSets k)) ∧
    (slotReady s t 0 = true → ¬ ok → Completes (.wset t set banks) s (fun u => OnlyTile t s u ∧ u.tile t = x)) ∧
    (slotReady s t 0 = true → x.uses = [] → named.Nodup → x.inflight = [] → x.wq.length + 6 ≤ 32 → (∀ b ∈ named, lineReady x (1024 * b.toNat + l) = true) →
      Completes (.wrd t set a line) s (fun u => OnlyTile t s u ∧ (u.tile t).scratch = x.scratch ∧ (u.tile t).wq = x.wq ∧
        ∃ p, (u.tile t).inflight = [p] ∧ p.dest = .staging ∧ p.done = x.cycle + s.lat 7 ∧
          p.value = .lines (named.map (fun b => ((lineRead x (1024 * b.toNat + l)).bytes, false))))) ∧
    (slotReady s t 0 = true → x.blkLoad.ready = true → x.wq = [] → kW fmt.toNat ≠ 0 → Completes (.bld t fmt) s (fun u => OnlyTile t s u ∧
      u.tile t = { (markUse x 0x24) with
        blkLoad := { fmt := fmt, elems := [], poison := x.wqOver, missing := kW fmt.toNat * 64, ready := false, from_ := x.cycle + 1 }
        wqOver := false })) ∧
    (slotReady s t 0 = true → x.blkLoad.ready = false → exec (.bld t fmt) s = .next s) ∧
    (x.blkLoad.missing = 0 → x.blkLoad.from_ ≤ x.cycle ∨ issuing s t = false → Completes (.blockReady t) s (fun u => OnlyTile t s u ∧
      u.tile t = { x with blkLoad := { x.blkLoad with ready := true } })) ∧
    (x.blkLoad.missing ≠ 0 ∨ (x.cycle < x.blkLoad.from_ ∧ issuing s t = true) → exec (.blockReady t) s = .next s) ∧
    (slotReady s t 0 = true → x.blkLoad.ready = true → Completes (.bsw t) s (fun u => OnlyTile t s u ∧
      u.tile t = { x with blkUse := x.blkLoad, blkLoad := x.blkUse })) ∧
    (slotReady s t 0 = true → x.blkLoad.ready = false → Completes (.bsw t) s (fun u => OnlyTile t s u ∧
      u.tile t = { x with bswWait := 1 }))

/-- MUL puts in flight, for each of 64 columns, the exact sum of the K products of its activation slice with the block in use; one more
matrix unit of the region is active in the cycle. ACLR puts zeros in flight to its rows, and AMOV two rows to a vector register. -/
def Obligations.MatrixUnit : Prop :=
  ∀ (s : State) (t : TileId) (pred : BitVec 2) (arow : BitVec 6) (x : BitVec 8) (e : BitVec 10) (fmt : BitVec 4) (j : BitVec 3)
    (init : Bool) (n : BitVec 6) (v : BitVec 5), slotReady s t pred.toNat = true →
    let tl := s.tile t
    let kb := kW tl.blkUse.fmt.toNat
    let k := min (kW fmt.toNat) kb
    let row0 := (if k = 0 then 0 else j.toNat % (kb / k)) * k
    let sl := actSlice tl fmt.toNat x.toNat e.toNat k
    (tl.blkUse.poison = false → sl.2 = false → Table.wf {} s.regions = true →
      Completes (.mul t pred arow x e fmt j init) s (fun u =>
        u = { s with tiles := u.tiles, regions := u.regions } ∧ OtherTiles t s u ∧ OtherRegions t.region.toNat s u ∧
        u.tile t = launched tl .mxu (s.lat 8) (.acc arow) (.mac init ((List.range 64).map (fun c =>
          sumFP ((sl.1.zipIdx).map (fun p => FP.mul p.1 (tl.blkUse.elems.getD ((row0 + p.2) * 64 + c) (.fin false 0 0)))))) false))) ∧
    (arow.toNat + n.toNat + 1 ≤ 64 → Completes (.aclr t pred arow n) s (fun u => OnlyTile t s u ∧ (u.tile t).acc = tl.acc ∧
      (u.tile t).inflight = tl.inflight ++ (List.range (n.toNat + 1)).map (fun i =>
        { id := tl.nextId + i, slot := .mxu, done := tl.cycle + s.lat 8, dest := .acc (arow + BitVec.ofNat 6 i),
          value := .lanes true [] false, pc := BitVec.ofNat 12 tl.nextPc, at_ := tl.cycle }))) ∧
    (arow.getLsbD 0 = false → (Table.get {} tl.acc arow.toNat).poison = false → (Table.get {} tl.acc (arow.toNat + 1)).poison = false →
      Completes (.amov t pred arow v) s (VecResult s t .mxu v (s.lat 9) (fun i =>
        if i < 64 then Table.get 0 (Table.get {} tl.acc arow.toNat).lanes i
        else Table.get 0 (Table.get {} tl.acc (arow.toNat + 1)).lanes (i - 64))))

/-- Each vector instruction computes its lanes from its sources' lanes and puts the 128 results in flight to v[D]; nothing else changes. -/
def Obligations.VectorLanes : Prop :=
  ∀ (s : State) (t : TileId) (pred : BitVec 2) (d a b c : BitVec 5) (imm : BitVec 16), slotReady s t pred.toNat = true →
    vPoison (s.tile t) a.toNat = false → vPoison (s.tile t) b.toNat = false → vPoison (s.tile t) c.toNat = false →
    let x := s.tile t
    let A := fun i => lane x a.toNat i
    let B := fun i => lane x b.toNat i
    let C := fun i => lane x c.toNat i
    let R := fun (i : Instr) (w : Nat → Word) => Completes i s (VecResult s t .vec d (s.lat 10) w)
    R (.vadd t pred d a b) (fun i => fpAdd (fp32 (A i)) (fp32 (B i))) ∧
    R (.vsub t pred d a b) (fun i => fpAdd (fp32 (A i)) (FP.neg (fp32 (B i)))) ∧
    R (.vmul t pred d a b) (fun i => fpMul (fp32 (A i)) (fp32 (B i))) ∧
    R (.vfma t pred d a b c) (fun i => fpFma (fp32 (A i)) (fp32 (B i)) (fp32 (C i))) ∧
    R (.vmax t pred d a b) (fun i => fpMax (fp32 (A i)) (fp32 (B i))) ∧
    R (.vmin t pred d a b) (fun i => fpMin (fp32 (A i)) (fp32 (B i))) ∧
    R (.vcmplt t pred d a b) (fun i => if fpLt (fp32 (A i)) (fp32 (B i)) then 0xFFFFFFFF else 0) ∧
    R (.vsel t pred d a b c) (fun i => if C i = 0 then B i else A i) ∧
    R (.vaddi t pred d a imm) (fun i => fpAdd (fp32 (A i)) (bf16 imm)) ∧
    R (.vmuli t pred d a imm) (fun i => fpMul (fp32 (A i)) (bf16 imm)) ∧
    R (.vbcast t pred d a imm) (fun _ => A (imm.toNat % 128)) ∧
    R (.vrnd t pred d a) (fun i => fpRnd (fp32 (A i))) ∧
    R (.vmov t pred d a) A ∧
    R (.vsc2 t pred d a imm) (fun i => fpScale (fp32 (A i)) (imm.setWidth 8).toInt)

/-- VRSUM and VRMAX reduce by the fixed pairwise tree, level 1 combining lanes 2i and 2i + 1, over 128 lanes or over each half. VEXP, VRCP
and VRSQ put their lanes in flight with the long latency; issued one cycle after the last of their kind, they are discarded and their
destination is marked poisoned.
How VEXP is rounded is the model's choice, log entry 6. -/
def Obligations.VectorReductionsAndFunctions : Prop :=
  ∀ (s : State) (t : TileId) (pred : BitVec 2) (d a : BitVec 5) (imm : BitVec 16), slotReady s t pred.toNat = true →
    vPoison (s.tile t) a.toNat = false →
    let x := s.tile t
    let A := fun i => lane x a.toNat i
    let sum := fun p q => fpAdd (fp32 p) (fp32 q)
    let most := fun p q => fpMax (fp32 p) (fp32 q)
    let T := fun (i : Instr) (w : Nat → Word) => Completes i s (VecResult s t .vec d (2 * s.lat 10) w)
    let close := x.lastLong = some (x.cycle - 1) ∧ 0 < x.cycle
    let R := fun (i : Instr) (f : FP → Word) =>
      (¬ close → Completes i s (fun u => OnlyTile t s u ∧ (u.tile t).lastLong = some x.cycle ∧ ∃ ws : List Word, ws.length = 128 ∧
        (∀ k, k < 128 → ws.getD k 0 = f (fp32 (lane x a.toNat k))) ∧
        { u.tile t with lastLong := x.lastLong, usePc := x.usePc } = launched x .vec (s.lat 11) (.vreg d)
          (.lanes true ((ws.zipIdx).map (fun (p : Word × Nat) => (p.2, p.1))) false))) ∧
      (close → Completes i s (fun u => OnlyTile t s u ∧ u.tile t = launched x .vec (s.lat 11) (.vreg d) (.lanes false [] true)))
    T (.vrsum t pred d a imm) (fun i => if imm.getLsbD 0 then treeVal sum A 6 (i / 64) else treeVal sum A 7 0) ∧
    T (.vrmax t pred d a imm) (fun i => if imm.getLsbD 0 then treeVal most A 6 (i / 64) else treeVal most A 7 0) ∧
    R (.vexp t pred d a) fpExp ∧ R (.vrcp t pred d a) fpRcp ∧ R (.vrsq t pred d a) fpRsq

/-- ROT and IROT take one part of a block at a time, each with its result in flight to v[D] or the pack stream. A part that goes on from the one
before in the last cycle joins the block, and a later part with no block to join stays poisoned; the last part gives every part of the block its rotated elements, or leaves them poisoned when the
block length is not the descriptor's. In which cycle the result of a long block comes is the model's choice, log entry 50. Nothing but the tile and the count of free values changes. -/
def Obligations.Rotations : Prop :=
  ∀ (s : State) (t : TileId) (pred : BitVec 2) (a d : BitVec 5) (fmt mode : BitVec 4) (imm : BitVec 10) (b : RotBlock),
    slotReady s t pred.toNat = true → vPoison (s.tile t) a.toNat = false → (s.tile t).uses = [] → mode.toNat < 7 →
    let x := s.tile t
    let k := mode.toNat + 6
    let parts := if k ≤ 7 then 1 else 2 ^ (k - 7)
    let part := imm.toNat / 32
    let dn := imm.toNat % 32
    let desc := Table.get {} x.rot dn
    let es := b.elems ++ valsOf x a.toNat
    let junk := rotResult (fmt.getLsbD 0) (freeWords s.free 128) true
    let frame := fun (u : State) => u = { s with tiles := u.tiles, free := s.free + 128 } ∧ OtherTiles t s u ∧
      u.tile t = { x with
        uses := (u.tile t).uses
        nextId := x.nextId + 1
        inflight := (u.tile t).inflight
        rotNow := (u.tile t).rotNow }
    let flies := fun (p : Machine.Pending) => p.id = x.nextId ∧ p.slot = .rqu ∧ p.dest = (if fmt.getLsbD 0 then .packStream else .vreg d) ∧
      p.done = x.cycle + max (s.lat 12 + k) parts ∧ p.value = junk
    let goesOn := fun (inverse : Bool) => (part = 0 ∧ b = {}) ∨ (part ≠ 0 ∧ x.rotNow = some b ∧ b.desc = dn ∧ b.mode = mode.toNat ∧
      b.inverse = inverse ∧ b.part + 1 = part ∧ b.cycle + 1 = x.cycle)
    let R := fun (i : Instr) (inverse : Bool) (f : List FP → List Word) => goesOn inverse →
      (part + 1 < parts → Completes i s (fun u => frame u ∧ (∃ p, flies p ∧ (u.tile t).inflight = x.inflight ++ [p]) ∧
        (u.tile t).rotNow = some { desc := dn, mode := mode.toNat, inverse := inverse, part := part, cycle := x.cycle, elems := es, poison := b.poison,
                                   ids := b.ids ++ [x.nextId], pc := x.nextPc })) ∧
      (part + 1 = parts → desc.log2b.toNat ≠ k → Completes i s (fun u => frame u ∧ (u.tile t).rotNow = none ∧
        ∃ p, flies p ∧ (u.tile t).inflight = x.inflight ++ [p])) ∧
      (part + 1 = parts → desc.log2b.toNat = k → Completes i s (fun u => frame u ∧ (u.tile t).rotNow = none ∧
        ∃ p, flies p ∧ (u.tile t).inflight = fillParts b.poison ((b.ids ++ [x.nextId]).zip (chunksOf 128 parts
          (if k = 6 then f (es.take 64) ++ f (es.drop 64) else f es))) (x.inflight ++ [p])))
    let alone := fun (i : Instr) => part ≠ 0 → x.rotNow = none → Completes i s (fun u => frame u ∧ (u.tile t).rotNow = none ∧
      ∃ p, flies p ∧ (u.tile t).inflight = x.inflight ++ [p])
    R (.rot t pred a d fmt mode imm) false (rotBlock desc k) ∧ R (.irot t pred a d fmt mode imm) true (irotBlock desc k) ∧
    alone (.rot t pred a d fmt mode imm) ∧ alone (.irot t pred a d fmt mode imm)

/-- The pack stream, the rounding position and the generator: PFEED appends 128 lanes, PCLR empties the stream, SRSET loads position and
index, SINCOS gives 64 cosine and sine pairs. -/
def Obligations.RquSimple : Prop :=
  ∀ (s : State) (t : TileId) (pred : BitVec 2) (a d : BitVec 5) (mode sr : BitVec 4), slotReady s t pred.toNat = true →
    vPoison (s.tile t) a.toNat = false →
    let x := s.tile t
    Completes (.pfeed t pred a) s (fun u => OnlyTile t s u ∧
      u.tile t = launched x .rqu 1 .packStream (.elems ((lanesOf x a.toNat).map (fun w => (w, false))))) ∧
    Completes (.pclr t pred) s (fun u => OnlyTile t s u ∧ u.tile t = { x with pack := [], packOver := false }) ∧
    (sr.toNat < 14 ∨ (sr = 14 ∧ mode.getLsbD 0 = false) → Completes (.srset t pred mode sr) s (fun u => OnlyTile t s u ∧
      u.tile t = { x with
        srPos := sreg x sr.toNat
        srIdx := sreg x (sr.toNat + 1)
        srStage := if mode.getLsbD 0 then (sreg x (sr.toNat + 2)).setWidth 7 else x.srStage })) ∧
    Completes (.sincos t pred d mode sr) s (fun u => OnlyTile t s u ∧
      u.tile t = launched x .rqu (s.lat 14) (.vreg d)
        (.lanes true (numbered ((List.range 64).flatMap (rotarySlot (Table.get {} x.rotary mode.toNat) (sreg x sr.toNat)))) false))

/-- PACK takes a burst's elements from the head of the stream (zeros, poisoned, where it is short), puts the burst in flight to the egress queue
or to its line, advances the element index when it rounds stochastically, and counts a marked pack; one cycle after the last PACK it is
discarded and its line marked poisoned, or a poisoned burst put in flight in its place (log entry 49: the model's choice). UNPK puts the exact elements of a part of a clean burst in flight to v[D]. -/
def Obligations.PackAndUnpack : Prop :=
  ∀ (s : State) (t : TileId) (pred : BitVec 2) (d : BitVec 5) (fmt mode sr : BitVec 4) (imm : BitVec 10) (sh : FmtShape) (es : List FP),
    slotReady s t pred.toNat = true → fmtShape fmt.toNat = some sh →
    let x := s.tile t
    let l := ((sreg x sr.toNat).toNat + imm.toNat) % 32768
    let draw := if mode.getLsbD 0 then some (x.srPos.toNat, x.srStage.toNat, x.srKey0.toNat, x.srKey1.toNat, x.srIdx.toNat) else none
    let close := x.lastPack = some (x.cycle - 1) ∧ 0 < x.cycle
    let taken := x.pack.take sh.nf
    let burst := packBurst fmt.toNat x.replayRule draw ((taken ++ List.replicate (sh.nf - taken.length) (0, false)).map (fun (q : Word × Bool) => fp32 q.1))
    let poison := decide (x.pack.length < sh.nf) || x.packOver
    let rest := { (markUse x 0x25) with
      pack := x.pack.drop sh.nf
      srIdx := if mode.getLsbD 0 then x.srIdx + BitVec.ofNat 32 sh.nf else x.srIdx
      lastPack := some x.cycle }
    let counted := if mode.getLsbD 2 then markPack rest true fmt.toNat taken burst else rest
    let used := { counted with uses := x.uses ++ [(0x20, Slot.rqu), (bankOf l, Slot.rqu)] }
    let passed := if mode.getLsbD 2 then { x with marked := x.marked + 1 } else x
    (¬ close → mode.getLsbD 1 = true → (∀ p ∈ x.pack, p.2 = false) → Completes (.pack t pred fmt mode sr imm) s (fun u => OnlyTile t s u ∧
      u.tile t = launched counted .rqu (s.lat 13) .egress (.line burst poison))) ∧
    (¬ close → mode.getLsbD 1 = false → (∀ p ∈ x.pack, p.2 = false) → x.uses.any (fun u => u.1 = 0x20) = false →
      x.uses.any (fun u => u.1 = bankOf l) = false → Completes (.pack t pred fmt mode sr imm) s (fun u => OnlyTile t s u ∧
        u.tile t = launched used .rqu (s.lat 13) (.scratch (BitVec.ofNat 15 l)) (.line burst poison))) ∧
    (close → mode.getLsbD 1 = true → Completes (.pack t pred fmt mode sr imm) s (fun u =>
      u = { s with tiles := u.tiles, free := s.free + 32 } ∧ OtherTiles t s u ∧
      u.tile t = launched passed .rqu (s.lat 13) .egress (.line ((freeWords s.free 32).flatMap (fun w => natLE 4 w.toNat)) true))) ∧
    (close → mode.getLsbD 1 = false → Table.wf false x.linePoison = true → Completes (.pack t pred fmt mode sr imm) s (fun u => OnlyTile t s u ∧
      u.tile t = { passed with linePoison := (u.tile t).linePoison } ∧
      ∀ k, Table.get false (u.tile t).linePoison k = if k = l then true else Table.get false x.linePoison k)) ∧
    (lineReady x l = true → decodeLine fmt.toNat (lineRead x l).bytes = some es →
      Completes (.unpk t pred d fmt mode sr imm) s (fun u => OnlyTile t s u ∧ (u.tile t).scratch = x.scratch ∧
        ∃ ws : List Word, ws.length = 128 ∧
          (∀ i, i < 128 → ws.getD i 0 = (((es.drop (128 * (mode.toNat % 8))).map toFP32).getD i 0)) ∧
          ∃ p, (u.tile t).inflight = x.inflight ++ [p] ∧ p.dest = .vreg d ∧ p.done = x.cycle + s.lat 13 ∧
            p.value = .lanes true (numbered ws) false))

/-! ## Tile events: results, flits, cache -/

/-- SEND reads a clean line and injects it as a data flit that lands at the entry's base plus s[S]; SENDQ takes the oldest burst of the
egress queue; with no room in the egress queue the flit is held back and the sequencer waits; COMMIT sends the entry's commit flit with
the present rows of the entry, and nothing while the tile withholds, though it counts as the entry's COMMIT, or again in a stroke; DMA sends
its descriptor to the controller of its first extent, and the tag of a READ is outstanding from then. No scratch byte changes. -/
def Obligations.NetInstructions : Prop :=
  ∀ (s : State) (t : TileId) (pred : BitVec 2) (sr : BitVec 4) (line : BitVec 15) (entry : BitVec 8) (b : Bytes × Bool)
    (rest : List (Bytes × Bool)),
    slotReady s t pred.toNat = true → (s.tile t).uses = [] →
    let x := s.tile t
    let e := Table.get {} x.send entry.toNat
    let l := ((sreg x sr.toNat).toNat + line.toNat) % 32768
    let reach := e.dkind ≠ 3 ∧ s.route t.region.toNat e.dreg.toNat ≠ 15
    let here := fun (f : Flit) => (t.region.toNat, t.x.toNat, t.y.toNat, f)
    let commitFlit : Flit := Flit.mk (sendHead s t e 1)
      (commitBody (Table.get 0 x.sentLines entry.toNat) e.firstRow e.rows (maskRows x.present e.firstRow e.rows))
    let land := (BitVec.ofNat 15 (e.base.toNat + (sreg x sr.toNat).toNat)).setWidth 16
    let d := parseDesc (lineRead x l).bytes
    let body := fun (u : State) => u = { s with tiles := u.tiles, transit := u.transit } ∧ OtherTiles t s u ∧ (u.tile t).scratch = x.scratch
    let sent := sealFlit { head := { sendHead s t e 0 with lineOrCrc := land }, body := (lineRead x l).bytes }
    (reach → x.committed.contains entry = false → lineReady x l = true → Table.wf 0 x.sentLines = true → s.egressRoom t = true →
      Completes (.send t pred sr line entry) s (fun u => body u ∧ u.transit = s.transit ++ [here sent] ∧
        Table.get 0 (u.tile t).sentLines entry.toNat = Table.get 0 x.sentLines entry.toNat + 1)) ∧
    (x.committed.contains entry = false → lineReady x l = true → s.egressRoom t = false →
      Completes (.send t pred sr line entry) s (fun u => body u ∧ u.transit = s.transit ∧ (u.tile t).netWait = 1 ∧
        (u.tile t).netHeld = some sent)) ∧
    (reach → x.committed.contains entry = false → x.egress = b :: rest → b.2 = false → rest.length + (s.atMeshPort t).length < 8 →
      Completes (.sendq t pred sr entry) s (fun u => body u ∧ (u.tile t).egress = rest ∧
        u.transit = s.transit ++ [here (sealFlit { head := { sendHead s t e 0 with lineOrCrc := land }, body := b.1 })])) ∧
    (reach → x.committed.contains entry = false → x.withhold = false → s.egressRoom t = true →
      Completes (.commit t pred entry) s (fun u => body u ∧ (u.tile t).committed = x.committed ++ [entry] ∧
        u.transit = s.transit ++ [here (sealFlit commitFlit)])) ∧
    (x.withhold = true ∨ x.committed.contains entry = true →
      Completes (.commit t pred entry) s (fun u => OnlyTile t s u ∧ (u.tile t).scratch = x.scratch ∧
        (u.tile t).committed = if x.committed.contains entry then x.committed else x.committed ++ [entry])) ∧
    (s.egressRoom t = true → lineReady x l = true → ∀ (a n : Nat), d.extents.head? = some (a, n) → ∀ (c o : Nat), addrChan a = some (c, o) →
      s.route t.region.toNat (edgeRegion (chanEdge c)) ≠ 15 → edgeRegion (chanEdge c) < 64 →
      Completes (.dma t pred sr line) s (fun u => body u ∧ ∃ f, u.transit = s.transit ++ [here f] ∧ f.body = (lineRead x l).bytes ∧
        f.head.dkind = 1 ∧ f.head.dreg = BitVec.ofNat 6 (edgeRegion (chanEdge c)) ∧ f.head.dx = 0 ∧ f.head.kind = 3 ∧
        (d.op = 1 → Table.get {} (u.tile t).gtag (d.tag % 16) =
          { outstanding := true, line := d.line, serial := x.gatherSerial + 1, linesLeft := descLines d, lines := descLines d,
            read := true })))

/-- A result whose latency has ended is written: 128 lanes to a vector register, an exact sum rounded once to an accumulator row, zeros to a
cleared row, a line to an operand-buffer line. No other register of the tile changes. -/
def Obligations.ResultWriteback : Prop :=
  ∀ (s : State) (t : TileId) (p : Machine.Pending), (s.tile t).inflight = [p] → p.done ≤ (s.tile t).cycle →
    Table.wf {} (s.tile t).v = true → Table.wf {} (s.tile t).acc = true → Table.wf {} (s.tile t).opbuf = true →
    let x := s.tile t
    (∀ (d : BitVec 5) (ws : List Word), p.dest = .vreg d → p.value = .lanes true (numbered ws) false → ws.length = 128 →
      Completes (.resultWriteback t) s (fun u => OnlyTile t s u ∧ u.tile t = { x with inflight := [], v := (u.tile t).v } ∧
        (∀ i, i < 128 → lane (u.tile t) d.toNat i = ws.getD i 0) ∧ vPoison (u.tile t) d.toNat = false ∧
        ∀ n, n ≠ d.toNat → Table.get {} (u.tile t).v n = Table.get {} x.v n)) ∧
    (∀ (a : BitVec 6) (init : Bool) (sums : List FP), p.dest = .acc a → p.value = .mac init sums false →
      (Table.get {} x.acc a.toNat).poison = false →
      Completes (.resultWriteback t) s (fun u => OnlyTile t s u ∧ u.tile t = { x with inflight := [], acc := (u.tile t).acc } ∧
        (∀ c, c < 64 → Table.get 0 (Table.get {} (u.tile t).acc a.toNat).lanes c =
          fpAdd (sums.getD c (.fin false 0 0)) (if init then .fin false 0 0 else fp32 (Table.get 0 (Table.get {} x.acc a.toNat).lanes c))) ∧
        ∀ n, n ≠ a.toNat → Table.get {} (u.tile t).acc n = Table.get {} x.acc n)) ∧
    (∀ (a : BitVec 6), p.dest = .acc a → p.value = .lanes true [] false →
      Completes (.resultWriteback t) s (fun u => OnlyTile t s u ∧ u.tile t = { x with inflight := [], acc := (u.tile t).acc } ∧
        (∀ c, Table.get 0 (Table.get {} (u.tile t).acc a.toNat).lanes c = 0) ∧
        ∀ n, n ≠ a.toNat → Table.get {} (u.tile t).acc n = Table.get {} x.acc n)) ∧
    (∀ (n : BitVec 8) (bs : Bytes), p.dest = .opLine n → p.value = .line bs false → bs.length = 128 →
      Completes (.resultWriteback t) s (fun u => OnlyTile t s u ∧ u.tile t = { x with inflight := [], opbuf := (u.tile t).opbuf } ∧
        Table.getList 0 (Table.get {} (u.tile t).opbuf n.toNat).bytes 0 128 = bs ∧
        ∀ k, k ≠ n.toNat → Table.get {} (u.tile t).opbuf k = Table.get {} x.opbuf k))

/-- A scheduled data flit that its tile expects in this stroke, before its due tick, is accepted: its line joins the ingress queue and its
delivery counts one more; one whose number the tile does not expect is discarded and counted as stray; one past its due tick makes
its delivery late. -/
def Obligations.DataFlitArrival : Prop :=
  ∀ (s : State) (t : TileId) (f : Flit) (e : InputEntry), (s.tile t).stage.isSome → f.head.kind = 0 → f.head.sched = true →
    (s.tile t).ingress.length < 8 → f.body.length = 128 →
    let x := s.tile t
    let k := f.head.deliv.toNat
    (inputOf x f.head.deliv = some e → f.head.stroke = s.clk.stroke.setWidth 16 → s.clk.tick.toNat < s.clk.catchTick + e.due.ticks s.clk.len s.clk.fin →
      Table.wf 0 x.gotLines = true →
      Completes (.dataFlitAccept t f) s (fun u => u = { s with tiles := u.tiles, transit := u.transit } ∧ OtherTiles t s u ∧
        (u.tile t).ingress = x.ingress ++ [{ line := f.head.lineOrCrc.setWidth 15, bytes := f.body, poison := f.head.poison }] ∧
        Table.get 0 (u.tile t).gotLines k = Table.get 0 x.gotLines k + 1 ∧ (u.tile t).scratch = x.scratch ∧ (u.tile t).late = x.late)) ∧
    (inputOf x f.head.deliv = none →
      Completes (.dataFlitAccept t f) s (fun u => u = { s with regions := u.regions, transit := u.transit } ∧
        OtherRegions t.region.toNat s u ∧ (Table.wf {} s.regions = true →
          (u.region t.region.toNat).mesh.stray = satAdd (s.region t.region.toNat).mesh.stray 1))) ∧
    (inputOf x f.head.deliv = some e → f.head.stroke = s.clk.stroke.setWidth 16 → s.clk.catchTick + e.due.ticks s.clk.len s.clk.fin ≤ s.clk.tick.toNat →
      Completes (.dataFlitAccept t f) s (fun u => OtherTiles t s u ∧ f.head.deliv ∈ (u.tile t).late ∧ (u.tile t).ingress = x.ingress ∧
        (u.tile t).scratch = x.scratch))

/-- A commit flit that arrives by its due tick with every data flit of its delivery received is on time, with its row mask; a tainted one makes
its delivery late, and DUE_TICK without one too. A control flit joins the tile's control queue. -/
def Obligations.CommitAndControlFlits : Prop :=
  ∀ (s : State) (t : TileId) (f : Flit) (e : InputEntry), (s.tile t).stage.isSome → f.body.length = 128 → crcOk f = true →
    let x := s.tile t
    let k := f.head.deliv.toNat
    (f.head.kind = 1 → inputOf x f.head.deliv = some e → f.head.stroke = s.clk.stroke.setWidth 16 → x.late.contains f.head.deliv = false →
      s.clk.tick.toNat ≤ s.clk.catchTick + e.due.ticks s.clk.len s.clk.fin → leNat (f.body.take 4) = Table.get 0 x.gotLines k → Table.get false x.gotTaint k = false →
      Table.wf none x.onTime = true → f.head.taint = false →
      Completes (.commitFlitArrive t f) s (fun u => OtherTiles t s u ∧ OtherRegions t.region.toNat s u ∧ (u.tile t).late = x.late ∧
        Table.get none (u.tile t).onTime k = some (BitVec.ofNat 576 (leNat ((f.body.drop 8).take 72))) ∧ (u.tile t).scratch = x.scratch)) ∧
    (f.head.kind = 1 → inputOf x f.head.deliv = some e → f.head.stroke = s.clk.stroke.setWidth 16 → f.head.taint = true →
      Completes (.commitFlitArrive t f) s (fun u => OtherTiles t s u ∧ f.head.deliv ∈ (u.tile t).late ∧ (u.tile t).scratch = x.scratch)) ∧
    (∀ d, inputOf x d = some e → s.clk.running = true → Table.get none x.onTime d.toNat = none →
      Completes (.dueTick t d) s (fun u => OtherTiles t s u ∧ d ∈ (u.tile t).late ∧ (u.tile t).scratch = x.scratch)) ∧
    (f.head.kind = 2 → x.ctlQ.length < 16 → x.ctlWait = [] →
      Completes (.controlFlitEnqueue t f) s (fun u => u = { s with tiles := u.tiles, transit := u.transit } ∧ OtherTiles t s u ∧
        (u.tile t).ctlQ = x.ctlQ ++ [f] ∧ (u.tile t).ctlWait = []))

/-- The oldest line of the ingress queue is written to its scratch line once its bank is free, and waits before: the line then reads as the
flit's bytes were stored, and no byte of another line's storage changes. One for a bank that is off or being filled is discarded and counted,
and one that no tier DMA brings to a weight bank is discarded (the model's, log entry 54). -/
def Obligations.LandingWrite : Prop :=
  ∀ (s : State) (t : TileId) (l : Landing) (rest : List Landing),
    let x := s.tile t
    let bank := bankOf l.line.toNat
    let base := physBase x l.line.toNat
    let gone := fun (u : State) => (u.tile t).ingress = rest ∧ (u.tile t).inWait = x.inWait.drop (8 - x.ingress.length) ∧ (u.tile t).v = x.v
    x.ingress ++ x.inWait.take (8 - x.ingress.length) = l :: rest → cacheBank x bank = false → l.bytes.length = 128 → x.canon = true →
    (s.bankBusy t bank = true → exec (.landingWrite t) s = .next s) ∧
    (s.bankBusy t bank = false → bankUp x bank = true → (l.tag = none → x.weightBank bank = false) →
      Completes (.landingWrite t) s (fun u => OnlyTile t s u ∧ gone u ∧ Table.getList 0 (u.tile t).scratch base 128 = l.bytes ∧
        (∀ a, a < base ∨ base + 128 ≤ a → (u.tile t).byte a = x.byte a) ∧
        Table.get false (u.tile t).linePoison l.line.toNat = l.poison)) ∧
    (s.bankBusy t bank = false → bankUp x bank = true → l.tag = none → x.weightBank bank = true →
      Completes (.landingWrite t) s (fun u => OnlyTile t s u ∧ gone u ∧ (u.tile t).scratch = x.scratch)) ∧
    (s.bankBusy t bank = false → bankUp x bank = false →
      Completes (.landingWrite t) s (fun u => OtherTiles t s u ∧ gone u ∧ (u.tile t).scratch = x.scratch ∧
        (u.tile t).discards = satAdd x.discards 1 ∧ (u.tile t).withhold = true))

/-- The cache: a write that hits changes its bytes of the line in the cache and makes it dirty, a read that misses waits for its tier, a fill puts the line
the tier holds into the cache and returns it, and an access outside the tiers is answered with an access fault. -/
def Obligations.CacheAccesses : Prop :=
  ∀ (s : State) (t : TileId) (addr : Nat) (bs : Bytes) (q : CacheReq) (rest : List CacheReq), (s.tile t).cacheBusy = false →
    let x := s.tile t
    let a := addr / 128 * 128
    (s.inTier a = false → Completes (.cacheAccess t addr none) s (fun u => OnlyTile t s u ∧ u.tile t = { x with cacheOut := none })) ∧
    (s.inTier a = true → cacheHit x a = none → Completes (.cacheAccess t addr none) s (fun u => OnlyTile t s u ∧
      u.tile t = { x with misses := satAdd x.misses 1, cacheMissQ := x.cacheMissQ ++ [{ addr := a, byte := addr % 128, write := none }] })) ∧
    (∀ w, s.inTier a = true → cacheHit x a = some w → Table.wf {} x.cacheDir = true →
      let line := cacheScratch w (cacheSet a)
      let held := (lineRead x line).bytes
      bs.length = 128 ∨ ((lineRead x line).fixed = [] ∧ (lineRead x line).bad = []) →
      Completes (.cacheAccess t addr (some bs)) s (fun u =>
        OnlyTile t s u ∧ (cacheLineOf (u.tile t) w (cacheSet a)).dirty = true ∧ (u.tile t).misses = x.misses ∧
          (u.tile t).scratch =
            (writeLine x line (padTo 128 (held.take (addr % 128) ++ bs ++ held.drop (addr % 128 + bs.length))) false).scratch)) ∧
    (∀ w, x.cacheMissQ = q :: rest → q.write = none → q.gather = none → cacheHit x q.addr = none → fillWay x (cacheSet q.addr) = some w →
      (cacheLineOf x w (cacheSet q.addr)).valid = false → Table.wf {} x.cacheDir = true → Table.wf 0 x.victim = true →
      Completes (.cacheFill t false) s (fun u => OnlyTile t s u ∧ (u.tile t).cacheMissQ = rest ∧
        (u.tile t).cacheOut = some (s.tierBytes q.addr 128) ∧
        cacheLineOf (u.tile t) w (cacheSet q.addr) = { tag := cacheTag q.addr, valid := true, dirty := false } ∧
        Table.get 0 (u.tile t).victim (cacheSet q.addr) = (Table.get 0 x.victim (cacheSet q.addr) + 1) % (cacheWays x).length))

/-- Mask changes and whole-cache operations set BUSY, or are refused (a mask change while strokes run with a plan, an operation while BUSY);
they complete by clearing BUSY, with the new mask in force. A mask change still pending when strokes run waits (the model's choice, log
entry 45). -/
def Obligations.CacheControl : Prop :=
  ∀ (s : State) (t : TileId) (mask : BitVec 8), (s.tile t).stage.isSome → s.powered t.region.toNat = true →
    t.y.toNat < regionRows t.region.toNat →
    let x := s.tile t
    let on := fun (u : State) => u = { s with tiles := u.tiles, accessFault := false } ∧ OtherTiles t s u
    ((s.clk.running = false ∨ s.boot.plan = none) → Completes (.cacheMaskWrite t mask) s (fun u => on u ∧
      u.tile t = { x with cacheBusy := true, maskPending := some mask })) ∧
    (s.clk.running = true → s.boot.plan ≠ none → Completes (.cacheMaskWrite t mask) s (fun u => on u ∧ u.tile t = { x with cacheRefused := true })) ∧
    (x.cacheBusy = false → Completes (.cacheOpWriteBack t) s (fun u => on u ∧ u.tile t = { x with cacheBusy := true, cacheOp := 1 }) ∧
      Completes (.cacheOpInvalidate t) s (fun u => on u ∧ u.tile t = { x with cacheBusy := true, cacheOp := 2 }) ∧
      Completes (.cacheOpWriteBackInvalidate t) s (fun u => on u ∧ u.tile t = { x with cacheBusy := true, cacheOp := 3 })) ∧
    (x.cacheBusy = true → Completes (.cacheOpInvalidate t) s (fun u => on u ∧ u.tile t = { x with cacheRefused := true })) ∧
    (x.cacheOp = 2 → x.maskPending = none → x.cacheWait = [] → Completes (.cacheOpComplete t) s (fun u => OnlyTile t s u ∧
      u.tile t = { x with cacheDir := [], cacheOp := 0, cacheBusy := false })) ∧
    (x.maskPending = some mask → s.clk.running = true → s.boot.plan ≠ none → exec (.cacheMaskChangeDone t) s = .next s) ∧
    (x.maskPending = some mask → x.cacheMissQ = [] → x.cacheMask = 0 → x.cacheWait = [] → x.cacheOp = 0 →
      s.clk.running = false ∨ s.boot.plan = none → Completes (.cacheMaskChangeDone t) s (fun u => OnlyTile t s u ∧ (u.tile t).cacheMask = mask ∧ (u.tile t).cacheBusy = false ∧
        (u.tile t).maskPending = none ∧ (u.tile t).scratch = x.scratch))

/-! ## Stored-data protection -/

/-- The scrubber of a bank reads its next line: a clean line joins the page's syndrome and the scrubber goes on; a queued line leaves the queue
as it is written back. A queued page with one flagged word has the word rebuilt from the page code; one without a flag and whose flag a write cleared is
resealed; each counts one more rebuilt page; none of them uses a bank in use. A hard row is copied to the first free spare, which is
recorded; without one the tile is failing: where its column's spare is unused the new map is recorded, else its region is to be lost, by a
clearing easy-all (the number of its cause and its stroke are the model's choice, log entry 43). -/
def Obligations.StoredDataRepair : Prop :=
  ∀ (s : State) (t : TileId) (bank : BitVec 5) (page : Nat) (rest : List (Nat × List Nat × Bool)) (row : Nat) (rows : List Nat),
    (s.tile t).canon = true → Table.wf {} s.regions = true →
    let x := s.tile t
    let b := bank.toNat
    let r := t.region.toNat
    let free := s.bankBusy t b = false
    let full := ∀ i, i < 16 → (Table.get 0 x.remap (16 * b + i)).getLsbD 8 = true
    let q := x.scrubOf b
    let l := 1024 * b + q.line
    let on := fun (u : State) => u = { s with tiles := u.tiles, regions := u.regions, counts := u.counts } ∧ OtherTiles t s u ∧
      OtherRegions r s u ∧ (u.region r).ecc.pagesRebuilt = satAdd (s.region r).ecc.pagesRebuilt 1
    (∀ w c, free → (x.scrubOf b).rebuild = (page, [w], c) :: rest → badWords x b page = [] → w < 128 → Completes (.pageRebuild t bank) s (fun u => on u ∧
      ((u.tile t).scrubOf b).rebuild = rest ∧ (u.tile t).scratch = (setRawWord x (1024 * b + 32 * page + w / 4) (w % 4)
        (rebuildWord (pageWords x b page) w (x.pageCheckOf b page)) (checkBits (rebuildWord (pageWords x b page) w (x.pageCheckOf b page)))).scratch)) ∧
    (free → (x.scrubOf b).rebuild = (page, [], true) :: rest → badWords x b page = [] → Completes (.pageRebuild t bank) s (fun u => on u ∧
      (u.tile t).pageCheckOf b page = pageCheck (pageWords x b page) ∧ (u.tile t).scratch = x.scratch)) ∧
    (¬ free → exec (.pageRebuild t bank) s = .next s ∧ exec (.scrubWriteBack t bank) s = .next s) ∧
    ((x.scrubOf b).hard = row :: rows → full → x.failing = false → s.bypassNext r t.x.toNat = 0xFF → Table.wf 0xFF s.boot.fieldMap = true →
      Completes (.rowRemap t bank) s (fun u => OtherTiles t s u ∧ (u.tile t).failing = true ∧ (u.tile t).scratch = x.scratch ∧
        Table.get 0xFF u.boot.fieldMap (16 * r + t.x.toNat) = BitVec.ofNat 8 (s.physTile t).2)) ∧
    ((x.scrubOf b).hard = row :: rows → full → x.failing = false → s.bypassNext r t.x.toNat ≠ 0xFF → s.boot.plan ≠ none →
      s.clk.running = true → Completes (.rowRemap t bank) s (fun u => OtherTiles t s u ∧ (u.tile t).failing = true ∧
        (u.tile t).scratch = x.scratch ∧ u.boot.tileLost = s.boot.tileLost ++ [r] ∧
        u.clk.named = s.clk.named ++ [{ cause := 1, clearing := true, at_ := some s.nameStroke }])) ∧
    ((x.scrubOf b).hard = row :: rows → row < 256 → (Table.get 0 x.remap (16 * b)).getLsbD 8 = false →
      Completes (.rowRemap t bank) s (fun u => OtherTiles t s u ∧ Table.get 0 (u.tile t).remap (16 * b) = BitVec.ofNat 9 (256 + row) ∧
        u.remapRecord = s.remapRecord ++ [(t.key, b, row, 0)])) ∧
    (scrubReady s t b = true → (lineRead x l).fixed = [] → (lineRead x l).bad = [] → q.line % 32 ≠ 31 → q.rebuilt = [] →
      Completes (.scrubRead t bank) s (fun u => OnlyTile t s u ∧ ((u.tile t).scrubOf b).line = q.line + 1 ∧
        ((u.tile t).scrubOf b).acc = q.acc ^^^ lineSyndrome l (lineRead x l).bytes ∧ (u.tile t).scratch = x.scratch)) ∧
    (scrubReady s t b = false → exec (.scrubRead t bank) s = .next s) ∧
    (∀ n rest, free → q.rewrite = n :: rest → Completes (.scrubWriteBack t bank) s (fun u => OnlyTile t s u ∧
      ((u.tile t).scrubOf b).rewrite = rest ∧ (u.tile t).pageChk = x.pageChk ∧ (u.tile t).v = x.v))

/-- The leaky bucket: BUCKET_LEAK lowers COUNT by one when it is above 0 and the period is not 0; DEPTH written below COUNT sets COUNT to 0
with no overflow, and any other DEPTH leaves COUNT. An access to an unpowered region is an access fault and changes nothing else. -/
def Obligations.LeakyBucket : Prop :=
  ∀ (s : State) (r : BitVec 6) (depth : BitVec 8), Table.wf {} s.regions = true →
    let e := (s.region r.toNat).ecc
    (e.lbPeriod ≠ 0 → e.lbCount ≠ 0 → Completes (.bucketLeak r) s (fun u => OnlyRegion r.toNat s u ∧
      (u.region r.toNat) = { s.region r.toNat with ecc := { e with lbCount := e.lbCount - 1 } })) ∧
    (e.lbPeriod = 0 ∨ e.lbCount = 0 → exec (.bucketLeak r) s = .next s) ∧
    (s.powered r.toNat = true → Completes (.eccLbDepthWrite r depth) s (fun u => OnlyRegion r.toNat s u ∧
      (u.region r.toNat) = { s.region r.toNat with ecc := { e with
        lbDepth := depth
        lbCount := if max 1 depth.toNat < e.lbCount.toNat then 0 else e.lbCount } })) ∧
    (s.powered r.toNat = false → Completes (.eccLbDepthWrite r depth) s (fun u => u = { s with accessFault := true, readOut := none }))

/-- Bank power: an unused bank with no landing write outstanding loses its contents and its power; one in use is refused; a bank that is off
gets power and starts its fill; the fill's end clears FILLING; a forced bank goes off at once and is marked forced. -/
def Obligations.BankPower : Prop :=
  ∀ (s : State) (t : TileId) (bank : BitVec 5), (s.tile t).stage.isSome → s.powered t.region.toNat = true →
    t.y.toNat < regionRows t.region.toNat →
    let x := s.tile t
    let b := bank.toNat
    let on := fun (u : State) => u = { s with tiles := u.tiles, accessFault := false } ∧ OtherTiles t s u
    (x.bankPwr.getLsbD b = true → cacheBank x b = false → x.roleOf b = .unused → landingOutstanding x b = false →
      Completes (.bankPowerDown t bank) s (fun u => on u ∧ (u.tile t).bankPwr.getLsbD b = false ∧
        (∀ i, i ≠ b → (u.tile t).bankPwr.getLsbD i = x.bankPwr.getLsbD i) ∧
        ∀ a, b * 131072 ≤ a → a < (b + 1) * 131072 → (u.tile t).byte a = 0)) ∧
    (x.bankPwr.getLsbD b = true → x.roleOf b ≠ .unused →
      Completes (.bankPowerDown t bank) s (fun u => on u ∧ u.tile t = { x with pwrRefused := true })) ∧
    (x.bankPwr.getLsbD b = false → Completes (.bankPowerUp t bank) s (fun u => on u ∧ (u.tile t).bankPwr.getLsbD b = true ∧
      (u.tile t).filling.getLsbD b = true ∧ bankUp (u.tile t) b = false ∧ ∀ a, b * 131072 ≤ a → a < (b + 1) * 131072 → (u.tile t).byte a = 0)) ∧
    Completes (.bankFillDone t bank) s (fun u => OnlyTile t s u ∧ (u.tile t).filling.getLsbD b = false ∧ (u.tile t).scratch = x.scratch) ∧
    (x.bankPwr.getLsbD b = true → Completes (.bankForceOff t bank) s (fun u => OtherTiles t s u ∧ (u.tile t).bankPwr.getLsbD b = false ∧
      (u.tile t).pwrForced = true ∧ ∀ a, b * 131072 ≤ a → a < (b + 1) * 131072 → (u.tile t).byte a = 0)) ∧
    (x.bankPwr.getLsbD b = false → Completes (.bankForceOff t bank) s (fun u => u = { s with accessFault := false }))

/-- The test window runs its nine modes while no plan is loaded: words written with computed or given check bits, words read checked or raw,
check bytes read and written, a page queued for rebuild, remap entries read and written. Modes 9-15 are refused. -/
def Obligations.TestWindow : Prop :=
  ∀ (s : State) (r : BitVec 6) (x y : BitVec 4) (bank : BitVec 5) (line : BitVec 10) (word : BitVec 2), s.powered r.toNat = true →
    s.boot.plan = none → y.toNat < regionRows r.toNat → Table.wf {} s.tiles = true → Table.wf {} s.regions = true →
    let t : TileId := ⟨r, x, y⟩
    (s.tile t).canon = true →
    let l := 1024 * bank.toNat + line.toNat
    let tl := s.tile t
    let e := (s.region r.toNat).ecc
    let data := fun (u : State) => (u.region r.toNat).ecc.twData
    Completes (.twNormalWrite r x y bank line word) s (fun u => u.tile t = writeWord tl l word.toNat e.twData ∧ OtherTiles t s u) ∧
    Completes (.twRawWrite r x y bank line word) s (fun u => u.tile t = setRawWord tl l word.toNat e.twData e.twCheck ∧ OtherTiles t s u) ∧
    Completes (.twRawRead r x y bank line word) s (fun u => u.tiles = s.tiles ∧ data u = rawWord tl l word.toNat ∧
      (u.region r.toNat).ecc.twCheck = rawCheck tl l word.toNat) ∧
    ((readWord tl l word.toNat).2 = .good → Completes (.twCheckedRead r x y bank line word) s (fun u => u.tiles = s.tiles ∧
      data u = (readWord tl l word.toNat).1 ∧ (u.region r.toNat).ecc.twOutcome = 0)) ∧
    Completes (.twCheckBytesRead r x y bank line) s (fun u => u.tiles = s.tiles ∧ data u = tl.pageCheckOf (bankOf l) (pageOf l)) ∧
    Completes (.twCheckBytesWrite r x y bank line) s (fun u => (u.tile t).pageCheckOf (bankOf l) (pageOf l) = e.twData ∧ OtherTiles t s u ∧
      (u.tile t).scratch = tl.scratch) ∧
    ((tl.scrubOf (bankOf l)).rebuild = [] → cacheBank tl (bankOf l) = false → Completes (.twQueueRebuild r x y bank line word) s (fun u =>
      OtherTiles t s u ∧ ((u.tile t).scrubOf (bankOf l)).rebuild = [(pageOf l, [pageWord l word.toNat], false)])) ∧
    Completes (.twRemapRead r x y bank line) s (fun u => u.tiles = s.tiles ∧
      (data u).toNat % 512 = (Table.get 0 tl.remap (16 * bankOf l + l % 16)).toNat) ∧
    Completes (.twRemapWrite r x y bank line) s (fun u => OtherTiles t s u ∧
      Table.get 0 (u.tile t).remap (16 * bankOf l + l % 16) = e.twData.setWidth 9) ∧
    (∀ mode : BitVec 4, 9 ≤ mode.toNat → Completes (.twReservedMode r mode) s (fun u => OnlyRegion r.toNat s u ∧
      (u.region r.toNat).ecc.twRefused = true ∧ u.tiles = s.tiles))

/-- SEQ_PATCH_GO with no patch staged stages the bundle of SEQ_PATCH_D0-D7 at its address: while the sequencer runs it waits, else it is
in the program store at once, with good check bits, and the repair of a bundle with an error is counted; while a patch is staged the write is refused. -/
def Obligations.ProgramPatch : Prop :=
  ∀ (s : State) (t : TileId) (addr : BitVec 12), (s.tile t).stage.isSome → s.powered t.region.toNat = true →
    t.y.toNat < regionRows t.region.toNat → Table.wf 0 (s.tile t).prog = true → Table.wf none (s.tile t).progChk = true →
    Table.wf 0 (s.tile t).progRepairs = true →
    let x := s.tile t
    let on := fun (u : State) => u = { s with tiles := u.tiles, accessFault := false } ∧ OtherTiles t s u
    (x.patchGo = false → x.run = true → Completes (.seqPatchGo t addr) s (fun u => on u ∧
      u.tile t = { x with patchAddr := addr, patchGo := true, patchStaged := x.patchD })) ∧
    (x.patchGo = false → x.run = false → Completes (.seqPatchGo t addr) s (fun u => on u ∧ (u.tile t).patchGo = false ∧
      Table.get 0 (u.tile t).prog addr.toNat = x.patchD ∧ Table.get none (u.tile t).progChk addr.toNat = none ∧
      Table.get 0 (u.tile t).progRepairs addr.toNat =
        (if Table.get none x.progChk addr.toNat = none then Table.get 0 x.progRepairs addr.toNat
         else Table.get 0 x.progRepairs addr.toNat + 1) ∧
      (∀ k, k ≠ addr.toNat → Table.get 0 (u.tile t).prog k = Table.get 0 x.prog k) ∧
      (u.tile t).s = x.s ∧ (u.tile t).scratch = x.scratch)) ∧
    (x.patchGo = true → Completes (.seqPatchGo t addr) s (fun u => on u ∧ u.tile t = { x with patchRefused := true }))

/-! ## Strokes, checks and modes -/

/-- The stroke clock. CATCH ends the stroke and begins the next at the present tick; FINISH closes and mirrors; RESUME_TICK is the first catch
after easy-all, with the stroke, S, F and step named; the arm register takes a stroke at least 4 ahead and refuses another; the low
words read with the upper half latched; HALT names holding easy-all; the lane table moves to the entry of its tick and takes a new
window. -/
def Obligations.StrokeClock : Prop :=
  ∀ (s : State) (r : BitVec 6) (v : Word), Table.wf {} s.regions = true →
    let g := s.region r.toNat
    let ahead := (v.toNat % 2 ^ 24 + 2 ^ 24 - s.clk.stroke.toNat % 2 ^ 24) % 2 ^ 24
    let good := 4 ≤ ahead ∧ ahead < 2 ^ 23
    (s.clk.running = true → s.clk.ticking = true → s.clk.named = [] → (∀ q, (s.region q).clk.umpHit = false) →
      Completes .catch_ s (fun u => u.clk.stroke = s.clk.stroke + 1 ∧ u.clk.running = true ∧ u.clk.easy = 0 ∧ u.clk.finished = false ∧
        u.clk.catchTick = u.clk.tick.toNat)) ∧
    (s.clk.running = true → s.clk.finished = false → Completes .finish s (fun u => u.clk.finished = true ∧ u.ring = [] ∧
      u.host.mirror = u.dict ∧ u.host.mirrorBlobs = u.blobs ∧ u.mode.mirrorVec = u.mode.vec)) ∧
    (∀ e, s.clk.running = false → s.clk.ticking = true → s.clk.resume = some e → Completes .resumeTick s (fun u => u.clk.running = true ∧
      u.clk.easy = 0 ∧ u.clk.begun = true ∧ u.clk.stroke = BitVec.ofNat 48 e.stroke ∧ u.clk.catchTick = u.clk.tick.toNat)) ∧
    (s.powered r.toNat = true → Completes (.clkStrokeArm r v) s (fun u => OnlyRegion r.toNat s u ∧
      (u.region r.toNat).clk = { g.clk with
        armAt := v.setWidth 24
        armStep := (v >>> 24).setWidth 4
        armDone := g.clk.armDone && !v.getLsbD 30
        arm := v.getLsbD 31 && decide good
        armRefused := g.clk.armRefused || (v.getLsbD 31 && !decide good) })) ∧
    (s.powered r.toNat = true → Completes (.clkTickLoRead r) s (fun u => OnlyRegion r.toNat s u ∧ u.readOut = some (s.clk.tick.setWidth 32) ∧
      u.region r.toNat = { g with clk := { g.clk with tickHi := (s.clk.tick >>> 32).setWidth 32 } })) ∧
    (s.powered r.toNat = true → Completes (.clkStrokeLoRead r) s (fun u => OnlyRegion r.toNat s u ∧ u.readOut = some (s.clk.stroke.setWidth 32) ∧
      u.region r.toNat = { g with clk := { g.clk with strokeHi := (s.clk.stroke >>> 32).setWidth 16 } })) ∧
    (s.clk.running = true → Completes (.halt 1) s (fun u => u = { s with clk := { s.clk with
      named := s.clk.named ++ [{ cause := 10, clearing := false, at_ := some s.nameStroke }] } })) ∧
    (∀ w, s.clk.ticking = true → w = (s.region 0).clk.window s.clk.tick.toNat → w ≠ 0 → s.clk.tick.toNat + w < 2 ^ 64 →
      Completes .laneEntryAdvance s (fun u => u.clk.tick.toNat = (s.clk.tick.toNat / w + 1) * w ∧
        u = { s with now := u.now, clk := { s.clk with tick := u.clk.tick } })) ∧
    (s.clk.ticking = true → s.clk.tick.toNat < g.clk.winAt → g.clk.winAt < 2 ^ 64 →
      Completes (.laneWindowApply r) s (fun u => u.clk.tick.toNat = g.clk.winAt ∧
        u = { s with now := u.now, clk := { s.clk with tick := u.clk.tick } } ∧
        (u.region r.toNat).clk.window u.clk.tick.toNat = g.clk.laneWin.toNat))

/-- The sampled check and the modes. The check flit of a tile goes once to seat (1, 0) of its stage's home region with the two sums; the
referee judges each stage once a stroke, and a stage all of whose due flits came in with a sum within the threshold loses its run of
crabs; a verdict flit sets the tile's verdict bits; the mode vector of the next stroke reaches every region, while a plan is loaded. -/
def Obligations.CheckAndModes : Prop :=
  ∀ (s : State) (t : TileId) (f : Flit) (stage : BitVec 7) (crew : Crew) (k : StageCheck), s.clk.running = true →
    Table.wf {} s.regions = true →
    let x := s.tile t
    let home := crewHome crew
    let w0 := BitVec.ofNat 32 (stage.toNat + 128 * b2n x.chkPoison + 256 * b2n x.heldNow + 65536 * x.seat)
    let g := ctlFlit t 2 ⟨BitVec.ofNat 6 home, 1, 0⟩ s.clk.stroke true 1 [w0, s.clk.stroke.setWidth 32, x.sumErr, x.sumRef]
    (x.stage = some stage.toNat → s.crewOf stage.toNat = some crew → home < 64 → s.route t.region.toNat home ≠ 15 → x.chkEn = true →
      x.checkSent = false → x.chkSend.toNat ≤ x.cycle → Completes (.checkFlitSend t) s (fun u =>
        u = { s with tiles := u.tiles, transit := u.transit } ∧ OtherTiles t s u ∧ u.tile t = { x with checkSent := true } ∧
        u.transit = s.transit ++ [(t.region.toNat, t.x.toNat, t.y.toNat, g)])) ∧
    (s.crewOf stage.toNat = some crew → s.checkOf stage.toNat = some k → k.stage = stage.toNat →
      (s.region home).ref.judged.contains stage.toNat = false → s.judge k crew = .good → s.isMember = false →
      (∀ p, s.boot.plan = some p → ∀ c ∈ p.crews, crewHome c = home → c.stage = stage.toNat) → Table.wf 0 s.mode.crabRun = true →
      Completes (.refereeVerdict stage) s (fun u => u.tiles = s.tiles ∧ (u.region home).ref.judged.contains stage.toNat = true ∧
        Table.get 0 u.mode.crabRun stage.toNat = 0 ∧ (u.region home).ref.crabs = (s.region home).ref.crabs)) ∧
    (f.head.kind = 2 → f.body.getD 0 0 = 2 → crcOk f = true → x.stage = some stage.toNat → x.cycle ≤ x.verdictRead →
      bits (flitWord f 0) 2 7 = stage.toNat → bits (flitWord f 0) 0 2 = 1 → flitWord f 1 = s.clk.stroke.setWidth 32 →
      x.ctlQ.length < 16 → x.ctlWait = [] → Completes (.verdictFlitArrive t f) s (fun u =>
        u = { s with tiles := u.tiles, transit := u.transit } ∧ OtherTiles t s u ∧
        u.tile t = { x with
          ctlQ := x.ctlQ ++ [f]
          crab := true
          granted := true
          replayRule := true })) ∧
    (s.boot.plan ≠ none → s.clk.begun = true → Completes .modeVectorSend s (fun u => u = { s with regions := u.regions } ∧
      ∀ r, r < 64 → (u.region r).ref.next = some (s.nextVec (s.clk.stroke + 1))))

/-! ## Serving -/

/-- The messages of the token service, on a connection that takes them: a whole REQUEST that passes every check joins the queue with its
tokens; CANCEL marks its request, or is answered where there is none; PARK and HAND_OFF of a generating request make it parking; a
whole RESUME of a parked or retained request joins the queue in its next turn with its tokens appended. -/
def Obligations.TokenMessages : Prop :=
  ∀ (s v : State) (a : Arrival) (r : Request),
    let opens := fun (i : Instr) (type len : Nat) => (s.keep i).opened a type len = some v
    let m := requestOf a.unit
    let id := BitVec.ofNat 64 (leNat ((a.unit.drop 16).take 8))
    let tag := leNat ((a.unit.drop 6).take 2)
    let kind := leNat ((a.unit.drop 24).take 1)
    let serial := BitVec.ofNat 128 (leNat ((a.unit.drop 32).take 16))
    let whole := m.promptOffset = 0 ∧ m.promptCount = m.promptTotal ∧ m.tokens.length = m.promptCount ∧ m.promptCount ≠ 0
    (opens (.request a) 1 (requestLength m) → v.req m.requestId = none → v.dictNat 0x301004 + 1 ≤ v.freeEntries → v.freeEntries ≠ 0 → whole →
      v.admitCheck m m.tokens m.promptTotal = none → Completes (.request a) s (fun u => ∃ q, u.req m.requestId = some q ∧
        q.state = .queued ∧ q.tokens = m.tokens ∧ q.cls = m.cls ∧ q.joined = s.now ∧ q.tag = tag)) ∧
    (opens (.cancel a) 4 32 → v.req id = some r → Completes (.cancel a) s (fun u => u = v.setReq { r with cancel := true })) ∧
    (opens (.cancel a) 4 32 → v.req id = none → Completes (.cancel a) s (fun u => u = v.notice tag id 0 5 0)) ∧
    (opens (.park a) 5 32 → v.req id = some r → r.cancel = false → r.state = .generating → Completes (.park a) s (fun u =>
      u = v.setReq { r with state := .parking, parkStroke := some v.clk.stroke })) ∧
    (opens (.resume a) 6 (requestLength m) → v.req m.requestId = some r → r.state = .retained ∨ r.state = .parked → r.parts = [] →
      r.resumePar = none → whole → v.admitCheck m m.tokens (r.tokens.length + m.tokens.length) = none →
      m.adapter = (r.par.map (fun p => p.adapter)).getD 0 → Completes (.resume a) s (fun u => ∃ q, u.req m.requestId = some q ∧
        q.state = .queued ∧ q.turn = r.turn + 1 ∧ q.tokens = r.tokens ++ m.tokens ∧ q.committed = [] ∧ q.par = some { m with tokens := [] } ∧
        q.tag = tag)) ∧
    (opens (.handOff a) 7 56 → kind = 0 → v.req id = some r → r.state = .generating → v.isPartner serial = true →
      Completes (.handOff a) s (fun u => u = v.setReq { r with state := .parking, moveTo := some serial }))

/-- The timers of requests and of connections: parts not completed and a request queued too long end it; aging moves a request up one
class; a hand-off confirmed frees its entry and one that failed leaves it parked; a connection without requests that is idle, and one
that stays detached, go. A timer acts at its deadline or later. -/
def Obligations.TokenTimers : Prop :=
  ∀ (s : State) (id : BitVec 64) (r : Request) (tag : BitVec 16) (c : Conn), Table.wf none s.serve.conns = true →
    (s.req id = some r → r.parts ≠ [] → r.state = .receiving → Completes (.partTimeout id) s (fun u => u.req id = none)) ∧
    (s.req id = some r → r.parts ≠ [] → r.state ≠ .receiving → Completes (.partTimeout id) s (fun u =>
      u.req id = some { r with parts := [], resumePar := none })) ∧
    (s.req id = some r → r.state = .queued → s.dictNat 0x301006 ≠ 0 → r.atHead = false → Completes (.queueTimeout id) s (fun u =>
      u.req id = none ∧ r.joined + s.dictNat 0x301006 * msTicks ≤ u.now)) ∧
    (s.req id = some r → r.state = .queued → s.dictNat 0x301005 ≠ 0 → r.cls ≠ 0 → Completes (.classAging id) s (fun u =>
      u.req id = some { r with cls := r.cls - 1, clsMs := r.clsMs + s.dictNat 0x301005 } ∧ u.tiles = s.tiles)) ∧
    (∀ serial, s.serve.moves.find? (fun m => m.1 = id) = some (id, serial) → s.req id = some r →
      Completes (.handOffConfirm id 0) s (fun u => u.req id = none ∧ ∀ m ∈ u.serve.moves, m.1 ≠ id) ∧
      ∀ n, n ≠ 0 → Completes (.handOffConfirm id n) s (fun u => u.req id = some { r with state := .parked } ∧
        ∀ m ∈ u.serve.moves, m.1 ≠ id)) ∧
    (∀ ip port, s.conn tag.toNat = some c → c.endpoint = some (.udp ip port) → s.requestsOf tag.toNat = [] →
      Completes (.udpIdleTimeout tag) s (fun u => ∃ e, u.conn tag.toNat = some e ∧ e.endpoint = none ∧ e.outbox = [] ∧
        (c.lastMs + 1000 * s.dictNat 0x300006) * msTicks ≤ u.now)) ∧
    (s.conn tag.toNat = some c → c.endpoint = none → Completes (.detachTimeout tag) s (fun u => u.conn tag.toNat = none ∧
      ∀ q ∈ s.requestsOf tag.toNat, q.state = .generating ∨ q.state = .queued → u.req q.id = none))

/-- Cox decides the rows of an entry stroke once, before the finish of the one before it, and adds no row of another stroke; a committed token is appended to its request; poisoned
logits withhold it, and logits with no valid one end the request. -/
def Obligations.PlanningAndTokens : Prop :=
  ∀ (s : State) (id : BitVec 64) (p : Plan) (r : Request) (q : Pass) (m : RequestMsg) (logits : List Word) (n : Nat),
    s.boot.plan = some p →
    let due := fun (x : Pass) => x.id = id && x.sampled && !x.lost && s.passLive x && decide ((x.entry + p.commitOffset) % 2 ^ 48 = s.strokeNat)
    (s.nextPlanned = some n → s.isMember = false → s.serve.t.planned ≠ some n → p.entryPhases.contains (n % p.passLength) = true → Completes .entryStrokePlanning s (fun u =>
      u.serve.t.planned = some n ∧ ∀ x ∈ u.serve.t.passes, x ∈ s.serve.t.passes ∨ x.entry = n)) ∧
    (s.clk.running = true → s.req id = some r → s.serve.t.passes.find? due = some q → r.par = some m →
      (Completes (.tokenCommit id logits true) s (fun u => u.req id = some r ∧
        u.serve.t.passes = s.serve.t.passes.map (fun x => if x = q then { x with lost := true } else x))) ∧
      (∀ k, sampleToken logits m.topK m.temperature m.topP m.minP m.seed r.turn r.committed.length = some k →
        (m.stopIds.take m.stopCount).contains (BitVec.ofNat 32 k) = false → r.committed.length + 1 ≠ r.maxNew →
        r.tokens.length + 1 ≠ s.contextLimit → r.state = .generating →
        Completes (.tokenCommit id logits false) s (fun u => ∃ y, u.req id = some y ∧ y.tokens = r.tokens ++ [BitVec.ofNat 32 k] ∧
          y.committed.length = r.committed.length + 1 ∧ y.state = .generating ∧ u.serve.tokensNow = s.serve.tokensNow + 1)) ∧
      (sampleToken logits m.topK m.temperature m.topP m.minP m.seed r.turn r.committed.length = none →
        Completes (.tokenCommit id logits false) s (fun u => u.req id = none)))

/-- The boathouse: a retained sequence that is idle parks to the module tier, an entry too old there moves to flash, one too old in flash is
discarded (or either goes where its tier's share is exceeded), and a resumed entry whose pages are back leaves the boathouse. -/
def Obligations.Boathouse : Prop :=
  ∀ (s : State) (id : BitVec 64) (r : Request) (b : BoatEntry), s.req id = some r →
    (r.state = .retained → s.boot.plan ≠ none → Completes (.idleTimeExpiry id) s (fun u => u.req id = none ∨
      ∃ q, u.req id = some q ∧ q.state = .parked ∧ q.boat.isSome ∧ q.sets = [] ∧ q.slot = none ∧ q.tokens = r.tokens)) ∧
    (r.state = .parked → r.boat = some b → b.flash = false → s.dictNat 0x312003 ≠ 0 → Completes (.moduleTtlExpiry id) s (fun u =>
      u.req id = none ∨ ∃ q e, u.req id = some q ∧ q.boat = some e ∧ e.flash = true ∧ q.tokens = r.tokens)) ∧
    (r.state = .parked → r.boat = some b → b.flash = true → Completes (.flashTtlExpiry id) s (fun u => u.req id = none ∧
      ∀ j, j ≠ id → u.req j = s.req j)) ∧
    (r.boat = some b → r.copying = true → r.state ≠ .retained → (b.blocks - r.sets.length - r.reserved) * s.layers ≤ s.slotsFree →
      Completes (.resumeCopyComplete id) s (fun u => ∃ q, u.req id = some q ∧ q.boat = none ∧ q.copying = false ∧
        q.sets.length = r.sets.length + (b.blocks - r.sets.length) ∧ q.tokens = r.tokens ∧ q.state = r.state))

/-! ## Weights and adapters -/

/-- A swap from its request to its end: SWAP_REQUEST begins it with the source record that its 48 bytes spell, SWAP_CANCEL ends it with
result 8, the manifest is kept with the content key or refused with its code, a shard whose tag is good is opened and kept and a failed one is
asked for again until the third failure ends the load with 5, staging names the switch stroke, the switch halts strokes, a drain ends the
active sequences, and the refill puts the image in service or ends with 9 or 7. -/
def Obligations.WeightSwap : Prop :=
  ∀ (s : State) (value : Bytes) (r : SourceRecord) (m : Manifest) (l : Load) (shard : BitVec 20) (record : Bytes) (got : Option Bytes)
    (n k : Nat) (p : Plan) (s1 : State) (img : Image),
    let asked := parseSource false value
    let i := shard.toNat
    let lead := s.dictNat 0x230007
    let earliest := s.clk.stroke.toNat + lead
    let atStroke := if r.stroke = 0 || laterMod 48 earliest r.stroke then (s.clk.stroke + BitVec.ofNat 48 lead).toNat else r.stroke
    let loading := s.weights.load = some l
    let held := ((s.flashImage l).bind (fun f => Table.get none f.records i)).getD record
    (value.length = 48 → sourceOk asked = true → asked.policy ≤ 2 → asked.flags ≤ 1 → asked.targetSlot ≤ 7 → s.loadBusy = false →
      s.boot.plan ≠ none → asked.kind = 0 → Table.get none s.weights.slots asked.slot ≠ none →
      Completes (.swapRequest value) s (fun u => u.istatus = 0 ∧ u.weights.state = 3 ∧
        u.weights.load = some { kind := .swap, src := some asked } ∧ u.serve.drained = (s.serve.drained || decide (asked.policy = 0)))) ∧
    (value.length ≠ 48 → Completes (.swapRequest value) s (fun u => u = { s with istatus := 4 })) ∧
    (s.swapping = true → Completes (.swapCancel 1) s (fun u => u.istatus = 0 ∧ u.weights.load = none ∧ u.weights.result = 8 ∧
      u.weights.epoch = s.weights.epoch ∧ u.tiles = s.tiles)) ∧
    (loading → l.man = none → l.kind = .swap → s.manifestIn l got = some m → Completes (.manifestReceive got) s (fun u =>
      match s.manifestFault l m with
      | none => ∃ y, u.weights.load = some y ∧ y.man = some m ∧ y.key = (s.ident.contentKey m).getD [] ∧ y.opened = l.opened ∧ y.kind = l.kind
      | some c => u.weights.load = none ∧ u.weights.result = c ∧ u.tiles = s.tiles)) ∧
    (loading → l.man = none → l.kind = .swap → got = none → Completes (.manifestReceive got) s (fun u =>
      u.weights.load = none ∧ u.weights.result = 1 ∧ u.tiles = s.tiles)) ∧
    (loading → l.man = some m → i < m.shards.length → l.kind = .swap → s.ingressUp = true → s.keepsShard m i = true →
      Table.get 0 l.fails i < 2 → Table.wf 0 l.fails = true → Completes (.shardRecordReceive shard record) s (fun u =>
        match openShard l.key m i held with
        | some bs => u = (s.broadcast 2 i held).updLoad (fun y => { y with
            opened := Table.put none y.opened i (some (chunksOf 128 (bs.length + 1) bs))
            records := Table.put none y.records i (some held)
            again := y.again.filter (fun j => j ≠ i) })
        | none => ∃ y, u.weights.load = some y ∧ Table.get 0 y.fails i = Table.get 0 l.fails i + 1 ∧ y.opened = l.opened)) ∧
    (loading → l.man = some m → i < m.shards.length → s.ingressUp = false → Completes (.shardRecordReceive shard record) s (fun u =>
      u = s.broadcast 2 i held)) ∧
    (loading → l.man = some m → i < m.shards.length → Table.get none l.opened i = none → Table.get 0 l.fails i = 2 →
      Completes (.shardTimeout shard) s (fun u => u.weights.load = none ∧ u.weights.result = 5)) ∧
    (loading → l.src = some r → l.kind = .swap → l.staged = false → s.loadComplete l = true → s.stagedBad l r = false →
      Completes .stagingComplete s (fun u =>
      u.weights.state = 4 ∧ u.weights.swapStroke = atStroke ∧ u.weights.load = some { l with
        staged := true
        stagedMs := s.ms
        switchAt := some atStroke })) ∧
    (loading → l.src = some r → l.man = some m → l.switchAt = some n → l.staged = true → l.refilling = false →
      (if r.policy = 0 then ∀ q ∈ s.serve.t.reqs, q.active = false
       else s.clk.running = false ∨ laterMod 48 n (s.clk.stroke + 1).toNat = false) →
      Completes .swapSwitch s (fun u => u.weights.state = 5 ∧
        u.clk.running = false ∧ ∃ y, u.weights.load = some y ∧ y.refilling = true ∧ y.man = some m)) ∧
    (loading → l.src = some r → r.policy = 0 → l.staged = true → l.refilling = false → s.dictNat 0x230008 ≠ 0 →
      Completes .drainTimeout s (fun u => ∀ q ∈ u.serve.t.reqs, q.active = false)) ∧
    (loading → l.src = some r → l.man = some m → l.refilling = true → s.boot.plan = some p →
      Completes (.switchRefillComplete true) s (fun u => u.weights.load = none ∧ u.weights.result = 9 ∧ u.weights.epoch = s.weights.epoch) ∧
      (s.placeImage p m l.opened = some s1 → Completes (.switchRefillComplete false) s (fun u => u.weights.load = none ∧
        u.weights.result = 0 ∧ u.weights.newEpoch = some (m.epoch, m.imageId) ∧ u.weights.copyMan = some m ∧
        u.weights.roundingKey = m.roundingKey)) ∧
      (s.placeImage p m l.opened = none → Completes (.switchRefillComplete false) s (fun u => u.weights.load = none ∧
        u.weights.result = 7 ∧ u.weights.epoch = s.weights.epoch))) ∧
    (s.weights.committing = some (k, img) → s.weights.newEpoch = none → Table.wf none s.weights.slots = true →
      Completes .slotCommitComplete s (fun u => u.weights.committing = none ∧ Table.get none u.weights.slots k = some img ∧
        ∀ j, j ≠ k → Table.get none u.weights.slots j = Table.get none s.weights.slots j))

/-- Adapters: a registration of an image in a flash slot is refused with its code, or joins the list with its image, one no request names
leaves it, and one a queued request names becomes resident while fewer than the limit are, once its shards open. -/
def Obligations.Adapters : Prop :=
  ∀ (s : State) (value b : Bytes) (i : Image) (a : Adapter) (id : Word),
    let w := s.weights
    let r := parseSource false value
    (value.length ≠ 32 → Completes (.adapterRegister value (some b)) s (fun u => u = { s with istatus := 4 })) ∧
    (value.length = 32 → sourceOk r = true → r.kind = 0 → Table.get none w.slots r.slot = some i → w.adapters.length < 1024 →
      (∀ x ∈ w.adapters, x.id ≠ i.man.adapterId) → Completes (.adapterRegister value (some b)) s (fun u =>
        u = { s with
          istatus := 0
          weights := match s.adapterFault r i.man with
            | some c => { w with result := c }
            | none => { w with
              result := 0
              adapters := w.adapters ++ [{ id := i.man.adapterId, epoch := i.man.epoch, rank := i.man.adapterRank, image := some i }] } })) ∧
    (id ≠ 0 → (∃ a ∈ w.adapters, a.id = id) → (∀ q ∈ s.serve.t.reqs, q.adapter = id → q.state = .parked) →
      Completes (.adapterUnregister id) s (fun u => u.istatus = 0 ∧ u.weights.adapters = w.adapters.filter (fun a => a.id ≠ id))) ∧
    ((∃ q ∈ s.serve.t.reqs, q.state = .queued ∧ q.adapter = id) → w.adapters.find? (fun x => x.id = id && !x.resident) = some a →
      (w.adapters.filter (fun a => a.resident)).length < min 256 (s.dictNat 0x313003) →
      a.size + (w.adapters.filter (fun a => a.resident)).foldl (fun n a => n + a.size) 0 ≤ s.adapterArea → Completes (.adapterResident id) s (fun u =>
        u.serve = s.serve ∧ u.weights.adapters = match s.adapterOpened a with
          | none => w.adapters
          | some t => w.adapters.map (fun x => if x.id = id then { x with resident := true, used := s.now + 1, opened := t } else x)))

/-! ## Memory tiers and flash -/

/-- The tier controllers carry out descriptors that nothing refuses: a READ's lines join the tile's ingress queue, which takes 8 and keeps
the rest waiting, on its tag unless a gather holds that tag (for a scheduled READ: unless it does not own the tag any more), a WRITE whose lines
are all there stores exactly its extent, a COPY stores at its destination what its extent held, and the completion of the oldest
leaves the controller's list and reaches the issuer when it asked for it. -/
def Obligations.TierDescriptors : Prop :=
  ∀ (s : State) (edge : BitVec 4) (f : Flit) (erased : List Nat) (ls : List (Bytes × Bool)) (a k : Nat) (w : Nat × DoneDesc),
    let e := edge.toNat
    let d := parseDesc f.body
    let fit := s.portGated (edgeRegion e) 0 = false ∧ crcOk f = true ∧ s.fenceHolds e d f = false ∧ s.descLate f = false ∧
      s.descRefusal e d = none
    let plain := Table.wf 0 s.tier.mem = true ∧ d.extents = [(a, k)] ∧ ∀ c, s.codedPages c = 0
    let t := descTile d f
    let v := s.readChecks d.extents erased
    let g := Table.get {} (s.tile t).gtag (d.tag % 16)
    let mine := if f.head.sched then g.outstanding = true ∧ g.read = true ∧ g.line = d.line else (g.outstanding = true → g.read = true)
    let room := if (v.tile t).inWait = [] then 8 - (v.tile t).ingress.length else 0
    let issuer : TileId := ⟨w.2.flit.head.sreg, w.2.flit.head.sx, w.2.flit.head.sy⟩
    let dw := parseDesc w.2.flit.body
    let answer := ctlFlit ⟨BitVec.ofNat 6 (edgeRegion e), 0, 0⟩ (if w.2.flit.head.dkind = 2 then 2 else 0) issuer 0 false 4
      [BitVec.ofNat 32 (dw.tag + 256 * b2n w.2.refused), 0, 0, 0]
    let taken := { s.tier with done := eraseFirst (fun v => decide (v = w)) s.tier.done }
    (fit → d.op = 1 → Completes (.dmaRead edge f erased) s (fun u => OtherTiles t v u ∧ u.tier.mem = v.tier.mem ∧
      (∃ ls : List Landing, ls = ((v.extentLines d.extents).zipIdx).map (fun p =>
          ({ line := d.line + BitVec.ofNat 15 p.2
             bytes := p.1
             poison := (s.lostLines d.extents erased).getD p.2 false
             tag := if mine then some (d.tag % 16) else none
             serial := g.serial } : Landing)) ∧
        (u.tile t).ingress = (v.tile t).ingress ++ ls.take room ∧ (u.tile t).inWait = (v.tile t).inWait ++ ls.drop room) ∧
      (mine → Table.wf {} (v.tile t).gtag = true → Table.get {} (u.tile t).gtag (d.tag % 16) = { g with
        outstanding := true
        line := d.line
        linesLeft := descLines d
        lines := descLines d
        read := true }) ∧ (¬ mine → (u.tile t).gtag = (v.tile t).gtag))) ∧
    (fit → plain → d.op = 2 → (∀ w ∈ s.tier.waiting, w.2.flit ≠ f) → ls.length = k → (∀ l ∈ ls, l.2 = false ∧ l.1.length = 128) →
      Completes (.dmaWrite edge f ls) s (fun u => u = { s with tier := { s.tier with mem := u.tier.mem, done := s.tier.done ++ [(e, { flit := f })] } } ∧
        (∀ j, j < k → u.tierBytes (a + 128 * j) 128 = (ls.getD j ([], false)).1) ∧
        ∀ b, b < a ∨ a + 128 * k ≤ b → u.tierByte b = s.tierByte b)) ∧
    (fit → plain → d.op = 3 → f.head.sched = false → (∀ b ∈ erased, b < a ∨ a + 128 * k ≤ b) →
      Completes (.dmaCopy edge f erased) s (fun u => u = { s with tier := { s.tier with mem := u.tier.mem, done := s.tier.done ++ [(e, { flit := f })] } } ∧
        (∀ j, j < 128 * k → u.tierByte (d.dest + j) = s.tierByte (a + j)) ∧
        ∀ b, b < d.dest ∨ d.dest + 128 * k ≤ b → u.tierByte b = s.tierByte b)) ∧
    (s.tier.done.find? (fun x => x.1 = e) = some w → dw.notify = false → Completes (.dmaComplete edge) s (fun u => u = { s with tier := taken })) ∧
    (s.tier.done.find? (fun x => x.1 = e) = some w → dw.notify = true → edgeRegion e < 64 → s.route (edgeRegion e) issuer.region.toNat ≠ 15 →
      Completes (.dmaComplete edge) s (fun u => u = { s with
        tier := taken
        transit := s.transit ++ [(edgeRegion e, 0, 0, answer)] }))

/-- Coded pages, the patrol and flash: a whole-page read of a page that is not coded or whose check holds changes nothing, one erased stack
word is rebuilt in place, the patrol moves on, pages that enter the coded range read zero, and flash read errors are counted, a block
retired at an unreadable codeword. -/
def Obligations.TierProtection : Prop :=
  ∀ (s : State) (chan : BitVec 6) (page w : Nat) (erased : List Nat) (count : BitVec 25) (fc : BitVec 5) (die : Bool) (block pg : Nat)
    (cw : BitVec 2) (m : Nat), Table.wf 0 s.tier.mem = true → Table.wf 0 s.tier.coded = true → Table.wf 0 s.tier.patrol = true →
    Table.wf 0 s.tier.rebuilt = true → Table.wf 0 s.tier.flashRetries = true → Table.wf 0 s.tier.flashSoft = true →
    let c := chan.toNat
    let n := s.codedPages c
    let at_ := chanBase c + 4096 * page + 32 * w
    let r := edgeRegion (chanEdge c)
    let b := if c < 32 then c % 2 else 2 + c % 2
    let entering := fun a => chanBase c + 4096 * n ≤ a ∧ a < chanBase c + 4096 * count.toNat
    let used := fun (u : State) => Table.get 0 u.tier.flashRetries fc.toNat = satAdd (Table.get 0 s.tier.flashRetries fc.toNat) 1
    (s.isCoded c page = false → exec (.tierPageRead chan page erased 0) s = .next s) ∧
    (s.isCoded c page = false → m ≠ 0 → Table.wf 0 s.tier.corrected = true → Completes (.tierPageRead chan page erased m) s (fun u =>
      Table.get 0 u.tier.corrected c = satAdd (Table.get 0 s.tier.corrected c) m ∧ u.tier.mem = s.tier.mem)) ∧
    (c < 32 → pageCheck (s.tierPageWords c page) = s.tierCheck c page → exec (.tierPageRead chan page [] 0) s = .next s) ∧
    (c < 32 → s.isCoded c page = true → w < 128 → Completes (.tierPageRead chan page [w] m) s (fun u =>
      u.tierBytes at_ 32 = natLE 32 (rebuildWord (s.tierPageWords c page) w (s.tierCheck c page)).toNat ∧
      (∀ a, a < at_ ∨ at_ + 32 ≤ a → u.tierByte a = s.tierByte a) ∧
      Table.get 0 u.tier.rebuilt c = satAdd (Table.get 0 s.tier.rebuilt c) 1)) ∧
    (n ≠ 0 → Completes (.tierPatrol chan erased m) s (fun u => Table.get 0 u.tier.patrol c = (Table.get 0 s.tier.patrol c % n + 1) % n ∧
      u.tier.coded = s.tier.coded)) ∧
    (s.powered r = true → s.blockReady r b = true → count.toNat ≤ (if c < 32 then 23255813 else 15503875) →
      Completes (.codedPagesWrite chan count) s (fun u => u = { s with tier := u.tier, accessFault := false } ∧ u.codedPages c = count.toNat ∧
        (∀ q, q ≠ c → u.codedPages q = s.codedPages q) ∧ (∀ a, entering a → u.tierByte a = 0) ∧
        (count.toNat ≤ n → u.tier.mem = s.tier.mem))) ∧
    Completes (.flashCodewordRead fc die block pg cw 1 .other) s (fun u => used u ∧ u.tier.retired = s.tier.retired ∧ u.tier.mem = s.tier.mem) ∧
    (s.tier.softOnce.contains (fc.toNat, b2n die, block) = false → Completes (.flashCodewordRead fc die block pg cw 2 .other) s (fun u => used u ∧
      Table.get 0 u.tier.flashSoft fc.toNat = satAdd (Table.get 0 s.tier.flashSoft fc.toNat) 1 ∧
      u.tier.softOnce = s.tier.softOnce ++ [(fc.toNat, b2n die, block)] ∧ u.tier.retired = s.tier.retired)) ∧
    Completes (.flashCodewordRead fc die block pg cw 3 .other) s (fun u => used u ∧ u.tier.retired.contains (fc.toNat, b2n die, block) = true)

/-! ## Mesh and seams -/

/-- A flit whose head fails parity is discarded and counted; while strokes run a good one moves one hop along logical x, then y, unless it
stands at its source tile behind another that its tile issued before it; at the
region's exit it crosses into the queue of its channel, and a flit in a queue goes on into the region, a SCHED flit ahead of a lane-0 flit that is not. A released side is open. A data
flit that reaches a tensor link's port waits there for its flow, its destination rewritten from the remote delivery table. -/
def Obligations.MeshTransport : Prop :=
  ∀ (s : State) (r : BitVec 6) (x y : BitVec 4) (f g : Flit) (side : Side) (ch : BitVec 6) (rest rest' : List Flit) (q p : Nat),
    Table.wf {} s.regions = true →
    let n := r.toNat
    let here := (n, x.toNat, y.toNat, f)
    let gone := eraseFirst (fun e => decide (e = here)) s.transit
    let tg := s.regionTarget n x.toNat y.toNat f.head
    let source : TileId := ⟨f.head.sreg, f.head.sx, f.head.sy⟩
    let behind := (r, x, y) = (f.head.sreg, f.head.sx, f.head.sy) ∧ f ∈ s.atMeshPort source ∧ (s.atMeshPort source).head? ≠ some f
    let j := 6 * p + f.head.dx.toNat - 8
    let entry := Table.get 0 (s.link j).remote f.head.deliv.toNat
    let sent := sealFlit { f with head := redirect entry f.head }
    let mine := fun (h : Flit) => decide (h.head.deliv = sent.head.deliv)
    let packed := (s.link j).packing.filter (fun h => !mine h) ++
      (s.link j).packing.filter (fun h => mine h && decide (h.head.stroke = sent.head.stroke)) ++ [sent]
    let out := s.route n f.head.dreg.toNat - 1
    let back := opposite out
    let c := seamChannel n q x.toNat y.toNat out f.head
    let d := s.seam q back
    let moved := fun a b => Completes (.flitReceive r x y f) s (fun u => u = { s with transit := gone ++ [(n, a, b, f)] })
    let e := channelEntry n (sideNat side) ch.toNat
    let here' := s.seam n (sideNat side)
    (parityOk f.head = false → Completes (.flitReceive r x y f) s (fun u => u = { s with regions := u.regions, transit := gone } ∧
      OtherRegions n s u ∧ (u.region n).mesh.parity = satAdd (s.region n).mesh.parity 1)) ∧
    (parityOk f.head = true → s.clk.running = true → behind → exec (.flitReceive r x y f) s = .next s) ∧
    (parityOk f.head = true → s.clk.running = true → ¬ behind → (x.toNat < tg.1 → moved (x.toNat + 1) y.toNat) ∧
      (tg.1 < x.toNat → moved (x.toNat - 1) y.toNat) ∧ (x.toNat = tg.1 → y.toNat < tg.2 → moved x.toNat (y.toNat + 1)) ∧
      (x.toNat = tg.1 → tg.2 < y.toNat → moved x.toNat (y.toNat - 1))) ∧
    (parityOk f.head = true → s.clk.running = true → ¬ behind → tg = (x.toNat, y.toNat) → f.head.dreg ≠ r → neighbour n out = some q → d.hold = false →
      (s.seam n out).hold = false → f.head.lane ≠ 0 → (Table.get [] d.main c).length < 28 → Table.wf [] d.main = true →
      Table.wf {} (s.region q).mesh.sides = true → Completes (.flitReceive r x y f) s (fun u =>
        u = { s with regions := u.regions, transit := gone } ∧ OtherRegions q s u ∧ (u.seam q back).lane0 = d.lane0 ∧
        Table.get [] (u.seam q back).main c = Table.get [] d.main c ++ [f])) ∧
    (parityOk f.head = true → s.clk.running = true → ¬ behind → tg = (x.toNat, y.toNat) → f.head.dreg = r → f.head.dkind = 1 →
      edgeIndex n = some p → 8 ≤ f.head.dx.toNat → f.head.dx.toNat ≤ 13 → s.portGated n f.head.dx.toNat = false → entry.getLsbD 16 = true →
      f.head.kind = 0 → Completes (.flitReceive r x y f) s (fun u => u = { s with transit := gone, links := u.links } ∧ OnlyLink j { s with transit := gone } u ∧
        u.link j = { s.link j with packing := packed })) ∧
    (Table.get [] here'.lane0 ch.toNat = f :: rest → Table.wf [] here'.lane0 = true → Table.wf {} (s.region n).mesh.sides = true →
      (Table.get [] here'.main ch.toNat = [] ∨ f.head.sched = true) → Completes (.seamCreditReturn r side ch true) s (fun u => u = { s with regions := u.regions, transit := s.transit ++ [(n, e.1, e.2, f)] } ∧
        OtherRegions n s u ∧ Table.get [] (u.seam n (sideNat side)).lane0 ch.toNat = rest ∧
        (u.seam n (sideNat side)).main = here'.main)) ∧
    (Table.get [] here'.main ch.toNat = f :: rest → Table.get [] here'.lane0 ch.toNat = g :: rest' → f.head.sched = true →
      g.head.sched = false → s.clk.running = true → Table.wf [] here'.main = true → Table.wf {} (s.region n).mesh.sides = true →
      Completes (.seamCreditReturn r side ch true) s (fun u => u = s) ∧
      Completes (.seamCreditReturn r side ch false) s (fun u => u = { s with regions := u.regions, transit := s.transit ++ [(n, e.1, e.2, f)] } ∧
        OtherRegions n s u ∧ Table.get [] (u.seam n (sideNat side)).main ch.toNat = rest ∧
        (u.seam n (sideNat side)).lane0 = here'.lane0)) ∧
    (neighbour n (sideNat side) = some q → s.clk.easy ≠ 0 → s.powered n = true → s.powered q = true → (s.region n).loop.lock = true →
      (s.region q).loop.lock = true → Table.wf {} (s.region n).mesh.sides = true → Completes (.seamRelease r side) s (fun u =>
        OnlyRegion n s u ∧ (u.seam n (sideNat side)).hold = false ∧ (u.seam n (sideNat side)).main = [] ∧
        (u.seam n (sideNat side)).lane0 = []))

/-! ## Tensor links -/

/-- What a link receives: codewords are judged, and their blocks that fail a check are counted; a flow header names the landings of the
blocks that follow, a block becomes a data flit at the tile under the port, a good trailer the commit flit, with TAINT when its flow is
tainted, a segment joins its object, an ACK releases words, and a word without its ACK is sent again. -/
def Obligations.LinkReceive : Prop :=
  ∀ (s : State) (k : BitVec 7) (bs : List (BitVec 4 × Bytes)) (b data : Bytes) (ds : List Bytes) (w : FlowIn) (c : BulkContent) (sw : SentWord)
    (ws : List SentWord), (s.link k.toNat).state = 2 →
    let n := k.toNat
    let l := s.link n
    let only := fun (i : Instr) (l' : Link) => Completes i s (fun u => OnlyLink n s u ∧ u.link n = l')
    let fails := (bs.filter (fun e => decide (7 ≤ e.1.toNat) || ((e.1 = 4 || e.1 = 5) && !blockCrcOk e.2))).length
    let h := bulkHeaderOf b
    let old := (l.bulk.find? (fun e => e.kind = h.kind && e.object = h.object.toNat)).getD
      { kind := h.kind, object := h.object.toNat, total := h.total }
    let part := (ds.flatMap id).take (segmentBytes h)
    let new : BulkIn := { old with
      got := Table.put 0 old.got h.segment (segmentBytes h)
      data := Table.put [] old.data h.offset part }
    let tainted := l.flow.any (fun v => v.taint)
    let head := { w.head with
      lineOrCrc := w.lines.getD w.done 0
      poison := decide (w.done < 48) && w.poison.getLsbD w.done
      taint := w.head.taint || w.taint || l.badNow }
    let f := trailerFlit b
    let f' := if tainted && crcOk f then sealFlit { f with head := { f.head with taint := true } } else f
    only (.codewordReceive k 0 bs) { l with crcFail := satAdd l.crcFail fails, badRun := 0, badNow := false } ∧
    only (.codewordReceive k 1 bs)
      { l with corrected := satAdd l.corrected 1, crcFail := satAdd l.crcFail fails, badRun := 0, badNow := false } ∧
    (l.flow = none → l.badRun < 7 → only (.codewordReceive k 2 bs)
      { l with uncorrectable := satAdd l.uncorrectable 1, badRun := l.badRun + 1, badNow := true }) ∧
    (l.badNow = false → only (.flowHeaderReceive k b) { l with flow := some { head := headOf b
                                                                              left := fieldNat b 12 1
                                                                              poison := BitVec.ofNat 48 (fieldNat b 14 6)
                                                                              lines := (List.range 48).map (fun j => BitVec.ofNat 16 (fieldNat b (20 + 2 * j) 2))
                                                                              taint := tainted } }) ∧
    (l.flow = some w → w.left ≠ 0 → s.route (linkRegion n) w.head.dreg.toNat ≠ 15 → Completes (.flowDataBlock k data) s (fun u =>
      u.link n = { l with flow := some { w with left := w.left - 1, done := w.done + 1 } } ∧
      u.transit = s.transit ++ [(linkRegion n, w.head.dx.toNat, 0, { head := withParity head, body := padTo 128 data })] ∧ u.tiles = s.tiles)) ∧
    (l.badNow = false → blockCrcOk b = true → s.route (linkRegion n) f.head.dreg.toNat ≠ 15 → Completes (.flowTrailerReceive k b) s (fun u =>
      u.link n = { l with flow := none } ∧ u.transit = s.transit ++ [(linkRegion n, f.head.dx.toNat, 0, f')] ∧ u.tiles = s.tiles)) ∧
    (l.badNow = false → blockCrcOk b = false → only (.flowTrailerReceive k b) { l with flow := none, crcFail := satAdd l.crcFail 1 }) ∧
    (l.badNow = false → blockCrcOk b = true → 2 < h.kind → new.got.foldl (fun n e => n + e.2) 0 < h.total → only (.bulkSegment k b ds c)
      { l with bulk := l.bulk.filter (fun e => !(e.kind = h.kind && e.object = h.object.toNat)) ++ [new] }) ∧
    (blockCrcOk b = false → only (.bulkSegment k b ds c) { l with crcFail := satAdd l.crcFail 1 }) ∧
    (l.badNow = false → blockCrcOk b = true → fieldNat b 0 1 = 2 → sw.seq = wordAck b → l.unacked = sw :: ws → l.waiting = [] →
      only (.ackOnly k b) { l with unacked := ws }) ∧
    (l.unacked = sw :: ws → sw.resends < 8 → Completes (.controlWordResend k) s (fun u => u.link n = { l with
      retries := satAdd l.retries 1
      unacked := { sw with resends := sw.resends + 1 } :: ws
      out := l.out ++ [.block 4 (wordBlock sw.seq l.ack sw.word)] } ∧ u.tiles = s.tiles))

/-- The sequenced control words of a regatta and a pair, each taken next in order: a halt asks for holding easy-all at the next catch, a resume
names the resume tick, a stake the first catch, a stroke change arms every region, a mode report ends a run of crabs or tells of a refusal,
a mode change is kept for its stroke, a re-request sends the shard record again, a NAK the segment, an ACK of a batch empties the ring, a
probe is answered and its reply measured, and a takeover makes this module the standby. A block that fails its check changes nothing,
and a word out of order nothing but the ACK it brings and the one it gets.
What becomes of a word out of order is the model's choice, log entry 25; where the fields of a word stand, log entry 61. -/
def Obligations.ControlWords : Prop :=
  ∀ (s : State) (k : BitVec 7) (b : Bytes) (st trip : Nat) (agrees prefers : Bool) (phase : BitVec 6),
    let n := k.toNat
    let v := s.wordTaken n (wordSeq b) (wordAck b)
    let next := fun (kind : Nat) => blockCrcOk b = true ∧ fieldNat b 0 1 = kind ∧ s.wordNext n (wordSeq b) = true
    let l := v.link n
    (blockCrcOk b = false → ∀ c ∈ [Instr.hail k b agrees prefers, .ackOnly k b, .heartbeat k b, .haltWord k b, .resumeWord k b, .stake k b,
      .strokeChange k b, .modeReport k b, .modeChange k b, .shardRerequest k b, .bulkNak k b, .bulkAck k b, .delayProbe k b trip,
      .takeover k b, .strokeMarker k b phase], exec c s = .next s) ∧
    (blockCrcOk b = true → fieldNat b 0 1 = 11 → wordSeq b ≠ nextSeq (s.link n).ack → (s.link n).state = 2 → (s.link n).badNow = false →
      Completes (.bulkNak k b) s (fun u => u = (s.updLink n (ackWords (wordAck b))).sendWord n .ack)) ∧
    (next 4 → v.inRegatta = true → v.clk.running = true → (∀ e ∈ v.clk.named, e.at_ ≠ none) →
      Completes (.haltWord k b) s (fun u => u.links.haltStroke = laterOf v.links.haltStroke (wordStroke b 24).toNat ∧
        u.clk.named = v.clk.named ++ [{ cause := 10, clearing := false, at_ := none }])) ∧
    (next 5 → v.isMember = true → v.links.parent = some n → v.clk.running = false →
      laterMod 48 v.links.haltStroke (wordStroke b 21).toNat = false → v.clk.causes = [] →
      Completes (.resumeWord k b) s (fun u => u.clk.resume = some { tick := fieldNat b 8 8
                                                                    len := (wordLen b 16).toNat
                                                                    fin := (wordFin b 16).toNat
                                                                    step := (wordStep b 16).toNat
                                                                    stroke := (wordStroke b 21).toNat } ∧
        u.links.period = u.dictNat 0x610004)) ∧
    (next 6 → v.isMember = true → v.links.parent = some n → v.clk.running = false → v.boot.filled_ = true → v.clk.causes = [] →
      Completes (.stake k b) s (fun u => u.boot.staked = true ∧ u.links.aligned = false ∧
        u.links.stake = some (fieldNat b 8 8, fieldNat b 16 8, (wordStroke b 24).toNat, (wordLen b 32).toNat, (wordFin b 32).toNat,
          (wordStep b 32).toNat) ∧
        u.clk.resume = some { tick := fieldNat b 16 8
                              len := (wordLen b 32).toNat
                              fin := (wordFin b 32).toNat
                              step := (wordStep b 32).toNat
                              stroke := (wordStroke b 24).toNat })) ∧
    (next 7 → v.isMember = true → Table.wf {} s.regions = true → Completes (.strokeChange k b) s (fun u =>
      u.tiles = s.tiles ∧ ∀ r ∈ v.planRegions, v.powered r = true → (u.region r).clk.armAt = (wordStroke b 8).setWidth 24 ∧
        (u.region r).clk.armStep = wordStep b 16 ∧ (u.region r).clk.nextLen = wordLen b 16 ∧ (u.region r).clk.nextFin = wordFin b 16)) ∧
    (next 8 → v.isRoot = true → st < 128 → reportPairs b = [(st, 0)] → Table.wf 0 s.mode.crabRun = true → Completes (.modeReport k b) s (fun u =>
      Table.get 0 u.mode.crabRun st = 0 ∧ ∀ i, i ≠ st → Table.get 0 u.mode.crabRun i = Table.get 0 s.mode.crabRun i)) ∧
    (next 8 → v.isRoot = true → v.fixedPolicy = false → st < 128 → reportPairs b = [(st, 2)] → Completes (.modeReport k b) s (fun u =>
      u.mode.changes = s.mode.changes ++ [{ stroke := v.modeStroke, stage := none, count := v.dictNat 0x211003 }])) ∧
    (next 9 → v.isMember = true → v.fixedPolicy = false → Completes (.modeChange k b) s (fun u => u.mode.changes = s.mode.changes ++
      (List.range 128).filterMap (fun i => if (BitVec.ofNat 128 (fieldNat b 16 16)).getLsbD i then
        some { stroke := wordStroke b 8, stage := some i, count := v.dictNat 0x211002 } else none) ++
      (if fieldNat b 32 2 = 0 then [] else [{ stroke := wordStroke b 8, stage := none, count := fieldNat b 32 2 }]))) ∧
    (next 9 → v.isMember = true → v.fixedPolicy = true → Completes (.modeChange k b) s (fun u => u.mode = s.mode)) ∧
    (next 10 → v.isMember = false → v.weights.load ≠ none → fieldNat b 12 1 < 3 → Completes (.shardRerequest k b) s (fun u =>
      u.weights.load = s.weights.load ∧ (u.link n).out = l.out ++ objectOut 2 (fieldNat b 8 4) (s.recordHeld (fieldNat b 8 4)))) ∧
    (next 11 → fieldNat b 8 1 ≠ 2 → Completes (.bulkNak k b) s (fun u =>
      u = v.updLink n (fun l => { l with out := l.out ++ v.segmentAgain (fieldNat b 8 1) (fieldNat b 9 8) (fieldNat b 17 4) }))) ∧
    (next 12 → fieldNat b 8 1 = 3 → Completes (.bulkAck k b) s (fun u =>
      u.links.mirror = v.links.mirror.filter (fun e => laterMod 48 e.stroke (fieldNat b 9 8)) ∧ u.tiles = s.tiles)) ∧
    (next 13 → fieldNat b 9 1 = 1 → l.state = 1 → l.trips.length < 16 → Completes (.delayProbe k b trip) s (fun u =>
      u = v.updLink n (fun l => { l with trips := l.trips ++ [trip - fieldNat b 10 4] }))) ∧
    (next 13 → fieldNat b 9 1 ≠ 1 → Completes (.delayProbe k b trip) s (fun u => u.free = s.free + 1 ∧ u.tiles = s.tiles)) ∧
    (next 14 → wordSerial b = v.pairSerial → v.links.pairState ≠ 0 → l.pair = true → Completes (.takeover k b) s (fun u =>
      u.links.pairState = 4 ∧ u.clk.running = false ∧ u.serve.t.reqs = []))

/-- Training, hails and markers: a link that falls trains again and forgets its words, one measured by 16 probes comes up with its delay
published, and training starts afresh at its time limit; a hail goes out and one received enters the partner table; a marker goes to
every member, agrees with the counter or, at a stake, sets it; markers that stop coming for four periods end the alignment; a lost
partner is forgotten once its hold time has passed.
The operands of a hail beside its block are the model's choice, log entry 26. -/
def Obligations.LinkTraining : Prop :=
  ∀ (s : State) (k : BitVec 7) (b : Bytes) (agrees prefers : Bool) (phase : BitVec 6) (two : Bool)
    (serial : BitVec 128) (p : Partner),
    let n := k.toNat
    let l := s.link n
    let h := hailIn b
    let m := markerIn b
    let up := l.en = true ∧ (l.state = 1 ∨ l.state = 2)
    let few := (l.downs.filter (fun t => s.ms < t + 60000)).length < s.dictNat 0x600005
    let fell := fun (u : State) => (u.link n).state = 1 ∧ (u.link n).unacked = [] ∧ (u.link n).flow = none ∧ (u.link n).genAct = 0 ∧
      (u.link n).flaps = satAdd l.flaps 1 ∧ (u.link n).published = 0xFFFF
    let cls := ((s.blob 0x600002).getD n 0).toNat
    let want := ((s.blob 0x600003).getD n 0).toNat
    let gen := if two && want ≠ 1 then 2 else 1
    let exact := (l.trips.foldl max 0 + 1) / 2
    let error : Int := 64 * (s.clk.tick.toNat : Int) + phase.toNat - (64 * (m.tick.toNat : Int) + l.exact_.toNat)
    let heard := s.isMember = true ∧ blockCrcOk b = true ∧ s.links.parent = some n ∧ l.state = 2 ∧ l.badNow = false ∧
      m.regattaId = s.links.regattaId ∧ s.clk.ticking = true
    (up → few → Completes (.linkDown k) s fell) ∧
    (up → few → s.powered (linkRegion n) = true → Completes (.linkRetrain k) s fell) ∧
    (l.state = 1 → 16 ≤ l.trips.length → (want = 2 → gen = 2) → exact ≤ s.delayLimit cls gen * 64 → Completes (.linkTrained k two) s (fun u =>
      (u.link n).state = 2 ∧ (u.link n).genAct = BitVec.ofNat 2 gen ∧ (u.link n).exact_ = BitVec.ofNat 16 exact ∧
      (u.link n).published = BitVec.ofNat 16 (ceilDiv exact 64 + 2))) ∧
    (l.state = 1 → Completes (.trainingTimeout k) s (fun u => u.link n = { l with trips := [], trainMs := u.ms } ∧ u.tiles = s.tiles ∧
      (l.trainMs + (if cls = 2 then 200 else 100)) * msTicks ≤ u.now)) ∧
    (l.state = 2 → s.mayWord n 1 = true → Completes (.hailSend k) s (fun u =>
      u = s.updLink n (fun l => { l with out := l.out ++ [.block 4 (wordBlock 0 l.ack (.hail (s.hailOf n)))] }))) ∧
    (l.state = 2 → l.badNow = false → blockCrcOk b = true → fieldNat b 0 1 = 1 → n < 96 → s.links.partners.length < 96 →
      (∀ q, s.partnerOn n = some q → q.hail.serial = h.serial) →
      Completes (.hail k b agrees prefers) s (fun u => (u.link n).peer = h.link.setWidth 7 ∧
        ∃ q ∈ u.links.partners, q.hail = h ∧ q.links.getLsbD n = true ∧ q.state = s.partnerState h)) ∧
    (s.isRoot = true → s.clk.ticking = true → s.clk.tick.toNat + max 1 s.links.period < 2 ^ 64 → Completes .markerSend s (fun u =>
      u.clk.tick.toNat % max 1 s.links.period = 0 ∧ s.clk.tick.toNat < u.clk.tick.toNat ∧
      ∃ e : Marker, e.tick = u.clk.tick ∧ e.stroke = s.clk.stroke ∧ e.hop = BitVec.ofNat 8 s.links.hop ∧ e.easy = BitVec.ofNat 8 s.clk.easy ∧
        e.regattaId = s.links.regattaId ∧ ∀ j ∈ s.memberLinks, (u.link j).out = (s.link j).out ++ [.block 5 (markerBlock e)])) ∧
    (heard → s.links.stake = none → -64 ≤ error → error ≤ 64 → Completes (.strokeMarker k b phase) s (fun u => u.links.alignErr = error ∧
      u.links.badMarkers = 0 ∧ u.links.aligned = true ∧ u.links.markerAt = s.now ∧ (u.link n).marker = true ∧ u.clk.tick = s.clk.tick)) ∧
    (heard → s.links.stake ≠ none → s.links.aligned = false → s.clk.running = false → Completes (.strokeMarker k b phase) s (fun u =>
      u.clk.tick = m.tick + BitVec.ofNat 64 (l.exact_.toNat / 64) ∧ u.clk.stroke = m.stroke ∧ u.links.aligned = true ∧ u.links.stake = none)) ∧
    (s.isMember = true → s.links.aligned = true → Completes .markerTimeout s (fun u => u.links.aligned = false ∧ u.links.badMarkers = 0 ∧
      s.links.markerAt + 4 * s.links.period ≤ u.now)) ∧
    (s.links.partners.find? (fun q => q.hail.serial = serial) = some p → p.state = .lost → p.links = 0 →
      Completes (.partnerHoldExpiry serial) s (fun u => (∀ q ∈ u.links.partners, q.hail.serial ≠ serial) ∧ u.tiles = s.tiles ∧
        (p.lostMs + s.dictNat 0x601003) * msTicks ≤ u.now))

/-- A pair: heartbeats go out on every link of the pair, one received ends the run of misses, a period without one adds to it, and too many
make a ready standby active; a resynchronisation that is complete makes the standby ready, with the tables it brought. -/
def Obligations.PairHeartbeat : Prop :=
  ∀ (s : State) (k : BitVec 7) (b : Bytes) (t : BatchContent),
    let n := k.toNat
    let standby := s.links.pairState = 4 ∨ s.links.pairState = 5
    (s.links.pairState ≠ 0 → Completes .heartbeatSend s (fun u => u.tiles = s.tiles ∧ u.links.pairState = s.links.pairState ∧
      ∀ j ∈ s.pairLinks, s.mayWord j 3 = true →
        (u.link j).out = (s.link j).out ++ [.block 4 (wordBlock 0 (s.link j).ack (.heartbeat s.links.sentBatch))])) ∧
    ((s.link n).state = 2 → (s.link n).pair = true → (s.link n).badNow = false → blockCrcOk b = true → fieldNat b 0 1 = 3 →
      Completes (.heartbeat k b) s (fun u => u.links.beat = true ∧ u.links.misses = 0 ∧ u.link n = ackWords (wordAck b) (s.link n) ∧
        u.tiles = s.tiles)) ∧
    (standby → s.links.beat = true → Completes .heartbeatMiss s (fun u =>
      u = { s with links := { s.links with beat := false, misses := 0 } })) ∧
    (standby → s.links.beat = false → s.links.misses + 1 < s.dictNat 0x620005 → Completes .heartbeatMiss s (fun u =>
      u = { s with links := { s.links with misses := s.links.misses + 1 } })) ∧
    (s.links.pairState = 5 → s.links.beat = false → s.dictNat 0x620005 ≤ s.links.misses + 1 → Completes .heartbeatMiss s (fun u =>
      u.links.pairState = 3 ∧ u.links.misses = 0)) ∧
    (s.links.pairState = 4 → s.links.received = [] → Completes (.resyncComplete t) s (fun u => u.links.pairState = 5 ∧ u.serve.t = t.tables ∧
      (t.rows = [] → u.tiles = s.tiles) ∧ (t.pages = [] → u.tier = s.tier))) ∧
    (s.links.pairState = 1 → Completes (.resyncComplete t) s (fun u => u = { s with links := { s.links with pairState := 2 } }))

/-! ## Host ports -/

/-- Host ports and their addresses: a live port links at the best rate both ends offer, one that goes down fails its queue pairs, a pluggable
above 25 W is held in low-power mode; a priority is paused by a frame, is not honoured while it counts as a storm and is again after
it; a port answers for its own addresses only, and takes and gives up leases. A pause becomes a storm, and a storm ends, once 0x1180.05 ms have
passed, and a port gives itself a link-local address after 10 s without a lease. -/
def Obligations.HostPorts : Prop :=
  ∀ (s : State) (port : BitVec 4) (p3 prio : BitVec 3) (supports : BitVec 7) (watts i ident : Nat) (prios off : BitVec 8) (addr : BitVec 32)
    (addr6 : BitVec 128) (pfx : BitVec 64) (c : RateCombo), Table.wf {} s.host.ports = true → Table.wf none s.host.qps = true →
    let k := port.toNat
    let m := p3.toNat
    let q := prio.toNat
    let sent := fun (u : State) (o : HostOut) => u = { s with host := { s.host with sent := s.host.sent ++ [o], frames := s.host.frames ++ [s.frameOf o] } }
    let slaac := pfx.toNat * 2 ^ 64 + eui64 (s.portMac k)
    (k < 8 → (s.port k).state = 0 → s.portLive k = true → s.chooseRate k supports = some c → Completes (.portLinkUp port supports) s (fun u =>
      (u.port k).state = c.state ∧ (u.port k).lane = c.lane ∧ (u.port k).sinceMs = s.ms)) ∧
    (port = 8 → (s.port 8).state = 0 → s.dictNat 0x120001 ≠ 1 → supports.getLsbD 1 = true → Completes (.portLinkUp port supports) s (fun u =>
      (u.port 8).state = 2)) ∧
    (k ≤ 8 → (s.port k).state ≠ 0 → Completes (.portLinkDown port) s (fun u => (u.port k).state = 0 ∧ (u.port k).addr = 0 ∧
      ∀ n e, u.qp n = some e → e.port = k → e.state = .error)) ∧
    Completes (.pluggableInsert p3 watts) s (fun u => (u.port m).state = 0 ∧ (u.port m).lowPower = decide (25 < watts)) ∧
    ((s.port m).state ≠ 0 → i < 8 → prios.getLsbD i = true → s.lossless i = true → (s.port m).storm.getLsbD i = false →
      Completes (.pfcFrame p3 prios off) s (fun u => (u.port m).paused.getLsbD i = off.getLsbD i ∧
        u = { s with host := { s.host with ports := u.host.ports } })) ∧
    ((s.port m).paused.getLsbD q = true → Completes (.pfcStorm p3 prio) s (fun u => (u.port m).paused.getLsbD q = false ∧
      (u.port m).storm.getLsbD q = true ∧ Table.get 0 (s.port m).pausedAt q + s.dictNat 0x118005 * msTicks ≤ u.now)) ∧
    ((s.port m).storm.getLsbD q = true → Completes (.pfcStormClear p3 prio) s (fun u => (u.port m).storm.getLsbD q = false ∧
      (u.port m).paused = (s.port m).paused ∧ Table.get 0 (s.port m).lastPause q + s.dictNat 0x118005 * msTicks ≤ u.now)) ∧
    (s.portUp k = true → (s.port k).addr = addr.toNat → addr ≠ 0 →
      Completes (.arpRequest port addr) s (fun u => sent u (.arp k addr.toNat (s.portMac k)))) ∧
    (s.portUp k = true → s.ownV6 k addr6.toNat = true →
      Completes (.neighbourSolicitation port addr6) s (fun u => sent u (.neighbour k addr6.toNat (s.portMac k))) ∧
      Completes (.icmpEcho port addr6 ident) s (fun u => sent u (.echo k addr6.toNat ident))) ∧
    (s.ownV4 k addr6.toNat = false → s.ownV6 k addr6.toNat = false → exec (.icmpEcho port addr6 ident) s = .next s) ∧
    (s.portUp k = true → (s.port k).slaac.contains slaac = false → Completes (.routerAdvertisement port pfx) s (fun u =>
      (u.port k).slaac = (s.port k).slaac ++ [slaac] ∧ u = { s with host := { s.host with ports := u.host.ports } })) ∧
    (s.portUp k = true → s.addrMode k = 0 → addr ≠ 0 → Completes (.dhcpReply port addr) s (fun u => (u.port k).addr = addr.toNat ∧
      (u.port k).leased = true)) ∧
    (s.portUp k = true → s.addrMode k = 0 → (s.port k).addr = 0 → Completes (.dhcpTimeout port) s (fun u => u.free = s.free + 1 ∧
      ((s.port k).sinceMs + 10000) * msTicks ≤ u.now ∧ 0xA9FE0100 ≤ (u.port k).addr ∧ (u.port k).addr < 0xA9FE0100 + 65024 ∧ HostOut.dhcp k ∈ u.host.sent)) ∧
    (s.portUp k = true → (s.port k).leased = true → s.addrMode k = 0 → Completes (.leaseExpiry port) s (fun u => (u.port k).addr = 0 ∧
      (u.port k).leased = false ∧ (u.port k).sinceMs = s.ms ∧ HostOut.dhcp k ∈ u.host.sent))

/-- Queue pairs: set up by REQ and RTU, refused where the connection asks for what the port does not do, torn down by DREQ; a SEND is taken
and acknowledged while its queue has room; a CNP takes a quarter of the rate and time gives a sixteenth of the line rate back; an
acknowledgement releases requests, a timeout sends them again, and any other NAK fails the pair; a READ brings its shard,
which is opened and kept when its tag is good, and counts as failed otherwise.
Numbers of pairs and NAKs that the spec names by reference follow log entry 19: the model's choice. -/
def Obligations.QueuePairs : Prop :=
  ∀ (s : State) (p3 : BitVec 3) (n depth len m i : Nat) (mtu : BitVec 2) (q : Qp) (o : Outstanding) (rest : List Outstanding) (psn : BitVec 24)
    (record : Bytes) (l : Load) (man : Manifest), Table.wf none s.host.qps = true →
    let k := p3.toNat
    let line := lineRate q.port (s.port q.port).state
    let sent := fun (u : State) (o : HostOut) => u = { s with host := { s.host with sent := s.host.sent ++ [o], frames := s.host.frames ++ [s.frameOf o] } }
    let live := s.qp n = some q ∧ q.state = .connected
    (s.coxUp = true → (s.port k).state ≠ 0 → pathMtu mtu = some m → s.connCount < s.dictNat 0x300003 → s.qp s.freeQp = none →
      Completes (.cmReq p3 true 0 mtu) s (fun u => u.host.sent = s.host.sent ++ [.rep s.freeQp] ∧ u.qp s.freeQp =
        some { port := k, mtu := m, rate := lineRate k (s.port k).state } ∧ ∀ j, j ≠ s.freeQp → u.qp j = s.qp j)) ∧
    (s.coxUp = true → (s.port k).state ≠ 0 → depth ≠ 0 ∨ s.dictNat 0x300003 ≤ s.connCount →
      Completes (.cmReq p3 true depth mtu) s (fun u => sent u (.rej k))) ∧
    (s.qp n = some q → q.state = .offered → Completes (.cmRtu n) s (fun u => u.qp n = some { q with state := .connected } ∧
      u.serve = s.serve)) ∧
    (s.qp n = some q → Completes (.cmDreq n) s (fun u => u.qp n = none ∧ HostOut.drep n ∈ u.host.sent)) ∧
    (s.qp n = some q → q.state = .error → Completes (.cmDrep n) s (fun u => u.qp n = none ∧ u.host.sent = s.host.sent)) ∧
    (s.qp n = some q → q.state = .offered → Completes (.cmRej n) s (fun u => u.qp n = none ∧ u.host.sent = s.host.sent)) ∧
    (live → len ≤ 65536 → q.recv.length < 64 → Completes (.roceSendReceive n 0 len false) s (fun u =>
      u.qp n = some { q with recv := q.recv ++ [len] } ∧ HostOut.ack n ∈ u.host.sent)) ∧
    (live → len ≤ 65536 → 64 ≤ q.recv.length → Completes (.roceSendReceive n 0 len false) s (fun u => sent u (.rnrNak n))) ∧
    (live → Completes (.roceSendReceive n 1 len false) s (fun u => sent u (.nak n false))) ∧
    (s.qp n = some q → Completes (.cnpReceive n) s (fun u => u.qp n =
      some { q with rate := max 1000000000 (q.rate * 3 / 4), cnpAt := s.now })) ∧
    (s.qp n = some q → q.rate < line → Completes (.rateIncrease n) s (fun u => u.qp n =
      some { q with rate := min line (q.rate + line / 16), cnpAt := u.now } ∧
      q.cnpAt + usTicks (s.dictNat 0x118007) ≤ u.now)) ∧
    (live → q.out = o :: rest → q.retries < s.dictNat 0x118009 → Completes (.ackTimeout n) s (fun u =>
      u.qp n = some { q with retries := q.retries + 1 } ∧ u.host.sent = s.host.sent ++ [.again n o.psn])) ∧
    (live → q.out = o :: rest → s.dictNat 0x118009 ≤ q.retries → Completes (.ackTimeout n) s (fun u => ∃ e, u.qp n = some e ∧
      e.state = .error ∧ ∀ t c, u.conn t = some c → c.endpoint ≠ some (.qp n))) ∧
    (live → Completes (.ackNakReceive n 0 psn) s (fun u => u.qp n = some { q with out := released q psn.toNat, retries := 0, rnr := 0 } ∧
      u.host.sent = s.host.sent)) ∧
    (live → Completes (.ackNakReceive n 3 psn) s (fun u => ∃ e, u.qp n = some e ∧ e.state = .error ∧ e.out = [])) ∧
    (s.qp n = some q → q.out.find? (fun x => x.shard.isSome) = some o → o.shard = some i → i < 2 ^ 20 → s.weights.load = some l →
      l.man = some man → i < man.shards.length → l.kind = .swap → s.flashImage l = none → s.ingressUp = true → s.keepsShard man i = true →
      Table.wf none l.opened = true → Table.wf 0 l.fails = true → Table.get 0 l.fails i < 2 →
      Completes (.rdmaReadResponse n record) s (fun u => ∃ y, u.weights.load = some y ∧
        match openShard l.key man i record with
        | some bs => Table.get none y.opened i = some (chunksOf 128 (bs.length + 1) bs)
        | none => y.opened = l.opened ∧ Table.get 0 y.fails i = Table.get 0 l.fails i + 1))

/-! ## Bundles and instructions as a whole -/

/-- A bundle that holds one instruction gives that instruction back from its slot, with every operand at every value its field admits,
and a NOP from each of the five other slots. -/
def Obligations.BundleRoundTrip : Prop :=
  ∀ (i : Instr) (t : TileId), i.bundleInstr = true → i.tile = some t → ∃ (sl : Slot) (b : BitVec 256),
    encodeBundle i = some b ∧ (encodeSlot i).map (fun q => q.1) = some sl ∧ decodeSlot t sl b = i ∧
    (∀ sl', sl' ≠ sl → decodeSlot t sl' b = .nop t sl' 0 false) ∧ i ∈ decodeBundle t b

/-- An instruction of a tile's program changes no other tile, no register of another region, no byte of the tiers, and nothing of the
stroke clock, the links, the host side, the modes, power, the plan in service or the dictionary: what it sends outside its tile goes as a
flit into the mesh. -/
def Obligations.InstructionIsolation : Prop :=
  ∀ (i : Instr) (t : TileId) (s u : State), i.bundleInstr = true → i.tile = some t → exec i s = .next u →
    OtherTiles t s u ∧ OtherRegions t.region.toNat s u ∧ u.tier = s.tier ∧ u.clk = s.clk ∧ u.links = s.links ∧ u.host = s.host ∧
    u.mode = s.mode ∧ u.power = s.power ∧ u.boot = s.boot ∧ u.dict = s.dict ∧ u.blobs = s.blobs ∧ u.ident = s.ident ∧ u.now = s.now ∧
    u.pending = s.pending ∧ (∃ fs, u.transit = s.transit ++ fs)

/-- Canonical data stays canonical: every instruction of a tile's program, and every write of a result, of a landed line or of a gathered
line, keeps the memories and the tables of tiles and regions in canonical form. -/
def Obligations.CanonicalFormKept : Prop :=
  ∀ (i : Instr) (t : TileId) (tag : BitVec 4) (s u : State),
    (i.bundleInstr = true ∧ i.tile = some t ∨ i = .resultWriteback t ∨ i = .landingWrite t ∨ i = .gatherComplete t tag) →
    s.canon = true → exec i s = .next u → u.canon = true

/-! ## Clocks -/

/-- The reference loop and its multiplexer: candidates become ready and cease to be, the search connects the first that is ready, a lock starts
the tick count, 32 ticks without an edge set LOSS, the bridge time ends in a lost reference in which the count holds and every powered
region coasts, an armed alternate takes over, and a switch waits for two edges, hangs after 32 ticks, or is forced. -/
def Obligations.ReferenceClock : Prop :=
  ∀ (s : State) (c : BitVec 7),
    let q := s.ref
    let bit := 1#128 <<< c.toNat
    (s.candLive c.toNat = true → Completes (.candidateReady c) s (fun u => u.ref.ready = q.ready ||| bit ∧
      (q.search = true → q.cur = 0x7F → q.swStep = 0 → q.ready = 0 → u.ref.cur = c ∧ u.ref.loss = false))) ∧
    Completes (.candidateNotReady c) s (fun u => u.ref.ready = q.ready &&& ~~~bit ∧ u.ref.cur = q.cur ∧ u.ref.loss = q.loss) ∧
    (q.cur ≠ 0x7F → q.loss = false → q.swStep = 0 → q.lock = false → Completes .referenceLock s (fun u => u.ref.lock = true ∧
      u.ref.locked = true ∧ u.ref.lost = false ∧ u.clk.ticking = true ∧ u.clk.tick = s.clk.tick ∧ u.tiles = s.tiles)) ∧
    (q.loss = false → q.lost = false → q.cur ≠ 0x7F → q.autoAlt = false → Completes .referenceEdgeLoss s (fun u =>
      s.now + 32 ≤ u.now ∧ u.ref = { q with loss := true, lastEdge := s.now } ∧
      u.clk.tick = (if s.clk.ticking then s.clk.tick + BitVec.ofNat 64 (u.now - s.now) else s.clk.tick))) ∧
    (q.loss = false → q.lost = false → q.cur ≠ 0x7F → q.autoAlt = true → q.alt ≠ 0x7F → s.candReady q.alt.toNat = true →
      Completes .referenceEdgeLoss s (fun u => u.ref.cur = q.alt ∧ u.ref.src = q.alt ∧ u.ref.prev = q.cur ∧ u.ref.forced = true ∧
        u.ref.loss = false ∧ u.ref.lock = q.lock)) ∧
    (q.loss = true → q.lost = false → q.lock = true → q.search = false → Table.wf {} s.regions = true → Completes .bridgeExpiry s (fun u => u.ref.cur = 0x7F ∧
      u.ref.lost = true ∧ u.ref.refLost = true ∧ u.ref.lock = false ∧ u.ref.losses = satAdd q.losses 1 ∧ u.clk.ticking = false ∧
      u.clk.easy ≠ 0 ∧ q.lastEdge + q.bridgeTicks ≤ u.now ∧
      ∀ r, r < 64 → s.powered r = true → (u.region r).loop.coast = true ∧ (u.region r).loop.lock = false ∧ (u.region r).clk.arm = false)) ∧
    (q.swStep = 0 → q.cur ≠ 0x7F → Completes (.plannedSwitch c) s (fun u => u = { s with ref := { q with src := c, swStep := 1 } })) ∧
    (q.swStep ≠ 0 → Completes (.plannedSwitch c) s (fun u => u = { s with ref := { q with refused := true } })) ∧
    (q.swStep = 1 → Completes .switchStepComplete s (fun u => u = { s with ref := { q with swStep := 2, hang := false } })) ∧
    (q.swStep = 2 → q.src ≠ 0x7F → Completes .switchStepComplete s (fun u => u.ref.cur = q.src ∧ u.ref.loss = false ∧ u.ref.hang = false)) ∧
    (q.swStep ≠ 0 → q.hang = false → Completes .muxHang s (fun u => u.ref = { q with hang := true, ints := q.ints + 1 } ∧
      s.now + 32 < u.now)) ∧
    (q.loss = true → Completes .force s (fun u => u.ref.cur = q.src ∧ u.ref.prev = q.cur ∧ u.ref.forced = true ∧ u.ref.swStep = 0 ∧
      u.ref.loss = !s.candReady q.src.toNat)) ∧
    (q.search = false → Completes .muxRst s (fun u => u = { s with ref := { q with cur := 0x7F, swStep := 0, hang := false } }))

/-- The loops of a region: GO aims the idle path at a step, except in a region that holds a crew while strokes run; its lock moves the region there
at once, or leaves an armed change to its catch; a stop, a lost lock, droops and monitor windows; blocks of an edge region leave reset and
are gated; and the tensor connectors with their AUX_3V3. -/
def Obligations.RegionClocksAndConnectors : Prop :=
  ∀ (s : State) (r : BitVec 6) (step k : BitVec 4) (mv : BitVec 10) (jit : BitVec 8) (duty block j : BitVec 4) (active : Bool),
    Table.wf {} s.regions = true →
    let n := r.toNat
    let g := s.region n
    let b := block.toNat
    let busy := s.clk.running = true ∧ s.holdsCrew n = true
    let parked := fun (u : State) => ∀ i ∈ connectorLinks j.toNat, (s.link i).state = 2 → (s.link i).en = true → (u.link i).state ≠ 2
    (s.powered n = true → ¬ busy → Completes (.loopGo r step) s (fun u => OnlyRegion n s u ∧ (u.region n).loop.target = some step ∧
      u.tiles = s.tiles)) ∧
    (s.powered n = true → busy → Completes (.loopGo r step) s (fun u => OnlyRegion n s u ∧ (u.region n).loop.refused = true ∧
      (u.region n).loop.target = g.loop.target)) ∧
    (s.powered n = true → s.clk.ticking = true → g.loop.stop = false → g.loop.target = some k → ¬ (g.clk.arm = true ∧ s.clk.running = true) →
      Completes (.idlePathLock r) s (fun u => (u.region n).loop = { g.loop with stepAct := k, lock := true, coast := false, target := none } ∧
        (u.region n).pwr = { g.pwr with vset := s.stepVset n k.toNat } ∧ OtherRegions n s u)) ∧
    (s.powered n = true → s.clk.ticking = true → g.loop.stop = false → g.loop.target = some k → g.clk.arm = true → s.clk.running = true →
      Completes (.idlePathLock r) s (fun u => OnlyRegion n s u ∧ (u.region n).loop.target = none ∧ (u.region n).clk.arm = true)) ∧
    (s.powered n = true → Completes (.loopStop r) s (fun u => OnlyRegion n s u ∧ (u.region n).loop = { g.loop with stop := true })) ∧
    (s.powered n = true → g.loop.coast = false → Completes (.pathLockLoss r) s (fun u => (u.region n).loop.coast = true ∧
      (u.region n).loop.lock = false ∧ (u.region n).loop.stepAct = 0 ∧ (u.region n).loop.unlocks = satAdd g.loop.unlocks 1 ∧
      (u.region n).clk.forced = true)) ∧
    (s.powered n = true → g.loop.droopEn = true → droopLimit g.loop < mv.toNat → Completes (.droop r mv) s (fun u => OtherRegions n s u ∧
      (u.region n).loop.droops = satAdd g.loop.droops 1 ∧ (u.region n).clk.stretchNow =
        (if s.clk.running then g.clk.stretchNow + 1 else g.clk.stretchNow) ∧ u.tiles = s.tiles)) ∧
    (mv.toNat ≤ droopLimit g.loop → exec (.droop r mv) s = .next s) ∧
    (s.powered n = true → g.loop.coast = false → g.loop.target = none → Completes (.monitorWindow r jit duty) s (fun u =>
      (u.region n).loop.jitPeak = jit ∧ (u.region n).loop.dutyDev = duty ∧ u.tiles = s.tiles)) ∧
    (s.powered n = true → b < 9 → holdsBlock n b = true → g.loop.gate.getLsbD b = false → Completes (.blockEnable r block) s (fun u =>
      OtherRegions n s u ∧ (u.region n).loop.gate.getLsbD b = true ∧ u.tiles = s.tiles)) ∧
    (s.powered n = true → b < 7 → holdsBlock n b = true → g.loop.gate.getLsbD b = true → Completes (.blockDisable r block) s (fun u =>
      OtherRegions n s u ∧ (u.region n).loop.gate.getLsbD b = false ∧ u.tiles = s.tiles)) ∧
    ((s.connector j.toNat).present = false → Completes (.tensorAssemblyMate j active) s (fun u =>
      (u.connector j.toNat).present = true ∧ (u.connector j.toNat).aux = active ∧
      (u.connector j.toNat).fault = false ∧ u.tiles = s.tiles ∧ (Table.wf {} s.links.links = true → ∀ i ∈ connectorLinks j.toNat,
        (s.link i).state = 1 → u.link i = { s.link i with trips := [], trainMs := s.ms }))) ∧
    ((s.connector j.toNat).present = true → Table.wf {} s.host.tc = true → Completes (.tensorAssemblyUnmate j) s (fun u =>
      u.connector j.toNat = {} ∧ parked u)) ∧
    ((s.connector j.toNat).present = true → (s.connector j.toNat).aux = true → Completes (.auxFault j) s (fun u =>
      (u.connector j.toNat).present = true ∧ (u.connector j.toNat).aux = false ∧ (u.connector j.toNat).fault = true ∧ parked u))

/-! ## The parameter dictionary -/

/-- The dictionary access protocol, for a message of one item from M0 or from CAN: only a datagram at the protocol's port that begins a
message is one; a READ answers the object's present bytes and keeps the
value, one of an object that does not exist answers 1, and a message already answered is answered again from the store and not applied; a
WRITE of a number in range holds it and does what the object's value sets in motion, one of a read-only object answers 2, out of range 3,
of the wrong length 4; a piece of a BLOB waits for the rest; LIST and IDENTIFY; buffers and kept values end after 5 s. Over CAN, segments
are gathered in order, errors count, and bus-off ends with its recovery.
The corner cases of the protocol are the model's choices, log entry 16. -/
def Obligations.Dictionary : Prop :=
  ∀ (s : State) (ip : Nat) (src dst : BitVec 16) (msg : Bytes) (e : DictEntry) (t : Tx) (p : Pieces) (kv : Kept) (client : Client)
    (index : BitVec 16) (sub : Byte) (head : Byte) (body bs : Bytes) (fd brs eight : Bool) (fetched : Option Bytes),
    let c := dapContext (.m0 ip src) false false msg 0
    let i := dapItemOf msg 0
    let key := 256 * i.index.toNat + i.sub.toNat
    let is := fun (op : Nat) => dst.toNat = s.inForceNat 0x120003 ∧ 8 ≤ msg.length ∧ fieldNat msg 0 2 = 0x4454 ∧ fieldNat msg 3 1 = op
    let one := s.dapServed c.client = true ∧ c.malformed = false
    let stored := s.host.txs.find? (fun t => t.client = c.client && t.transaction = c.transaction && t.done)
    let fresh := one ∧ fieldNat msg 7 1 = 1 ∧ i.malformed = false ∧ stored = none
    let said := fun (u : State) (op : Nat) (os : List DapOut) => HostOut.dap c.client (dapBytes c.transaction (op + 0x80) 0 os) ∈ u.host.sent
    let again := fun (x : Instr) => Completes x s (fun u => u = { s with host := { s.host with
        sent := s.host.sent ++ [.dap c.client (dapBytes t.transaction (t.op + 0x80) t.status t.items)]
        frames := s.host.frames ++ [{}] } })
    let err := fun (n : Nat) => [DapOut.mk i.index i.sub n i.offset 0 i.total []]
    let number := objectEntry key = some e ∧ e.access = .rw ∧ e.type ≠ .blob ∧ e.type ≠ .str ∧ i.data.length = i.length
    let whole := number ∧ i.offset = 0 ∧ i.length = e.len ∧ i.total = e.len
    let v := State.holdValue { s with istatus := 0 } e i.data
    let own := 0x400 + s.dictNat 0x130001
    let can := fun (u : State) (k : Can) => u = { s with host := { s.host with can := k } }
    let good := { s.host.can with rec_ := if 127 < s.host.can.rec_ then 127 else s.host.can.rec_ - 1 }
    let on := s.canLive = true ∧ s.coxUp = true
    (¬ is 1 → exec (.dapRead ip src dst msg 0) s = .next s) ∧ (¬ is 2 → exec (.dapWrite ip src dst msg 0 fetched) s = .next s) ∧
    (is 1 → fresh → objectEntry key = some e → e.type ≠ .str → i.offset = 0 → 0 < i.length → i.length ≤ 1024 →
      i.length ≤ (s.valueOf e).length → 20 + pad4 i.length ≤ (if ip < 2 ^ 32 then 1472 else 1452) →
      Completes (.dapRead ip src dst msg 0) s (fun u => u = { s with host := u.host } ∧
        said u 1 [DapOut.mk i.index i.sub 0 0 i.length (s.valueOf e).length ((s.valueOf e).take i.length)] ∧
        Kept.mk c.client e.key (s.valueOf e) s.ms ∈ u.host.kept)) ∧
    (is 1 → fresh → objectEntry key = none → 0 < i.length → i.length ≤ 1024 → Completes (.dapRead ip src dst msg 0) s (fun u =>
      u = { s with host := u.host } ∧ said u 1 [DapOut.mk i.index i.sub 1 i.offset 0 0 []])) ∧
    (s.dapServed c.client = true → stored = some t → (is 1 → again (.dapRead ip src dst msg 0)) ∧
      (is 2 → again (.dapWrite ip src dst msg 0 fetched)) ∧ (is 3 → again (.dapList ip src dst msg)) ∧
      (is 4 → again (.dapIdentify ip src dst msg))) ∧
    (is 2 → fresh → whole → e.key < 0x800000 → pendState e = none → ownWrite e.key = false → e.key ≠ 0x620002 → s.host.storeState ≠ 1 →
      s.inRange e i.data = true → s.emptySlot e.key (leNat i.data) = false → Table.wf none s.dict = true →
      Completes (.dapWrite ip src dst msg 0 fetched) s (fun u =>
        u = { v.writtenEffect e.key with istatus := 0, host := u.host } ∧ v.dictNat e.key = leNat i.data ∧
        (∀ k, k ≠ e.key → v.dictNat k = s.dictNat k) ∧ said u 2 [DapOut.mk i.index i.sub 0 0 i.length i.total []])) ∧
    (is 2 → fresh → whole → s.inRange e i.data = false → Completes (.dapWrite ip src dst msg 0 fetched) s (fun u =>
      u = { s with istatus := 3, host := u.host } ∧ said u 2 (err 3))) ∧
    (is 2 → fresh → number → i.offset ≠ 0 ∨ i.length ≠ e.len ∨ i.total ≠ e.len → Completes (.dapWrite ip src dst msg 0 fetched) s (fun u =>
      u = { s with istatus := 4, host := u.host } ∧ said u 2 (err 4))) ∧
    (is 2 → fresh → objectEntry key = some e → e.access = .ro → i.data.length = i.length → Completes (.dapWrite ip src dst msg 0 fetched) s (fun u =>
      u = { s with istatus := 2, host := u.host } ∧ said u 2 (err 2))) ∧
    (is 2 → fresh → objectEntry key = some e → e.access ≠ .ro → e.type = .blob → i.total = e.len → i.offset + i.length < i.total →
      i.data.length = i.length → (∀ q ∈ s.host.pieces, ¬ (q.client = c.client ∧ q.key = e.key)) →
      Completes (.dapWrite ip src dst msg 0 fetched) s (fun u =>
        u = { s with istatus := 0, host := u.host } ∧ ∃ q ∈ u.host.pieces, q.client = c.client ∧ q.key = e.key ∧ q.total = i.total ∧
          q.ms = s.ms ∧ Table.getList none q.got i.offset i.length = i.data.map some)) ∧
    (is 3 → fresh → i.offset = 0 → i.length = 0 → i.total = 0 → Completes (.dapList ip src dst msg) s (fun u =>
      u = { s with host := u.host } ∧ said u 3 (listItems key (dapLimit c)))) ∧
    (is 4 → one → fieldNat msg 7 1 = 0 → stored = none → Completes (.dapIdentify ip src dst msg) s (fun u =>
      u = { s with host := u.host } ∧ said u 4 ([0x100001, 0x100002, 0x120003].map s.identifyOut))) ∧
    (s.host.pieces.find? (fun q => q.client = client && q.key = 256 * index.toNat + sub.toNat) = some p →
      Completes (.pieceTimeout client index sub) s (fun u => (p.ms + 5000) * msTicks ≤ u.now ∧ (∀ q, q ∈ u.host.pieces ↔
        q ∈ s.host.pieces ∧ ¬ (q.client = client ∧ q.key = 256 * index.toNat + sub.toNat)) ∧ u.blobs = s.blobs)) ∧
    (s.host.kept.find? (fun q => q.client = client && q.key = 256 * index.toNat + sub.toNat) = some kv →
      Completes (.keptValueExpiry client index sub) s (fun u => (kv.ms + 5000) * msTicks ≤ u.now ∧
      ∀ q, q ∈ u.host.kept ↔ q ∈ s.host.kept ∧ ¬ (q.client = client ∧ q.key = 256 * index.toNat + sub.toNat))) ∧
    (on → own < 2 ^ 29 → head.toNat / 64 = 2 → head.toNat % 64 = 0 →
      Completes (.canSegment (BitVec.ofNat 29 own) false false fd brs (head :: body) fetched) s (fun u =>
        can u { good with msg := some (body, 1, own, fd, brs) })) ∧
    (on → own < 2 ^ 29 → head.toNat / 64 = 1 → good.msg = some (bs, head.toNat % 64, own, fd, brs) →
      exec (.canSegment (BitVec.ofNat 29 own) false false fd brs (head :: body) fetched) s =
        .next (State.canMessage { s with host := { s.host with can := { good with msg := none } } } (bs ++ body) (own = 0x400) fd brs fetched)) ∧
    (on → own < 2 ^ 29 → head.toNat / 64 = 0 → good.msg = none →
      Completes (.canSegment (BitVec.ofNat 29 own) false false fd brs (head :: body) fetched) s (fun u => can u good)) ∧
    (s.canLive = true → s.host.can.tec < 248 → Completes (.canBusError true eight) s (fun u =>
      can u { s.host.can with tec := s.host.can.tec + 8 })) ∧
    (s.canLive = true → 248 ≤ s.host.can.tec → Completes (.canBusError true eight) s (fun u => u.host.can.busOff = true ∧ u.host.can.msg = none ∧
      u.canLive = false)) ∧
    (s.canLive = true → s.host.can.tec < 256 → Completes (.canBusError false eight) s (fun u =>
      can u { s.host.can with rec_ := min 255 (s.host.can.rec_ + (if eight then 8 else 1)) })) ∧
    (s.host.can.busOff = true → s.ref.lock = true → Completes .canBusOffRecovery s (fun u => can u {}))

/-! ## Store, recovery, boot and trust -/

/-- Store and restore, and the recovery protocol. A store takes the values it covers into the field section, or leaves the section as it was;
RESTORE marks the next boot. In recovery the ROM solicits with a fresh session, takes the first good offer and answers one whose version lies
below the floor or whose image is too long, and any other; data that was asked for is taken; 250 ms without data count a failure of every
chunk outstanding and fetch it again, the eighth abandons the server; an image that verifies goes to flash and ends recovery, another is
refused.
ROM_VERSION, and the code that refuses an offer for another reason, are values the spec leaves open (log entry 5). -/
def Obligations.StoreAndRecovery : Prop :=
  ∀ (s : State) (value : Word) (server len n : Nat) (version : Word) (msg : Bytes),
    let q := s.host.recovery
    let ans := fun (u : State) (k : Nat) => u = { s with istatus := k }
    let sent := fun (u : State) (b : Bytes) => u = { s with host := { s.host with sent := s.host.sent ++ [.recovery (some server) b], frames := s.host.frames ++ [{}] } }
    let serving := q.on = true ∧ q.server = some (server, len, version)
    let whole := ∀ k, k < chunkCount len → (Table.get none q.got k).isSome = true
    let fw : Firmware := { bytes := (List.range (chunkCount len)).flatMap (fun c => (Table.get none q.got c).getD []) }
    let dropped := fun (u : State) (code : Nat) => u.host.recovery.server = none ∧ u.host.recovery.asked = [] ∧
      HostOut.recovery (some server) (resultMsg q.session code) ∈ u.host.sent ∧ (server, u.ms) ∈ u.host.recovery.ignored ∧
      u.host.recovery.on = true
    let is := fun (type least : Nat) => 8 + least ≤ msg.length ∧ fieldNat msg 0 2 = 0x5254 ∧ fieldNat msg 2 1 = 1 ∧ fieldNat msg 3 1 = type
    let sess := BitVec.ofNat 32 (fieldNat msg 4 4)
    let offered := fieldNat msg 8 4
    let offers := BitVec.ofNat 32 (fieldNat msg 12 4)
    let data := slice msg 14 (fieldNat msg 12 2)
    (s.coxUp = true → value = 0x53544F52 → s.host.storeState ≠ 1 → Completes (.store_ value) s (fun u => u.host.storeState = 1 ∧ u.istatus = 0 ∧
      u.host.stored = s.host.stored)) ∧
    (s.coxUp = true → value = 0x53544F52 → s.host.storeState = 1 → Completes (.store_ value) s (fun u => ans u 5)) ∧
    (s.coxUp = true → value ≠ 0x53544F52 → Completes (.store_ value) s (fun u => ans u 3)) ∧
    (s.host.storeState = 1 → Table.wf none s.dict = true → Table.wf none s.host.stored = true → Completes (.storeComplete true) s (fun u =>
      u.host.storeState = 2 ∧ u.boot.recordSeq = s.boot.recordSeq + 1 ∧ u.dict = s.dict ∧ ∀ k, Table.get none u.host.stored k =
        if storedKey k then Table.get none s.dict k else Table.get none s.host.stored k)) ∧
    (s.host.storeState = 1 → Completes (.storeComplete false) s (fun u => u = { s with host := { s.host with storeState := 3 } })) ∧
    (s.coxUp = true → value = 0x44464C54 → Completes (.restoreDefaults value) s (fun u => u.host.restore = true ∧
      u.boot.recordSeq = s.boot.recordSeq + 1 ∧ u.istatus = 0 ∧ u.dict = s.dict)) ∧
    (q.on = true → q.server = none → Completes .solicit s (fun u => ∃ (z : Word) (rom : Bytes), rom.length = 2 ∧
      u.host.recovery = { q with session := z } ∧ u.free = s.free + 1 ∧
      u.host.sent = s.host.sent ++ [.recovery none (natLE 2 0x5254 ++ natLE 1 1 ++ natLE 1 1 ++ natLE 4 z.toNat ++
        natLE 16 s.ident.serial.toNat ++ natLE 1 (steppingByte s.ident.stepping) ++ natLE 1 q.reason ++ rom ++
        natLE 4 s.boot.versionFloor.toNat)])) ∧
    (¬ is 2 8 → exec (.offer server msg) s = .next s) ∧ (¬ is 4 6 → exec (.recoveryData server msg) s = .next s) ∧
    (q.on = true → is 2 8 → q.server = none → sess = q.session → (∀ e ∈ q.ignored, e.1 ≠ server) →
      s.boot.versionFloor.toNat ≤ offers.toNat → 0 < offered → offered ≤ 67108864 → q.got = [] → q.asked = [] →
      Completes (.offer server msg) s (fun u =>
        u.host.recovery.server = some (server, offered, offers) ∧ u.host.recovery.asked = List.range (min 16 (chunkCount offered)) ∧
        HostOut.recovery (some server) (fetchMsg q.session 0 1) ∈ u.host.sent)) ∧
    (q.on = true → is 2 8 → (∀ e ∈ q.ignored, e.1 ≠ server) → offers.toNat < s.boot.versionFloor.toNat →
      Completes (.offer server msg) s (fun u => sent u (resultMsg q.session 2))) ∧
    (q.on = true → is 2 8 → (∀ e ∈ q.ignored, e.1 ≠ server) → s.boot.versionFloor.toNat ≤ offers.toNat → 67108864 < offered →
      Completes (.offer server msg) s (fun u => sent u (resultMsg q.session 3))) ∧
    (q.on = true → is 2 8 → (∀ e ∈ q.ignored, e.1 ≠ server) → s.boot.versionFloor.toNat ≤ offers.toNat → offered ≤ 67108864 →
      q.server ≠ none ∨ sess ≠ q.session → Completes (.offer server msg) s (fun u => u.host.recovery = q ∧
        ∃ code, code < 256 ∧ u.host.sent = s.host.sent ++ [.recovery (some server) (resultMsg q.session code)])) ∧
    (serving → is 4 6 → sess = q.session → n ∈ q.asked → offered = 1024 * n → data.length = min 1024 (len - offered) →
      Table.wf none q.got = true → Completes (.recoveryData server msg) s (fun u =>
      Table.get none u.host.recovery.got n = some data ∧ n ∉ u.host.recovery.asked ∧ u.host.recovery.server = q.server)) ∧
    (serving → q.asked ≠ [] → (∀ k, Table.get 0 q.fails k = 0) → Table.wf 0 q.fails = true → q.asked.Nodup → Completes .fetchRetry s (fun u =>
      s.now + 250 * msTicks ≤ u.now ∧
      u.host.sent = s.host.sent ++ q.asked.map (fun k => HostOut.recovery (some server) (fetchMsg q.session (1024 * k) 1)) ∧
      ∀ k, Table.get 0 u.host.recovery.fails k = if k ∈ q.asked then 1 else 0)) ∧
    (serving → n ∈ q.asked → Table.wf 0 q.fails = true → 7 ≤ Table.get 0 q.fails n → Completes .fetchRetry s (fun u => dropped u 4)) ∧
    (serving → whole → Completes .recoveryVerify s (fun u =>
      if fwOk s.boot.versionFloor fw then u.host.recovery.on = false ∧ u.host.recovery.image = some fw ∧ u.boot.fwFlash = some fw ∧
        u.boot.step = 2 ∧ HostOut.recovery (some server) (resultMsg q.session 0) ∈ u.host.sent
      else dropped u (if fwGenuine fw then 2 else 1) ∧ u.boot = s.boot)) ∧
    (∀ a b, q.ignored.find? (fun e => e.1 = server) = some (a, b) → Completes (.serverIgnoreExpiry server) s (fun u =>
      (b + 60000) * msTicks ≤ u.now ∧ ∀ e ∈ u.host.recovery.ignored, e.1 ≠ server))

/-- Boot and trust. Once the scratch fill is done firmware that cannot be read, or does not verify, leads to recovery, and verified firmware
starts Cox, which goes
on with the committed plan. A Cox that fails gives way to a ready standby. A nonce starts the signing of a report; a write of the trust
objects whose client holds an authorisation that fits it takes effect if its signatures verify (a value the model leaves open, log entry 5),
which spends the authorisation, and is else answered with 7, as without one; a firmware image that
passes its checks is written over the image in flash. -/
def Obligations.BootAndTrust : Prop :=
  ∀ (s : State) (b : BootInputs) (f : CoxFault) (c : Client) (nonce value keys auth : Bytes) (slot : BitVec 3) (fw : Firmware) (r : SourceRecord) (ms : Nat),
    let o := s.boot
    let fwNow := o.fwFlash.getD b.firmware
    let good := fwOk o.versionFloor fwNow = true
    let booting := o.filling = true ∧ s.host.recovery.image = none ∧ s.dictNat 0x141001 ≠ 1
    let recovers := fun (u : State) (why : Nat) => u.host.recovery.on = true ∧ u.host.recovery.reason = why ∧ u.boot.step = 4 ∧
      ∀ n, u.powered n = false
    let other := otherCox o.active
    let takes := fun (u : State) => u.boot.active = other ∧ u.boot.standby = 1 ∧ u.boot.plan = o.plan ∧
      Table.get 0 u.counts 0x24000B = Table.get 0 s.counts 0x24000B + 1 ∧ (s.clk.running = true → u.dict = s.host.mirror) ∧ u.host.txs = [] ∧
      ∀ n, n < 64 → s.powered n = true → (u.region n).mesh.coxRegion = BitVec.ofNat 6 other
    let spends := fun (u : State) => u.boot.authCounter = authCount auth ∧ u.istatus = 0 ∧ ∀ e ∈ u.boot.auths, e.1 ≠ c
    let no := fun (u : State) => u = { s with istatus := 7 }
    let held := o.auths.find? (fun e => e.1 = c) = some (c, auth, ms) ∧ s.ms ≤ ms + 10000 ∧ o.recordState ≠ 3
    let ok := fwOk o.versionFloor fw && decide (fw.bytes.length = r.length)
    (booting → fwNow.readable = false → Completes (.scratchFillDone b) s (fun u => recovers u 2)) ∧
    (booting → fwNow.readable = true → b.coxFailures < 4 → b.factoryOk = true → Completes (.scratchFillDone b) s (fun u =>
      (good → u.boot.step = 9 ∧ (u.boot.planLoad.isSome = true ∨ u.boot.selfTest = u.boot.selfTestIs)) ∧ (¬ good → recovers u 1))) ∧
    (booting → fwNow.readable = true → b.coxFailures < 4 → b.factoryOk = false → b.fieldCopies.toNat < 2 →
      Completes (.scratchFillDone b) s (fun u => (good → u.boot.step = 5 ∧ u.boot.bootCount = o.bootCount + 1 ∧
        u.boot.fwVersion = fwVersionOf fwNow ∧ u.boot.recordState = 2 ∧ ∀ a, u.tierByte a = 0) ∧ (¬ good → recovers u 1))) ∧
    (booting → 4 ≤ b.coxFailures → Completes (.scratchFillDone b) s (fun u => recovers u (if fwNow.readable ∧ ¬ good then 1 else 2))) ∧
    (s.coxUp = true → o.standby = 2 → o.coxHeld = [] → o.coxFails = [] → s.clk.running = false ∨ s.ring = [] → Table.wf {} s.regions = true →
      Table.wf 0 s.counts = true → Completes (.coxWatchdogExpiry b) s takes ∧ Completes (.coxFatalFault f b) s takes) ∧
    (o.standby = 1 → other ∉ o.coxHeld → Completes .standbyReady s (fun u => u = { s with boot := { o with standby := 2 } })) ∧
    (s.coxUp = true → nonce.length = 32 → Completes (.attestationNonce nonce) s (fun u =>
      u = { s with boot := { o with nonce := nonce, attest := 1 }, istatus := 0 })) ∧
    (o.attest = 1 → Completes .reportSigned s (fun u =>
      u = { s with boot := { o with attest := 2, report := u.boot.report }, free := s.free + 1 } ∧
      ∃ head rest random : Bytes, head.length = 24 ∧ head.take 4 = natLE 4 0x52415754 ∧
        u.boot.report = head ++ s.ident.deviceId ++ padTo 32 o.nonce ++ rest ++
          s.ident.sign random (head ++ s.ident.deviceId ++ padTo 32 o.nonce ++ rest))) ∧
    (s.coxUp = true → value.length = 16736 → o.recordState ≠ 3 → Completes (.authorisation c value) s (fun u => u.istatus = 0 ∧
      ∀ e, e ∈ u.boot.auths ↔ (e ∈ o.auths ∧ e.1 ≠ c) ∨ e = (c, value, s.ms))) ∧
    (s.coxUp = true → keys.length = 432 → held → Completes (.ownerKeysWrite c keys) s (fun u =>
      if s.authFits auth 0x801003 keys && s.authSigned auth keys then
        u.blob 0x801003 = keys ∧ Table.get none u.host.storedBlobs 0x801003 = some keys ∧ spends u else no u)) ∧
    (s.coxUp = true → keys.length = 432 → s.authFor c 0x801003 keys = none → Completes (.ownerKeysWrite c keys) s no) ∧
    (s.coxUp = true → keys.length = 432 → held → Completes (.publisherSlotWrite c slot keys) s (fun u =>
      if s.authFits auth (0x802001 + slot.toNat) keys && s.authSigned auth keys then
        u.blob (0x802001 + slot.toNat) = keys ∧ spends u ∧ u.dict = s.dict else no u)) ∧
    (s.coxUp = true → keys.length = 432 → s.authFor c (0x802001 + slot.toNat) keys = none → Completes (.publisherSlotWrite c slot keys) s no) ∧
    (s.coxUp = true → value.length = 32 → parseSource false value = r → r.kind = 1 → sourceOk r = true → o.fwWrite = none →
      s.roceTag r.connection = true → held → Completes (.firmwareUpdate c value) s (fun u =>
        if s.authFits auth 0x803003 value && s.authSigned auth value then
          u.boot.fwWrite = some r ∧ u.boot.fwFlash = o.fwFlash ∧ spends u else no u)) ∧
    (o.fwWrite = some r → Completes (.firmwareWriteComplete fw) s (fun u => u.boot.fwWrite = none ∧
      u.boot.fwFlash = (if ok then some fw else o.fwFlash) ∧ (s.host.storeState = 1 → u.host.storeState = 2)))

/-! ## Power and cooling -/

/-- Power delivery. The bus charges once the bus bar is mated; power-on asks for every present region that is not held off, four at a time; a
region has power-good or is latched off after its timeout; an input outside its limits is marked, one that fails forces every powered region to
step 0, ends the work in progress and starts the flush, and its return starts the module again with only what flash and the field section
hold; overcurrents force step 0; a short latches its region off, and a retry clears the latch during easy-all or while no plan is loaded. -/
def Obligations.PowerDelivery : Prop :=
  ∀ (s : State) (vin iin : BitVec 10) (conv : BitVec 4) (r : BitVec 6) (domain : BitVec 2) (amps mv : BitVec 16) (k : Byte) (lim : Nat × Nat),
    Table.wf {} s.regions = true →
    let p := s.power
    let n := r.toNat
    let v := vin.toNat
    let off := p.failed ||| p.latch ||| p.heatOff
    let quiet := p.down = true ∨ s.boot.plan = none
    let forced := fun (u : State) (q : Nat) => (u.region q).clk.forced = true ∧ ((s.region q).loop.coast = false → (u.region q).loop.stepAct = 0)
    (s.host.mated = true → p.down = false → Completes .busCharged s (fun u => u = { s with power := { p with bus := true } })) ∧
    (s.host.mated = false → Completes .busbarMate s (fun u => u.host = { s.host with mated := true } ∧ u.power = { p with bus := false })) ∧
    (p.bus = true → p.booted = false → p.down = false → p.group = [] → Completes .powerOn s (fun u => u.power.on = s.ident.present &&& ~~~off ∧
      u.power.booted = true ∧ u.boot.step = 2 ∧ u.boot.excluded = off ∧ u.power.group = (((List.range 64).filter (fun q =>
        (s.ident.present &&& ~~~off).getLsbD q && !p.pg.getLsbD q && !p.latch.getLsbD q)).take 4))) ∧
    ((440 ≤ v ∧ v < 460) ∨ (590 < v ∧ v ≤ 600) → Completes (.inputOutOfRange vin) s (fun u => u.power = { p with vin := vin, range := true })) ∧
    (460 ≤ v → v ≤ 590 → Completes (.inputOutOfRange vin) s (fun u => u = { s with power := { p with vin := vin } })) ∧
    (p.down = false → v < 440 ∨ 600 < v → Completes (.powerFail vin) s (fun u => u.power.down = true ∧ u.power.pfail = true ∧
      u.boot.planLoad = none ∧ u.boot.fwWrite = none ∧ u.weights.load = none ∧ u.host.storeState = 0 ∧ u.log.flushing = some u.log.newest ∧
      ∀ q, q < 64 → s.powered q = true → forced u q)) ∧
    (p.down = true → 460 ≤ v → v ≤ 590 → Completes (.inputRestored vin) s (fun u => u.power.down = false ∧ s.now + 1000 * msTicks ≤ u.now ∧
      u.clk.running = false ∧ u.dict = s.host.stored ∧ u.blobs = s.host.storedBlobs ∧ u.boot.reason = 1 ∧ u.boot.bootCount = s.boot.bootCount ∧
      (∀ a, u.tierByte a = 0) ∧ (∀ q, u.powered q = false) ∧ u.pending = s.pending)) ∧
    (620 < iin.toNat → Completes (.inputOvercurrent iin) s (fun u => ∀ q, q < 64 → s.powered q = true → forced u q ∧
      (u.region q).pwr.ocForced = true)) ∧
    (iin.toNat ≤ 620 → Completes (.inputOvercurrent iin) s (fun u => u = { s with power := { p with iin := iin } })) ∧
    (p.convOk.getLsbD conv.toNat = true → Completes (.converterFail conv) s (fun u => u.power.convOk = p.convOk &&& ~~~(1#16 <<< conv.toNat) ∧
      u.power.convFailed = p.convFailed ||| (1#16 <<< conv.toNat))) ∧
    (p.latch.getLsbD n = false → Completes (.regionPowerRequest r) s (fun u => u.power.on = p.on ||| (1#64 <<< n) ∧ u.power.pg = p.pg)) ∧
    (p.latch.getLsbD n = true → exec (.regionPowerRequest r) s = .next s) ∧
    (n ∈ p.group → p.down = false → s.boot.step ≤ 3 → Completes (.regionPowerGood r) s (fun u => u.powered n = true ∧
      (s.clk.ticking = true → (u.region n).loop.stepAct = 0 ∧ (u.region n).loop.lock = true))) ∧
    (n ∈ p.group → p.down = false → 3 < s.boot.step → s.boot.plan = none → Completes (.regionPowerGood r) s (fun u => u.powered n = true ∧
      u.boot.returned.getLsbD n = true ∧ u.power.heatOff.getLsbD n = false)) ∧
    (n ∈ p.group → Completes (.powerGoodTimeout r domain amps mv) s (fun u => u.power.latch = p.latch ||| (1#64 <<< n) ∧
      u.power.on = p.on &&& ~~~(1#64 <<< n) ∧ u.boot.excluded = s.boot.excluded ||| (1#64 <<< n))) ∧
    (s.powered n = true → quiet → Completes (.regionPowerGoodFall r) s (fun u => u.powered n = false ∧ u.power.on.getLsbD n = false ∧
      u.boot.excluded.getLsbD n = true)) ∧
    (s.powered n = true → warnAmps n domain.toNat = some lim.1 → lim.1 < amps.toNat → Completes (.overcurrentWarning r domain amps) s (fun u =>
      forced u n ∧ (u.region n).pwr.ocWarn = true ∧ (u.region n).pwr.ocForced = true ∧
      (u.region n).pwr.warns = satAdd (s.region n).pwr.warns 1)) ∧
    (s.powered n = true → shortAmps n domain.toNat = some lim → lim.1 < amps.toNat ∨ mv.toNat < lim.2 → quiet →
      Completes (.regionShort r domain amps mv) s (fun u => u.powered n = false ∧ u.power.latch.getLsbD n = true ∧
        u.power.on.getLsbD n = false)) ∧
    (k.toNat < 64 → s.boot.plan = none ∨ s.clk.easy ≠ 0 → p.latch.getLsbD k.toNat = true → Completes (.regionRetry k) s (fun u => u.istatus = 0 ∧
      u.power.latch.getLsbD k.toNat = false ∧ u.power.on.getLsbD k.toNat = true)) ∧
    (k.toNat < 64 → s.boot.plan ≠ none → s.clk.easy = 0 → Completes (.regionRetry k) s (fun u => u = { s with istatus := 6 })) ∧
    (64 ≤ k.toNat → Completes (.regionRetry k) s (fun u => u = { s with istatus := 3 }))

/-- Cooling. A thermal-resistance sample joins the last hundred; the cap is the least of the object's, the converters', the coolant's and the
input's; limits of inlet and flow are marked; a coolant fault forces every powered region to step 0, clears within 200 ms, or parks what
runs, and at its deadline takes every region's power, which comes back by itself after good flow; a hot region is forced to step 0, switched
off when it stays hot, and asked for again once it has cooled.
The rounding of the thermal resistance is the model's choice, log entry 28. -/
def Obligations.Cooling : Prop :=
  ∀ (s : State) (x : Sensors) (inlet hot : BitVec 12) (flow rise : BitVec 8) (cause : BitVec 2) (r : BitVec 6) (m : Nat),
    Table.wf {} s.regions = true →
    let p := s.power
    let n := r.toNat
    let forced := fun (u : State) (q : Nat) => (u.region q).clk.forced = true ∧ ((s.region q).loop.coast = false → (u.region q).loop.stepAct = 0)
    let read := fun (u : State) => u.power.vin = x.vin ∧ u.power.flow = x.flow ∧ u.power.inlet = x.inlet ∧ u.power.outlet = x.outlet ∧
      u.power.watts = x.watts
    let conv := ((List.range 16).filter (fun c => p.convOk.getLsbD c)).length
    let cap := min (min (s.dictNat 0x400003) (2200 * conv))
      (min ((8 * s.dictNat 0x401002 - x.inlet.toNat) * 125000 / max 1 p.rth.toNat) (593 * x.vmin.toNat / 10))
    let idle := p.faultEn = true ∧ p.active = false ∧ p.coolOff = false ∧ p.down = false
    (2000 ≤ x.watts → p.theta.length ≤ 100 → Completes (.thetaSample x) s (fun u => read u ∧ u.power.theta.length = min 100 (p.theta.length + 1) ∧
      u.power.rth = BitVec.ofNat 16 (min 65535 (thetaOf u.power.theta)))) ∧
    (x.watts < 2000 → Completes (.thetaSample x) s (fun u => read u ∧ u.power.theta = p.theta ∧ u.power.rth = p.rth)) ∧
    Completes (.powerCapCompute x) s (fun u => read u ∧ u.power.cap = cap) ∧
    (8 * s.dictNat 0x402004 < inlet.toNat → Completes (.inletOverLimit inlet) s (fun u => u.power = { p with inlet := inlet, inletOver := true })) ∧
    (inlet.toNat ≤ 8 * s.dictNat 0x402004 → Completes (.inletOverLimit inlet) s (fun u => u = { s with power := { p with inlet := inlet } })) ∧
    (flow.toNat < 40 → Completes (.flowLow flow) s (fun u => u.power = { p with flow := flow, flowLow := true })) ∧
    (40 ≤ flow.toNat → Completes (.flowLow flow) s (fun u => u = { s with power := { p with flow := flow } })) ∧
    (idle → (cause = 0 ∧ flow.toNat < p.flowMin.toNat) ∨ cause = 2 → Completes (.coolantFault cause flow rise r) s (fun u =>
      u.power.active = true ∧ u.power.faultMs = s.ms ∧ u.power.faults = p.faults ||| (1#3 <<< cause.toNat) ∧
      ∀ q, q < 64 → s.powered q = true → forced u q)) ∧
    (p.active = true → p.parking = false → p.coolOff = false → p.down = false → 40 ≤ flow.toNat → s.ms ≤ p.faultMs + 200 → s.boot.plan = none →
      s.clk.causes = [] → (∀ q, q < 64 → s.powered q = true → (s.region q).pwr.hot.toNat ≤ 8 * s.dictNat 0x401003) →
      Completes (.coolantFaultClear flow false) s (fun u => u.power.active = false ∧ u.power.flow = flow ∧ u.regions = s.regions)) ∧
    (p.active = true → Completes (.coolantFaultClear flow true) s (fun u => u = { s with power := { p with flow := flow } })) ∧
    (p.active = true → p.parking = false → p.coolOff = false → Completes (.coolantFaultTimeout m) s (fun u => u.power.parking = true ∧
      u.clk.running = false ∧ (p.faultMs + 200) * msTicks ≤ u.now)) ∧
    (p.parking = true → Completes .coolantParkDeadline s (fun u => u.power.coolOff = true ∧ u.power.parking = false ∧ u.boot.plan = none ∧
      u.clk.running = false ∧ ∀ q, u.powered q = false)) ∧
    (p.coolOff = true → p.down = false → s.dictNat 0x402005 = 1 → p.leakWait = false → 40 ≤ flow.toNat → inlet.toNat ≤ 8 * s.dictNat 0x402004 →
      Completes (.coolantAutoRestart flow inlet false) s (fun u => u.power.coolOff = false ∧ u.boot.step = 2 ∧ u.boot.reason = 2 ∧
        u.power.on = s.ident.present &&& ~~~(p.failed ||| p.latch ||| p.heatOff))) ∧
    (s.powered n = true → (s.region n).pwr.trip.toNat ≤ hot.toNat → Completes (.thermalTrip r hot) s (fun u => forced u n ∧
      (u.region n).pwr.tripped = true ∧ (u.region n).pwr.hot = hot ∧ (n, s.ms) ∈ u.power.trips)) ∧
    (s.powered n = true → p.heatOff.getLsbD n = false → (s.region n).loop.stepAct = 0 → 8 * s.dictNat 0x401003 < hot.toNat → s.boot.plan = none →
      Completes (.regionHeatOff r hot) s (fun u => u.power.heatOff.getLsbD n = true ∧ u.powered n = false)) ∧
    (s.powered n = true → p.heatOff.getLsbD n = false → (s.region n).loop.stepAct = 0 → 8 * s.dictNat 0x401003 < hot.toNat → s.boot.plan ≠ none →
      s.clk.running = true → Completes (.regionHeatOff r hot) s (fun u => u.power.heatOff.getLsbD n = true ∧ u.powered n = true ∧
        (∃ e ∈ u.clk.named, e.cause = 4 ∧ e.clearing = true) ∧ n ∈ u.power.heatPending)) ∧
    (p.heatOff.getLsbD n = true → s.powered n = false → hot.toNat < 480 → p.latch.getLsbD n = false → Completes (.regionCooled r hot) s (fun u =>
      u.power.on = p.on ||| (1#64 <<< n)))

/-! ## Plan loading -/

/-- Plans. A request starts a plan load with the values that then stand, or is refused: by its length, by its fields, while another load is in
progress, or for want of the slot, image or connection it names. The checks end it with a result, or name the switch; the switch writes the plan
and starts the fill of its weights; a fill that fails ends the load with result 13 and leaves a plan that had none before it without an image;
once they are filled the stake raises the plan's regions to the highest step that fits and names the first catch, at least 1,024 ticks away and, once
strokes have begun, two stroke lengths; where none fits easy-all holds; and the refill of a loss variant ends with the stake in force. -/
def Obligations.PlanLoads : Prop :=
  ∀ (s : State) (value : Bytes) (r : SourceRecord) (l : PlanLoad) (fetched : Option Plan) (p : Plan) (code k a b : Nat) (m : Manifest)
    (y : Load) (got : Option Bytes),
    let o := s.boot
    let req := parseSource true value
    let good := value.length = 48 ∧ req.reservedSet = false ∧ req.kind ≤ 1 ∧ req.slot ≤ 7 ∧ req.flags ≤ 1 ∧ req.targetSlot ≤ 7 ∧
      (req.imageSlot ≤ 7 ∨ req.imageSlot = 0xFF)
    let found := (req.kind = 0 → (Table.get none o.planSlots req.slot).isSome) ∧ (req.kind = 1 → s.roceTag req.connection = true) ∧
      (req.imageSlot ≠ 0xFF → (Table.get none s.weights.slots req.imageSlot).isSome)
    let free := o.planLoad = none ∧ s.weights.load = none
    let checks := o.planLoad = some l ∧ l.plan = none ∧ l.variant = none ∧ l.src = some r ∧ r.kind = 1
    let first := (s.clk.stroke.toNat + max 4 (s.dictNat 0x210007)) % 2 ^ 48
    let ready := o.filled_ = true ∧ s.clk.running = false ∧ s.clk.ticking = true ∧ s.power.active = false ∧
      ∀ q ∈ s.planRegions, s.powered q = true ∧ (s.region q).loop.stop = false
    (good → found → free → Completes (.planLoad value) s (fun u => u.istatus = 0 ∧ u.boot.plan = o.plan ∧
      ∃ x, u.boot.planLoad = some x ∧ x.src = some req ∧ x.plan = none ∧ x.regatta = s.dictNat 0x610001 ∧ x.map = s.blob 0x610002)) ∧
    (good → ¬free → Completes (.planLoad value) s (fun u => u = { s with boot := { o with planResult := 11 }, istatus := 5 })) ∧
    (good → ¬found → free → Completes (.planLoad value) s (fun u => u = { s with istatus := 6 })) ∧
    (value.length = 48 → ¬good → Completes (.planLoad value) s (fun u => u = { s with istatus := 3 })) ∧
    (value.length ≠ 48 → Completes (.planLoad value) s (fun u => u = { s with istatus := 4 })) ∧
    (checks → Completes (.planCheckComplete fetched) s (fun u => u.boot.plan = o.plan ∧ match fetched with
      | none => u.boot.planLoad = none ∧ u.boot.planResult = 1
      | some f => match s.planFault l (s.readPlan l f) (s.planImage l.src) with
        | some c => u.boot.planLoad = none ∧ u.boot.planResult = c
        | none => ∃ x, u.boot.planLoad = some x ∧ x.plan = some (s.readPlan l f) ∧ x.phase = 2 ∧
            x.switchAt = if r.stroke = 0 ∨ laterMod 48 first r.stroke = true then first else r.stroke)) ∧
    (o.planLoad = some l → l.plan = some p → l.phase = 2 → l.variant = none → l.hit = false → o.plan = none → s.planImage l.src = some m →
      Completes .planSwitch s (fun u => u.boot.plan = some p ∧ u.boot.variant = 0 ∧ u.boot.filled_ = false ∧ u.boot.staked = false ∧
        u.weights.state = 1 ∧ u.weights.load.isSome ∧ ∃ x, u.boot.planLoad = some x ∧ x.phase = 4)) ∧
    (s.weights.load = some y → y.kind = .plan → y.man = none →
      (got = none ∧ code = 1 ∨ (s.manifestIn y got).bind (s.manifestFault y) = some code) →
      o.planLoad.bind (fun q => q.prev) = none → Completes (.manifestReceive got) s (fun u => u.boot.plan = o.plan ∧ u.boot.planLoad = none ∧
        u.boot.planResult = 13 ∧ u.weights.load = none ∧ u.weights.result = code ∧ u.tiles = s.tiles)) ∧
    (ready → o.plan = some p → o.staked = false → s.highestFit p = some k → s.pairFor {} k = some (a, b) → s.isMember = false → s.isRoot = false →
      s.links.pairState ≠ 4 → s.links.pairState ≠ 5 → (∀ c ∈ s.clk.causes, c ∈ [1, 3, 4, 12]) → Completes .stakeBegin s (fun u =>
        u.boot.staked = true ∧ u.clk.len = a ∧ u.clk.fin = b ∧ u.clk.step = k ∧ u.clk.running = false ∧
        ∃ e, u.clk.resume = some e ∧ e.len = a ∧ e.fin = b ∧ e.step = k ∧ s.clk.tick.toNat + 1024 ≤ e.tick ∧
          (s.clk.begun = true → s.clk.tick.toNat + 2 * max s.clk.lastLen a ≤ e.tick))) ∧
    (ready → o.plan = some p → o.staked = false → s.highestFit p = none → 7 ∉ s.clk.causes → Completes .stakeBegin s (fun u =>
      u.boot.staked = true ∧ u.clk.running = false ∧ u.clk.resume = none ∧ 7 ∈ u.clk.causes)) ∧
    (o.planLoad = some l → o.plan = some p → l.variant.isSome → l.phase = 4 → s.clk.running = false → Completes .lossVariantRefillDone s (fun u =>
      u.boot.filled_ = true ∧ u.boot.staked = true ∧ u.boot.plan = some p ∧ u.clk.running = false ∧
      ∃ x, u.boot.planLoad = some x ∧ x.phase = 5))

/-! ## The recorder and the registers -/

/-- The event recorder. The oldest record of a region's queue reaches Cox, is numbered and put in the ring, unless its code has used up its
share of the interval, whose end begins the next; a region that discarded records meanwhile reports them; a period or a write starts a flush of
every record numbered, which ends with them in flash; a cursor, an export that starts or ends, the clears of histograms, stage counters and extremes; snapshots are taken into the first free slot, fire by
software, and are freed; the standby gets the counts; and the temperature of every powered region and the high water of its seam sides are counted
every period. -/
def Obligations.EventRecorder : Prop :=
  ∀ (s : State) (r : BitVec 6) (q : Record) (rest : List Record) (v8 : Byte) (cur : BitVec 64) (value : Word) (i : Nat)
    (b : Bytes), s.coxUp = true → Table.wf {} s.regions = true →
    let n := r.toNat
    let e := (s.region n).evr
    let g := s.log
    let only := fun (u : State) => u = { s with log := u.log, istatus := u.istatus }
    (e.evrQ = q :: rest → e.evrLost = 0 → s.suppressed q.code q.sev = false → Completes (.eventRecordReceive r) s (fun u =>
      (u.region n).evr.evrQ = rest ∧ u.log.newest = g.newest + 1 ∧ u.tiles = s.tiles ∧
      ∃ w, Table.get {} u.log.ring ((g.newest + 1) % 16384) = w ∧ w.seq = g.newest + 1 ∧ w.code = q.code ∧ w.tick = q.tick ∧ w.payload = q.payload)) ∧
    (e.evrQ = q :: rest → e.evrLost = 0 → s.suppressed q.code q.sev = true → Completes (.eventRecordReceive r) s (fun u =>
      (u.region n).evr.evrQ = rest ∧ u.log.newest = g.newest ∧ u.log.ring = g.ring ∧ u.log.suppressedTotal = g.suppressedTotal + 1)) ∧
    (e.evrQ = q :: rest → e.evrLost ≠ 0 → rest.length < 64 → Completes (.eventRecordReceive r) s (fun u => (u.region n).evr.evrLost = 0 ∧
      ∃ x, (u.region n).evr.evrQ = rest ++ [x] ∧ x.code = 3 ∧ x.payload = natLE 8 0 ++ natLE 4 e.evrLost ++ natLE 1 3)) ∧
    Completes .rateIntervalEnd s (fun u => u.log.intervalStart = g.intervalStart + 1000 ∧ u.log.limit = s.dictNat 0x501001 ∧
      u.log.overrides = s.blob 0x501002 ∧ (g.intervalStart + 1000) * msTicks ≤ u.now ∧
      (dueSummaries g.rates = [] → u.log.ring = g.ring ∧ u.log.newest = g.newest)) ∧
    Completes .flushPeriodExpiry s (fun u => u.log.flushing = some g.newest ∧ u.log.histFlash = g.hist ∧ u.log.stageFlash = g.stageCnt ∧
      u.log.extFlash = g.extremes ∧ (g.lastFlush + 1000 * s.dictNat 0x500003) * msTicks ≤ u.now) ∧
    (v8 = 1 → Completes (.flush v8) s (fun u => only u ∧ u.log.flushing = some g.newest ∧ u.istatus = 0)) ∧
    (g.flushing = some g.newest → g.newest = g.flushed + 1 → g.lostCount = 0 → (Table.get {} g.ring (g.newest % 16384)).seq = g.newest →
      Completes (.flushComplete true) s (fun u => u.log.flashOk = true ∧ u.log.flushed = g.newest ∧ u.log.flushing = none ∧
        u.log.newest = g.newest)) ∧
    (g.flushing.isSome → Completes (.flushComplete false) s (fun u => u = { s with log := { g with flashOk := false } })) ∧
    (1 ≤ cur.toNat → cur.toNat ≤ g.newest + 1 → s.host.storeState ≠ 1 → Table.wf none s.dict = true → Completes (.cursorWrite cur) s (fun u =>
      u.dictNat 0x502001 = cur.toNat ∧ u.istatus = 0 ∧ u.log = g)) ∧
    (g.newest + 1 < cur.toNat → Completes (.cursorWrite cur) s (fun u => u = { s with istatus := 3 })) ∧
    Completes (.export_ (List.replicate 32 0)) s (fun u => u.log.exportState = 0 ∧ u.istatus = 0) ∧
    (let len := fieldNat b 16 8
     let good := zeroField b 2 2 = true ∧ zeroField b 24 8 = true ∧ fieldNat b 8 8 % 64 = 0 ∧ len % 64 = 0 ∧ 4096 ≤ len
     let go := fun (P : State → Prop) => Completes (.export_ b) s P
     b.length = 32 → (∃ x ∈ b, x ≠ 0) → (¬good → go (fun u => u = { s with istatus := 3 })) ∧
       (good → s.host.storeState = 1 → go (fun u => u = { s with istatus := 5 })) ∧
       (good → s.host.storeState ≠ 1 → s.roceTag (fieldNat b 0 2) = false → go (fun u => u = { s with istatus := 6 })) ∧
       (good → s.host.storeState ≠ 1 → s.roceTag (fieldNat b 0 2) = true → Table.wf none s.blobs = true → go (fun u => u.log.exportState = 1 ∧
         u.istatus = 0 ∧ u.blob 0x503001 = b))) ∧
    (v8 = 0xFF → Completes (.histogramClear v8) s (fun u => only u ∧ u.log.hist = [] ∧ u.istatus = 0)) ∧
    (1 ≤ v8.toNat → v8.toNat ≤ 8 → Completes (.histogramClear v8) s (fun u => only u ∧ u.istatus = 0 ∧
      ∀ k, Table.get 0 u.log.hist k = if k / 32 = v8.toNat - 1 then 0 else Table.get 0 g.hist k)) ∧
    (v8 = 1 → Completes (.stageCountersClear v8) s (fun u => only u ∧ u.log = { g with stageCnt := [] } ∧ u.istatus = 0) ∧
      Completes (.extremesClear v8) s (fun u => only u ∧ u.log = { g with extremes := [] } ∧ u.istatus = 0)) ∧
    (s.boot.standby = 2 → Completes .counterMirror s (fun u => u = { s with log := { g with
      histMirror := g.hist
      stageMirror := g.stageCnt
      extMirror := g.extremes } })) ∧
    (Table.wf 0 g.hist = true → Completes .histogramPeriodSample s (fun u => u = { s with log := u.log } ∧ ∀ k, Table.get 0 u.log.hist k = Table.get 0 g.hist k +
      (s.poweredList.filter (fun q => k = 96 + linBin 40 2 ((s.region q).pwr.hot.toNat / 8))).length +
      (s.poweredList.flatMap (fun q => (List.range 4).filter (fun d => (neighbour q d).isSome && decide (k = 128 + linBin 0 1 (s.seam q d).highWater.toNat)))).length)) ∧
    (s.powered n = true → i < 12 → e.snapTrig.getLsbD i = true → Table.get 0 e.snapLast i = 0 → e.snaps = [] →
      Completes (.snapshotTrigger r (1#12 <<< i)) s (fun u => OtherRegions n s u ∧ u.tiles = s.tiles ∧
        ∃ w, Table.get none (u.region n).evr.snaps 0 = some w ∧ w.tick = s.clk.tick ∧ w.mask = 1#16 <<< i ∧ w.vals = s.snapVals n)) ∧
    (s.powered n = true → value.getLsbD 0 = true → e.snapTrig.getLsbD 11 = true → Table.get 0 e.snapLast 11 = 0 → e.snaps = [] →
      Completes (.snapshotSoftwareFire r value) s (fun u => OtherRegions n s u ∧
        ∃ w, Table.get none (u.region n).evr.snaps 0 = some w ∧ w.mask = 1#16 <<< 11)) ∧
    (s.powered n = true → Completes (.snapshotFree r value) s (fun u => OnlyRegion n s u ∧
      ∀ k, Table.get none (u.region n).evr.snaps k = if k < 16 ∧ value.getLsbD k = true then none else Table.get none e.snaps k))

/-- Register accesses act by the access code of each field: a read of a counter that clears by reading returns it and clears it, a 1 written to a
W1C flag clears it alone, a write of a read-only register changes nothing, and an offset without a register, like the window of a region
without power, answers with an access fault. -/
def Obligations.RegisterAccesses : Prop :=
  ∀ (s : State) (r : BitVec 6) (off : BitVec 24) (v : Word), Table.wf {} s.regions = true →
    let n := r.toNat
    let g := s.region n
    let up := s.powered n = true
    let fault := { s with accessFault := true, readOut := none }
    (s.powered n = false → exec (.registerReadClear none r off) s = .next fault ∧ exec (.registerWrite none r off v) s = .next fault) ∧
    (up → peekReg s n off.toNat = none → exec (.registerReadClear none r off) s = .next fault) ∧
    (up → Completes (.registerReadClear none r 0x4C) s (fun u => OnlyRegion n s u ∧ u.accessFault = false ∧ u.readOut = some g.loop.droops ∧
      u.region n = { g with loop := { g.loop with droops := 0 } })) ∧
    (up → Completes (.registerReadClear none r 0x44) s (fun u => OnlyRegion n s u ∧ (u.region n).loop.unlocks = 0 ∧ u.readOut.isSome ∧
      (u.region n).loop.refused = g.loop.refused)) ∧
    (up → Completes (.registerWrite none r 0x44 v) s (fun u => OnlyRegion n s u ∧
      u.region n = { g with loop := { g.loop with refused := g.loop.refused && !v.getLsbD 7 } })) ∧
    (up → Completes (.registerWrite none r 0x48 v) s (fun u => OnlyRegion n s u ∧ (u.region n).loop.thresh = v.setWidth 7 ∧
      (u.region n).loop.droopEn = v.getLsbD 7)) ∧
    (up → Completes (.registerWrite none r 0x4C v) s (fun u => u = { s with accessFault := false })) ∧
    (up → Completes (.registerWrite none r 0x20008 v) s (fun u => OnlyRegion n s u ∧
      u.region n = { g with pwr := { g.pwr with trip := v.setWidth 12 } }))
end

