-- ==== Sys2Proof/Laws/Digest.lean ====
section
/-! SUPPORT. The lengths of bytes and digests. -/

namespace Sys2Proof.Machine

@[simp] theorem natLE_length (n v : Nat) : (natLE n v).length = n := by
  induction n generalizing v with
  | zero => rfl
  | succ n ih => simp [natLE, ih]

@[simp] theorem natBE_length (n v : Nat) : (natBE n v).length = n := by simp [natBE]

/-- Bytes padded or cut have the length asked for. -/
@[simp] theorem padTo_length (n : Nat) (bs : Bytes) : (padTo n bs).length = n := by simp [padTo]

/-- A SHA-384 digest has 48 bytes. -/
@[simp] theorem sha384_length (bs : Bytes) : (sha384 bs).length = 48 := padTo_length _ _

/-- A SHA-256 digest has 32 bytes. -/
@[simp] theorem sha256_length (bs : Bytes) : (sha256 bs).length = 32 := padTo_length _ _

/-- A device ID has 16 bytes (R699). -/
@[simp] theorem Ident.deviceId_length (i : Ident) : i.deviceId.length = 16 := by simp [Ident.deviceId]

/-- A field of the bytes in front. -/
theorem slice_before (a x : Bytes) (off n : Nat) (h : off + n ≤ a.length) : slice (a ++ x) off n = slice a off n := by
  simp [slice, List.drop_append, List.take_append, show off - a.length = 0 by omega, show n - (a.length - off) = 0 by omega]

/-- A field behind them. -/
theorem slice_past (a x : Bytes) (off n : Nat) (h : a.length ≤ off) : slice (a ++ x) off n = slice x (off - a.length) n := by
  simp [slice, List.drop_append, List.drop_eq_nil_of_le h]

/-- The whole of the bytes in front. -/
theorem slice_whole (a x : Bytes) : slice (a ++ x) 0 a.length = a := by simp [slice]

end Sys2Proof.Machine
end

