-- ==== Sys2Proof/Laws/State.lean ====
section
/-! SUPPORT. What each shared update of the state leaves and what it sets, field by field. -/

namespace Sys2Proof.Machine

variable (s : State)

@[simp] theorem State.setTile_now (t : TileId) (v : Tile) : (s.setTile t v).now = s.now := rfl
@[simp] theorem State.setTile_free (t : TileId) (v : Tile) : (s.setTile t v).free = s.free := rfl
@[simp] theorem State.setTile_ident (t : TileId) (v : Tile) : (s.setTile t v).ident = s.ident := rfl
@[simp] theorem State.setTile_clk (t : TileId) (v : Tile) : (s.setTile t v).clk = s.clk := rfl
@[simp] theorem State.setTile_tiles (t : TileId) (v : Tile) : (s.setTile t v).tiles = Table.put {} s.tiles t.key v := rfl
@[simp] theorem State.setTile_regions (t : TileId) (v : Tile) : (s.setTile t v).regions = s.regions := rfl
@[simp] theorem State.setTile_tier (t : TileId) (v : Tile) : (s.setTile t v).tier = s.tier := rfl
@[simp] theorem State.setTile_ref (t : TileId) (v : Tile) : (s.setTile t v).ref = s.ref := rfl
@[simp] theorem State.setTile_power (t : TileId) (v : Tile) : (s.setTile t v).power = s.power := rfl
@[simp] theorem State.setTile_links (t : TileId) (v : Tile) : (s.setTile t v).links = s.links := rfl
@[simp] theorem State.setTile_host (t : TileId) (v : Tile) : (s.setTile t v).host = s.host := rfl
@[simp] theorem State.setTile_mode (t : TileId) (v : Tile) : (s.setTile t v).mode = s.mode := rfl
@[simp] theorem State.setTile_serve (t : TileId) (v : Tile) : (s.setTile t v).serve = s.serve := rfl
@[simp] theorem State.setTile_weights (t : TileId) (v : Tile) : (s.setTile t v).weights = s.weights := rfl
@[simp] theorem State.setTile_log (t : TileId) (v : Tile) : (s.setTile t v).log = s.log := rfl
@[simp] theorem State.setTile_boot (t : TileId) (v : Tile) : (s.setTile t v).boot = s.boot := rfl
@[simp] theorem State.setTile_dict (t : TileId) (v : Tile) : (s.setTile t v).dict = s.dict := rfl
@[simp] theorem State.setTile_blobs (t : TileId) (v : Tile) : (s.setTile t v).blobs = s.blobs := rfl
@[simp] theorem State.setTile_transit (t : TileId) (v : Tile) : (s.setTile t v).transit = s.transit := rfl
@[simp] theorem State.setTile_counts (t : TileId) (v : Tile) : (s.setTile t v).counts = s.counts := rfl
@[simp] theorem State.setTile_refills (t : TileId) (v : Tile) : (s.setTile t v).refills = s.refills := rfl
@[simp] theorem State.setTile_remapRecord (t : TileId) (v : Tile) : (s.setTile t v).remapRecord = s.remapRecord := rfl
@[simp] theorem State.setTile_ring (t : TileId) (v : Tile) : (s.setTile t v).ring = s.ring := rfl
@[simp] theorem State.setTile_readOut (t : TileId) (v : Tile) : (s.setTile t v).readOut = s.readOut := rfl
@[simp] theorem State.setTile_accessFault (t : TileId) (v : Tile) : (s.setTile t v).accessFault = s.accessFault := rfl
@[simp] theorem State.setTile_istatus (t : TileId) (v : Tile) : (s.setTile t v).istatus = s.istatus := rfl
@[simp] theorem State.setTile_pending (t : TileId) (v : Tile) : (s.setTile t v).pending = s.pending := rfl

@[simp] theorem State.updTile_now (t : TileId) (f : Tile → Tile) : (s.updTile t f).now = s.now := rfl
@[simp] theorem State.updTile_free (t : TileId) (f : Tile → Tile) : (s.updTile t f).free = s.free := rfl
@[simp] theorem State.updTile_ident (t : TileId) (f : Tile → Tile) : (s.updTile t f).ident = s.ident := rfl
@[simp] theorem State.updTile_clk (t : TileId) (f : Tile → Tile) : (s.updTile t f).clk = s.clk := rfl
@[simp] theorem State.updTile_tiles (t : TileId) (f : Tile → Tile) : (s.updTile t f).tiles = Table.put {} s.tiles t.key (f (s.tile t)) := rfl
@[simp] theorem State.updTile_regions (t : TileId) (f : Tile → Tile) : (s.updTile t f).regions = s.regions := rfl
@[simp] theorem State.updTile_tier (t : TileId) (f : Tile → Tile) : (s.updTile t f).tier = s.tier := rfl
@[simp] theorem State.updTile_ref (t : TileId) (f : Tile → Tile) : (s.updTile t f).ref = s.ref := rfl
@[simp] theorem State.updTile_power (t : TileId) (f : Tile → Tile) : (s.updTile t f).power = s.power := rfl
@[simp] theorem State.updTile_links (t : TileId) (f : Tile → Tile) : (s.updTile t f).links = s.links := rfl
@[simp] theorem State.updTile_host (t : TileId) (f : Tile → Tile) : (s.updTile t f).host = s.host := rfl
@[simp] theorem State.updTile_mode (t : TileId) (f : Tile → Tile) : (s.updTile t f).mode = s.mode := rfl
@[simp] theorem State.updTile_serve (t : TileId) (f : Tile → Tile) : (s.updTile t f).serve = s.serve := rfl
@[simp] theorem State.updTile_weights (t : TileId) (f : Tile → Tile) : (s.updTile t f).weights = s.weights := rfl
@[simp] theorem State.updTile_log (t : TileId) (f : Tile → Tile) : (s.updTile t f).log = s.log := rfl
@[simp] theorem State.updTile_boot (t : TileId) (f : Tile → Tile) : (s.updTile t f).boot = s.boot := rfl
@[simp] theorem State.updTile_dict (t : TileId) (f : Tile → Tile) : (s.updTile t f).dict = s.dict := rfl
@[simp] theorem State.updTile_blobs (t : TileId) (f : Tile → Tile) : (s.updTile t f).blobs = s.blobs := rfl
@[simp] theorem State.updTile_transit (t : TileId) (f : Tile → Tile) : (s.updTile t f).transit = s.transit := rfl
@[simp] theorem State.updTile_counts (t : TileId) (f : Tile → Tile) : (s.updTile t f).counts = s.counts := rfl
@[simp] theorem State.updTile_refills (t : TileId) (f : Tile → Tile) : (s.updTile t f).refills = s.refills := rfl
@[simp] theorem State.updTile_remapRecord (t : TileId) (f : Tile → Tile) : (s.updTile t f).remapRecord = s.remapRecord := rfl
@[simp] theorem State.updTile_ring (t : TileId) (f : Tile → Tile) : (s.updTile t f).ring = s.ring := rfl
@[simp] theorem State.updTile_readOut (t : TileId) (f : Tile → Tile) : (s.updTile t f).readOut = s.readOut := rfl
@[simp] theorem State.updTile_accessFault (t : TileId) (f : Tile → Tile) : (s.updTile t f).accessFault = s.accessFault := rfl
@[simp] theorem State.updTile_istatus (t : TileId) (f : Tile → Tile) : (s.updTile t f).istatus = s.istatus := rfl
@[simp] theorem State.updTile_pending (t : TileId) (f : Tile → Tile) : (s.updTile t f).pending = s.pending := rfl

@[simp] theorem State.setRegion_now (r : Nat) (v : Region) : (s.setRegion r v).now = s.now := rfl
@[simp] theorem State.setRegion_free (r : Nat) (v : Region) : (s.setRegion r v).free = s.free := rfl
@[simp] theorem State.setRegion_ident (r : Nat) (v : Region) : (s.setRegion r v).ident = s.ident := rfl
@[simp] theorem State.setRegion_clk (r : Nat) (v : Region) : (s.setRegion r v).clk = s.clk := rfl
@[simp] theorem State.setRegion_tiles (r : Nat) (v : Region) : (s.setRegion r v).tiles = s.tiles := rfl
@[simp] theorem State.setRegion_regions (r : Nat) (v : Region) : (s.setRegion r v).regions = Table.put {} s.regions r v := rfl
@[simp] theorem State.setRegion_tier (r : Nat) (v : Region) : (s.setRegion r v).tier = s.tier := rfl
@[simp] theorem State.setRegion_ref (r : Nat) (v : Region) : (s.setRegion r v).ref = s.ref := rfl
@[simp] theorem State.setRegion_power (r : Nat) (v : Region) : (s.setRegion r v).power = s.power := rfl
@[simp] theorem State.setRegion_links (r : Nat) (v : Region) : (s.setRegion r v).links = s.links := rfl
@[simp] theorem State.setRegion_host (r : Nat) (v : Region) : (s.setRegion r v).host = s.host := rfl
@[simp] theorem State.setRegion_mode (r : Nat) (v : Region) : (s.setRegion r v).mode = s.mode := rfl
@[simp] theorem State.setRegion_serve (r : Nat) (v : Region) : (s.setRegion r v).serve = s.serve := rfl
@[simp] theorem State.setRegion_weights (r : Nat) (v : Region) : (s.setRegion r v).weights = s.weights := rfl
@[simp] theorem State.setRegion_log (r : Nat) (v : Region) : (s.setRegion r v).log = s.log := rfl
@[simp] theorem State.setRegion_boot (r : Nat) (v : Region) : (s.setRegion r v).boot = s.boot := rfl
@[simp] theorem State.setRegion_dict (r : Nat) (v : Region) : (s.setRegion r v).dict = s.dict := rfl
@[simp] theorem State.setRegion_blobs (r : Nat) (v : Region) : (s.setRegion r v).blobs = s.blobs := rfl
@[simp] theorem State.setRegion_transit (r : Nat) (v : Region) : (s.setRegion r v).transit = s.transit := rfl
@[simp] theorem State.setRegion_counts (r : Nat) (v : Region) : (s.setRegion r v).counts = s.counts := rfl
@[simp] theorem State.setRegion_refills (r : Nat) (v : Region) : (s.setRegion r v).refills = s.refills := rfl
@[simp] theorem State.setRegion_remapRecord (r : Nat) (v : Region) : (s.setRegion r v).remapRecord = s.remapRecord := rfl
@[simp] theorem State.setRegion_ring (r : Nat) (v : Region) : (s.setRegion r v).ring = s.ring := rfl
@[simp] theorem State.setRegion_readOut (r : Nat) (v : Region) : (s.setRegion r v).readOut = s.readOut := rfl
@[simp] theorem State.setRegion_accessFault (r : Nat) (v : Region) : (s.setRegion r v).accessFault = s.accessFault := rfl
@[simp] theorem State.setRegion_istatus (r : Nat) (v : Region) : (s.setRegion r v).istatus = s.istatus := rfl
@[simp] theorem State.setRegion_pending (r : Nat) (v : Region) : (s.setRegion r v).pending = s.pending := rfl

@[simp] theorem State.updRegion_now (r : Nat) (f : Region → Region) : (s.updRegion r f).now = s.now := rfl
@[simp] theorem State.updRegion_free (r : Nat) (f : Region → Region) : (s.updRegion r f).free = s.free := rfl
@[simp] theorem State.updRegion_ident (r : Nat) (f : Region → Region) : (s.updRegion r f).ident = s.ident := rfl
@[simp] theorem State.updRegion_clk (r : Nat) (f : Region → Region) : (s.updRegion r f).clk = s.clk := rfl
@[simp] theorem State.updRegion_tiles (r : Nat) (f : Region → Region) : (s.updRegion r f).tiles = s.tiles := rfl
@[simp] theorem State.updRegion_regions (r : Nat) (f : Region → Region) : (s.updRegion r f).regions = Table.put {} s.regions r (f (s.region r)) := rfl
@[simp] theorem State.updRegion_tier (r : Nat) (f : Region → Region) : (s.updRegion r f).tier = s.tier := rfl
@[simp] theorem State.updRegion_ref (r : Nat) (f : Region → Region) : (s.updRegion r f).ref = s.ref := rfl
@[simp] theorem State.updRegion_power (r : Nat) (f : Region → Region) : (s.updRegion r f).power = s.power := rfl
@[simp] theorem State.updRegion_links (r : Nat) (f : Region → Region) : (s.updRegion r f).links = s.links := rfl
@[simp] theorem State.updRegion_host (r : Nat) (f : Region → Region) : (s.updRegion r f).host = s.host := rfl
@[simp] theorem State.updRegion_mode (r : Nat) (f : Region → Region) : (s.updRegion r f).mode = s.mode := rfl
@[simp] theorem State.updRegion_serve (r : Nat) (f : Region → Region) : (s.updRegion r f).serve = s.serve := rfl
@[simp] theorem State.updRegion_weights (r : Nat) (f : Region → Region) : (s.updRegion r f).weights = s.weights := rfl
@[simp] theorem State.updRegion_log (r : Nat) (f : Region → Region) : (s.updRegion r f).log = s.log := rfl
@[simp] theorem State.updRegion_boot (r : Nat) (f : Region → Region) : (s.updRegion r f).boot = s.boot := rfl
@[simp] theorem State.updRegion_dict (r : Nat) (f : Region → Region) : (s.updRegion r f).dict = s.dict := rfl
@[simp] theorem State.updRegion_blobs (r : Nat) (f : Region → Region) : (s.updRegion r f).blobs = s.blobs := rfl
@[simp] theorem State.updRegion_transit (r : Nat) (f : Region → Region) : (s.updRegion r f).transit = s.transit := rfl
@[simp] theorem State.updRegion_counts (r : Nat) (f : Region → Region) : (s.updRegion r f).counts = s.counts := rfl
@[simp] theorem State.updRegion_refills (r : Nat) (f : Region → Region) : (s.updRegion r f).refills = s.refills := rfl
@[simp] theorem State.updRegion_remapRecord (r : Nat) (f : Region → Region) : (s.updRegion r f).remapRecord = s.remapRecord := rfl
@[simp] theorem State.updRegion_ring (r : Nat) (f : Region → Region) : (s.updRegion r f).ring = s.ring := rfl
@[simp] theorem State.updRegion_readOut (r : Nat) (f : Region → Region) : (s.updRegion r f).readOut = s.readOut := rfl
@[simp] theorem State.updRegion_accessFault (r : Nat) (f : Region → Region) : (s.updRegion r f).accessFault = s.accessFault := rfl
@[simp] theorem State.updRegion_istatus (r : Nat) (f : Region → Region) : (s.updRegion r f).istatus = s.istatus := rfl
@[simp] theorem State.updRegion_pending (r : Nat) (f : Region → Region) : (s.updRegion r f).pending = s.pending := rfl

@[simp] theorem State.updClk_now (r : Nat) (f : RegionClk → RegionClk) : (s.updClk r f).now = s.now := rfl
@[simp] theorem State.updClk_free (r : Nat) (f : RegionClk → RegionClk) : (s.updClk r f).free = s.free := rfl
@[simp] theorem State.updClk_ident (r : Nat) (f : RegionClk → RegionClk) : (s.updClk r f).ident = s.ident := rfl
@[simp] theorem State.updClk_clk (r : Nat) (f : RegionClk → RegionClk) : (s.updClk r f).clk = s.clk := rfl
@[simp] theorem State.updClk_tiles (r : Nat) (f : RegionClk → RegionClk) : (s.updClk r f).tiles = s.tiles := rfl
@[simp] theorem State.updClk_tier (r : Nat) (f : RegionClk → RegionClk) : (s.updClk r f).tier = s.tier := rfl
@[simp] theorem State.updClk_ref (r : Nat) (f : RegionClk → RegionClk) : (s.updClk r f).ref = s.ref := rfl
@[simp] theorem State.updClk_power (r : Nat) (f : RegionClk → RegionClk) : (s.updClk r f).power = s.power := rfl
@[simp] theorem State.updClk_links (r : Nat) (f : RegionClk → RegionClk) : (s.updClk r f).links = s.links := rfl
@[simp] theorem State.updClk_host (r : Nat) (f : RegionClk → RegionClk) : (s.updClk r f).host = s.host := rfl
@[simp] theorem State.updClk_mode (r : Nat) (f : RegionClk → RegionClk) : (s.updClk r f).mode = s.mode := rfl
@[simp] theorem State.updClk_serve (r : Nat) (f : RegionClk → RegionClk) : (s.updClk r f).serve = s.serve := rfl
@[simp] theorem State.updClk_weights (r : Nat) (f : RegionClk → RegionClk) : (s.updClk r f).weights = s.weights := rfl
@[simp] theorem State.updClk_log (r : Nat) (f : RegionClk → RegionClk) : (s.updClk r f).log = s.log := rfl
@[simp] theorem State.updClk_boot (r : Nat) (f : RegionClk → RegionClk) : (s.updClk r f).boot = s.boot := rfl
@[simp] theorem State.updClk_dict (r : Nat) (f : RegionClk → RegionClk) : (s.updClk r f).dict = s.dict := rfl
@[simp] theorem State.updClk_blobs (r : Nat) (f : RegionClk → RegionClk) : (s.updClk r f).blobs = s.blobs := rfl
@[simp] theorem State.updClk_transit (r : Nat) (f : RegionClk → RegionClk) : (s.updClk r f).transit = s.transit := rfl
@[simp] theorem State.updClk_counts (r : Nat) (f : RegionClk → RegionClk) : (s.updClk r f).counts = s.counts := rfl
@[simp] theorem State.updClk_refills (r : Nat) (f : RegionClk → RegionClk) : (s.updClk r f).refills = s.refills := rfl
@[simp] theorem State.updClk_remapRecord (r : Nat) (f : RegionClk → RegionClk) : (s.updClk r f).remapRecord = s.remapRecord := rfl
@[simp] theorem State.updClk_ring (r : Nat) (f : RegionClk → RegionClk) : (s.updClk r f).ring = s.ring := rfl
@[simp] theorem State.updClk_readOut (r : Nat) (f : RegionClk → RegionClk) : (s.updClk r f).readOut = s.readOut := rfl
@[simp] theorem State.updClk_accessFault (r : Nat) (f : RegionClk → RegionClk) : (s.updClk r f).accessFault = s.accessFault := rfl
@[simp] theorem State.updClk_istatus (r : Nat) (f : RegionClk → RegionClk) : (s.updClk r f).istatus = s.istatus := rfl
@[simp] theorem State.updClk_pending (r : Nat) (f : RegionClk → RegionClk) : (s.updClk r f).pending = s.pending := rfl

@[simp] theorem State.updEcc_now (r : Nat) (f : RegionEcc → RegionEcc) : (s.updEcc r f).now = s.now := rfl
@[simp] theorem State.updEcc_free (r : Nat) (f : RegionEcc → RegionEcc) : (s.updEcc r f).free = s.free := rfl
@[simp] theorem State.updEcc_ident (r : Nat) (f : RegionEcc → RegionEcc) : (s.updEcc r f).ident = s.ident := rfl
@[simp] theorem State.updEcc_clk (r : Nat) (f : RegionEcc → RegionEcc) : (s.updEcc r f).clk = s.clk := rfl
@[simp] theorem State.updEcc_tiles (r : Nat) (f : RegionEcc → RegionEcc) : (s.updEcc r f).tiles = s.tiles := rfl
@[simp] theorem State.updEcc_tier (r : Nat) (f : RegionEcc → RegionEcc) : (s.updEcc r f).tier = s.tier := rfl
@[simp] theorem State.updEcc_ref (r : Nat) (f : RegionEcc → RegionEcc) : (s.updEcc r f).ref = s.ref := rfl
@[simp] theorem State.updEcc_power (r : Nat) (f : RegionEcc → RegionEcc) : (s.updEcc r f).power = s.power := rfl
@[simp] theorem State.updEcc_links (r : Nat) (f : RegionEcc → RegionEcc) : (s.updEcc r f).links = s.links := rfl
@[simp] theorem State.updEcc_host (r : Nat) (f : RegionEcc → RegionEcc) : (s.updEcc r f).host = s.host := rfl
@[simp] theorem State.updEcc_mode (r : Nat) (f : RegionEcc → RegionEcc) : (s.updEcc r f).mode = s.mode := rfl
@[simp] theorem State.updEcc_serve (r : Nat) (f : RegionEcc → RegionEcc) : (s.updEcc r f).serve = s.serve := rfl
@[simp] theorem State.updEcc_weights (r : Nat) (f : RegionEcc → RegionEcc) : (s.updEcc r f).weights = s.weights := rfl
@[simp] theorem State.updEcc_log (r : Nat) (f : RegionEcc → RegionEcc) : (s.updEcc r f).log = s.log := rfl
@[simp] theorem State.updEcc_boot (r : Nat) (f : RegionEcc → RegionEcc) : (s.updEcc r f).boot = s.boot := rfl
@[simp] theorem State.updEcc_dict (r : Nat) (f : RegionEcc → RegionEcc) : (s.updEcc r f).dict = s.dict := rfl
@[simp] theorem State.updEcc_blobs (r : Nat) (f : RegionEcc → RegionEcc) : (s.updEcc r f).blobs = s.blobs := rfl
@[simp] theorem State.updEcc_transit (r : Nat) (f : RegionEcc → RegionEcc) : (s.updEcc r f).transit = s.transit := rfl
@[simp] theorem State.updEcc_counts (r : Nat) (f : RegionEcc → RegionEcc) : (s.updEcc r f).counts = s.counts := rfl
@[simp] theorem State.updEcc_refills (r : Nat) (f : RegionEcc → RegionEcc) : (s.updEcc r f).refills = s.refills := rfl
@[simp] theorem State.updEcc_remapRecord (r : Nat) (f : RegionEcc → RegionEcc) : (s.updEcc r f).remapRecord = s.remapRecord := rfl
@[simp] theorem State.updEcc_ring (r : Nat) (f : RegionEcc → RegionEcc) : (s.updEcc r f).ring = s.ring := rfl
@[simp] theorem State.updEcc_readOut (r : Nat) (f : RegionEcc → RegionEcc) : (s.updEcc r f).readOut = s.readOut := rfl
@[simp] theorem State.updEcc_accessFault (r : Nat) (f : RegionEcc → RegionEcc) : (s.updEcc r f).accessFault = s.accessFault := rfl
@[simp] theorem State.updEcc_istatus (r : Nat) (f : RegionEcc → RegionEcc) : (s.updEcc r f).istatus = s.istatus := rfl
@[simp] theorem State.updEcc_pending (r : Nat) (f : RegionEcc → RegionEcc) : (s.updEcc r f).pending = s.pending := rfl

@[simp] theorem State.updRef_now (r : Nat) (f : RegionRef → RegionRef) : (s.updRef r f).now = s.now := rfl
@[simp] theorem State.updRef_free (r : Nat) (f : RegionRef → RegionRef) : (s.updRef r f).free = s.free := rfl
@[simp] theorem State.updRef_ident (r : Nat) (f : RegionRef → RegionRef) : (s.updRef r f).ident = s.ident := rfl
@[simp] theorem State.updRef_clk (r : Nat) (f : RegionRef → RegionRef) : (s.updRef r f).clk = s.clk := rfl
@[simp] theorem State.updRef_tiles (r : Nat) (f : RegionRef → RegionRef) : (s.updRef r f).tiles = s.tiles := rfl
@[simp] theorem State.updRef_tier (r : Nat) (f : RegionRef → RegionRef) : (s.updRef r f).tier = s.tier := rfl
@[simp] theorem State.updRef_ref (r : Nat) (f : RegionRef → RegionRef) : (s.updRef r f).ref = s.ref := rfl
@[simp] theorem State.updRef_power (r : Nat) (f : RegionRef → RegionRef) : (s.updRef r f).power = s.power := rfl
@[simp] theorem State.updRef_links (r : Nat) (f : RegionRef → RegionRef) : (s.updRef r f).links = s.links := rfl
@[simp] theorem State.updRef_host (r : Nat) (f : RegionRef → RegionRef) : (s.updRef r f).host = s.host := rfl
@[simp] theorem State.updRef_mode (r : Nat) (f : RegionRef → RegionRef) : (s.updRef r f).mode = s.mode := rfl
@[simp] theorem State.updRef_serve (r : Nat) (f : RegionRef → RegionRef) : (s.updRef r f).serve = s.serve := rfl
@[simp] theorem State.updRef_weights (r : Nat) (f : RegionRef → RegionRef) : (s.updRef r f).weights = s.weights := rfl
@[simp] theorem State.updRef_log (r : Nat) (f : RegionRef → RegionRef) : (s.updRef r f).log = s.log := rfl
@[simp] theorem State.updRef_boot (r : Nat) (f : RegionRef → RegionRef) : (s.updRef r f).boot = s.boot := rfl
@[simp] theorem State.updRef_dict (r : Nat) (f : RegionRef → RegionRef) : (s.updRef r f).dict = s.dict := rfl
@[simp] theorem State.updRef_blobs (r : Nat) (f : RegionRef → RegionRef) : (s.updRef r f).blobs = s.blobs := rfl
@[simp] theorem State.updRef_transit (r : Nat) (f : RegionRef → RegionRef) : (s.updRef r f).transit = s.transit := rfl
@[simp] theorem State.updRef_counts (r : Nat) (f : RegionRef → RegionRef) : (s.updRef r f).counts = s.counts := rfl
@[simp] theorem State.updRef_refills (r : Nat) (f : RegionRef → RegionRef) : (s.updRef r f).refills = s.refills := rfl
@[simp] theorem State.updRef_remapRecord (r : Nat) (f : RegionRef → RegionRef) : (s.updRef r f).remapRecord = s.remapRecord := rfl
@[simp] theorem State.updRef_ring (r : Nat) (f : RegionRef → RegionRef) : (s.updRef r f).ring = s.ring := rfl
@[simp] theorem State.updRef_readOut (r : Nat) (f : RegionRef → RegionRef) : (s.updRef r f).readOut = s.readOut := rfl
@[simp] theorem State.updRef_accessFault (r : Nat) (f : RegionRef → RegionRef) : (s.updRef r f).accessFault = s.accessFault := rfl
@[simp] theorem State.updRef_istatus (r : Nat) (f : RegionRef → RegionRef) : (s.updRef r f).istatus = s.istatus := rfl
@[simp] theorem State.updRef_pending (r : Nat) (f : RegionRef → RegionRef) : (s.updRef r f).pending = s.pending := rfl

@[simp] theorem State.updEvr_now (r : Nat) (f : RegionEvr → RegionEvr) : (s.updEvr r f).now = s.now := rfl
@[simp] theorem State.updEvr_free (r : Nat) (f : RegionEvr → RegionEvr) : (s.updEvr r f).free = s.free := rfl
@[simp] theorem State.updEvr_ident (r : Nat) (f : RegionEvr → RegionEvr) : (s.updEvr r f).ident = s.ident := rfl
@[simp] theorem State.updEvr_clk (r : Nat) (f : RegionEvr → RegionEvr) : (s.updEvr r f).clk = s.clk := rfl
@[simp] theorem State.updEvr_tiles (r : Nat) (f : RegionEvr → RegionEvr) : (s.updEvr r f).tiles = s.tiles := rfl
@[simp] theorem State.updEvr_tier (r : Nat) (f : RegionEvr → RegionEvr) : (s.updEvr r f).tier = s.tier := rfl
@[simp] theorem State.updEvr_ref (r : Nat) (f : RegionEvr → RegionEvr) : (s.updEvr r f).ref = s.ref := rfl
@[simp] theorem State.updEvr_power (r : Nat) (f : RegionEvr → RegionEvr) : (s.updEvr r f).power = s.power := rfl
@[simp] theorem State.updEvr_links (r : Nat) (f : RegionEvr → RegionEvr) : (s.updEvr r f).links = s.links := rfl
@[simp] theorem State.updEvr_host (r : Nat) (f : RegionEvr → RegionEvr) : (s.updEvr r f).host = s.host := rfl
@[simp] theorem State.updEvr_mode (r : Nat) (f : RegionEvr → RegionEvr) : (s.updEvr r f).mode = s.mode := rfl
@[simp] theorem State.updEvr_serve (r : Nat) (f : RegionEvr → RegionEvr) : (s.updEvr r f).serve = s.serve := rfl
@[simp] theorem State.updEvr_weights (r : Nat) (f : RegionEvr → RegionEvr) : (s.updEvr r f).weights = s.weights := rfl
@[simp] theorem State.updEvr_log (r : Nat) (f : RegionEvr → RegionEvr) : (s.updEvr r f).log = s.log := rfl
@[simp] theorem State.updEvr_boot (r : Nat) (f : RegionEvr → RegionEvr) : (s.updEvr r f).boot = s.boot := rfl
@[simp] theorem State.updEvr_dict (r : Nat) (f : RegionEvr → RegionEvr) : (s.updEvr r f).dict = s.dict := rfl
@[simp] theorem State.updEvr_blobs (r : Nat) (f : RegionEvr → RegionEvr) : (s.updEvr r f).blobs = s.blobs := rfl
@[simp] theorem State.updEvr_transit (r : Nat) (f : RegionEvr → RegionEvr) : (s.updEvr r f).transit = s.transit := rfl
@[simp] theorem State.updEvr_counts (r : Nat) (f : RegionEvr → RegionEvr) : (s.updEvr r f).counts = s.counts := rfl
@[simp] theorem State.updEvr_refills (r : Nat) (f : RegionEvr → RegionEvr) : (s.updEvr r f).refills = s.refills := rfl
@[simp] theorem State.updEvr_remapRecord (r : Nat) (f : RegionEvr → RegionEvr) : (s.updEvr r f).remapRecord = s.remapRecord := rfl
@[simp] theorem State.updEvr_ring (r : Nat) (f : RegionEvr → RegionEvr) : (s.updEvr r f).ring = s.ring := rfl
@[simp] theorem State.updEvr_readOut (r : Nat) (f : RegionEvr → RegionEvr) : (s.updEvr r f).readOut = s.readOut := rfl
@[simp] theorem State.updEvr_accessFault (r : Nat) (f : RegionEvr → RegionEvr) : (s.updEvr r f).accessFault = s.accessFault := rfl
@[simp] theorem State.updEvr_istatus (r : Nat) (f : RegionEvr → RegionEvr) : (s.updEvr r f).istatus = s.istatus := rfl
@[simp] theorem State.updEvr_pending (r : Nat) (f : RegionEvr → RegionEvr) : (s.updEvr r f).pending = s.pending := rfl

@[simp] theorem State.updLoop_now (r : Nat) (f : RegionLoop → RegionLoop) : (s.updLoop r f).now = s.now := rfl
@[simp] theorem State.updLoop_free (r : Nat) (f : RegionLoop → RegionLoop) : (s.updLoop r f).free = s.free := rfl
@[simp] theorem State.updLoop_ident (r : Nat) (f : RegionLoop → RegionLoop) : (s.updLoop r f).ident = s.ident := rfl
@[simp] theorem State.updLoop_clk (r : Nat) (f : RegionLoop → RegionLoop) : (s.updLoop r f).clk = s.clk := rfl
@[simp] theorem State.updLoop_tiles (r : Nat) (f : RegionLoop → RegionLoop) : (s.updLoop r f).tiles = s.tiles := rfl
@[simp] theorem State.updLoop_tier (r : Nat) (f : RegionLoop → RegionLoop) : (s.updLoop r f).tier = s.tier := rfl
@[simp] theorem State.updLoop_ref (r : Nat) (f : RegionLoop → RegionLoop) : (s.updLoop r f).ref = s.ref := rfl
@[simp] theorem State.updLoop_power (r : Nat) (f : RegionLoop → RegionLoop) : (s.updLoop r f).power = s.power := rfl
@[simp] theorem State.updLoop_links (r : Nat) (f : RegionLoop → RegionLoop) : (s.updLoop r f).links = s.links := rfl
@[simp] theorem State.updLoop_host (r : Nat) (f : RegionLoop → RegionLoop) : (s.updLoop r f).host = s.host := rfl
@[simp] theorem State.updLoop_mode (r : Nat) (f : RegionLoop → RegionLoop) : (s.updLoop r f).mode = s.mode := rfl
@[simp] theorem State.updLoop_serve (r : Nat) (f : RegionLoop → RegionLoop) : (s.updLoop r f).serve = s.serve := rfl
@[simp] theorem State.updLoop_weights (r : Nat) (f : RegionLoop → RegionLoop) : (s.updLoop r f).weights = s.weights := rfl
@[simp] theorem State.updLoop_log (r : Nat) (f : RegionLoop → RegionLoop) : (s.updLoop r f).log = s.log := rfl
@[simp] theorem State.updLoop_boot (r : Nat) (f : RegionLoop → RegionLoop) : (s.updLoop r f).boot = s.boot := rfl
@[simp] theorem State.updLoop_dict (r : Nat) (f : RegionLoop → RegionLoop) : (s.updLoop r f).dict = s.dict := rfl
@[simp] theorem State.updLoop_blobs (r : Nat) (f : RegionLoop → RegionLoop) : (s.updLoop r f).blobs = s.blobs := rfl
@[simp] theorem State.updLoop_transit (r : Nat) (f : RegionLoop → RegionLoop) : (s.updLoop r f).transit = s.transit := rfl
@[simp] theorem State.updLoop_counts (r : Nat) (f : RegionLoop → RegionLoop) : (s.updLoop r f).counts = s.counts := rfl
@[simp] theorem State.updLoop_refills (r : Nat) (f : RegionLoop → RegionLoop) : (s.updLoop r f).refills = s.refills := rfl
@[simp] theorem State.updLoop_remapRecord (r : Nat) (f : RegionLoop → RegionLoop) : (s.updLoop r f).remapRecord = s.remapRecord := rfl
@[simp] theorem State.updLoop_ring (r : Nat) (f : RegionLoop → RegionLoop) : (s.updLoop r f).ring = s.ring := rfl
@[simp] theorem State.updLoop_readOut (r : Nat) (f : RegionLoop → RegionLoop) : (s.updLoop r f).readOut = s.readOut := rfl
@[simp] theorem State.updLoop_accessFault (r : Nat) (f : RegionLoop → RegionLoop) : (s.updLoop r f).accessFault = s.accessFault := rfl
@[simp] theorem State.updLoop_istatus (r : Nat) (f : RegionLoop → RegionLoop) : (s.updLoop r f).istatus = s.istatus := rfl
@[simp] theorem State.updLoop_pending (r : Nat) (f : RegionLoop → RegionLoop) : (s.updLoop r f).pending = s.pending := rfl

@[simp] theorem State.updPwr_now (r : Nat) (f : RegionPower → RegionPower) : (s.updPwr r f).now = s.now := rfl
@[simp] theorem State.updPwr_free (r : Nat) (f : RegionPower → RegionPower) : (s.updPwr r f).free = s.free := rfl
@[simp] theorem State.updPwr_ident (r : Nat) (f : RegionPower → RegionPower) : (s.updPwr r f).ident = s.ident := rfl
@[simp] theorem State.updPwr_clk (r : Nat) (f : RegionPower → RegionPower) : (s.updPwr r f).clk = s.clk := rfl
@[simp] theorem State.updPwr_tiles (r : Nat) (f : RegionPower → RegionPower) : (s.updPwr r f).tiles = s.tiles := rfl
@[simp] theorem State.updPwr_tier (r : Nat) (f : RegionPower → RegionPower) : (s.updPwr r f).tier = s.tier := rfl
@[simp] theorem State.updPwr_ref (r : Nat) (f : RegionPower → RegionPower) : (s.updPwr r f).ref = s.ref := rfl
@[simp] theorem State.updPwr_power (r : Nat) (f : RegionPower → RegionPower) : (s.updPwr r f).power = s.power := rfl
@[simp] theorem State.updPwr_links (r : Nat) (f : RegionPower → RegionPower) : (s.updPwr r f).links = s.links := rfl
@[simp] theorem State.updPwr_host (r : Nat) (f : RegionPower → RegionPower) : (s.updPwr r f).host = s.host := rfl
@[simp] theorem State.updPwr_mode (r : Nat) (f : RegionPower → RegionPower) : (s.updPwr r f).mode = s.mode := rfl
@[simp] theorem State.updPwr_serve (r : Nat) (f : RegionPower → RegionPower) : (s.updPwr r f).serve = s.serve := rfl
@[simp] theorem State.updPwr_weights (r : Nat) (f : RegionPower → RegionPower) : (s.updPwr r f).weights = s.weights := rfl
@[simp] theorem State.updPwr_log (r : Nat) (f : RegionPower → RegionPower) : (s.updPwr r f).log = s.log := rfl
@[simp] theorem State.updPwr_boot (r : Nat) (f : RegionPower → RegionPower) : (s.updPwr r f).boot = s.boot := rfl
@[simp] theorem State.updPwr_dict (r : Nat) (f : RegionPower → RegionPower) : (s.updPwr r f).dict = s.dict := rfl
@[simp] theorem State.updPwr_blobs (r : Nat) (f : RegionPower → RegionPower) : (s.updPwr r f).blobs = s.blobs := rfl
@[simp] theorem State.updPwr_transit (r : Nat) (f : RegionPower → RegionPower) : (s.updPwr r f).transit = s.transit := rfl
@[simp] theorem State.updPwr_counts (r : Nat) (f : RegionPower → RegionPower) : (s.updPwr r f).counts = s.counts := rfl
@[simp] theorem State.updPwr_refills (r : Nat) (f : RegionPower → RegionPower) : (s.updPwr r f).refills = s.refills := rfl
@[simp] theorem State.updPwr_remapRecord (r : Nat) (f : RegionPower → RegionPower) : (s.updPwr r f).remapRecord = s.remapRecord := rfl
@[simp] theorem State.updPwr_ring (r : Nat) (f : RegionPower → RegionPower) : (s.updPwr r f).ring = s.ring := rfl
@[simp] theorem State.updPwr_readOut (r : Nat) (f : RegionPower → RegionPower) : (s.updPwr r f).readOut = s.readOut := rfl
@[simp] theorem State.updPwr_accessFault (r : Nat) (f : RegionPower → RegionPower) : (s.updPwr r f).accessFault = s.accessFault := rfl
@[simp] theorem State.updPwr_istatus (r : Nat) (f : RegionPower → RegionPower) : (s.updPwr r f).istatus = s.istatus := rfl
@[simp] theorem State.updPwr_pending (r : Nat) (f : RegionPower → RegionPower) : (s.updPwr r f).pending = s.pending := rfl

@[simp] theorem State.updMesh_now (r : Nat) (f : RegionMesh → RegionMesh) : (s.updMesh r f).now = s.now := rfl
@[simp] theorem State.updMesh_free (r : Nat) (f : RegionMesh → RegionMesh) : (s.updMesh r f).free = s.free := rfl
@[simp] theorem State.updMesh_ident (r : Nat) (f : RegionMesh → RegionMesh) : (s.updMesh r f).ident = s.ident := rfl
@[simp] theorem State.updMesh_clk (r : Nat) (f : RegionMesh → RegionMesh) : (s.updMesh r f).clk = s.clk := rfl
@[simp] theorem State.updMesh_tiles (r : Nat) (f : RegionMesh → RegionMesh) : (s.updMesh r f).tiles = s.tiles := rfl
@[simp] theorem State.updMesh_tier (r : Nat) (f : RegionMesh → RegionMesh) : (s.updMesh r f).tier = s.tier := rfl
@[simp] theorem State.updMesh_ref (r : Nat) (f : RegionMesh → RegionMesh) : (s.updMesh r f).ref = s.ref := rfl
@[simp] theorem State.updMesh_power (r : Nat) (f : RegionMesh → RegionMesh) : (s.updMesh r f).power = s.power := rfl
@[simp] theorem State.updMesh_links (r : Nat) (f : RegionMesh → RegionMesh) : (s.updMesh r f).links = s.links := rfl
@[simp] theorem State.updMesh_host (r : Nat) (f : RegionMesh → RegionMesh) : (s.updMesh r f).host = s.host := rfl
@[simp] theorem State.updMesh_mode (r : Nat) (f : RegionMesh → RegionMesh) : (s.updMesh r f).mode = s.mode := rfl
@[simp] theorem State.updMesh_serve (r : Nat) (f : RegionMesh → RegionMesh) : (s.updMesh r f).serve = s.serve := rfl
@[simp] theorem State.updMesh_weights (r : Nat) (f : RegionMesh → RegionMesh) : (s.updMesh r f).weights = s.weights := rfl
@[simp] theorem State.updMesh_log (r : Nat) (f : RegionMesh → RegionMesh) : (s.updMesh r f).log = s.log := rfl
@[simp] theorem State.updMesh_boot (r : Nat) (f : RegionMesh → RegionMesh) : (s.updMesh r f).boot = s.boot := rfl
@[simp] theorem State.updMesh_dict (r : Nat) (f : RegionMesh → RegionMesh) : (s.updMesh r f).dict = s.dict := rfl
@[simp] theorem State.updMesh_blobs (r : Nat) (f : RegionMesh → RegionMesh) : (s.updMesh r f).blobs = s.blobs := rfl
@[simp] theorem State.updMesh_transit (r : Nat) (f : RegionMesh → RegionMesh) : (s.updMesh r f).transit = s.transit := rfl
@[simp] theorem State.updMesh_counts (r : Nat) (f : RegionMesh → RegionMesh) : (s.updMesh r f).counts = s.counts := rfl
@[simp] theorem State.updMesh_refills (r : Nat) (f : RegionMesh → RegionMesh) : (s.updMesh r f).refills = s.refills := rfl
@[simp] theorem State.updMesh_remapRecord (r : Nat) (f : RegionMesh → RegionMesh) : (s.updMesh r f).remapRecord = s.remapRecord := rfl
@[simp] theorem State.updMesh_ring (r : Nat) (f : RegionMesh → RegionMesh) : (s.updMesh r f).ring = s.ring := rfl
@[simp] theorem State.updMesh_readOut (r : Nat) (f : RegionMesh → RegionMesh) : (s.updMesh r f).readOut = s.readOut := rfl
@[simp] theorem State.updMesh_accessFault (r : Nat) (f : RegionMesh → RegionMesh) : (s.updMesh r f).accessFault = s.accessFault := rfl
@[simp] theorem State.updMesh_istatus (r : Nat) (f : RegionMesh → RegionMesh) : (s.updMesh r f).istatus = s.istatus := rfl
@[simp] theorem State.updMesh_pending (r : Nat) (f : RegionMesh → RegionMesh) : (s.updMesh r f).pending = s.pending := rfl

@[simp] theorem State.useFree_now (n : Nat) : (s.useFree n).now = s.now := rfl
@[simp] theorem State.useFree_free (n : Nat) : (s.useFree n).free = s.free + n := rfl
@[simp] theorem State.useFree_ident (n : Nat) : (s.useFree n).ident = s.ident := rfl
@[simp] theorem State.useFree_clk (n : Nat) : (s.useFree n).clk = s.clk := rfl
@[simp] theorem State.useFree_tiles (n : Nat) : (s.useFree n).tiles = s.tiles := rfl
@[simp] theorem State.useFree_regions (n : Nat) : (s.useFree n).regions = s.regions := rfl
@[simp] theorem State.useFree_tier (n : Nat) : (s.useFree n).tier = s.tier := rfl
@[simp] theorem State.useFree_ref (n : Nat) : (s.useFree n).ref = s.ref := rfl
@[simp] theorem State.useFree_power (n : Nat) : (s.useFree n).power = s.power := rfl
@[simp] theorem State.useFree_links (n : Nat) : (s.useFree n).links = s.links := rfl
@[simp] theorem State.useFree_host (n : Nat) : (s.useFree n).host = s.host := rfl
@[simp] theorem State.useFree_mode (n : Nat) : (s.useFree n).mode = s.mode := rfl
@[simp] theorem State.useFree_serve (n : Nat) : (s.useFree n).serve = s.serve := rfl
@[simp] theorem State.useFree_weights (n : Nat) : (s.useFree n).weights = s.weights := rfl
@[simp] theorem State.useFree_log (n : Nat) : (s.useFree n).log = s.log := rfl
@[simp] theorem State.useFree_boot (n : Nat) : (s.useFree n).boot = s.boot := rfl
@[simp] theorem State.useFree_dict (n : Nat) : (s.useFree n).dict = s.dict := rfl
@[simp] theorem State.useFree_blobs (n : Nat) : (s.useFree n).blobs = s.blobs := rfl
@[simp] theorem State.useFree_transit (n : Nat) : (s.useFree n).transit = s.transit := rfl
@[simp] theorem State.useFree_counts (n : Nat) : (s.useFree n).counts = s.counts := rfl
@[simp] theorem State.useFree_refills (n : Nat) : (s.useFree n).refills = s.refills := rfl
@[simp] theorem State.useFree_remapRecord (n : Nat) : (s.useFree n).remapRecord = s.remapRecord := rfl
@[simp] theorem State.useFree_ring (n : Nat) : (s.useFree n).ring = s.ring := rfl
@[simp] theorem State.useFree_readOut (n : Nat) : (s.useFree n).readOut = s.readOut := rfl
@[simp] theorem State.useFree_accessFault (n : Nat) : (s.useFree n).accessFault = s.accessFault := rfl
@[simp] theorem State.useFree_istatus (n : Nat) : (s.useFree n).istatus = s.istatus := rfl
@[simp] theorem State.useFree_pending (n : Nat) : (s.useFree n).pending = s.pending := rfl

@[simp] theorem State.count_now (key n : Nat) : (s.count key n).now = s.now := rfl
@[simp] theorem State.count_free (key n : Nat) : (s.count key n).free = s.free := rfl
@[simp] theorem State.count_ident (key n : Nat) : (s.count key n).ident = s.ident := rfl
@[simp] theorem State.count_clk (key n : Nat) : (s.count key n).clk = s.clk := rfl
@[simp] theorem State.count_tiles (key n : Nat) : (s.count key n).tiles = s.tiles := rfl
@[simp] theorem State.count_regions (key n : Nat) : (s.count key n).regions = s.regions := rfl
@[simp] theorem State.count_tier (key n : Nat) : (s.count key n).tier = s.tier := rfl
@[simp] theorem State.count_ref (key n : Nat) : (s.count key n).ref = s.ref := rfl
@[simp] theorem State.count_power (key n : Nat) : (s.count key n).power = s.power := rfl
@[simp] theorem State.count_links (key n : Nat) : (s.count key n).links = s.links := rfl
@[simp] theorem State.count_host (key n : Nat) : (s.count key n).host = s.host := rfl
@[simp] theorem State.count_mode (key n : Nat) : (s.count key n).mode = s.mode := rfl
@[simp] theorem State.count_serve (key n : Nat) : (s.count key n).serve = s.serve := rfl
@[simp] theorem State.count_weights (key n : Nat) : (s.count key n).weights = s.weights := rfl
@[simp] theorem State.count_log (key n : Nat) : (s.count key n).log = s.log := rfl
@[simp] theorem State.count_boot (key n : Nat) : (s.count key n).boot = s.boot := rfl
@[simp] theorem State.count_dict (key n : Nat) : (s.count key n).dict = s.dict := rfl
@[simp] theorem State.count_blobs (key n : Nat) : (s.count key n).blobs = s.blobs := rfl
@[simp] theorem State.count_transit (key n : Nat) : (s.count key n).transit = s.transit := rfl
@[simp] theorem State.count_counts (key n : Nat) : (s.count key n).counts = Table.put 0 s.counts key (Table.get 0 s.counts key + n) := rfl
@[simp] theorem State.count_refills (key n : Nat) : (s.count key n).refills = s.refills := rfl
@[simp] theorem State.count_remapRecord (key n : Nat) : (s.count key n).remapRecord = s.remapRecord := rfl
@[simp] theorem State.count_ring (key n : Nat) : (s.count key n).ring = s.ring := rfl
@[simp] theorem State.count_readOut (key n : Nat) : (s.count key n).readOut = s.readOut := rfl
@[simp] theorem State.count_accessFault (key n : Nat) : (s.count key n).accessFault = s.accessFault := rfl
@[simp] theorem State.count_istatus (key n : Nat) : (s.count key n).istatus = s.istatus := rfl
@[simp] theorem State.count_pending (key n : Nat) : (s.count key n).pending = s.pending := rfl

@[simp] theorem State.setDict_now (key v : Nat) : (s.setDict key v).now = s.now := rfl
@[simp] theorem State.setDict_free (key v : Nat) : (s.setDict key v).free = s.free := rfl
@[simp] theorem State.setDict_ident (key v : Nat) : (s.setDict key v).ident = s.ident := rfl
@[simp] theorem State.setDict_clk (key v : Nat) : (s.setDict key v).clk = s.clk := rfl
@[simp] theorem State.setDict_tiles (key v : Nat) : (s.setDict key v).tiles = s.tiles := rfl
@[simp] theorem State.setDict_regions (key v : Nat) : (s.setDict key v).regions = s.regions := rfl
@[simp] theorem State.setDict_tier (key v : Nat) : (s.setDict key v).tier = s.tier := rfl
@[simp] theorem State.setDict_ref (key v : Nat) : (s.setDict key v).ref = s.ref := rfl
@[simp] theorem State.setDict_power (key v : Nat) : (s.setDict key v).power = s.power := rfl
@[simp] theorem State.setDict_links (key v : Nat) : (s.setDict key v).links = s.links := rfl
@[simp] theorem State.setDict_host (key v : Nat) : (s.setDict key v).host = s.host := rfl
@[simp] theorem State.setDict_mode (key v : Nat) : (s.setDict key v).mode = s.mode := rfl
@[simp] theorem State.setDict_serve (key v : Nat) : (s.setDict key v).serve = s.serve := rfl
@[simp] theorem State.setDict_weights (key v : Nat) : (s.setDict key v).weights = s.weights := rfl
@[simp] theorem State.setDict_log (key v : Nat) : (s.setDict key v).log = s.log := rfl
@[simp] theorem State.setDict_boot (key v : Nat) : (s.setDict key v).boot = s.boot := rfl
@[simp] theorem State.setDict_blobs (key v : Nat) : (s.setDict key v).blobs = s.blobs := rfl
@[simp] theorem State.setDict_transit (key v : Nat) : (s.setDict key v).transit = s.transit := rfl
@[simp] theorem State.setDict_counts (key v : Nat) : (s.setDict key v).counts = s.counts := rfl
@[simp] theorem State.setDict_refills (key v : Nat) : (s.setDict key v).refills = s.refills := rfl
@[simp] theorem State.setDict_remapRecord (key v : Nat) : (s.setDict key v).remapRecord = s.remapRecord := rfl
@[simp] theorem State.setDict_ring (key v : Nat) : (s.setDict key v).ring = s.ring := rfl
@[simp] theorem State.setDict_readOut (key v : Nat) : (s.setDict key v).readOut = s.readOut := rfl
@[simp] theorem State.setDict_accessFault (key v : Nat) : (s.setDict key v).accessFault = s.accessFault := rfl
@[simp] theorem State.setDict_istatus (key v : Nat) : (s.setDict key v).istatus = s.istatus := rfl
@[simp] theorem State.setDict_pending (key v : Nat) : (s.setDict key v).pending = s.pending := rfl

@[simp] theorem State.setBlob_now (key : Nat) (bs : Bytes) : (s.setBlob key bs).now = s.now := rfl
@[simp] theorem State.setBlob_free (key : Nat) (bs : Bytes) : (s.setBlob key bs).free = s.free := rfl
@[simp] theorem State.setBlob_ident (key : Nat) (bs : Bytes) : (s.setBlob key bs).ident = s.ident := rfl
@[simp] theorem State.setBlob_clk (key : Nat) (bs : Bytes) : (s.setBlob key bs).clk = s.clk := rfl
@[simp] theorem State.setBlob_tiles (key : Nat) (bs : Bytes) : (s.setBlob key bs).tiles = s.tiles := rfl
@[simp] theorem State.setBlob_regions (key : Nat) (bs : Bytes) : (s.setBlob key bs).regions = s.regions := rfl
@[simp] theorem State.setBlob_tier (key : Nat) (bs : Bytes) : (s.setBlob key bs).tier = s.tier := rfl
@[simp] theorem State.setBlob_ref (key : Nat) (bs : Bytes) : (s.setBlob key bs).ref = s.ref := rfl
@[simp] theorem State.setBlob_power (key : Nat) (bs : Bytes) : (s.setBlob key bs).power = s.power := rfl
@[simp] theorem State.setBlob_links (key : Nat) (bs : Bytes) : (s.setBlob key bs).links = s.links := rfl
@[simp] theorem State.setBlob_host (key : Nat) (bs : Bytes) : (s.setBlob key bs).host = s.host := rfl
@[simp] theorem State.setBlob_mode (key : Nat) (bs : Bytes) : (s.setBlob key bs).mode = s.mode := rfl
@[simp] theorem State.setBlob_serve (key : Nat) (bs : Bytes) : (s.setBlob key bs).serve = s.serve := rfl
@[simp] theorem State.setBlob_weights (key : Nat) (bs : Bytes) : (s.setBlob key bs).weights = s.weights := rfl
@[simp] theorem State.setBlob_log (key : Nat) (bs : Bytes) : (s.setBlob key bs).log = s.log := rfl
@[simp] theorem State.setBlob_boot (key : Nat) (bs : Bytes) : (s.setBlob key bs).boot = s.boot := rfl
@[simp] theorem State.setBlob_dict (key : Nat) (bs : Bytes) : (s.setBlob key bs).dict = s.dict := rfl
@[simp] theorem State.setBlob_blobs (key : Nat) (bs : Bytes) : (s.setBlob key bs).blobs = Table.put none s.blobs key (some bs) := rfl
@[simp] theorem State.setBlob_transit (key : Nat) (bs : Bytes) : (s.setBlob key bs).transit = s.transit := rfl
@[simp] theorem State.setBlob_counts (key : Nat) (bs : Bytes) : (s.setBlob key bs).counts = s.counts := rfl
@[simp] theorem State.setBlob_refills (key : Nat) (bs : Bytes) : (s.setBlob key bs).refills = s.refills := rfl
@[simp] theorem State.setBlob_remapRecord (key : Nat) (bs : Bytes) : (s.setBlob key bs).remapRecord = s.remapRecord := rfl
@[simp] theorem State.setBlob_ring (key : Nat) (bs : Bytes) : (s.setBlob key bs).ring = s.ring := rfl
@[simp] theorem State.setBlob_readOut (key : Nat) (bs : Bytes) : (s.setBlob key bs).readOut = s.readOut := rfl
@[simp] theorem State.setBlob_accessFault (key : Nat) (bs : Bytes) : (s.setBlob key bs).accessFault = s.accessFault := rfl
@[simp] theorem State.setBlob_istatus (key : Nat) (bs : Bytes) : (s.setBlob key bs).istatus = s.istatus := rfl
@[simp] theorem State.setBlob_pending (key : Nat) (bs : Bytes) : (s.setBlob key bs).pending = s.pending := rfl

@[simp] theorem State.takeEffect_now (keys : List Nat) : (s.takeEffect keys).now = s.now := rfl
@[simp] theorem State.takeEffect_free (keys : List Nat) : (s.takeEffect keys).free = s.free := rfl
@[simp] theorem State.takeEffect_ident (keys : List Nat) : (s.takeEffect keys).ident = s.ident := rfl
@[simp] theorem State.takeEffect_clk (keys : List Nat) : (s.takeEffect keys).clk = s.clk := rfl
@[simp] theorem State.takeEffect_tiles (keys : List Nat) : (s.takeEffect keys).tiles = s.tiles := rfl
@[simp] theorem State.takeEffect_regions (keys : List Nat) : (s.takeEffect keys).regions = s.regions := rfl
@[simp] theorem State.takeEffect_tier (keys : List Nat) : (s.takeEffect keys).tier = s.tier := rfl
@[simp] theorem State.takeEffect_ref (keys : List Nat) : (s.takeEffect keys).ref = s.ref := rfl
@[simp] theorem State.takeEffect_power (keys : List Nat) : (s.takeEffect keys).power = s.power := rfl
@[simp] theorem State.takeEffect_links (keys : List Nat) : (s.takeEffect keys).links = s.links := rfl
@[simp] theorem State.takeEffect_mode (keys : List Nat) : (s.takeEffect keys).mode = s.mode := rfl
@[simp] theorem State.takeEffect_serve (keys : List Nat) : (s.takeEffect keys).serve = s.serve := rfl
@[simp] theorem State.takeEffect_weights (keys : List Nat) : (s.takeEffect keys).weights = s.weights := rfl
@[simp] theorem State.takeEffect_log (keys : List Nat) : (s.takeEffect keys).log = s.log := rfl
@[simp] theorem State.takeEffect_boot (keys : List Nat) : (s.takeEffect keys).boot = s.boot := rfl
@[simp] theorem State.takeEffect_dict (keys : List Nat) : (s.takeEffect keys).dict = s.dict := rfl
@[simp] theorem State.takeEffect_blobs (keys : List Nat) : (s.takeEffect keys).blobs = s.blobs := rfl
@[simp] theorem State.takeEffect_transit (keys : List Nat) : (s.takeEffect keys).transit = s.transit := rfl
@[simp] theorem State.takeEffect_counts (keys : List Nat) : (s.takeEffect keys).counts = s.counts := rfl
@[simp] theorem State.takeEffect_refills (keys : List Nat) : (s.takeEffect keys).refills = s.refills := rfl
@[simp] theorem State.takeEffect_remapRecord (keys : List Nat) : (s.takeEffect keys).remapRecord = s.remapRecord := rfl
@[simp] theorem State.takeEffect_ring (keys : List Nat) : (s.takeEffect keys).ring = s.ring := rfl
@[simp] theorem State.takeEffect_readOut (keys : List Nat) : (s.takeEffect keys).readOut = s.readOut := rfl
@[simp] theorem State.takeEffect_accessFault (keys : List Nat) : (s.takeEffect keys).accessFault = s.accessFault := rfl
@[simp] theorem State.takeEffect_istatus (keys : List Nat) : (s.takeEffect keys).istatus = s.istatus := rfl
@[simp] theorem State.takeEffect_pending (keys : List Nat) : (s.takeEffect keys).pending = s.pending := rfl

@[simp] theorem State.updServe_now (f : Serving → Serving) : (s.updServe f).now = s.now := rfl
@[simp] theorem State.updServe_free (f : Serving → Serving) : (s.updServe f).free = s.free := rfl
@[simp] theorem State.updServe_ident (f : Serving → Serving) : (s.updServe f).ident = s.ident := rfl
@[simp] theorem State.updServe_clk (f : Serving → Serving) : (s.updServe f).clk = s.clk := rfl
@[simp] theorem State.updServe_tiles (f : Serving → Serving) : (s.updServe f).tiles = s.tiles := rfl
@[simp] theorem State.updServe_regions (f : Serving → Serving) : (s.updServe f).regions = s.regions := rfl
@[simp] theorem State.updServe_tier (f : Serving → Serving) : (s.updServe f).tier = s.tier := rfl
@[simp] theorem State.updServe_ref (f : Serving → Serving) : (s.updServe f).ref = s.ref := rfl
@[simp] theorem State.updServe_power (f : Serving → Serving) : (s.updServe f).power = s.power := rfl
@[simp] theorem State.updServe_links (f : Serving → Serving) : (s.updServe f).links = s.links := rfl
@[simp] theorem State.updServe_host (f : Serving → Serving) : (s.updServe f).host = s.host := rfl
@[simp] theorem State.updServe_mode (f : Serving → Serving) : (s.updServe f).mode = s.mode := rfl
@[simp] theorem State.updServe_serve (f : Serving → Serving) : (s.updServe f).serve = f s.serve := rfl
@[simp] theorem State.updServe_weights (f : Serving → Serving) : (s.updServe f).weights = s.weights := rfl
@[simp] theorem State.updServe_log (f : Serving → Serving) : (s.updServe f).log = s.log := rfl
@[simp] theorem State.updServe_boot (f : Serving → Serving) : (s.updServe f).boot = s.boot := rfl
@[simp] theorem State.updServe_dict (f : Serving → Serving) : (s.updServe f).dict = s.dict := rfl
@[simp] theorem State.updServe_blobs (f : Serving → Serving) : (s.updServe f).blobs = s.blobs := rfl
@[simp] theorem State.updServe_transit (f : Serving → Serving) : (s.updServe f).transit = s.transit := rfl
@[simp] theorem State.updServe_counts (f : Serving → Serving) : (s.updServe f).counts = s.counts := rfl
@[simp] theorem State.updServe_refills (f : Serving → Serving) : (s.updServe f).refills = s.refills := rfl
@[simp] theorem State.updServe_remapRecord (f : Serving → Serving) : (s.updServe f).remapRecord = s.remapRecord := rfl
@[simp] theorem State.updServe_ring (f : Serving → Serving) : (s.updServe f).ring = s.ring := rfl
@[simp] theorem State.updServe_readOut (f : Serving → Serving) : (s.updServe f).readOut = s.readOut := rfl
@[simp] theorem State.updServe_accessFault (f : Serving → Serving) : (s.updServe f).accessFault = s.accessFault := rfl
@[simp] theorem State.updServe_istatus (f : Serving → Serving) : (s.updServe f).istatus = s.istatus := rfl
@[simp] theorem State.updServe_pending (f : Serving → Serving) : (s.updServe f).pending = s.pending := rfl

@[simp] theorem State.updTables_now (f : Tables → Tables) : (s.updTables f).now = s.now := rfl
@[simp] theorem State.updTables_free (f : Tables → Tables) : (s.updTables f).free = s.free := rfl
@[simp] theorem State.updTables_ident (f : Tables → Tables) : (s.updTables f).ident = s.ident := rfl
@[simp] theorem State.updTables_clk (f : Tables → Tables) : (s.updTables f).clk = s.clk := rfl
@[simp] theorem State.updTables_tiles (f : Tables → Tables) : (s.updTables f).tiles = s.tiles := rfl
@[simp] theorem State.updTables_regions (f : Tables → Tables) : (s.updTables f).regions = s.regions := rfl
@[simp] theorem State.updTables_tier (f : Tables → Tables) : (s.updTables f).tier = s.tier := rfl
@[simp] theorem State.updTables_ref (f : Tables → Tables) : (s.updTables f).ref = s.ref := rfl
@[simp] theorem State.updTables_power (f : Tables → Tables) : (s.updTables f).power = s.power := rfl
@[simp] theorem State.updTables_links (f : Tables → Tables) : (s.updTables f).links = s.links := rfl
@[simp] theorem State.updTables_host (f : Tables → Tables) : (s.updTables f).host = s.host := rfl
@[simp] theorem State.updTables_mode (f : Tables → Tables) : (s.updTables f).mode = s.mode := rfl
@[simp] theorem State.updTables_serve (f : Tables → Tables) : (s.updTables f).serve = { s.serve with t := f s.serve.t } := rfl
@[simp] theorem State.updTables_weights (f : Tables → Tables) : (s.updTables f).weights = s.weights := rfl
@[simp] theorem State.updTables_log (f : Tables → Tables) : (s.updTables f).log = s.log := rfl
@[simp] theorem State.updTables_boot (f : Tables → Tables) : (s.updTables f).boot = s.boot := rfl
@[simp] theorem State.updTables_dict (f : Tables → Tables) : (s.updTables f).dict = s.dict := rfl
@[simp] theorem State.updTables_blobs (f : Tables → Tables) : (s.updTables f).blobs = s.blobs := rfl
@[simp] theorem State.updTables_transit (f : Tables → Tables) : (s.updTables f).transit = s.transit := rfl
@[simp] theorem State.updTables_counts (f : Tables → Tables) : (s.updTables f).counts = s.counts := rfl
@[simp] theorem State.updTables_refills (f : Tables → Tables) : (s.updTables f).refills = s.refills := rfl
@[simp] theorem State.updTables_remapRecord (f : Tables → Tables) : (s.updTables f).remapRecord = s.remapRecord := rfl
@[simp] theorem State.updTables_ring (f : Tables → Tables) : (s.updTables f).ring = s.ring := rfl
@[simp] theorem State.updTables_readOut (f : Tables → Tables) : (s.updTables f).readOut = s.readOut := rfl
@[simp] theorem State.updTables_accessFault (f : Tables → Tables) : (s.updTables f).accessFault = s.accessFault := rfl
@[simp] theorem State.updTables_istatus (f : Tables → Tables) : (s.updTables f).istatus = s.istatus := rfl
@[simp] theorem State.updTables_pending (f : Tables → Tables) : (s.updTables f).pending = s.pending := rfl

@[simp] theorem State.updLink_now (k : Nat) (f : Link → Link) : (s.updLink k f).now = s.now := rfl
@[simp] theorem State.updLink_free (k : Nat) (f : Link → Link) : (s.updLink k f).free = s.free := rfl
@[simp] theorem State.updLink_ident (k : Nat) (f : Link → Link) : (s.updLink k f).ident = s.ident := rfl
@[simp] theorem State.updLink_clk (k : Nat) (f : Link → Link) : (s.updLink k f).clk = s.clk := rfl
@[simp] theorem State.updLink_tiles (k : Nat) (f : Link → Link) : (s.updLink k f).tiles = s.tiles := rfl
@[simp] theorem State.updLink_regions (k : Nat) (f : Link → Link) : (s.updLink k f).regions = s.regions := rfl
@[simp] theorem State.updLink_tier (k : Nat) (f : Link → Link) : (s.updLink k f).tier = s.tier := rfl
@[simp] theorem State.updLink_ref (k : Nat) (f : Link → Link) : (s.updLink k f).ref = s.ref := rfl
@[simp] theorem State.updLink_power (k : Nat) (f : Link → Link) : (s.updLink k f).power = s.power := rfl
@[simp] theorem State.updLink_host (k : Nat) (f : Link → Link) : (s.updLink k f).host = s.host := rfl
@[simp] theorem State.updLink_mode (k : Nat) (f : Link → Link) : (s.updLink k f).mode = s.mode := rfl
@[simp] theorem State.updLink_serve (k : Nat) (f : Link → Link) : (s.updLink k f).serve = s.serve := rfl
@[simp] theorem State.updLink_weights (k : Nat) (f : Link → Link) : (s.updLink k f).weights = s.weights := rfl
@[simp] theorem State.updLink_log (k : Nat) (f : Link → Link) : (s.updLink k f).log = s.log := rfl
@[simp] theorem State.updLink_boot (k : Nat) (f : Link → Link) : (s.updLink k f).boot = s.boot := rfl
@[simp] theorem State.updLink_dict (k : Nat) (f : Link → Link) : (s.updLink k f).dict = s.dict := rfl
@[simp] theorem State.updLink_blobs (k : Nat) (f : Link → Link) : (s.updLink k f).blobs = s.blobs := rfl
@[simp] theorem State.updLink_transit (k : Nat) (f : Link → Link) : (s.updLink k f).transit = s.transit := rfl
@[simp] theorem State.updLink_counts (k : Nat) (f : Link → Link) : (s.updLink k f).counts = s.counts := rfl
@[simp] theorem State.updLink_refills (k : Nat) (f : Link → Link) : (s.updLink k f).refills = s.refills := rfl
@[simp] theorem State.updLink_remapRecord (k : Nat) (f : Link → Link) : (s.updLink k f).remapRecord = s.remapRecord := rfl
@[simp] theorem State.updLink_ring (k : Nat) (f : Link → Link) : (s.updLink k f).ring = s.ring := rfl
@[simp] theorem State.updLink_readOut (k : Nat) (f : Link → Link) : (s.updLink k f).readOut = s.readOut := rfl
@[simp] theorem State.updLink_accessFault (k : Nat) (f : Link → Link) : (s.updLink k f).accessFault = s.accessFault := rfl
@[simp] theorem State.updLink_istatus (k : Nat) (f : Link → Link) : (s.updLink k f).istatus = s.istatus := rfl
@[simp] theorem State.updLink_pending (k : Nat) (f : Link → Link) : (s.updLink k f).pending = s.pending := rfl

@[simp] theorem State.updLinks_now (f : Links → Links) : (s.updLinks f).now = s.now := rfl
@[simp] theorem State.updLinks_free (f : Links → Links) : (s.updLinks f).free = s.free := rfl
@[simp] theorem State.updLinks_ident (f : Links → Links) : (s.updLinks f).ident = s.ident := rfl
@[simp] theorem State.updLinks_clk (f : Links → Links) : (s.updLinks f).clk = s.clk := rfl
@[simp] theorem State.updLinks_tiles (f : Links → Links) : (s.updLinks f).tiles = s.tiles := rfl
@[simp] theorem State.updLinks_regions (f : Links → Links) : (s.updLinks f).regions = s.regions := rfl
@[simp] theorem State.updLinks_tier (f : Links → Links) : (s.updLinks f).tier = s.tier := rfl
@[simp] theorem State.updLinks_ref (f : Links → Links) : (s.updLinks f).ref = s.ref := rfl
@[simp] theorem State.updLinks_power (f : Links → Links) : (s.updLinks f).power = s.power := rfl
@[simp] theorem State.updLinks_links (f : Links → Links) : (s.updLinks f).links = f s.links := rfl
@[simp] theorem State.updLinks_host (f : Links → Links) : (s.updLinks f).host = s.host := rfl
@[simp] theorem State.updLinks_mode (f : Links → Links) : (s.updLinks f).mode = s.mode := rfl
@[simp] theorem State.updLinks_serve (f : Links → Links) : (s.updLinks f).serve = s.serve := rfl
@[simp] theorem State.updLinks_weights (f : Links → Links) : (s.updLinks f).weights = s.weights := rfl
@[simp] theorem State.updLinks_log (f : Links → Links) : (s.updLinks f).log = s.log := rfl
@[simp] theorem State.updLinks_boot (f : Links → Links) : (s.updLinks f).boot = s.boot := rfl
@[simp] theorem State.updLinks_dict (f : Links → Links) : (s.updLinks f).dict = s.dict := rfl
@[simp] theorem State.updLinks_blobs (f : Links → Links) : (s.updLinks f).blobs = s.blobs := rfl
@[simp] theorem State.updLinks_transit (f : Links → Links) : (s.updLinks f).transit = s.transit := rfl
@[simp] theorem State.updLinks_counts (f : Links → Links) : (s.updLinks f).counts = s.counts := rfl
@[simp] theorem State.updLinks_refills (f : Links → Links) : (s.updLinks f).refills = s.refills := rfl
@[simp] theorem State.updLinks_remapRecord (f : Links → Links) : (s.updLinks f).remapRecord = s.remapRecord := rfl
@[simp] theorem State.updLinks_ring (f : Links → Links) : (s.updLinks f).ring = s.ring := rfl
@[simp] theorem State.updLinks_readOut (f : Links → Links) : (s.updLinks f).readOut = s.readOut := rfl
@[simp] theorem State.updLinks_accessFault (f : Links → Links) : (s.updLinks f).accessFault = s.accessFault := rfl
@[simp] theorem State.updLinks_istatus (f : Links → Links) : (s.updLinks f).istatus = s.istatus := rfl
@[simp] theorem State.updLinks_pending (f : Links → Links) : (s.updLinks f).pending = s.pending := rfl

@[simp] theorem State.updHost_now (f : HostSide → HostSide) : (s.updHost f).now = s.now := rfl
@[simp] theorem State.updHost_free (f : HostSide → HostSide) : (s.updHost f).free = s.free := rfl
@[simp] theorem State.updHost_ident (f : HostSide → HostSide) : (s.updHost f).ident = s.ident := rfl
@[simp] theorem State.updHost_clk (f : HostSide → HostSide) : (s.updHost f).clk = s.clk := rfl
@[simp] theorem State.updHost_tiles (f : HostSide → HostSide) : (s.updHost f).tiles = s.tiles := rfl
@[simp] theorem State.updHost_regions (f : HostSide → HostSide) : (s.updHost f).regions = s.regions := rfl
@[simp] theorem State.updHost_tier (f : HostSide → HostSide) : (s.updHost f).tier = s.tier := rfl
@[simp] theorem State.updHost_ref (f : HostSide → HostSide) : (s.updHost f).ref = s.ref := rfl
@[simp] theorem State.updHost_power (f : HostSide → HostSide) : (s.updHost f).power = s.power := rfl
@[simp] theorem State.updHost_links (f : HostSide → HostSide) : (s.updHost f).links = s.links := rfl
@[simp] theorem State.updHost_host (f : HostSide → HostSide) : (s.updHost f).host = f s.host := rfl
@[simp] theorem State.updHost_mode (f : HostSide → HostSide) : (s.updHost f).mode = s.mode := rfl
@[simp] theorem State.updHost_serve (f : HostSide → HostSide) : (s.updHost f).serve = s.serve := rfl
@[simp] theorem State.updHost_weights (f : HostSide → HostSide) : (s.updHost f).weights = s.weights := rfl
@[simp] theorem State.updHost_log (f : HostSide → HostSide) : (s.updHost f).log = s.log := rfl
@[simp] theorem State.updHost_boot (f : HostSide → HostSide) : (s.updHost f).boot = s.boot := rfl
@[simp] theorem State.updHost_dict (f : HostSide → HostSide) : (s.updHost f).dict = s.dict := rfl
@[simp] theorem State.updHost_blobs (f : HostSide → HostSide) : (s.updHost f).blobs = s.blobs := rfl
@[simp] theorem State.updHost_transit (f : HostSide → HostSide) : (s.updHost f).transit = s.transit := rfl
@[simp] theorem State.updHost_counts (f : HostSide → HostSide) : (s.updHost f).counts = s.counts := rfl
@[simp] theorem State.updHost_refills (f : HostSide → HostSide) : (s.updHost f).refills = s.refills := rfl
@[simp] theorem State.updHost_remapRecord (f : HostSide → HostSide) : (s.updHost f).remapRecord = s.remapRecord := rfl
@[simp] theorem State.updHost_ring (f : HostSide → HostSide) : (s.updHost f).ring = s.ring := rfl
@[simp] theorem State.updHost_readOut (f : HostSide → HostSide) : (s.updHost f).readOut = s.readOut := rfl
@[simp] theorem State.updHost_accessFault (f : HostSide → HostSide) : (s.updHost f).accessFault = s.accessFault := rfl
@[simp] theorem State.updHost_istatus (f : HostSide → HostSide) : (s.updHost f).istatus = s.istatus := rfl
@[simp] theorem State.updHost_pending (f : HostSide → HostSide) : (s.updHost f).pending = s.pending := rfl

@[simp] theorem State.updPort_now (k : Nat) (f : Port → Port) : (s.updPort k f).now = s.now := rfl
@[simp] theorem State.updPort_free (k : Nat) (f : Port → Port) : (s.updPort k f).free = s.free := rfl
@[simp] theorem State.updPort_ident (k : Nat) (f : Port → Port) : (s.updPort k f).ident = s.ident := rfl
@[simp] theorem State.updPort_clk (k : Nat) (f : Port → Port) : (s.updPort k f).clk = s.clk := rfl
@[simp] theorem State.updPort_tiles (k : Nat) (f : Port → Port) : (s.updPort k f).tiles = s.tiles := rfl
@[simp] theorem State.updPort_regions (k : Nat) (f : Port → Port) : (s.updPort k f).regions = s.regions := rfl
@[simp] theorem State.updPort_tier (k : Nat) (f : Port → Port) : (s.updPort k f).tier = s.tier := rfl
@[simp] theorem State.updPort_ref (k : Nat) (f : Port → Port) : (s.updPort k f).ref = s.ref := rfl
@[simp] theorem State.updPort_power (k : Nat) (f : Port → Port) : (s.updPort k f).power = s.power := rfl
@[simp] theorem State.updPort_links (k : Nat) (f : Port → Port) : (s.updPort k f).links = s.links := rfl
@[simp] theorem State.updPort_mode (k : Nat) (f : Port → Port) : (s.updPort k f).mode = s.mode := rfl
@[simp] theorem State.updPort_serve (k : Nat) (f : Port → Port) : (s.updPort k f).serve = s.serve := rfl
@[simp] theorem State.updPort_weights (k : Nat) (f : Port → Port) : (s.updPort k f).weights = s.weights := rfl
@[simp] theorem State.updPort_log (k : Nat) (f : Port → Port) : (s.updPort k f).log = s.log := rfl
@[simp] theorem State.updPort_boot (k : Nat) (f : Port → Port) : (s.updPort k f).boot = s.boot := rfl
@[simp] theorem State.updPort_dict (k : Nat) (f : Port → Port) : (s.updPort k f).dict = s.dict := rfl
@[simp] theorem State.updPort_blobs (k : Nat) (f : Port → Port) : (s.updPort k f).blobs = s.blobs := rfl
@[simp] theorem State.updPort_transit (k : Nat) (f : Port → Port) : (s.updPort k f).transit = s.transit := rfl
@[simp] theorem State.updPort_counts (k : Nat) (f : Port → Port) : (s.updPort k f).counts = s.counts := rfl
@[simp] theorem State.updPort_refills (k : Nat) (f : Port → Port) : (s.updPort k f).refills = s.refills := rfl
@[simp] theorem State.updPort_remapRecord (k : Nat) (f : Port → Port) : (s.updPort k f).remapRecord = s.remapRecord := rfl
@[simp] theorem State.updPort_ring (k : Nat) (f : Port → Port) : (s.updPort k f).ring = s.ring := rfl
@[simp] theorem State.updPort_readOut (k : Nat) (f : Port → Port) : (s.updPort k f).readOut = s.readOut := rfl
@[simp] theorem State.updPort_accessFault (k : Nat) (f : Port → Port) : (s.updPort k f).accessFault = s.accessFault := rfl
@[simp] theorem State.updPort_istatus (k : Nat) (f : Port → Port) : (s.updPort k f).istatus = s.istatus := rfl
@[simp] theorem State.updPort_pending (k : Nat) (f : Port → Port) : (s.updPort k f).pending = s.pending := rfl

@[simp] theorem State.updPower_now (f : Power → Power) : (s.updPower f).now = s.now := rfl
@[simp] theorem State.updPower_free (f : Power → Power) : (s.updPower f).free = s.free := rfl
@[simp] theorem State.updPower_ident (f : Power → Power) : (s.updPower f).ident = s.ident := rfl
@[simp] theorem State.updPower_clk (f : Power → Power) : (s.updPower f).clk = s.clk := rfl
@[simp] theorem State.updPower_tiles (f : Power → Power) : (s.updPower f).tiles = s.tiles := rfl
@[simp] theorem State.updPower_regions (f : Power → Power) : (s.updPower f).regions = s.regions := rfl
@[simp] theorem State.updPower_tier (f : Power → Power) : (s.updPower f).tier = s.tier := rfl
@[simp] theorem State.updPower_ref (f : Power → Power) : (s.updPower f).ref = s.ref := rfl
@[simp] theorem State.updPower_power (f : Power → Power) : (s.updPower f).power = f s.power := rfl
@[simp] theorem State.updPower_links (f : Power → Power) : (s.updPower f).links = s.links := rfl
@[simp] theorem State.updPower_host (f : Power → Power) : (s.updPower f).host = s.host := rfl
@[simp] theorem State.updPower_mode (f : Power → Power) : (s.updPower f).mode = s.mode := rfl
@[simp] theorem State.updPower_serve (f : Power → Power) : (s.updPower f).serve = s.serve := rfl
@[simp] theorem State.updPower_weights (f : Power → Power) : (s.updPower f).weights = s.weights := rfl
@[simp] theorem State.updPower_log (f : Power → Power) : (s.updPower f).log = s.log := rfl
@[simp] theorem State.updPower_boot (f : Power → Power) : (s.updPower f).boot = s.boot := rfl
@[simp] theorem State.updPower_dict (f : Power → Power) : (s.updPower f).dict = s.dict := rfl
@[simp] theorem State.updPower_blobs (f : Power → Power) : (s.updPower f).blobs = s.blobs := rfl
@[simp] theorem State.updPower_transit (f : Power → Power) : (s.updPower f).transit = s.transit := rfl
@[simp] theorem State.updPower_counts (f : Power → Power) : (s.updPower f).counts = s.counts := rfl
@[simp] theorem State.updPower_refills (f : Power → Power) : (s.updPower f).refills = s.refills := rfl
@[simp] theorem State.updPower_remapRecord (f : Power → Power) : (s.updPower f).remapRecord = s.remapRecord := rfl
@[simp] theorem State.updPower_ring (f : Power → Power) : (s.updPower f).ring = s.ring := rfl
@[simp] theorem State.updPower_readOut (f : Power → Power) : (s.updPower f).readOut = s.readOut := rfl
@[simp] theorem State.updPower_accessFault (f : Power → Power) : (s.updPower f).accessFault = s.accessFault := rfl
@[simp] theorem State.updPower_istatus (f : Power → Power) : (s.updPower f).istatus = s.istatus := rfl
@[simp] theorem State.updPower_pending (f : Power → Power) : (s.updPower f).pending = s.pending := rfl

@[simp] theorem State.updLoopRef_now (f : RefLoop → RefLoop) : (s.updLoopRef f).now = s.now := rfl
@[simp] theorem State.updLoopRef_free (f : RefLoop → RefLoop) : (s.updLoopRef f).free = s.free := rfl
@[simp] theorem State.updLoopRef_ident (f : RefLoop → RefLoop) : (s.updLoopRef f).ident = s.ident := rfl
@[simp] theorem State.updLoopRef_clk (f : RefLoop → RefLoop) : (s.updLoopRef f).clk = s.clk := rfl
@[simp] theorem State.updLoopRef_tiles (f : RefLoop → RefLoop) : (s.updLoopRef f).tiles = s.tiles := rfl
@[simp] theorem State.updLoopRef_regions (f : RefLoop → RefLoop) : (s.updLoopRef f).regions = s.regions := rfl
@[simp] theorem State.updLoopRef_tier (f : RefLoop → RefLoop) : (s.updLoopRef f).tier = s.tier := rfl
@[simp] theorem State.updLoopRef_ref (f : RefLoop → RefLoop) : (s.updLoopRef f).ref = f s.ref := rfl
@[simp] theorem State.updLoopRef_power (f : RefLoop → RefLoop) : (s.updLoopRef f).power = s.power := rfl
@[simp] theorem State.updLoopRef_links (f : RefLoop → RefLoop) : (s.updLoopRef f).links = s.links := rfl
@[simp] theorem State.updLoopRef_host (f : RefLoop → RefLoop) : (s.updLoopRef f).host = s.host := rfl
@[simp] theorem State.updLoopRef_mode (f : RefLoop → RefLoop) : (s.updLoopRef f).mode = s.mode := rfl
@[simp] theorem State.updLoopRef_serve (f : RefLoop → RefLoop) : (s.updLoopRef f).serve = s.serve := rfl
@[simp] theorem State.updLoopRef_weights (f : RefLoop → RefLoop) : (s.updLoopRef f).weights = s.weights := rfl
@[simp] theorem State.updLoopRef_log (f : RefLoop → RefLoop) : (s.updLoopRef f).log = s.log := rfl
@[simp] theorem State.updLoopRef_boot (f : RefLoop → RefLoop) : (s.updLoopRef f).boot = s.boot := rfl
@[simp] theorem State.updLoopRef_dict (f : RefLoop → RefLoop) : (s.updLoopRef f).dict = s.dict := rfl
@[simp] theorem State.updLoopRef_blobs (f : RefLoop → RefLoop) : (s.updLoopRef f).blobs = s.blobs := rfl
@[simp] theorem State.updLoopRef_transit (f : RefLoop → RefLoop) : (s.updLoopRef f).transit = s.transit := rfl
@[simp] theorem State.updLoopRef_counts (f : RefLoop → RefLoop) : (s.updLoopRef f).counts = s.counts := rfl
@[simp] theorem State.updLoopRef_refills (f : RefLoop → RefLoop) : (s.updLoopRef f).refills = s.refills := rfl
@[simp] theorem State.updLoopRef_remapRecord (f : RefLoop → RefLoop) : (s.updLoopRef f).remapRecord = s.remapRecord := rfl
@[simp] theorem State.updLoopRef_ring (f : RefLoop → RefLoop) : (s.updLoopRef f).ring = s.ring := rfl
@[simp] theorem State.updLoopRef_readOut (f : RefLoop → RefLoop) : (s.updLoopRef f).readOut = s.readOut := rfl
@[simp] theorem State.updLoopRef_accessFault (f : RefLoop → RefLoop) : (s.updLoopRef f).accessFault = s.accessFault := rfl
@[simp] theorem State.updLoopRef_istatus (f : RefLoop → RefLoop) : (s.updLoopRef f).istatus = s.istatus := rfl
@[simp] theorem State.updLoopRef_pending (f : RefLoop → RefLoop) : (s.updLoopRef f).pending = s.pending := rfl

@[simp] theorem State.updLoad_now (f : Load → Load) : (s.updLoad f).now = s.now := rfl
@[simp] theorem State.updLoad_free (f : Load → Load) : (s.updLoad f).free = s.free := rfl
@[simp] theorem State.updLoad_ident (f : Load → Load) : (s.updLoad f).ident = s.ident := rfl
@[simp] theorem State.updLoad_clk (f : Load → Load) : (s.updLoad f).clk = s.clk := rfl
@[simp] theorem State.updLoad_tiles (f : Load → Load) : (s.updLoad f).tiles = s.tiles := rfl
@[simp] theorem State.updLoad_regions (f : Load → Load) : (s.updLoad f).regions = s.regions := rfl
@[simp] theorem State.updLoad_tier (f : Load → Load) : (s.updLoad f).tier = s.tier := rfl
@[simp] theorem State.updLoad_ref (f : Load → Load) : (s.updLoad f).ref = s.ref := rfl
@[simp] theorem State.updLoad_power (f : Load → Load) : (s.updLoad f).power = s.power := rfl
@[simp] theorem State.updLoad_links (f : Load → Load) : (s.updLoad f).links = s.links := rfl
@[simp] theorem State.updLoad_host (f : Load → Load) : (s.updLoad f).host = s.host := rfl
@[simp] theorem State.updLoad_mode (f : Load → Load) : (s.updLoad f).mode = s.mode := rfl
@[simp] theorem State.updLoad_serve (f : Load → Load) : (s.updLoad f).serve = s.serve := rfl
@[simp] theorem State.updLoad_weights (f : Load → Load) : (s.updLoad f).weights = { s.weights with load := s.weights.load.map f } := rfl
@[simp] theorem State.updLoad_log (f : Load → Load) : (s.updLoad f).log = s.log := rfl
@[simp] theorem State.updLoad_boot (f : Load → Load) : (s.updLoad f).boot = s.boot := rfl
@[simp] theorem State.updLoad_dict (f : Load → Load) : (s.updLoad f).dict = s.dict := rfl
@[simp] theorem State.updLoad_blobs (f : Load → Load) : (s.updLoad f).blobs = s.blobs := rfl
@[simp] theorem State.updLoad_transit (f : Load → Load) : (s.updLoad f).transit = s.transit := rfl
@[simp] theorem State.updLoad_counts (f : Load → Load) : (s.updLoad f).counts = s.counts := rfl
@[simp] theorem State.updLoad_refills (f : Load → Load) : (s.updLoad f).refills = s.refills := rfl
@[simp] theorem State.updLoad_remapRecord (f : Load → Load) : (s.updLoad f).remapRecord = s.remapRecord := rfl
@[simp] theorem State.updLoad_ring (f : Load → Load) : (s.updLoad f).ring = s.ring := rfl
@[simp] theorem State.updLoad_readOut (f : Load → Load) : (s.updLoad f).readOut = s.readOut := rfl
@[simp] theorem State.updLoad_accessFault (f : Load → Load) : (s.updLoad f).accessFault = s.accessFault := rfl
@[simp] theorem State.updLoad_istatus (f : Load → Load) : (s.updLoad f).istatus = s.istatus := rfl
@[simp] theorem State.updLoad_pending (f : Load → Load) : (s.updLoad f).pending = s.pending := rfl

@[simp] theorem State.putSet_now (n : Nat) (p : Option PageSet) : (s.putSet n p).now = s.now := rfl
@[simp] theorem State.putSet_free (n : Nat) (p : Option PageSet) : (s.putSet n p).free = s.free := rfl
@[simp] theorem State.putSet_ident (n : Nat) (p : Option PageSet) : (s.putSet n p).ident = s.ident := rfl
@[simp] theorem State.putSet_clk (n : Nat) (p : Option PageSet) : (s.putSet n p).clk = s.clk := rfl
@[simp] theorem State.putSet_tiles (n : Nat) (p : Option PageSet) : (s.putSet n p).tiles = s.tiles := rfl
@[simp] theorem State.putSet_regions (n : Nat) (p : Option PageSet) : (s.putSet n p).regions = s.regions := rfl
@[simp] theorem State.putSet_tier (n : Nat) (p : Option PageSet) : (s.putSet n p).tier = s.tier := rfl
@[simp] theorem State.putSet_ref (n : Nat) (p : Option PageSet) : (s.putSet n p).ref = s.ref := rfl
@[simp] theorem State.putSet_power (n : Nat) (p : Option PageSet) : (s.putSet n p).power = s.power := rfl
@[simp] theorem State.putSet_links (n : Nat) (p : Option PageSet) : (s.putSet n p).links = s.links := rfl
@[simp] theorem State.putSet_host (n : Nat) (p : Option PageSet) : (s.putSet n p).host = s.host := rfl
@[simp] theorem State.putSet_mode (n : Nat) (p : Option PageSet) : (s.putSet n p).mode = s.mode := rfl
@[simp] theorem State.putSet_weights (n : Nat) (p : Option PageSet) : (s.putSet n p).weights = s.weights := rfl
@[simp] theorem State.putSet_log (n : Nat) (p : Option PageSet) : (s.putSet n p).log = s.log := rfl
@[simp] theorem State.putSet_boot (n : Nat) (p : Option PageSet) : (s.putSet n p).boot = s.boot := rfl
@[simp] theorem State.putSet_dict (n : Nat) (p : Option PageSet) : (s.putSet n p).dict = s.dict := rfl
@[simp] theorem State.putSet_blobs (n : Nat) (p : Option PageSet) : (s.putSet n p).blobs = s.blobs := rfl
@[simp] theorem State.putSet_transit (n : Nat) (p : Option PageSet) : (s.putSet n p).transit = s.transit := rfl
@[simp] theorem State.putSet_counts (n : Nat) (p : Option PageSet) : (s.putSet n p).counts = s.counts := rfl
@[simp] theorem State.putSet_refills (n : Nat) (p : Option PageSet) : (s.putSet n p).refills = s.refills := rfl
@[simp] theorem State.putSet_remapRecord (n : Nat) (p : Option PageSet) : (s.putSet n p).remapRecord = s.remapRecord := rfl
@[simp] theorem State.putSet_ring (n : Nat) (p : Option PageSet) : (s.putSet n p).ring = s.ring := rfl
@[simp] theorem State.putSet_readOut (n : Nat) (p : Option PageSet) : (s.putSet n p).readOut = s.readOut := rfl
@[simp] theorem State.putSet_accessFault (n : Nat) (p : Option PageSet) : (s.putSet n p).accessFault = s.accessFault := rfl
@[simp] theorem State.putSet_istatus (n : Nat) (p : Option PageSet) : (s.putSet n p).istatus = s.istatus := rfl
@[simp] theorem State.putSet_pending (n : Nat) (p : Option PageSet) : (s.putSet n p).pending = s.pending := rfl

end Sys2Proof.Machine
end

