-- ==== Sys2Proof/Laws/Table.lean ====
section
/-! SUPPORT. The sparse tables: what a put changes, and that every table operation keeps the canonical form. -/

namespace Sys2Proof

variable {α : Type} [DecidableEq α]

/-- A put leaves every other key as it was. -/
theorem Table.get_put_ne (d : α) (t : Table α) (k : Nat) (v : α) (n : Nat) (h : n ≠ k) :
    Table.get d (Table.put d t k v) n = Table.get d t n := by
  induction t with
  | nil => by_cases hv : v = d <;> simp [Table.put, Table.get, hv, Ne.symm h]
  | cons e t ih =>
    obtain ⟨k', v'⟩ := e
    simp only [Table.put]
    split
    · by_cases hv : v = d <;> simp [Table.get, hv, Ne.symm h]
    · split
      · rename_i hk
        subst hk
        by_cases hv : v = d <;> simp [Table.get, hv, Ne.symm h]
      · simp [Table.get, ih]

/-- Keys below the least key of a canonical table read the default. -/
theorem Table.get_below (d : α) (t : Table α) (lo n : Nat) (h : Table.wfFrom d lo t = true) (hn : n < lo) : Table.get d t n = d := by
  induction t generalizing lo with
  | nil => rfl
  | cons e t ih =>
    obtain ⟨k, v⟩ := e
    simp only [Table.wfFrom, Bool.and_eq_true, decide_eq_true_eq] at h
    have hk : k ≠ n := by omega
    simp only [Table.get, if_neg hk]
    exact ih (k + 1) h.2 (by omega)

/-- A put of a canonical table is read back. -/
theorem Table.get_put_from (d : α) (t : Table α) (lo k : Nat) (v : α) (h : Table.wfFrom d lo t = true) :
    Table.get d (Table.put d t k v) k = v := by
  induction t generalizing lo with
  | nil => by_cases hv : v = d <;> simp [Table.put, Table.get, hv]
  | cons e t ih =>
    obtain ⟨k', v'⟩ := e
    simp only [Table.wfFrom, Bool.and_eq_true, decide_eq_true_eq] at h
    simp only [Table.put]
    split
    · rename_i hlt
      by_cases hv : v = d
      · have hne : k' ≠ k := by omega
        simp [Table.get, hv, hne, Table.get_below d t (k' + 1) k h.2 (by omega)]
      · simp [Table.get, hv]
    · split
      · rename_i hk
        subst hk
        by_cases hv : v = d
        · simp [hv, Table.get_below d t (k + 1) k h.2 (by omega)]
        · simp [Table.get, hv]
      · rename_i h1 h2
        have hne : k' ≠ k := fun e => h2 e.symm
        simp [Table.get, hne, ih (k' + 1) h.2]

/-- A put of a canonical table is read back. -/
theorem Table.get_put_self (d : α) (t : Table α) (k : Nat) (v : α) (h : Table.wf d t = true) :
    Table.get d (Table.put d t k v) k = v := Table.get_put_from d t 0 k v h

/-- A put of a value other than the default is read back, whatever the table. -/
theorem Table.get_put_some (d : α) (t : Table α) (k : Nat) (v : α) (h : v ≠ d) :
    Table.get d (Table.put d t k v) k = v := by
  induction t with
  | nil => simp [Table.put, Table.get, h]
  | cons e t ih =>
    obtain ⟨k', v'⟩ := e
    simp only [Table.put]
    split
    · simp [Table.get]
    · split
      · simp [Table.get]
      · rename_i h1 h2
        have hne : k' ≠ k := fun e => h2 e.symm
        simp [Table.get, hne, ih]

/-- A canonical table from a bound is canonical from any lower bound. -/
theorem Table.wfFrom_mono (d : α) (t : Table α) (lo lo' : Nat) (h : Table.wfFrom d lo t = true) (hl : lo' ≤ lo) :
    Table.wfFrom d lo' t = true := by
  cases t with
  | nil => rfl
  | cons e t =>
    obtain ⟨k, v⟩ := e
    simp only [Table.wfFrom, Bool.and_eq_true, decide_eq_true_eq] at h ⊢
    exact ⟨⟨by omega, h.1.2⟩, h.2⟩

/-- A put keeps the canonical form. -/
theorem Table.wfFrom_put (d : α) (t : Table α) (lo k : Nat) (v : α) (h : Table.wfFrom d lo t = true) (hk : lo ≤ k) :
    Table.wfFrom d lo (Table.put d t k v) = true := by
  induction t generalizing lo with
  | nil => by_cases hv : v = d <;> simp [Table.put, Table.wfFrom, hv, hk]
  | cons e t ih =>
    obtain ⟨k', v'⟩ := e
    have h' := h
    simp only [Table.wfFrom, Bool.and_eq_true, decide_eq_true_eq] at h
    simp only [Table.put]
    split
    · by_cases hv : v = d
      · simpa [hv] using h'
      · simp only [if_neg hv, Table.wfFrom, Bool.and_eq_true, decide_eq_true_eq]
        exact ⟨⟨hk, hv⟩, ⟨by omega, h.1.2⟩, h.2⟩
    · split
      · rename_i hkk
        subst hkk
        by_cases hv : v = d
        · simpa [hv] using Table.wfFrom_mono d t (k + 1) lo h.2 (by omega)
        · simp only [if_neg hv, Table.wfFrom, Bool.and_eq_true, decide_eq_true_eq]
          exact ⟨⟨hk, hv⟩, h.2⟩
      · simp only [Table.wfFrom, Bool.and_eq_true, decide_eq_true_eq]
        exact ⟨h.1, ih (k' + 1) h.2 (by omega)⟩

/-- A put keeps the canonical form. -/
theorem Table.wf_put (d : α) (t : Table α) (k : Nat) (v : α) (h : Table.wf d t = true) : Table.wf d (Table.put d t k v) = true :=
  Table.wfFrom_put d t 0 k v h (Nat.zero_le k)

/-- A run of puts keeps the canonical form. -/
theorem Table.wf_putList (d : α) (t : Table α) (k : Nat) (vs : List α) (h : Table.wf d t = true) :
    Table.wf d (Table.putList d t k vs) = true := by
  induction vs generalizing t k with
  | nil => exact h
  | cons v vs ih => exact ih _ _ (Table.wf_put d t k v h)

/-- A run of puts leaves keys outside it as they were. -/
theorem Table.get_putList_out (d : α) (t : Table α) (k : Nat) (vs : List α) (n : Nat) (h : n < k ∨ k + vs.length ≤ n) :
    Table.get d (Table.putList d t k vs) n = Table.get d t n := by
  induction vs generalizing t k with
  | nil => rfl
  | cons v vs ih =>
    simp only [Table.putList]
    rw [ih _ _ (by simp only [List.length_cons] at h; omega), Table.get_put_ne d t k v n (by simp only [List.length_cons] at h; omega)]

/-- A run of puts of a canonical table is read back. -/
theorem Table.get_putList_in (d : α) (t : Table α) (k : Nat) (vs : List α) (i : Nat) (hi : i < vs.length)
    (h : Table.wf d t = true) : Table.get d (Table.putList d t k vs) (k + i) = vs[i] := by
  induction vs generalizing t k i with
  | nil => simp at hi
  | cons v vs ih =>
    simp only [Table.putList]
    cases i with
    | zero =>
      rw [Table.get_putList_out d _ _ vs _ (by omega)]
      simpa using Table.get_put_self d t k v h
    | succ i =>
      have := ih (Table.put d t k v) (k + 1) i (by simpa using hi) (Table.wf_put d t k v h)
      simpa [Nat.add_assoc, Nat.add_comm 1 i] using this

/-- The run of values read back is the run put. -/
theorem Table.getList_putList (d : α) (t : Table α) (k : Nat) (vs : List α) (h : Table.wf d t = true) :
    Table.getList d (Table.putList d t k vs) k vs.length = vs := by
  induction vs generalizing t k with
  | nil => rfl
  | cons v vs ih =>
    simp only [Table.putList, List.length_cons, Table.getList]
    rw [ih _ _ (Table.wf_put d t k v h), Table.get_putList_out d _ _ vs _ (by omega), Table.get_put_self d t k v h]

/-- Leaving entries out keeps the canonical form. -/
theorem Table.wfFrom_filter (d : α) (t : Table α) (p : Nat × α → Bool) (lo : Nat) (h : Table.wfFrom d lo t = true) :
    Table.wfFrom d lo (t.filter p) = true := by
  induction t generalizing lo with
  | nil => exact h
  | cons e t ih =>
    obtain ⟨k, v⟩ := e
    simp only [Table.wfFrom, Bool.and_eq_true, decide_eq_true_eq] at h
    simp only [List.filter_cons]
    split
    · simp only [Table.wfFrom, Bool.and_eq_true, decide_eq_true_eq]
      exact ⟨h.1, ih (k + 1) h.2⟩
    · exact Table.wfFrom_mono d _ (k + 1) lo (ih (k + 1) h.2) (by omega)

/-- Leaving entries out keeps the canonical form. -/
theorem Table.wf_filter (d : α) (t : Table α) (p : Nat × α → Bool) (h : Table.wf d t = true) : Table.wf d (t.filter p) = true :=
  Table.wfFrom_filter d t p 0 h

/-- The empty table is canonical. -/
theorem Table.wf_nil (d : α) : Table.wf d ([] : Table α) = true := rfl

/-- Changing every value gives a canonical table. -/
theorem Table.wf_mapVals (d : α) (f : α → α) (t : Table α) : Table.wf d (Table.mapVals d f t) = true := by
  have key : ∀ (l : Table α) (m : Table α), Table.wf d m = true →
      Table.wf d (l.foldl (fun (m : Table α) (p : Nat × α) => Table.put d m p.1 (f p.2)) m) = true := by
    intro l
    induction l with
    | nil => intro m h; exact h
    | cons e l ih => intro m h; exact ih _ (Table.wf_put d m e.1 (f e.2) h)
  exact key t [] rfl

/-- Two canonical tables that read the same at every key are the same data. -/
theorem Table.ext_from (d : α) (t u : Table α) (lo : Nat) (ht : Table.wfFrom d lo t = true) (hu : Table.wfFrom d lo u = true)
    (h : ∀ n, Table.get d t n = Table.get d u n) : t = u := by
  induction t generalizing u lo with
  | nil =>
    cases u with
    | nil => rfl
    | cons e u =>
      obtain ⟨k, v⟩ := e
      simp only [Table.wfFrom, Bool.and_eq_true, decide_eq_true_eq] at hu
      have := h k
      simp [Table.get] at this
      exact absurd this.symm hu.1.2
  | cons e t ih =>
    obtain ⟨k, v⟩ := e
    simp only [Table.wfFrom, Bool.and_eq_true, decide_eq_true_eq] at ht
    cases u with
    | nil =>
      have := h k
      simp [Table.get] at this
      exact absurd this ht.1.2
    | cons e' u =>
      obtain ⟨k', v'⟩ := e'
      simp only [Table.wfFrom, Bool.and_eq_true, decide_eq_true_eq] at hu
      have hk : k = k' := by
        rcases Nat.lt_trichotomy k k' with hlt | heq | hgt
        · have hh := h k
          have hne : k' ≠ k := by omega
          simp [Table.get, hne, Table.get_below d u (k' + 1) k hu.2 (by omega)] at hh
          exact absurd hh ht.1.2
        · exact heq
        · have hh := h k'
          have hne : k ≠ k' := by omega
          simp [Table.get, hne, Table.get_below d t (k + 1) k' ht.2 (by omega)] at hh
          exact absurd hh.symm hu.1.2
      subst hk
      have hv : v = v' := by simpa [Table.get] using h k
      subst hv
      congr 1
      refine ih u (k + 1) ht.2 hu.2 (fun n => ?_)
      by_cases hn : n = k
      · subst hn
        rw [Table.get_below d t (n + 1) n ht.2 (by omega), Table.get_below d u (n + 1) n hu.2 (by omega)]
      · have := h n
        simpa [Table.get, Ne.symm hn] using this

/-- Equal reads mean equal canonical tables: equal memories are equal data. -/
theorem Table.ext_wf (d : α) (t u : Table α) (ht : Table.wf d t = true) (hu : Table.wf d u = true)
    (h : ∀ n, Table.get d t n = Table.get d u n) : t = u := Table.ext_from d t u 0 ht hu h

end Sys2Proof
end

