-- ==== Sys2Proof/Laws/Ops.lean ====
section
/-! SUPPORT. What the shared operations over tiles, regions and memory do, said once. -/

namespace Sys2Proof

/-- A tile's key names it. -/
theorem TileId.key_inj {t u : TileId} (h : t.key = u.key) : t = u := by
  obtain ⟨r, x, y⟩ := t
  obtain ⟨r', x', y'⟩ := u
  simp only [TileId.key] at h
  have h1 := r.isLt
  have h2 := r'.isLt
  have h3 := x.isLt
  have h4 := x'.isLt
  have h5 := y.isLt
  have h6 := y'.isLt
  have hr : r = r' := BitVec.eq_of_toNat_eq (by omega)
  have hx : x = x' := BitVec.eq_of_toNat_eq (by omega)
  have hy : y = y' := BitVec.eq_of_toNat_eq (by omega)
  subst hr; subst hx; subst hy; rfl

/-- The tile of a tile's key is the tile. -/
theorem TileId.ofKey_key (t : TileId) : TileId.ofKey t.key = t := by
  obtain ⟨r, x, y⟩ := t
  have h1 := r.isLt
  have h3 := x.isLt
  have h5 := y.isLt
  simp only [TileId.ofKey, TileId.key, TileId.mk.injEq]
  refine ⟨BitVec.eq_of_toNat_eq ?_, BitVec.eq_of_toNat_eq ?_, BitVec.eq_of_toNat_eq ?_⟩ <;> simp only [BitVec.toNat_ofNat] <;> omega

namespace Machine

variable (s : State)

/-- A tile written leaves every other tile as it was. -/
theorem State.tile_setTile_ne (t u : TileId) (v : Tile) (h : u ≠ t) : (s.setTile t v).tile u = s.tile u :=
  Table.get_put_ne _ _ _ _ _ (fun e => h (TileId.key_inj e))

/-- A tile written is read back. -/
theorem State.tile_setTile_self (t : TileId) (v : Tile) (h : Table.wf {} s.tiles = true) : (s.setTile t v).tile t = v :=
  Table.get_put_self _ _ _ _ h

/-- A tile that is not at reset is read back, whatever the table. -/
theorem State.tile_setTile_some (t : TileId) (v : Tile) (h : v ≠ {}) : (s.setTile t v).tile t = v :=
  Table.get_put_some _ _ _ _ h

/-- A tile changed is read back changed. -/
theorem State.tile_updTile_self (t : TileId) (f : Tile → Tile) (h : Table.wf {} s.tiles = true) :
    (s.updTile t f).tile t = f (s.tile t) := s.tile_setTile_self t _ h

/-- A tile changed leaves every other tile as it was. -/
theorem State.tile_updTile_ne (t u : TileId) (f : Tile → Tile) (h : u ≠ t) : (s.updTile t f).tile u = s.tile u :=
  s.tile_setTile_ne t u _ h

/-- Writing a tile keeps the canonical form of the tile table. -/
theorem State.wf_setTile (t : TileId) (v : Tile) (h : Table.wf {} s.tiles = true) : Table.wf {} (s.setTile t v).tiles = true :=
  Table.wf_put _ _ _ _ h

/-- A region written leaves every other region as it was. -/
theorem State.region_setRegion_ne (r q : Nat) (v : Region) (h : q ≠ r) : (s.setRegion r v).region q = s.region q :=
  Table.get_put_ne _ _ _ _ _ h

/-- A region written is read back. -/
theorem State.region_setRegion_self (r : Nat) (v : Region) (h : Table.wf {} s.regions = true) : (s.setRegion r v).region r = v :=
  Table.get_put_self _ _ _ _ h

/-- Writing a region keeps the canonical form of the region table. -/
theorem State.wf_setRegion (r : Nat) (v : Region) (h : Table.wf {} s.regions = true) : Table.wf {} (s.setRegion r v).regions = true :=
  Table.wf_put _ _ _ _ h

/-- Writing tile memory leaves the scratch of every tile alone, and the tier memory of other addresses. -/
theorem State.tierStore_out (a : Nat) (bs : Bytes) (n : Nat) (h : n < a ∨ a + bs.length ≤ n) :
    Table.get 0 (s.tierStore a bs).tier.mem n = Table.get 0 s.tier.mem n :=
  Table.get_putList_out 0 _ _ _ _ h

/-- Bytes stored to a tier are read back. -/
theorem State.tierBytes_tierStore (a : Nat) (bs : Bytes) (h : Table.wf 0 s.tier.mem = true) :
    (s.tierStore a bs).tierBytes a bs.length = bs := Table.getList_putList 0 _ _ _ h

/-- A store to a tier keeps the canonical form of its memory. -/
theorem State.wf_tierStore (a : Nat) (bs : Bytes) (h : Table.wf 0 s.tier.mem = true) :
    Table.wf 0 (s.tierStore a bs).tier.mem = true := Table.wf_putList 0 _ _ _ h

/-- Marking a range of pages coded keeps the canonical form of tier memory (R467). -/
theorem State.wf_setCoded (chan n : Nat) (h : Table.wf 0 s.tier.mem = true) : Table.wf 0 (s.setCoded chan n).tier.mem = true := by
  have key : ∀ (c : Prop) [Decidable c] (p : Nat × BitVec 8 → Bool),
      Table.wf 0 (if c then s.tier.mem.filter p else s.tier.mem) = true := by
    intro c _ p
    split
    · exact Table.wf_filter 0 _ _ h
    · exact h
  exact key _ _

/-- A channel erased with its region keeps the canonical form of tier memory (R27). -/
theorem State.wf_eraseChan (c : Nat) (h : Table.wf 0 s.tier.mem = true) : Table.wf 0 (s.eraseChan c).tier.mem = true :=
  Table.wf_filter 0 _ _ h

/-- A resealed page keeps the canonical form of tier memory (R468). -/
theorem State.wf_tierReseal (chan page : Nat) (h : Table.wf 0 s.tier.mem = true) : Table.wf 0 (s.tierReseal chan page).tier.mem = true :=
  s.wf_tierStore _ _ h

/-- The memory right after reset is canonical. -/
theorem State.reset_tier_wf : Table.wf 0 State.reset.tier.mem = true := rfl

/-- A stored word keeps the canonical form of a tile's scratch bytes. -/
theorem setRawWord_scratch_wf (x : Tile) (line w : Nat) (d : BitVec 256) (c : BitVec 10) (h : Table.wf 0 x.scratch = true) :
    Table.wf 0 (setRawWord x line w d c).scratch = true := by
  dsimp only [setRawWord]
  exact Table.wf_putList 0 _ _ _ h

/-- What one word written leaves in the scratch bytes: the word stored, with no other byte changed. -/
theorem writeWord_scratch (x : Tile) (line w : Nat) (d : BitVec 256) :
    (writeWord x line w d).scratch = (setRawWord x line w d (checkBits d)).scratch := by
  have key : ∀ (p q r : Prop) [Decidable p] [Decidable q] [Decidable r] (y z u v : Tile), z.scratch = y.scratch →
      u.scratch = y.scratch → v.scratch = y.scratch →
      (if p then y else if q then z else if r then u else v).scratch = y.scratch := by
    intro p q r _ _ _ y z u v hz hu hv
    split
    · rfl
    · split
      · exact hz
      · split <;> assumption
  unfold writeWord
  dsimp only
  exact key _ _ _ _ _ _ _ (by dsimp only [Tile.updScrub]) (by dsimp only [Tile.updScrub, Tile.setPageCheck])
    (by dsimp only [Tile.setPageCheck])

/-- One word written keeps the canonical form of a tile's scratch bytes. -/
theorem writeWord_scratch_wf (x : Tile) (line w : Nat) (d : BitVec 256) (h : Table.wf 0 x.scratch = true) :
    Table.wf 0 (writeWord x line w d).scratch = true := by
  rw [writeWord_scratch]
  exact setRawWord_scratch_wf x line w d _ h

/-- A line written keeps the canonical form of a tile's scratch bytes. -/
theorem writeLine_scratch_wf (x : Tile) (line : Nat) (bs : Bytes) (poison : Bool) (h : Table.wf 0 x.scratch = true) :
    Table.wf 0 (writeLine x line bs poison).scratch = true := by
  have key : ∀ (l : List Nat) (ws : List (BitVec 256)) (y : Tile), Table.wf 0 y.scratch = true →
      Table.wf 0 (l.foldl (fun t w => writeWord t line w (ws.getD w 0)) y).scratch = true := by
    intro l ws
    induction l with
    | nil => intro y hy; exact hy
    | cons w l ih => intro y hy; exact ih _ (writeWord_scratch_wf y line w _ hy)
  exact key (List.range 4) _ x h

/-- A bank that loses its contents keeps the canonical form (R489). -/
theorem loseBank_scratch_wf (x : Tile) (b : Nat) (h : Table.wf 0 x.scratch = true) : Table.wf 0 (loseBank x b).scratch = true :=
  Table.wf_filter 0 _ _ h

/-- A bank zeroed by a mask change keeps the canonical form (R160). -/
theorem zeroBank_scratch_wf (x : Tile) (b : Nat) (h : Table.wf 0 x.scratch = true) : Table.wf 0 (zeroBank x b).scratch = true :=
  Table.wf_filter 0 _ _ h

/-- The power-on fill leaves empty, canonical scratch (R488). -/
theorem fillTile_scratch_wf (x : Tile) : Table.wf 0 (fillTile x).scratch = true := rfl

end Machine
end Sys2Proof
end

