-- ==== Sys2Proof/Laws/Frames.lean ====
section
/-! SUPPORT. Which part of the state a shared operation may change, said once: each lemma gives the operation's answer as the state
before it with the fields it writes. -/

namespace Sys2Proof.Machine

variable (s : State)

/-- Changing a tile changes the tiles alone. -/
theorem State.updTile_only (t : TileId) (f : Tile → Tile) : s.updTile t f = { s with tiles := (s.updTile t f).tiles } := rfl

/-- Changing a region changes the regions alone. -/
theorem State.updRegion_only (r : Nat) (f : Region → Region) : s.updRegion r f = { s with regions := (s.updRegion r f).regions } := rfl

/-- Changing a link changes the links alone. -/
theorem State.updLink_only (k : Nat) (f : Link → Link) : s.updLink k f = { s with links := (s.updLink k f).links } := rfl

/-- A dictionary counter counts alone. -/
theorem State.count_only (k n : Nat) : s.count k n = { s with counts := (s.count k n).counts } := rfl

/-- The second state is the first but for the queue pairs and the log. -/
def State.LogOnly (s t : State) : Prop := ∃ h l, t = { s with host := h, log := l }

variable {s}

theorem State.LogOnly.trans {t u : State} (h : State.LogOnly s t) (h' : State.LogOnly t u) : State.LogOnly s u := by
  obtain ⟨_, _, rfl⟩ := h
  obtain ⟨a, b, rfl⟩ := h'
  exact ⟨a, b, rfl⟩

theorem State.LogOnly.ite {c : Prop} [Decidable c] {t u : State} (h : State.LogOnly s t) (h' : State.LogOnly s u) :
    State.LogOnly s (if c then t else u) := by
  split
  · exact h
  · exact h'

/-- An exported record changes the queue pairs and the log. -/
theorem State.exportRecord_only (s : State) (r : Record) : State.LogOnly s (s.exportRecord r) := by
  unfold State.exportRecord
  dsimp only
  split
  · exact ⟨_, _, rfl⟩
  · exact ⟨s.host, _, rfl⟩

/-- A flush of the log changes the log. -/
theorem State.startFlush_only (s : State) : State.LogOnly s s.startFlush := ⟨_, _, rfl⟩

/-- A record put into the ring changes the queue pairs and the log. -/
theorem State.ringPut_only (s : State) (r : Record) : State.LogOnly s (s.ringPut r) := by
  unfold State.ringPut
  exact .ite
    (.trans (.ite (.trans ⟨_, _, rfl⟩ (State.exportRecord_only _ r)) ⟨_, _, rfl⟩) (State.startFlush_only _))
    (.ite (.trans ⟨_, _, rfl⟩ (State.exportRecord_only _ r)) ⟨_, _, rfl⟩)

/-- A record that Cox makes changes the queue pairs and the log. -/
theorem State.recordMade_only (s : State) (r : Record) : State.LogOnly s (s.recordMade r) := by
  unfold State.recordMade
  exact .ite ⟨_, _, rfl⟩ (.trans ⟨_, _, rfl⟩ (State.ringPut_only _ _))

/-- An event changes the queue pairs and the log. -/
theorem State.event_only (s : State) (code region : Nat) (p : Bytes) : State.LogOnly s (s.event code region p) :=
  State.recordMade_only s _

variable (s)

/-- An event of a region waits in the region. -/
theorem State.regionEvent_only (r code : Nat) (p : Bytes) :
    s.regionEvent r code p = { s with regions := (s.regionEvent r code p).regions } := rfl

/-- A snapshot trigger changes the regions alone. -/
theorem State.trigger_only (r : Nat) (m : BitVec 16) : s.trigger r m = { s with regions := (s.trigger r m).regions } := by
  unfold State.trigger
  dsimp only
  split
  · rfl
  · split
    · rfl
    · split <;> rfl

/-- A control word changes the links alone. -/
theorem State.sendWord_only (k : Nat) (w : CtlWord) : s.sendWord k w = { s with links := (s.sendWord k w).links } := by
  unfold State.sendWord
  repeat' split
  all_goals rfl

end Sys2Proof.Machine
end

