-- ==== Sys2Proof/Tests/Slice0.lean ====
section
/-! SUPPORT. Small tests: ill-formed commands refused, bundle words written out from the spec's encoding, one step of each command on a small
state; and, for every statement with hypotheses, a state and operands that meet them (the theorems named wit_). -/

set_option Elab.async false

open Sys2Proof Sys2Proof.Machine

namespace Sys2Proof.Tests

/-! ## A small state -/

/-- The outcome is a next state that satisfies `p`. -/
def ends (o : Host.Outcome State Fault Refusal) (p : State → Bool) : Bool :=
  match o with
  | .next u => p u
  | _ => false

/-- A tile of an interior region. -/
def T : TileId := ⟨17, 2, 3⟩

/-- A tile of stage 0 in the middle of its program. -/
def tile0 : Tile := { stage := some 0, run := true, live := true, cycle := 100, pc := 6, nextPc := 7 }

/-- Every region powered, strokes running, and one tile in a crew. -/
def demo : State := {
  now := 1000000
  clk := { ticking := true, running := true, begun := true, easy := 0, tick := 900, stroke := 5, catchTick := 800 }
  tiles := [(T.key, tile0)]
  power := { pg := 0xFFFFFFFFFFFFFFFF, on := 0xFFFFFFFFFFFFFFFF }
  ref := { cur := 3, lock := true, locked := true } }

/-- The state with that tile in place of the other. -/
def put (x : Tile) : State := { demo with tiles := [(T.key, x)] }

/-- A flit head to the tile. -/
def head0 : FlitHead := { zeroHead with dreg := 17, dx := 2, dy := 3, sched := true, sreg := 18, sx := 1, sy := 1 }

/-! ## Ill-formed commands -/

/-- A tile below the last row of an edge region, of 8 rows. -/
theorem test_wf_tile : (Instr.li ⟨0, 2, 8⟩ 3 5).wf = false ∧ (Instr.li ⟨0, 2, 7⟩ 3 5).wf = true := by decide

/-- A flit whose body is not 128 bytes. -/
theorem test_wf_flit : (Instr.dataFlitAccept T { head := head0, body := [] }).wf = false ∧
    (Instr.flitReceive 17 2 3 { head := head0, body := [1] }).wf = false ∧ (Instr.dmaRead 0 { head := head0, body := [] } []).wf = false := by
  decide

/-- A cache write across a line, and one of more than a line. -/
theorem test_wf_cache : (Instr.cacheAccess T 120 (some (List.replicate 9 0))).wf = false ∧
    (Instr.cacheAccess T 120 (some (List.replicate 8 0))).wf = true := by decide

/-- A test-window row past the region's, and a mode that is not reserved. -/
theorem test_wf_window : (Instr.twRawRead 0 1 8 0 0 0).wf = false ∧ (Instr.twReservedMode 0 8).wf = false ∧
    (Instr.twReservedMode 0 9).wf = true := by decide

/-- A page past a tier channel's, a word past a page's, and a shard piece of another length. -/
theorem test_wf_tier : (Instr.tierPageRead 0 23437500 [] 0).wf = false ∧ (Instr.tierPatrol 0 [128] 0).wf = false := by decide

/-- More bytes than a bound are refused. -/
theorem upTo_long (n m : Nat) (h : n < m) : upTo n (List.replicate m 0) = false := by
  unfold upTo
  rw [List.length_replicate]
  exact decide_eq_false (by omega)

/-- A shard record longer than the longest, by either way in. -/
theorem test_wf_record : (Instr.shardRecordReceive 0 (List.replicate 4194353 0)).wf = false ∧
    (Instr.rdmaReadResponse 2 (List.replicate 4194353 0)).wf = false := by
  have h : upTo 4194352 (List.replicate 4194353 0) = false := upTo_long _ _ (by omega)
  simp only [Instr.wf, Instr.tile, h, Bool.and_false, and_self]

/-- A recovery message longer than a datagram carries. -/
theorem test_wf_datagram : (Instr.recoveryData 0 (List.replicate 1473 0)).wf = false := by decide +kernel

/-- A link past T95, a port past M0, and a flow block of another length. -/
theorem test_wf_links : (Instr.linkDown 96).wf = false ∧ (Instr.linkDown 95).wf = true ∧ (Instr.portLinkDown 9).wf = false ∧
    (Instr.flowDataBlock 0 []).wf = false := by decide

/-- A CAN frame of more than 8 bytes that is no FD frame, a nonce and an export record of other lengths. -/
theorem test_wf_frames : (Instr.canSegment 0x400 false false false false (List.replicate 9 0) none).wf = false ∧
    (Instr.attestationNonce []).wf = false ∧ (Instr.export_ []).wf = false := by decide

/-- VPHY stands in edge regions only. -/
theorem test_wf_domain : (Instr.overcurrentWarning 17 3 0).wf = false ∧ (Instr.overcurrentWarning 0 3 0).wf = true := by decide

/-- No command has bits in the table. -/
theorem test_no_word : decodeTableWord 32 0 = none ∧ (State.reset.withFetchWord 32 0).pending = [] := by decide

/-! ## Bundle words written out from the encoding (R189, R204, R211, R222, R230, R234, R242) -/

/-- LI s3, 5: OP 0x02 in [5:0], D in [9:6], IMM in [39:18]. -/
theorem test_word_li : decodeCtl T (0x02 + 3 * 2 ^ 6 + 5 * 2 ^ 18) = .li T 3 5 := by decide

/-- BDEC s2 to bundle 9: OP 0x0E, A in [13:10]. -/
theorem test_word_bdec : decodeCtl T (0x0E + 2 * 2 ^ 10 + 9 * 2 ^ 18) = .bdec T 2 9 := by decide

/-- LD v4 under p1 from s5 + 0x123, mode 2: PRED in [7:6], V in [12:8], A in [16:13], LINE in [31:17], EXT in [47:32]. -/
theorem test_word_ld : decodeLsu T (0x01 + 1 * 2 ^ 6 + 4 * 2 ^ 8 + 5 * 2 ^ 13 + 0x123 * 2 ^ 17 + 2 * 2 ^ 32) = .ld T 1 4 5 0x123 2 := by decide

/-- WSET 6: the set in [10:8], bank k of the set in [22+5k:18+5k]. -/
theorem test_word_wset : decodeLsu T (0x05 + 6 * 2 ^ 8 + 31 * 2 ^ 18) = .wset T 6 31 := by decide

/-- MUL: AROW in [13:8], X in [21:14], E in [31:22], FMT in [35:32], J in [38:36], INIT in [39]. -/
theorem test_word_mul : decodeMxu T (0x03 + 7 * 2 ^ 8 + 9 * 2 ^ 14 + 11 * 2 ^ 22 + 1 * 2 ^ 32 + 5 * 2 ^ 36 + 2 ^ 39) = .mul T 0 7 9 11 1 5 true := by
  decide

/-- VFMA v1, v2, v3, v4: D in [12:8], A in [17:13], B in [22:18], C in [27:23]. -/
theorem test_word_vfma : decodeVec T (0x04 + 1 * 2 ^ 8 + 2 * 2 ^ 13 + 3 * 2 ^ 18 + 4 * 2 ^ 23) = .vfma T 0 1 2 3 4 := by decide

/-- PACK: FMT in [21:18], MODE in [25:22], S in [29:26], IMM in [39:30]. -/
theorem test_word_pack : decodeRqu T (0x04 + 2 * 2 ^ 18 + 3 * 2 ^ 22 + 6 * 2 ^ 26 + 12 * 2 ^ 30) = .pack T 0 2 3 6 12 := by decide

/-- SEND: S in [11:8], LINE in [26:12], ENTRY in [34:27]. -/
theorem test_word_send : decodeNet T (0x01 + 3 * 2 ^ 8 + 0x55 * 2 ^ 12 + 8 * 2 ^ 27) = .send T 0 3 0x55 8 := by decide

/-- The slots stand at bits 0, 40, 88, 128, 176 and 216 of a bundle. -/
theorem test_word_slots : decodeBundle T (0x12 + 0x01 * 2 ^ 40 + 0x02 * 2 ^ 88 + 0x12 * 2 ^ 128 + 0x08 * 2 ^ 176 + 0x03 * 2 ^ 216) =
    [.ld T 0 0 0 0 0, .bsw T, .vmov T 0 0 0, .pclr T 0, .commit T 0 0, .rdcyc T 0] := by decide

/-- The loader refuses a reserved opcode and BDEC of s0. -/
theorem test_word_refused : ctlRefused 0x17 = true ∧ ctlRefused 0x0E = true ∧ ctlRefused (0x0E + 2 ^ 10) = false ∧ netRefused 0 5 = true := by decide

/-! ## The queue, reset -/

/-- With nothing waiting a step passes one tick. -/
theorem wit_idle : demo.pending = [] ∧ ends (step demo) (fun u => u.now = 1000001 && u.clk.tick = 901) = true := by decide

/-- A step runs the command in front. -/
theorem test_step : ends (step { demo with pending := [.li T 3 5, .li T 4 6] }) (fun u => sreg (u.tile T) 3 = 5 && u.pending = [.li T 4 6]) = true := by
  decide

/-! ## Tile instructions -/

/-- s0 and p0 are hard-wired; s15 and p3, the last of their files, are written. -/
theorem wit_registers : Table.wf 0 tile0.s = true ∧ (15 : Nat) ≠ 0 ∧ sreg (setSreg tile0 15 7) 15 = 7 ∧ sreg (setSreg tile0 0 7) 0 = 0 ∧
    Table.wf false tile0.p = true ∧ preg (setPreg tile0 3 true) 3 = true ∧ preg (setPreg tile0 0 false) 0 = true := by decide +kernel

/-- A tile with scalars and predicates. -/
def scal : Tile := { tile0 with
  s := [(1, 6), (2, 0xFFFFFFFE), (3, 33)]
  p := [(1, true)]
  present := 0x8 }

/-- The hypotheses of the scalar results. -/
theorem wit_scalar : ctlReady (put scal) T = true ∧ Table.wf 0 ((put scal).tile T).s = true := by decide +kernel

/-- Scalars: a sum that wraps, a shift by 33 mod 32, a signed comparison. -/
theorem test_scalar : ends (exec (.add T 4 1 2) (put scal)) (fun u => sreg (u.tile T) 4 = 4 && (u.tile T).nextPc = 8 && (u.tile T).cycle = 101) = true ∧
    ends (exec (.shl T 4 1 3) (put scal)) (fun u => sreg (u.tile T) 4 = 12) = true ∧
    ends (exec (.slt T 4 2 1) (put scal)) (fun u => sreg (u.tile T) 4 = 1) = true ∧
    ends (exec (.slt T 4 1 2) (put scal)) (fun u => sreg (u.tile T) 4 = 0) = true := by decide +kernel

/-- Scalars: negative immediates, a product, a difference, the counters. -/
theorem test_scalar2 : ends (exec (.addi T 4 1 0x3FFFFF) (put scal)) (fun u => sreg (u.tile T) 4 = 5) = true ∧
    ends (exec (.scalarMul T 4 1 2) (put scal)) (fun u => sreg (u.tile T) 4 = 0xFFFFFFF4) = true ∧
    ends (exec (.sub T 4 1 2) (put scal)) (fun u => sreg (u.tile T) 4 = 8) = true ∧
    ends (exec (.shr T 4 2 3) (put scal)) (fun u => sreg (u.tile T) 4 = 0x7FFFFFFF) = true ∧
    ends (exec (.rdcyc T 4) (put scal)) (fun u => sreg (u.tile T) 4 = 100) = true ∧
    ends (exec (.rdstk T 4) (put scal)) (fun u => sreg (u.tile T) 4 = 5) = true := by decide +kernel

/-- Bitwise scalars and an immediate. -/
theorem test_scalar3 : ends (exec (.and T 4 1 2) (put scal)) (fun u => sreg (u.tile T) 4 = 6) = true ∧
    ends (exec (.or T 4 1 3) (put scal)) (fun u => sreg (u.tile T) 4 = 39) = true ∧
    ends (exec (.xor T 4 1 3) (put scal)) (fun u => sreg (u.tile T) 4 = 39) = true ∧
    ends (exec (.li T 4 0x200000) (put scal)) (fun u => sreg (u.tile T) 4 = 0xFFE00000) = true := by decide +kernel

/-- The program flow: the hypotheses, the end of the program, a branch taken, a decrement, a present row read. -/
theorem wit_flow : issuing (put scal) T = true ∧ ctlReady (put scal) T = true ∧ Table.wf 0 ((put scal).tile T).s = true ∧ Table.wf false ((put scal).tile T).p = true ∧
    ends (exec (.end_ T) (put scal)) (fun u => (u.tile T).done && !issuing u T) = true ∧
    ends (exec (.bnz T 1 9) (put scal)) (fun u => (u.tile T).nextPc = 9) = true ∧
    ends (exec (.bdec T 1 9) (put scal)) (fun u => (u.tile T).nextPc = 9 && sreg (u.tile T) 1 = 5) = true ∧
    ends (exec (.pred T 2 0 3) (put scal)) (fun u => preg (u.tile T) 2) = true ∧
    ends (exec (.nop T .ctl 0 false) (put { scal with nextPc := 4095 })) (fun u => (u.tile T).done && (u.tile T).nextPc = 0) = true := by decide +kernel

/-- A control flit in the queue of a tile, read and removed. -/
def ctlFl : Flit := { head := { head0 with kind := 2 }, body := natLE 4 2 ++ natLE 4 77 ++ List.replicate 120 0 }

theorem wit_cqpop : ctlReady (put { scal with ctlQ := [ctlFl] }) T = true ∧ ({ scal with ctlQ := [ctlFl] } : Tile).ctlWait = [] ∧
    ends (exec (.cqpop T) (put { scal with ctlQ := [ctlFl] })) (fun u => (u.tile T).ctlQ = []) = true ∧
    ends (exec (.cqrd T 4 0) (put { scal with ctlQ := [ctlFl] })) (fun u => sreg (u.tile T) 4 = 77) = true ∧
    ends (exec (.cqn T 4) (put { scal with ctlQ := [ctlFl] })) (fun u => sreg (u.tile T) 4 = 1) = true := by decide +kernel

/-- A tile with a gather outstanding. -/
def gathering : Tile := { scal with gtag := [(3, { outstanding := true, line := 9, serial := 4, addr := 256 })], gatherSerial := 4 }

/-- The waits: a counter wait that holds, a gather wait that holds, one whose tag is complete. -/
theorem wit_waits : ctlReady (put gathering) T = true ∧ Table.wf false gathering.linePoison = true ∧ min 0xFFFFFFFF (gathering.cycle + 1) < (sreg gathering 0 + BitVec.ofNat 32 (0x32003 / 16)).toNat ∧
    (Table.get {} gathering.gtag (0x32003 % 16)).outstanding = true ∧ (Table.get {} gathering.gtag 2).outstanding = false ∧
    ends (exec (.waitc T 0 200) (put gathering)) (fun u => (u.tile T).hold = .waitC 200) = true ∧
    ends (exec (.waitg T 0 0x32003) (put gathering)) (fun u => (u.tile T).hold = .waitG 3 0x3200) = true ∧
    ends (exec (.waitg T 0 0x32002) (put gathering)) (fun u => (u.tile T).hold = .none) = true ∧
    ends (exec (.waitg T 0 0x653) (put gathering)) (fun u => (u.tile T).hold = .none && (u.tile T).withhold && Table.get false (u.tile T).linePoison 9) =
      true := by decide +kernel

/-- The ends of waits: at the counter, with the tag complete, at the deadline. -/
theorem wit_release : demo.clk.running = true ∧ gathering.stage.isSome = true ∧ gathering.bswWait ≠ 2 ∧ gathering.netWait ≠ 2 ∧
    Table.wf false gathering.linePoison = true ∧
    ends (exec (.waitRelease T 5) (put { gathering with hold := .waitC 200 })) (fun u => (u.tile T).hold = .none && (u.tile T).cycle = 200) = true ∧
    ends (exec (.waitRelease T 5) (put { gathering with hold := .waitG 2 300 })) (fun u => (u.tile T).hold = .none && !(u.tile T).withhold && (u.tile T).cycle = gathering.cycle + 5) = true ∧
    ends (exec (.waitRelease T 5) (put { gathering with hold := .waitG 3 300 })) (fun u => (u.tile T).hold = .none && (u.tile T).withhold &&
      Table.get false (u.tile T).linePoison 9) = true := by decide +kernel

/-- A tile whose next bundle holds two flipped check bits. -/
def broken : Tile := { scal with progChk := [(7, some (checkBits 0 ^^^ 3))] }

/-- Empty slots; a bundle whose fetch finds a double error, for the first time and for the third; and one found so before. -/
theorem wit_nop : let worn : Tile := { scal with progRepairs := [(7, 2)] }
    issuing (put scal) T = true ∧ Table.get 0 scal.progRepairs scal.nextPc < 2 ∧ Table.wf none scal.progChk = true ∧ bundleBad scal = false ∧
    2 ≤ Table.get 0 worn.progRepairs worn.nextPc ∧ worn.failing = false ∧ bundleBad worn = false ∧ (put worn).bypassNext 17 2 = 0xFF ∧
    bundleBad broken = true ∧ issuing (put broken) T = true ∧
    ends (exec (.nop T .vec 0 false) (put scal)) (fun u => decide (u = put scal)) = true ∧
    ends (exec (.nop T .ctl 0 true) (put scal)) (fun u => (u.tile T).fetchErr && (u.tile T).errAddr = 7 && (u.tile T).withhold && (u.tile T).nextPc = 8 &&
      bundleBad { u.tile T with nextPc := 7 }) = true ∧
    ends (exec (.nop T .ctl 0 true) (put worn)) (fun u => (u.tile T).failing) = true ∧
    ends (exec (.li T 1 5) (put broken)) (fun u => sreg (u.tile T) 1 = 6 && (u.tile T).withhold && (u.tile T).nextPc = 8) = true := by
  decide +kernel

/-- A predicate that holds 0. -/
theorem wit_skip : preg ((put scal).tile T) 2 = false ∧ (3 : BitVec 4).getLsbD 2 = false ∧ ends (exec (.vadd T 2 1 2 3) (put scal)) (fun u => decide (u = put scal)) = true ∧
    issuing (put scal) T = true ∧ ends (exec (.pack T 2 3 4 1 0) (put scal)) (fun u => (u.tile T).marked = scal.marked + 1) = true := by
  decide +kernel

/-- A tile with a line of known bytes at line 5: its check bits hold for the zero words; words 0 and 1 hold 1 and 2. -/
def lined : Tile := writeLine scal 5 (natLE 4 1 ++ natLE 4 2 ++ List.replicate 120 0) false

/-- A line ready to be read; the modes of a load. -/
theorem wit_load : slotReady (put lined) T 1 = true ∧ ((sreg ((put lined).tile T) 0).toNat + 5) % 32768 = 5 ∧ lineReady ((put lined).tile T) 5 = true ∧
    ends (exec (.ld T 1 4 0 5 1) (put lined)) (fun u => (u.tile T).inflight.map (fun p => p.done) = [101]) = true ∧
    (loadLanes 1 (natLE 4 1 ++ natLE 4 2 ++ List.replicate 120 0)).getD 1 (0, 0) = (33, 2) ∧
    (loadLanes 5 (natLE 2 0x3F80 ++ List.replicate 126 0)).getD 0 (0, 0) = (64, 0x3F800000) := by decide +kernel

/-- The last mode, at the edges of its lanes. -/
theorem wit_load_modes : (3 : Nat) < 4 ∧ (31 : Nat) < 32 ∧ ((loadLanes 3 (List.replicate 128 0)).getD 31 (0, 0)).1 = 127 ∧
    (5 = 4 ∨ 5 = 5) ∧ (63 : Nat) < 64 ∧ ((loadLanes 5 (List.replicate 128 0)).getD 63 (0, 0)).1 = 127 ∧
    (loadLanes 5 (List.replicate 128 0)).length = 64 := by decide +kernel

/-- Stores and clears. -/
theorem wit_store : slotReady (put lined) T 1 = true ∧ vPoison ((put lined).tile T) 4 = false ∧ lineReady ((put lined).tile T) 5 = true ∧
    ends (exec (.st T 1 4 0 5 1) (put lined)) (fun u => (u.tile T).inflight.length = 1 && (u.tile T).scratch = lined.scratch) = true ∧
    ends (exec (.clr T 1 0 5) (put lined)) (fun u => (u.tile T).inflight.length = 1) = true := by decide +kernel

/-- Six distinct banks 0 to 5, as a WSET names them. -/
def sixBanks : BitVec 30 := 0 + 1 * 2 ^ 5 + 2 * 2 ^ 10 + 3 * 2 ^ 15 + 4 * 2 ^ 20 + 5 * 2 ^ 25

/-- A set named and refused, and read. -/
theorem wit_set : slotReady (put scal) T 0 = true ∧ Table.wf noBanks ((put scal).tile T).bankSets = true ∧
    ((List.range 6).map (fun i => BitVec.ofNat 5 (sixBanks.toNat / 32 ^ i))).Nodup ∧
    (∀ b ∈ (List.range 6).map (fun i => BitVec.ofNat 5 (sixBanks.toNat / 32 ^ i)), cacheBank ((put scal).tile T) b.toNat = false) ∧
    ¬ ((List.range 6).map (fun i => BitVec.ofNat 5 ((0 : BitVec 30).toNat / 32 ^ i))).Nodup ∧
    ends (exec (.wset T 7 sixBanks) (put scal)) (fun u => Table.get noBanks (u.tile T).bankSets 7 = [0, 1, 2, 3, 4, 5]) = true ∧
    ends (exec (.wset T 7 0) (put scal)) (fun u => (u.tile T) = scal) = true := by decide +kernel

/-- A weight read of six clean lines. -/
theorem wit_wrd : let x : Tile := { scal with bankSets := [(7, [0, 1, 2, 3, 4, 5])] }
    slotReady (put x) T 0 = true ∧ x.uses = [] ∧ (Table.get noBanks x.bankSets 7).Nodup ∧ x.inflight = [] ∧ x.wq.length + 6 ≤ 32 ∧
    (∀ b ∈ Table.get noBanks x.bankSets 7, lineReady x (1024 * b.toNat + 9) = true) ∧
    ends (exec (.wrd T 7 0 9) (put x)) (fun u => (u.tile T).inflight.map (fun p => decide (p.dest = .staging)) = [true] && (u.tile T).wq = []) = true := by
  decide +kernel

/-- The block registers: a load that begins, one that is discarded, a block filled, a swap and a wait. -/
theorem wit_blocks : slotReady (put scal) T 0 = true ∧ scal.blkLoad.ready = true ∧ scal.wq = [] ∧ kW 1 ≠ 0 ∧ scal.stage.isSome = true ∧
    scal.blkLoad.missing = 0 ∧ ({ scal with blkLoad := { ready := false } } : Tile).blkLoad.ready = false ∧
    ({ scal with blkLoad := { missing := 3 } } : Tile).blkLoad.missing ≠ 0 ∧ scal.blkLoad.from_ ≤ scal.cycle ∧
    (scal.cycle < ({ scal with blkLoad := { from_ := 101 } } : Tile).blkLoad.from_ ∧ issuing (put { scal with blkLoad := { from_ := 101 } }) T = true) ∧
    ends (exec (.blockReady T) (put { scal with blkLoad := { ready := false, from_ := 101 } })) (fun u => !(u.tile T).blkLoad.ready) = true ∧
    ends (exec (.bld T 1) (put scal)) (fun u => !(u.tile T).blkLoad.ready && (u.tile T).blkLoad.missing = kW 1 * 64) = true ∧
    ends (exec (.bld T 1) (put { scal with blkLoad := { ready := false } })) (fun u => decide (u = put { scal with blkLoad := { ready := false } })) = true ∧
    ends (exec (.blockReady T) (put { scal with blkLoad := { ready := false } })) (fun u => (u.tile T).blkLoad.ready) = true ∧
    ends (exec (.bsw T) (put { scal with blkLoad := { fmt := 2 } })) (fun u => (u.tile T).blkUse.fmt = 2) = true ∧
    ends (exec (.bsw T) (put { scal with blkLoad := { ready := false } })) (fun u => (u.tile T).bswWait = 1) = true := by decide +kernel

/-- Gathers: one that names an address outside the tiers, one inside, and one that completes or was taken over. -/
theorem wit_gather : let out : Tile := { scal with s := [(2, 0xFFFFFFFF), (3, 0xFFFFFFFF)] }
    Table.wf {} gathering.gtag = true ∧ slotReady (put out) T 1 = true ∧ Table.wf false out.linePoison = true ∧ (2 : BitVec 4).getLsbD 0 = false ∧
    cacheBank out (bankOf 9) = false ∧ demo.inTier (128 * ((sreg out 2).toNat + 2 ^ 32 * (sreg out 3).toNat)) = false ∧
    ends (exec (.gath T 1 2 9 4) (put out)) (fun u => Table.get false (u.tile T).linePoison 9 && !(Table.get {} (u.tile T).gtag 4).outstanding) = true := by
  decide +kernel

theorem wit_gather_in : slotReady (put lined) T 1 = true ∧ demo.inTier (128 * ((sreg lined 14).toNat + 2 ^ 32 * (sreg lined 15).toNat)) = true ∧
    lined.cacheBusy = false ∧ cacheHit lined 0 = none ∧
    ends (exec (.gath T 1 14 9 4) (put lined)) (fun u => (Table.get {} (u.tile T).gtag 4).outstanding && (u.tile T).cacheMissQ.length = 1) = true := by
  decide +kernel

theorem wit_gathered : let x : Tile := { gathering with gatherReady := [(3, 4, some (List.replicate 128 7))] }
    let y : Tile := { gathering with gatherReady := [(3, 2, some (List.replicate 128 7))] }
    x.stage.isSome = true ∧ (Table.get {} x.gtag 3).outstanding = true ∧ (Table.get {} x.gtag 3).serial = 4 ∧ bankUp x (bankOf 9) = true ∧
    (Table.get {} y.gtag 3).serial ≠ 2 ∧
    ends (exec (.gatherComplete T 3) (put x)) (fun u => (u.tile T).byte (128 * 9) = 7 && !(Table.get {} (u.tile T).gtag 3).outstanding) = true ∧
    ends (exec (.gatherComplete T 3) (put y)) (fun u => u.tile T = { y with gatherReady := [] }) = true := by decide +kernel

/-- A gather's data into a bank of weights, into a bank in use, and a gather that failed. -/
theorem wit_gather_other : let x : Tile := { gathering with gatherReady := [(3, 4, some (List.replicate 128 7))], roles := List.replicate 32 .weights }
    let y : Tile := { gathering with gatherReady := [(3, 4, some (List.replicate 128 7))], uses := [(0, .lsu)] }
    let z : Tile := { gathering with gatherReady := [(3, 4, none)] }
    x.weightBank (bankOf 9) = true ∧ (put x).bankBusy T (bankOf 9) = false ∧ bankUp x (bankOf 9) = true ∧ (put y).bankBusy T (bankOf 9) = true ∧
    Table.wf false z.linePoison = true ∧ (Table.get {} z.gtag 3).serial = 4 ∧
    ends (exec (.gatherComplete T 3) (put x)) (fun u => (u.tile T).byte (128 * 9) = 0 && !(Table.get {} (u.tile T).gtag 3).outstanding) = true ∧
    ends (exec (.gatherComplete T 3) (put y)) (fun u => decide (u = put y)) = true ∧
    ends (exec (.gatherComplete T 3) (put z)) (fun u => Table.get false (u.tile T).linePoison 9 && !(Table.get {} (u.tile T).gtag 3).outstanding) = true := by
  decide +kernel

/-- The matrix unit: a product, rows cleared to the last, rows moved. -/
theorem wit_matrix : let x : Tile := { scal with blkUse := { fmt := 11, elems := List.replicate (64 * kW 11) (.fin false 1 0) } }
    slotReady (put x) T 1 = true ∧ x.blkUse.poison = false ∧ (actSlice x 11 0 0 (min (kW 11) (kW x.blkUse.fmt.toNat))).2 = false ∧
    Table.wf {} (put x).regions = true ∧ (63 : BitVec 6).toNat + (0 : BitVec 6).toNat + 1 ≤ 64 ∧ (62 : BitVec 6).getLsbD 0 = false ∧
    (Table.get {} x.acc 62).poison = false ∧
    ends (exec (.mul T 1 63 0 0 11 0 true) (put x)) (fun u => (u.tile T).inflight.map (fun p => decide (p.dest = .acc 63)) = [true]) = true ∧
    ends (exec (.aclr T 1 62 1) (put x)) (fun u => (u.tile T).inflight.map (fun p => decide (p.dest = .acc 63)) = [false, true]) = true ∧
    ends (exec (.amov T 1 62 31) (put x)) (fun u => (u.tile T).inflight.length = 1) = true := by decide +kernel

/-- A tile whose v1 holds 1.5 in lane 0 and 2.0 in lane 127, and v2 0.5 in lane 0. -/
def lanesTile : Tile := { scal with v := [(1, { lanes := [(0, 0x3FC00000), (127, 0x40000000)] }), (2, { lanes := [(0, 0x3F000000)] })] }

/-- The value in flight in a lane. -/
def flying (u : State) (i : Nat) : Option Word :=
  match (u.tile T).inflight with
  | [p] => (match p.value with
    | .lanes _ ls _ => (ls.find? (fun q => q.1 = i)).map (fun q => q.2)
    | _ => none)
  | _ => none

/-- The hypotheses of the vector instructions, and lanes of sums, products and a comparison. -/
theorem wit_lanes : slotReady (put lanesTile) T 1 = true ∧ vPoison ((put lanesTile).tile T) 1 = false ∧
    ends (exec (.vadd T 1 3 1 2) (put lanesTile)) (fun u => flying u 0 = some 0x40000000 && flying u 127 = some 0x40000000) = true ∧
    ends (exec (.vmul T 1 3 1 2) (put lanesTile)) (fun u => flying u 0 = some 0x3F400000) = true ∧
    ends (exec (.vcmplt T 1 3 2 1) (put lanesTile)) (fun u => flying u 0 = some 0xFFFFFFFF && flying u 1 = some 0) = true := by decide +kernel

/-- A multiply-add, a difference, a maximum and a broadcast. -/
theorem test_lanes : ends (exec (.vfma T 1 3 1 2 1) (put lanesTile)) (fun u => flying u 0 = some 0x40100000) = true ∧
    ends (exec (.vsub T 1 3 2 1) (put lanesTile)) (fun u => flying u 0 = some 0xBF800000) = true ∧
    ends (exec (.vmin T 1 3 1 2) (put lanesTile)) (fun u => flying u 0 = some 0x3F000000) = true ∧
    ends (exec (.vbcast T 1 3 1 127) (put lanesTile)) (fun u => flying u 5 = some 0x40000000) = true ∧
    ends (exec (.vmov T 1 3 1) (put lanesTile)) (fun u => flying u 0 = some 0x3FC00000) = true := by decide +kernel

/-- Immediates in BF16, a selection and a scale by a power of two. -/
theorem test_lanes2 : ends (exec (.vaddi T 1 3 1 0x3F80) (put lanesTile)) (fun u => flying u 0 = some 0x40200000) = true ∧
    ends (exec (.vmuli T 1 3 1 0x4000) (put lanesTile)) (fun u => flying u 0 = some 0x40400000) = true ∧
    ends (exec (.vsel T 1 3 1 2 2) (put lanesTile)) (fun u => flying u 0 = some 0x3FC00000) = true ∧
    ends (exec (.vsc2 T 1 3 1 0xFF) (put lanesTile)) (fun u => flying u 0 = some 0x3F400000) = true ∧
    ends (exec (.vmax T 1 3 1 2) (put lanesTile)) (fun u => flying u 0 = some 0x3FC00000) = true := by decide +kernel

/-- Reductions, and the long operations: issued, and issued one cycle after the last of their kind. -/
theorem wit_long : slotReady (put lanesTile) T 1 = true ∧ vPoison ((put lanesTile).tile T) 1 = false ∧
    ¬ (lanesTile.lastLong = some (lanesTile.cycle - 1) ∧ 0 < lanesTile.cycle) ∧
    (({ lanesTile with lastLong := some 99 } : Tile).lastLong = some (lanesTile.cycle - 1) ∧ 0 < lanesTile.cycle) ∧
    ends (exec (.vrsum T 1 3 1 0) (put lanesTile)) (fun u => flying u 64 = some 0x40600000) = true ∧
    ends (exec (.vrmax T 1 3 1 1) (put lanesTile)) (fun u => flying u 0 = some 0x3FC00000 && flying u 64 = some 0x40000000) = true ∧
    ends (exec (.vrcp T 1 3 1) (put { lanesTile with lastLong := some 99 })) (fun u => (u.tile T).inflight.length = 1) = true := by decide +kernel

/-- Rotations: of one part under a descriptor of its length and of another, and the first and the second part of two. -/
theorem wit_rotation : let x : Tile := { lanesTile with rot := [(3, { log2b := 6 }), (4, { log2b := 8 })] }
    let b : RotBlock := { desc := 4, mode := 2, part := 0, cycle := 99, elems := valsOf x 1, ids := [0] }
    let y : Tile := { x with rotNow := some b }
    slotReady (put x) T 1 = true ∧ vPoison x 1 = false ∧ x.uses = [] ∧ (Table.get {} x.rot 3).log2b.toNat = 6 ∧ (Table.get {} x.rot 4).log2b.toNat = 8 ∧
    slotReady (put y) T 1 = true ∧ vPoison y 1 = false ∧ y.uses = [] ∧ b.cycle + 1 = y.cycle ∧ b.part + 1 = (36 : BitVec 10).toNat / 32 ∧
    (36 : BitVec 10).toNat / 32 ≠ 0 ∧ x.rotNow = none ∧
    ends (exec (.irot T 1 1 3 0 2 36) (put x)) (fun u => (u.tile T).rotNow = none && (u.tile T).inflight.length = 1) = true ∧
    ends (exec (.rot T 1 1 3 0 2 4) (put x)) (fun u => (u.tile T).rotNow.isSome) = true ∧
    ends (exec (.rot T 1 1 3 0 2 36) (put y)) (fun u => (u.tile T).rotNow = none) = true := by decide +kernel

/-- The pack stream and the generator. -/
theorem wit_rqu : slotReady (put lanesTile) T 1 = true ∧ vPoison ((put lanesTile).tile T) 1 = false ∧ (13 : BitVec 4).toNat < 14 ∧
    ((14 : BitVec 4).toNat < 14 ∨ ((14 : BitVec 4) = 14 ∧ (0 : BitVec 4).getLsbD 0 = false)) ∧
    ends (exec (.pclr T 1) (put { lanesTile with packOver := true })) (fun u => !(u.tile T).packOver) = true ∧
    ends (exec (.srset T 1 0 1) (put lanesTile)) (fun u => (u.tile T).srPos = 6 && (u.tile T).srIdx = 0xFFFFFFFE) = true ∧
    ends (exec (.pfeed T 1 1) (put lanesTile)) (fun u => (u.tile T).inflight.map (fun p => p.done) = [101]) = true := by decide +kernel

/-- A burst of 126 ones in the first format. -/
def burst1 : Bytes := packBurst 1 false none (List.replicate 126 (.fin false 1 0))

/-- A burst packed into the egress queue and one to a line, one that is short, and one a cycle after another; and one unpacked. -/
theorem wit_pack : let x : Tile := { lined with pack := List.replicate 127 (0x3F800000, false) }
    let y : Tile := { x with lastPack := some 99 }
    slotReady (put x) T 1 = true ∧ slotReady (put y) T 1 = true ∧ fmtShape 1 = some ⟨8, 0, 0, 0, 126⟩ ∧ (2 : BitVec 4).getLsbD 1 = true ∧
    (4 : BitVec 4).getLsbD 1 = false ∧ ¬ (x.lastPack = some (x.cycle - 1) ∧ 0 < x.cycle) ∧ (y.lastPack = some (y.cycle - 1) ∧ 0 < y.cycle) ∧
    x.packOver = false ∧ x.pack.all (fun p => !p.2) = true ∧ x.uses = [] ∧ Table.wf false y.linePoison = true ∧
    ends (exec (.pack T 1 1 2 0 0) (put x)) (fun u => (u.tile T).pack.length = 1 && (u.tile T).inflight.length = 1) = true ∧
    ends (exec (.pack T 1 1 4 0 7) (put x)) (fun u => (u.tile T).marked = 1 && (u.tile T).uses.length = 2 &&
      (u.tile T).inflight.map (fun p => p.dest) = [.scratch 7]) = true ∧
    ends (exec (.pack T 1 1 0 0 7) (put y)) (fun u => Table.get false (u.tile T).linePoison 7 && (u.tile T).pack.length = 127) = true ∧
    ends (exec (.pack T 1 1 6 0 7) (put y)) (fun u => (u.tile T).marked = 1 && (u.tile T).linePoison = []) = true := by decide +kernel

theorem wit_unpack : let x : Tile := writeLine scal 5 burst1 false
    slotReady (put x) T 1 = true ∧ lineReady x ((0 + 5) % 32768) = true ∧ (decodeLine 1 (lineRead x 5).bytes).isSome = true ∧
    ends (exec (.unpk T 1 3 1 0 0 5) (put x)) (fun u => flying u 125 = some 0x3F800000 && flying u 126 = some 0) = true := by decide +kernel

/-! ## What happens at a tile -/

/-- A route row that reaches every region through side 1. -/
def routed : Region := { mesh := { rtab := Table.putList 0 [] 0 (List.replicate 64 1) } }

/-- The demo state with a tile that may send: entry 9 lands delivery 4 at line 0x40 of tile (3, 3) of its own region. -/
def sender : Tile := { lined with
  send := [(9, { dkind := 0, dreg := 17, dx := 3, dy := 3, lane := 2, deliv := 4, base := 0x40, firstRow := 1, rows := 4, valid := true })] }

/-- The state with the region's routes. -/
def sending (x : Tile) : State := { put x with regions := [(17, routed)] }

/-- The network instructions: a line sent, a burst sent, a commit, a commit withheld. -/
theorem wit_net : let s := sending { sender with egress := [(List.replicate 128 5, false)] }
    slotReady s T 1 = true ∧ (s.tile T).uses = [] ∧ (s.tile T).egress.length < 8 ∧ ((Table.get {} (s.tile T).send 9).dkind ≠ 3) ∧
    s.route 17 17 ≠ 15 ∧ (s.tile T).committed.contains 9 = false ∧ lineReady (s.tile T) 5 = true ∧ Table.wf 0 (s.tile T).sentLines = true ∧
    (s.tile T).withhold = false ∧ s.egressRoom T = true ∧ ([] : List (Bytes × Bool)).length + (s.atMeshPort T).length < 8 ∧
    ends (exec (.send T 1 1 0x7FFF 9) s) (fun u => u.transit.length = 1 && Table.get 0 (u.tile T).sentLines 9 = 1) = true ∧
    ends (exec (.sendq T 1 0 9) s) (fun u => u.transit.length = 1 && (u.tile T).egress = []) = true ∧
    ends (exec (.commit T 1 9) s) (fun u => u.transit.length = 1 && (u.tile T).committed = [9]) = true ∧
    ends (exec (.commit T 1 9) (sending { sender with withhold := true })) (fun u => u.transit = []) = true ∧
    ends (exec (.commit T 1 9) (sending { sender with committed := [9] })) (fun u => u.transit = []) = true := by decide +kernel

/-- A line sent while eight bursts stand in the egress queue is held back. -/
theorem wit_held : let s := sending { sender with egress := List.replicate 8 (List.replicate 128 5, false) }
    s.egressRoom T = false ∧ slotReady s T 1 = true ∧ lineReady (s.tile T) 5 = true ∧
    ends (exec (.send T 1 1 0x7FFF 9) s) (fun u => u.transit = [] && (u.tile T).netHeld.isSome && (u.tile T).netWait = 1) = true := by decide +kernel

/-- A line that holds a descriptor: one line at the start of the first stack, read (1) with tag 2, or copied (3). -/
def descLine (op : Nat) : Bytes := natLE 1 op ++ natLE 1 1 ++ natLE 1 2 ++ natLE 1 1 ++ natLE 2 0x7FFF ++ natLE 1 0xFF ++ natLE 1 0 ++
  List.replicate 24 0 ++ natLE 8 0 ++ natLE 4 1 ++ List.replicate 84 0

/-- DMA sends the descriptor to its controller. -/
theorem wit_dma : let x := fun (op : Nat) => writeLine sender 5 (descLine op) false
    lineReady (x 1) 5 = true ∧ lineReady (x 3) 5 = true ∧ (parseDesc (lineRead (x 1) 5).bytes).extents.head? = some (0, 1) ∧
    (parseDesc (lineRead (x 3) 5).bytes).extents.head? = some (0, 1) ∧ addrChan 0 = some (0, 0) ∧ (sending (x 1)).route 17 (edgeRegion (chanEdge 0)) ≠ 15 ∧
    edgeRegion (chanEdge 0) < 64 ∧ slotReady (sending (x 1)) T 1 = true ∧ (sending (x 1)).egressRoom T = true ∧
    ends (exec (.dma T 1 1 0x7FFF) (sending (x 1))) (fun u => u.transit.length = 1 && (Table.get {} (u.tile T).gtag 2).outstanding) = true ∧
    ends (exec (.dma T 1 1 0x7FFF) (sending (x 3))) (fun u => u.transit.length = 1 && (u.tile T).gtag = []) = true := by decide +kernel

/-- A result due: a vector register, an accumulator row. -/
theorem wit_writeback : let p : Machine.Pending := { id := 0, slot := .vec, done := 90, dest := .vreg 31, value := .lanes true (numbered (List.replicate 128 7)) false, pc := 0 }
    let q : Machine.Pending := { id := 0, slot := .mxu, done := 100, dest := .acc 63, value := .mac true (List.replicate 64 (.fin false 1 0)) false, pc := 0 }
    (put { scal with inflight := [p] }).tile T = { scal with inflight := [p] } ∧ p.done ≤ scal.cycle ∧ q.done ≤ scal.cycle ∧
    Table.wf {} scal.v = true ∧ Table.wf {} scal.acc = true ∧ scal.stage.isSome = true ∧ (Table.get {} scal.acc 63).poison = false ∧
    ends (exec (.resultWriteback T) (put { scal with inflight := [p] })) (fun u => lane (u.tile T) 31 127 = 7 && (u.tile T).inflight = []) = true ∧
    ends (exec (.resultWriteback T) (put { scal with inflight := [q] })) (fun u =>
      Table.get 0 (Table.get {} (u.tile T).acc 63).lanes 63 = 0x3F800000) = true := by decide +kernel

/-- A data flit of delivery 255. -/
def dataFl : Flit := { head := { head0 with deliv := 255, stroke := 5, lineOrCrc := 9 }, body := List.replicate 128 7 }

/-- A tile that expects delivery 255 by tick 910, or by tick 890. -/
def expecting (due : Nat) : Tile := { scal with input := [{ deliv := 255, due := .fixed due }] }

/-- A data flit accepted, stray, and late. -/
theorem wit_data_flit : (expecting 110).stage.isSome = true ∧ dataFl.head.kind = 0 ∧ dataFl.head.sched = true ∧ (expecting 110).ingress.length < 8 ∧
    dataFl.body.length = 128 ∧ (inputOf (expecting 110) 255).isSome = true ∧ inputOf scal 255 = none ∧ dataFl.head.stroke = demo.clk.stroke.setWidth 16 ∧
    demo.clk.tick.toNat < demo.clk.catchTick + 101 ∧ demo.clk.catchTick + 100 ≤ demo.clk.tick.toNat ∧ Table.wf 0 scal.gotLines = true ∧
    Table.wf {} demo.regions = true ∧
    ends (exec (.dataFlitAccept T dataFl) (put (expecting 101))) (fun u => Table.get 0 (u.tile T).gotLines 255 = 1 && (u.tile T).ingress.length = 1) = true ∧
    ends (exec (.dataFlitAccept T dataFl) (put (expecting 100))) (fun u => (u.tile T).late = [255] && (u.tile T).ingress = []) = true ∧
    ends (exec (.dataFlitAccept T dataFl) (put scal)) (fun u => (u.region 17).mesh.stray = 1) = true := by decide +kernel

/-- A commit flit of delivery 255 that says no data flit was sent and row 3 is present. -/
def commitFl : Flit := sealFlit { head := { head0 with kind := 1, deliv := 255, stroke := 5 }, body := commitBody 0 0 8 8 }

/-- A commit flit with the taint mark. -/
theorem wit_taint : let f := sealFlit { commitFl with head := { commitFl.head with taint := true } }
    crcOk f = true ∧ f.head.taint = true ∧ f.head.kind = 1 ∧ f.body.length = 128 ∧ f.head.stroke = demo.clk.stroke.setWidth 16 ∧
    ends (exec (.commitFlitArrive T f) (put (expecting 100))) (fun u => (u.tile T).late = [255]) = true := by decide +kernel

/-- A commit on time, a due tick without one, and a control flit. -/
theorem wit_commit : commitFl.body.length = 128 ∧ crcOk commitFl = true ∧ commitFl.head.kind = 1 ∧ (expecting 100).late.contains 255 = false ∧
    demo.clk.tick.toNat ≤ demo.clk.catchTick + 100 ∧ leNat (commitFl.body.take 4) = Table.get 0 (expecting 100).gotLines 255 ∧
    Table.get false (expecting 100).gotTaint 255 = false ∧ Table.wf none (expecting 100).onTime = true ∧ commitFl.head.stroke = demo.clk.stroke.setWidth 16 ∧
    demo.clk.running = true ∧ Table.get none (expecting 100).onTime 255 = none ∧ (sealFlit ctlFl).head.kind = 2 ∧ crcOk (sealFlit ctlFl) = true ∧
    (expecting 100).ctlQ.length < 16 ∧ (expecting 100).ctlWait = [] ∧
    ends (exec (.commitFlitArrive T commitFl) (put (expecting 100))) (fun u => Table.get none (u.tile T).onTime 255 = some 8) = true ∧
    ends (exec (.dueTick T 255) (put (expecting 102))) (fun u => (u.tile T).late = [255] && u.clk.tick = 902) = true ∧
    ends (exec (.controlFlitEnqueue T (sealFlit ctlFl)) (put (expecting 200))) (fun u => (u.tile T).ctlQ.length = 1) = true := by decide +kernel

/-- A landing write into the last line. -/
theorem wit_landing : let x : Tile := { scal with ingress := [{ line := 32767, bytes := List.replicate 128 9 }] }
    x.stage.isSome = true ∧ x.uses.any (fun u => u.1 = bankOf 32767) = false ∧ bankUp x (bankOf 32767) = true ∧
    cacheBank x (bankOf 32767) = false ∧ x.canon = true ∧
    ends (exec (.landingWrite T) (put x)) (fun u => (u.tile T).byte 4194303 = 9 && (u.tile T).byte 4194175 = 0 && (u.tile T).ingress = []) = true := by
  decide +kernel

/-- A landing whose bank is in use, is off, or holds weights; a tier READ's line goes there. -/
theorem wit_landing_other : let land : Landing := { line := 32767, bytes := List.replicate 128 9 }
    let x : Tile := { scal with ingress := [land] }
    let off : Tile := { x with bankPwr := 0x7FFFFFFF }
    let held : Tile := { x with roles := List.replicate 32 .weights }
    let busy : Tile := { x with bgUses := [31] }
    (put busy).bankBusy T 31 = true ∧ (put off).bankBusy T 31 = false ∧ bankUp off 31 = false ∧ off.canon = true ∧ held.weightBank 31 = true ∧
    (put held).bankBusy T 31 = false ∧ held.ingress ++ held.inWait.take (8 - held.ingress.length) = land :: [] ∧
    ends (exec (.landingWrite T) (put busy)) (fun u => decide (u = put busy)) = true ∧
    ends (exec (.landingWrite T) (put off)) (fun u => (u.tile T).discards = 1 && (u.tile T).withhold && (u.tile T).ingress = []) = true ∧
    ends (exec (.landingWrite T) (put held)) (fun u => (u.tile T).byte 4194303 = 0 && (u.tile T).ingress = []) = true := by decide +kernel

/-- A tile with one bank in cache mode that holds the line of address 0. -/
def caching : Tile := { scal with cacheMask := 1, cacheDir := [(0, { valid := true })] }

/-- Cache: outside the tiers, a miss, a hit, a fill of an empty way. -/
theorem wit_cache : scal.stage.isSome = true ∧ scal.cacheBusy = false ∧ demo.inTier (2 ^ 60 / 128 * 128) = false ∧ demo.inTier 0 = true ∧
    cacheHit scal 0 = none ∧ cacheHit caching 0 = some 0 ∧ Table.wf {} caching.cacheDir = true ∧
    ends (exec (.cacheAccess T (2 ^ 60) none) (put caching)) (fun u => (u.tile T).cacheOut = none && (u.tile T).misses = 0) = true ∧
    ends (exec (.cacheAccess T 128 none) (put caching)) (fun u => (u.tile T).misses = 1 && (u.tile T).cacheMissQ.length = 1) = true ∧
    ends (exec (.cacheAccess T 5 (some (List.replicate 128 3))) (put caching)) (fun u => (cacheLineOf (u.tile T) 0 0).dirty && (u.tile T).misses = 0) = true ∧
    (lineRead caching (cacheScratch 0 (cacheSet 0))).fixed = [] ∧ (lineRead caching (cacheScratch 0 (cacheSet 0))).bad = [] ∧
    ends (exec (.cacheAccess T 5 (some [3])) (put caching)) (fun u => (u.tile T).byte (128 * cacheScratch 0 0 + 5) = 3 &&
      (u.tile T).byte (128 * cacheScratch 0 0) = 0) = true := by decide +kernel

theorem wit_fill : let x : Tile := { scal with cacheMask := 1, cacheMissQ := [{ addr := 256 }] }
    x.cacheMissQ = [{ addr := 256 }] ∧ cacheHit x 256 = none ∧ fillWay x (cacheSet 256) = some 0 ∧ (cacheLineOf x 0 (cacheSet 256)).valid = false ∧
    Table.wf {} x.cacheDir = true ∧ Table.wf 0 x.victim = true ∧
    ends (exec (.cacheFill T false) (put x)) (fun u => (cacheLineOf (u.tile T) 0 2).valid && (u.tile T).cacheMissQ = [] && (u.tile T).cacheOut.isSome) = true := by
  decide +kernel

/-- Cache control: a change begun and refused, operations begun, refused and completed, a change completed. -/
theorem wit_cache_control : demo.powered 17 = true ∧ T.y.toNat < regionRows T.region.toNat ∧ demo.boot.plan = none ∧
    ({ scal with cacheBusy := true } : Tile).cacheBusy = true ∧ caching.cacheMissQ = [] ∧
    ends (exec (.cacheMaskWrite T 3) (put scal)) (fun u => (u.tile T).cacheBusy && (u.tile T).maskPending = some 3) = true ∧
    ends (exec (.cacheOpInvalidate T) (put scal)) (fun u => (u.tile T).cacheOp = 2) = true ∧
    ends (exec (.cacheOpWriteBack T) (put scal)) (fun u => (u.tile T).cacheOp = 1) = true ∧
    ends (exec (.cacheOpWriteBackInvalidate T) (put scal)) (fun u => (u.tile T).cacheOp = 3) = true ∧
    ends (exec (.cacheOpInvalidate T) (put { scal with cacheBusy := true })) (fun u => (u.tile T).cacheRefused) = true ∧
    ends (exec (.cacheOpComplete T) (put { caching with cacheBusy := true, cacheOp := 2 })) (fun u => (u.tile T).cacheDir = [] && !(u.tile T).cacheBusy) = true ∧
    ends (exec (.cacheMaskChangeDone T) (put { scal with cacheBusy := true, maskPending := some 0x80 })) (fun u =>
      (u.tile T).cacheMask = 0x80 && !(u.tile T).cacheBusy) = true := by decide +kernel

/-- A mask change while strokes run with a plan: refused, and one pending waits. -/
theorem wit_mask_running : let x : Tile := { scal with cacheBusy := true, maskPending := some 0x80 }
    let s : State := { put x with boot := { demo.boot with plan := some {} } }
    s.clk.running = true ∧ s.boot.plan ≠ none ∧ (s.tile T).maskPending = some 0x80 ∧
    ends (exec (.cacheMaskWrite T 3) s) (fun u => (u.tile T).cacheRefused && (u.tile T).maskPending = some 0x80) = true ∧
    ends (exec (.cacheMaskChangeDone T) s) (fun u => decide (u = s)) = true := by decide +kernel

/-- A tile whose bank 31 has one queued line, page 5 queued for rebuild, and a hard row. -/
def scrubbing : Tile := { scal with scrub := [(31, { line := 1022, rewrite := [4], hard := [255] })] }

/-- Scrubbing, rebuilding and remapping. -/
theorem wit_scrub : scrubbing.stage.isSome = true ∧ scrubbing.canon = true ∧ Table.wf {} demo.regions = true ∧ scrubReady (put scrubbing) T 31 = true ∧
    (lineRead scrubbing (1024 * 31 + 1022)).fixed = [] ∧ (lineRead scrubbing (1024 * 31 + 1022)).bad = [] ∧ 1022 % 32 ≠ 31 ∧
    (scrubbing.scrubOf 31).rebuilt = [] ∧ scrubReady (put { scrubbing with cacheMask := 0x80 }) T 31 = false ∧
    (scrubbing.scrubOf 31).rewrite = [4] ∧ (scrubbing.scrubOf 31).hard = [255] ∧ (255 : Nat) < 256 ∧
    (Table.get 0 scrubbing.remap (16 * 31)).getLsbD 8 = false ∧
    ends (exec (.scrubRead T 31) (put scrubbing)) (fun u => ((u.tile T).scrubOf 31).line = 1023) = true ∧
    ends (exec (.scrubWriteBack T 31) (put scrubbing)) (fun u => ((u.tile T).scrubOf 31).rewrite = []) = true ∧
    ends (exec (.rowRemap T 31) (put scrubbing)) (fun u => Table.get 0 (u.tile T).remap 496 = 511 && u.remapRecord = [(T.key, 31, 255, 0)]) = true := by
  decide +kernel

theorem wit_rebuild : let x : Tile := { scal with scrub := [(31, { rebuild := [(31, [127], false)] })] }
    let y : Tile := { scal with scrub := [(31, { rebuild := [(31, [], true)] })] }
    x.canon = true ∧ y.canon = true ∧ (x.scrubOf 31).rebuild = [(31, [127], false)] ∧ badWords x 31 31 = [] ∧ (127 : Nat) < 128 ∧
    ends (exec (.pageRebuild T 31) (put x)) (fun u => ((u.tile T).scrubOf 31).rebuild = [] && (u.region 17).ecc.pagesRebuilt = 1) = true ∧
    (put x).bankBusy T 31 = false ∧ (put y).bankBusy T 31 = false ∧ ¬ (put { x with uses := [(31, .lsu)] }).bankBusy T 31 = false ∧
    ends (exec (.pageRebuild T 31) (put { x with uses := [(31, .lsu)] })) (fun u => decide (u = put { x with uses := [(31, .lsu)] })) = true ∧
    ends (exec (.pageRebuild T 31) (put y)) (fun u => (u.region 17).ecc.pagesRebuilt = 1) = true := by decide +kernel

/-- No spare left. -/
theorem wit_no_spare : let x : Tile := { scrubbing with remap := Table.putList 0 [] 496 (List.replicate 16 256) }
    (∀ i ∈ List.range 16, (Table.get 0 x.remap (16 * 31 + i)).getLsbD 8 = true) ∧ x.canon = true ∧
    (put x).bypassNext 17 2 = 0xFF ∧ Table.wf 0xFF demo.boot.fieldMap = true ∧ x.failing = false ∧
    ends (exec (.rowRemap T 31) (put x)) (fun u => (u.tile T).failing && Table.get 0xFF u.boot.fieldMap (16 * 17 + 2) = 3) = true := by decide +kernel

/-- No spare left, in a column whose spare tile is in use. -/
theorem wit_tile_lost : let x : Tile := { scrubbing with remap := Table.putList 0 [] 496 (List.replicate 16 256) }
    let s : State := { put x with boot := { demo.boot with plan := some {}, fieldMap := [(16 * 17 + 2, 9)] } }
    s.bypassNext 17 2 ≠ 0xFF ∧ s.boot.plan ≠ none ∧ s.clk.running = true ∧
    ends (exec (.rowRemap T 31) s) (fun u => (u.tile T).failing && u.boot.tileLost = [17] && u.clk.named.map (fun e => e.cause) = [1]) = true := by decide +kernel

/-- The leaky bucket, and a region without power. -/
theorem wit_bucket : let s : State := { demo with regions := [(17, { ecc := { lbCount := 2 } })] }
    Table.wf {} s.regions = true ∧ (s.region 17).ecc.lbPeriod ≠ 0 ∧ (s.region 17).ecc.lbCount ≠ 0 ∧ (s.region 18).ecc.lbCount = 0 ∧
    s.powered 17 = true ∧ ({ s with power := {} } : State).powered 17 = false ∧
    ends (exec (.bucketLeak 17) s) (fun u => (u.region 17).ecc.lbCount = 1) = true ∧
    ends (exec (.eccLbDepthWrite 17 0) s) (fun u => (u.region 17).ecc.lbCount = 0 && (u.region 17).ecc.lbDepth = 0 && !(u.region 17).ecc.lbOvf) = true ∧
    ends (exec (.eccLbDepthWrite 17 9) { s with power := {} }) (fun u => u.accessFault && (u.region 17).ecc.lbDepth = 0x40) = true := by decide +kernel

/-- Bank power: an unused bank goes off, one in use does not, one that is off comes up, its fill ends, and one is forced off. -/
theorem wit_banks : let used : Tile := { scal with roles := List.replicate 32 .weights }
    let off : Tile := { scal with bankPwr := 0x7FFFFFFF }
    scal.bankPwr.getLsbD 31 = true ∧ cacheBank scal 31 = false ∧ scal.roleOf 31 = .unused ∧ landingOutstanding scal 31 = false ∧
    used.roleOf 31 ≠ .unused ∧ off.bankPwr.getLsbD 31 = false ∧
    ends (exec (.bankPowerDown T 31) (put scal)) (fun u => (u.tile T).bankPwr = 0x7FFFFFFF) = true ∧
    ends (exec (.bankPowerDown T 31) (put used)) (fun u => (u.tile T).pwrRefused && (u.tile T).bankPwr = 0xFFFFFFFF) = true ∧
    ends (exec (.bankPowerUp T 31) (put off)) (fun u => (u.tile T).bankPwr = 0xFFFFFFFF && (u.tile T).filling = 0x80000000) = true ∧
    ends (exec (.bankFillDone T 31) (put { scal with filling := 0x80000000 })) (fun u => (u.tile T).filling = 0) = true ∧
    ends (exec (.bankForceOff T 31) (put scal)) (fun u => (u.tile T).pwrForced && (u.tile T).bankPwr = 0x7FFFFFFF) = true := by decide +kernel

/-- The state with a word and check bits for the test window. -/
def window : State := { put scal with regions := [(17, { ecc := { twData := 0x1FF, twCheck := 0x155 } })] }

/-- The test window: the last line of the last bank, modes 0 to 8, and a reserved mode. -/
theorem wit_window : window.powered 17 = true ∧ window.boot.plan = none ∧ Table.wf {} window.tiles = true ∧ Table.wf {} window.regions = true ∧
    (window.tile T).canon = true ∧ (readWord scal 32767 3).2 = .good ∧ (scal.scrubOf (bankOf 32767)).rebuild = [] ∧ cacheBank scal (bankOf 32767) = false ∧
    9 ≤ (15 : BitVec 4).toNat ∧
    ends (exec (.twNormalWrite 17 2 3 31 1023 3) window) (fun u => (u.tile T).byte 4194272 = 0xFF && (u.tile T).byte 4194273 = 1) = true ∧
    ends (exec (.twRawWrite 17 2 3 31 1023 3) window) (fun u => rawCheck (u.tile T) 32767 3 = 0x155) = true ∧
    ends (exec (.twRawRead 17 2 3 31 1023 3) window) (fun u => (u.region 17).ecc.twData = 0) = true ∧
    ends (exec (.twCheckedRead 17 2 3 31 1023 3) window) (fun u => (u.region 17).ecc.twOutcome = 0 && (u.region 17).ecc.twData = 0) = true ∧
    ends (exec (.twQueueRebuild 17 2 3 31 1023 3) window) (fun u => ((u.tile T).scrubOf 31).rebuild = [(31, [127], false)]) = true ∧
    ends (exec (.twReservedMode 17 15) window) (fun u => (u.region 17).ecc.twRefused) = true := by decide +kernel

theorem test_window : ends (exec (.twCheckBytesWrite 17 2 3 31 1023) window) (fun u => (u.tile T).pageCheckOf 31 31 = 0x1FF) = true ∧
    ends (exec (.twCheckBytesRead 17 2 3 31 1023) window) (fun u => (u.region 17).ecc.twData = scal.pageCheckOf 31 31) = true ∧
    ends (exec (.twRemapWrite 17 2 3 31 1023) window) (fun u => Table.get 0 (u.tile T).remap 511 = 0x1FF) = true ∧
    ends (exec (.twRemapRead 17 2 3 31 1023) window) (fun u => (u.region 17).ecc.twData.toNat % 512 = 0) = true := by decide +kernel

/-- A program patch: staged, applied at once, refused. -/
theorem wit_patch : scal.run = true ∧ Table.wf 0 scal.prog = true ∧ Table.wf none broken.progChk = true ∧ Table.wf 0 broken.progRepairs = true ∧
    ends (exec (.seqPatchGo T 7) (put { broken with patchD := 9, run := false })) (fun u => Table.get 0 (u.tile T).progRepairs 7 = 1 && !bundleBad (u.tile T)) = true ∧ scal.patchGo = false ∧
    ends (exec (.seqPatchGo T 4095) (put { scal with patchD := 9 })) (fun u => (u.tile T).patchGo && (u.tile T).patchStaged = 9) = true ∧
    ends (exec (.seqPatchGo T 4095) (put { scal with patchD := 9, run := false })) (fun u => Table.get 0 (u.tile T).prog 4095 = 9 && !(u.tile T).patchGo) = true ∧
    ends (exec (.seqPatchGo T 4095) (put { scal with patchGo := true })) (fun u => (u.tile T).patchRefused) = true := by decide +kernel

/-! ## Strokes, checks and modes -/

/-- A crew of one tile. -/
def crew0 : Crew := { stage := 0, streamed := false, weightBytes := 128, seats := [{
  tile := T, program := [], send := [], input := [], checkMap := [], roles := [], cacheMask := 0, chkEn := true, chkSend := 50
  verdictRead := 5000, srStage := 0 }] }

/-- A plan of one crew: entry phase 0 of 2, committing three strokes after the entry. -/
def plan0 : Plan := {
  length := 4096, digest := 7, layout := 9, numerics := 3, stages := 1, passLength := 2, rowsPerPhase := 64, contextLimit := 4096
  crews := [crew0], strokes := [{ step := 1, s := 4096, f := 64 }]
  checks := [{ stage := 0, threshold := 100, table := [{ group := 0, firstRow := 0, rows := 1, element := 0 }], tiles := 1, replay := 8
               verdictCycle := 4000 }]
  entryPhases := [0], path := [0], commitOffset := 3, lastLayer := 2, rowCost := [{ w := 0, f0 := 0, c := 0, a := 0, kp := 0 }], nLayers := 1
  pageBytes := 4096, stagingRow := 128, areas := [{ kind := 0, tier := 0, chan := 0, size := 1048576 }] }

/-- The demo state with that plan, and the first region with its routes. -/
def planned : State := { demo with
  boot := { plan := some plan0, filled_ := true, staked := true, step := 9 }
  regions := [(17, routed)] }

/-- The demo state during easy-all. -/
def easyAll : State := { planned with clk := { demo.clk with running := false, easy := 2 } }

/-- The stroke clock. -/
theorem wit_stroke : Table.wf {} planned.regions = true ∧ demo.clk.running = true ∧ demo.clk.ticking = true ∧ demo.clk.named = [] ∧
    demo.clk.finished = false ∧ demo.powered 63 = true ∧ (demo.region 0).clk.winNow = 8 ∧
    ends (exec .catch_ planned) (fun u => u.clk.stroke = 6 && u.clk.running && u.clk.easy = 0 && !u.clk.finished && u.clk.catchTick = u.clk.tick.toNat) = true ∧
    ends (exec .finish planned) (fun u => u.clk.finished) = true ∧
    ends (exec .resumeTick { easyAll with clk := { easyAll.clk with resume := some { tick := 903, len := 4096, fin := 64, step := 1, stroke := 6 } } })
      (fun u => u.clk.running && u.clk.easy = 0 && u.clk.stroke = 6 && u.clk.tick = 903 && u.clk.catchTick = 903) = true ∧
    ends (exec (.halt 1) demo) (fun u => u.clk.named = [{ cause := 10, clearing := false, at_ := some demo.nameStroke }]) = true ∧
    ends (exec .laneEntryAdvance demo) (fun u => u.clk.tick = 904) = true ∧
    ends (exec (.laneWindowApply 0) { demo with regions := [(0, { clk := { laneWin := 2, winAt := 960 } })] }) (fun u => u.clk.tick = 960 && (u.region 0).clk.window 960 = 2) = true := by
  decide +kernel

theorem wit_no_umpire : ∀ q, (demo.region q).clk.umpHit = false := fun _ => rfl

/-- Stroke arming: 4 strokes ahead is taken, 3 and 2 to the 23 are refused, across the wrap of the 24 bits; the low words. -/
theorem wit_arm : let at_ := fun (n : Nat) => exec (.clkStrokeArm 63 (BitVec.ofNat 32 (2 ^ 31 + 3 * 2 ^ 24 + n))) demo
    ends (at_ 9) (fun u => (u.region 63).clk.arm && !(u.region 63).clk.armRefused && (u.region 63).clk.armStep = 3) = true ∧
    ends (at_ 8) (fun u => !(u.region 63).clk.arm && (u.region 63).clk.armRefused) = true ∧
    ends (at_ (2 ^ 23 + 4)) (fun u => (u.region 63).clk.arm) = true ∧ ends (at_ (2 ^ 23 + 5)) (fun u => (u.region 63).clk.armRefused) = true ∧
    ends (exec (.clkTickLoRead 63) { demo with clk := { demo.clk with tick := 0x700000009 } }) (fun u => u.readOut = some 9 && (u.region 63).clk.tickHi = 7) = true ∧
    ends (exec (.clkStrokeLoRead 63) { demo with clk := { demo.clk with stroke := 0x700000009 } }) (fun u =>
      u.readOut = some 9 && (u.region 63).clk.strokeHi = 7) = true := by decide +kernel

/-- A tile whose sums are ready to be sent, and one that reads its verdict late. -/
def checked : Tile := { tile0 with chkEn := true, chkSend := 100, verdictRead := 5000, sumErr := 5, sumRef := 1000 }

/-- The check flit of the crew's tile, arrived at the referee. -/
def checkFl : Flit := ctlFlit T 2 ⟨17, 1, 0⟩ 5 true 1 [256, 5, 0x35000000, 0x3F800000]

/-- A verdict flit of stage 0: a crab. -/
def verdictFl : Flit := ctlFlit ⟨17, 1, 0⟩ 0 T 5 true 2 [1, 5]

/-- The check flit sent, the verdict of a stage, a verdict arrived, the mode vector. -/
theorem wit_check : let s : State := { planned with tiles := [(T.key, checked)] }
    let j : State := { s with transit := [(17, 0, 0, checkFl)] }
    checked.stage = some 0 ∧ (s.crewOf 0).isSome ∧ crewHome crew0 = 17 ∧ s.route 17 17 ≠ 15 ∧ checked.chkSend.toNat ≤ checked.cycle ∧
    (s.checkOf 0).isSome ∧ (s.region 17).ref.judged = [] ∧ (∀ k ∈ plan0.checks, j.judge k crew0 = .good) ∧ j.isMember = false ∧
    (∀ c ∈ plan0.crews, crewHome c = 17 → c.stage = 0) ∧ Table.wf 0 s.mode.crabRun = true ∧ crcOk verdictFl = true ∧
    verdictFl.head.kind = 2 ∧ verdictFl.body.getD 0 0 = 2 ∧ bits (flitWord verdictFl 0) 0 2 = 1 ∧ bits (flitWord verdictFl 0) 2 7 = 0 ∧
    flitWord verdictFl 1 = s.clk.stroke.setWidth 32 ∧ checked.cycle ≤ checked.verdictRead ∧ checked.ctlQ.length < 16 ∧ checked.ctlWait = [] ∧
    ends (exec (.checkFlitSend T) s) (fun u => (u.tile T).checkSent && u.transit.length = 1) = true ∧
    ends (exec (.refereeVerdict 0) { j with mode := { crabRun := [(0, 3)] } }) (fun u => (u.region 17).ref.judged = [0] && u.mode.crabRun = []) = true ∧
    ends (exec (.verdictFlitArrive T verdictFl) s) (fun u => (u.tile T).crab && (u.tile T).granted && (u.tile T).ctlQ.length = 1) = true ∧
    s.boot.plan ≠ none ∧ s.clk.begun = true ∧
    ends (exec .modeVectorSend s) (fun u => (u.region 63).ref.next.isSome) = true := by decide +kernel

/-! ## Serving -/

/-- The header of a message of a type and length on connection 9. -/
def msgHead (type len : Nat) : Bytes := natLE 2 0x5754 ++ [1] ++ natLE 1 type ++ natLE 2 len ++ natLE 2 9 ++ natLE 8 0

/-- A request, or a resume, of two tokens. -/
def requestUnit (type : Nat) : Bytes :=
  msgHead type 112 ++ natLE 8 77 ++ natLE 8 1 ++ [2, 0, 0, 0] ++ natLE 8 0 ++ natLE 4 0x3F800000 ++ natLE 4 0 ++ natLE 4 16 ++ natLE 4 0 ++ natLE 4 2 ++
    natLE 4 0 ++ natLE 4 2 ++ natLE 32 0 ++ natLE 4 5 ++ natLE 4 6

/-- The fields of that request. -/
def msg0 : RequestMsg := requestOf (requestUnit 1)

/-- A message that is a request's name alone, and one that hands it to partner 3. -/
def shortUnit (type id : Nat) : Bytes := msgHead type 32 ++ natLE 8 id ++ natLE 8 0
def handUnit : Bytes := msgHead 7 56 ++ natLE 8 77 ++ natLE 8 0 ++ natLE 16 3 ++ natLE 8 0

/-- An arrival on E0 over UDP. -/
def arrive (unit : Bytes) : Arrival := { port := 0, endpoint := .udp 0x0A000001 4000, udpPort := 47110, unit := unit }

/-- The connection of that endpoint. -/
def conn0 : Conn := { endpoint := some (.udp 0x0A000001 4000), lastMs := 8 }

/-- The state with that connection and requests. -/
def servingOf (rs : List Request) : State := { planned with
  power := { demo.power with bus := true, booted := true }
  host := { ports := [(0, { state := 4, lane := 2, addr := 0x0A000002 })] }
  weights := { vocab := 1000, epoch := 1 }
  serve := { t := { reqs := rs, nextSet := 10 }, conns := [(9, some conn0)] } }

/-- A request that generates, and the same in other states. -/
def gen0 : Request := { id := 77, tag := 9, state := .generating, par := some msg0, tokens := [5, 6, 7], cls := 2, promptCount := 2, promptEnd := 2
                        slot := some 0 }

/-- A request in a state, without a slot. -/
def held (st : ReqState) : Request := { gen0 with state := st, slot := none }

/-- A member's hail with a serial. -/
def hail0 (serial : BitVec 128) : Hail := { serial := serial, stepping := 0, role := 0, link := 3, gens := 3, regattaId := 0, hop := 0xFF
                                            pairState := 0, planId := 0, epoch := 0, tick := 0, stroke := 0, easy := 0 }

/-- The messages of the token service: their connection takes them, and what they do. -/
theorem wit_messages : let opens := fun (s : State) (i : Instr) (a : Arrival) (type len : Nat) => ((s.keep i).opened a type len).isSome
    let partner := fun (s : State) => { s with links := { s.links with partners := [{ hail := hail0 3, links := 1 }] } }
    let ask := arrive (requestUnit 1)
    let again := arrive (requestUnit 6)
    let short := fun (type id : Nat) => arrive (shortUnit type id)
    opens (servingOf []) (.request ask) ask 1 112 = true ∧ requestLength msg0 = 112 ∧ (servingOf []).req 77 = none ∧
    (servingOf []).dictNat 0x301004 + 1 ≤ (servingOf []).freeEntries ∧ (servingOf []).freeEntries = 65536 ∧ (servingOf []).admitCheck msg0 msg0.tokens msg0.promptTotal = none ∧
    msg0.promptOffset = 0 ∧ msg0.promptCount = msg0.promptTotal ∧ msg0.tokens.length = msg0.promptCount ∧ msg0.promptCount ≠ 0 ∧
    requestOf (requestUnit 6) = msg0 ∧ msg0.requestId = 77 ∧ BitVec.ofNat 64 (leNat (((shortUnit 4 77).drop 16).take 8)) = 77 ∧
    leNat ((handUnit.drop 24).take 1) = 0 ∧ BitVec.ofNat 128 (leNat ((handUnit.drop 32).take 16)) = 3 ∧
    opens (servingOf [gen0]) (.cancel (short 4 77)) (short 4 77) 4 32 = true ∧ opens (servingOf [gen0]) (.park (short 5 77)) (short 5 77) 5 32 = true ∧
    opens (servingOf [held .parked]) (.resume again) again 6 112 = true ∧ opens (partner (servingOf [gen0])) (.handOff (arrive handUnit)) (arrive handUnit) 7 56 = true ∧
    (servingOf [held .retained]).admitCheck msg0 msg0.tokens 5 = none ∧ msg0.adapter = (gen0.par.map (fun p => p.adapter)).getD 0 ∧
    (partner (servingOf [gen0])).isPartner 3 = true ∧
    ends (exec (.request ask) (servingOf [])) (fun u => (u.req 77).map (fun q => (q.state, q.tokens, q.cls, q.tag)) = some (.queued, [5, 6], 2, 9)) = true ∧
    ends (exec (.cancel (short 4 77)) (servingOf [gen0])) (fun u => (u.req 77).map (fun q => q.cancel) = some true) = true ∧
    ends (exec (.cancel (short 4 78)) (servingOf [gen0])) (fun u => u.serve.conns.map (fun c => (c.2.map (fun d => d.outbox.length))) = [some 1]) = true ∧
    ends (exec (.park (short 5 77)) (servingOf [gen0])) (fun u => (u.req 77).map (fun q => (q.state, q.parkStroke)) = some (.parking, some 5)) = true ∧
    ends (exec (.resume again) (servingOf [held .retained])) (fun u =>
      (u.req 77).map (fun q => (q.state, q.turn, q.tokens)) = some (.queued, 1, [5, 6, 7, 5, 6])) = true ∧
    ends (exec (.handOff (arrive handUnit)) (partner (servingOf [gen0]))) (fun u =>
      (u.req 77).map (fun q => (q.state, q.moveTo)) = some (.parking, some 3)) = true := by decide +kernel

/-- Timers. -/
theorem wit_timers : let parts := fun (st : ReqState) => servingOf [{ held st with parts := [(0, [5])] }]
    let moving := { servingOf [held .moving] with serve := { (servingOf [held .moving]).serve with moves := [(77, 3)] } }
    let gone := { servingOf [] with serve := { conns := [(9, some { conn0 with endpoint := none })], t := { reqs := [gen0] } } }
    let queued : State := { servingOf [held .queued] with dict := [(0x301005, some 2), (0x301006, some 3)] }
    Table.wf none (servingOf []).serve.conns = true ∧ queued.dictNat 0x301006 = 3 ∧ queued.dictNat 0x301005 = 2 ∧
    (servingOf []).requestsOf 9 = [] ∧ (servingOf []).conn 9 = some conn0 ∧
    ends (exec (.partTimeout 77) (parts .receiving)) (fun u => u.req 77 = none) = true ∧
    ends (exec (.partTimeout 77) (parts .parked)) (fun u => (u.req 77).map (fun q => q.parts) = some []) = true ∧
    ends (exec (.queueTimeout 77) queued) (fun u => u.req 77 = none && u.now = 1000000) = true ∧
    ends (exec (.classAging 77) queued) (fun u => (u.req 77).map (fun q => (q.cls, q.clsMs)) = some (1, 2)) = true ∧
    ends (exec (.handOffConfirm 77 0) moving) (fun u => u.req 77 = none && u.serve.moves = []) = true ∧
    ends (exec (.handOffConfirm 77 14) moving) (fun u => (u.req 77).map (fun q => q.state) = some .parked && u.serve.moves = []) = true ∧
    ends (exec (.udpIdleTimeout 9) (servingOf [])) (fun u => (u.conn 9).map (fun c => c.endpoint) = some none) = true ∧
    ends (exec (.detachTimeout 9) gone) (fun u => u.conn 9 = none && u.req 77 = none) = true := by decide +kernel

/-- A pass whose token is due in this stroke. -/
def pass0 : Pass := { id := 77, entry := 2, slot := some 0, sampled := true, count := 1 }

/-- A state in which a token of the request is due. -/
def dueToken : State := { servingOf [{ gen0 with epoch := 0 }] with serve := { (servingOf []).serve with t := { reqs := [gen0], passes := [pass0], slots := [(0, .running 77)] } } }

/-- Planning and tokens. -/
theorem wit_tokens : (dueToken.serve.t.passes.find? (fun x => x.id = 77 && x.sampled && !x.lost && dueToken.passLive x &&
      decide (x.entry + plan0.commitOffset = dueToken.strokeNat))).isSome ∧
    dueToken.nextPlanned = some 6 ∧ dueToken.serve.t.planned ≠ some 6 ∧ plan0.entryPhases.contains (6 % plan0.passLength) = true ∧
    sampleToken [0x3F800000, 0x40000000, 0xFF800000] 0 0 0x3F800000 0 1 0 0 = some 1 ∧ gen0.committed.length + 1 ≠ gen0.maxNew ∧
    gen0.tokens.length + 1 ≠ dueToken.contextLimit ∧ sampleToken [0xFF800000, 0x7FC00000] 0 0 0x3F800000 0 1 0 0 = none ∧
    ends (exec .entryStrokePlanning dueToken) (fun u => u.serve.t.planned = some 6) = true ∧
    ends (exec (.tokenCommit 77 [0x3F800000] true) dueToken) (fun u => u.req 77 = some gen0 && u.serve.t.passes = [{ pass0 with lost := true }]) = true ∧
    ends (exec (.tokenCommit 77 [0x3F800000, 0x40000000] false) dueToken) (fun u =>
      (u.req 77).map (fun q => (q.tokens, q.committed.length, q.state)) = some ([5, 6, 7, 1], 1, .generating) && u.serve.tokensNow = 1) = true ∧
    ends (exec (.tokenCommit 77 [0xFF800000] false) dueToken) (fun u => u.req 77 = none) = true := by decide +kernel

/-- The boathouse. -/
theorem wit_boathouse : let idle := servingOf [held .retained]
    let boat := fun (b : BoatEntry) => servingOf [{ held .parked with boat := some b }]
    let back := servingOf [{ held .queued with boat := some { blocks := 1 }, copying := true }]
    idle.boot.plan ≠ none ∧ (boat {}).dictNat 0x312003 ≠ 0 ∧ (1 - 0 - 0) * back.layers ≤ back.slotsFree ∧
    ends (exec (.idleTimeExpiry 77) idle) (fun u => (u.req 77).map (fun q => (q.state, q.boat.isSome, q.sets)) = some (.parked, true, [])) = true ∧
    ends (exec (.moduleTtlExpiry 77) (boat {})) (fun u => (u.req 77).map (fun q => q.boat.map (fun e => e.flash)) = some (some true)) = true ∧
    ends (exec (.flashTtlExpiry 77) (boat { flash := true })) (fun u => u.req 77 = none) = true ∧
    ends (exec (.resumeCopyComplete 77) back) (fun u => (u.req 77).map (fun q => (q.boat, q.copying, q.sets.length, q.state)) = some (none, false, 1, .queued)) = true := by
  decide +kernel

/-! ## Weights and adapters -/

/-- A shard record's worth of bytes is not needed: its pieces are. -/
def piece : Bytes := List.replicate 128 6

/-- A tensor of one shard. -/
def tensor0 : TensorEntry := {
  stage := 0, source := false, srcFmt := 0, tgtFmt := 1, rotDesc := 0xFF, raised := false, rows := 64, cols := 64, firstShard := 0
  shardCount := 1, mapEntry := 0 }

/-- The manifest of an image of one shard, whose one tensor goes to line 5 of the tile. -/
def man0 : Manifest := {
  epoch := 4, imageId := 40, layout := 9, roundingKey := 0x0000000500000006, tensors := [tensor0], shards := [{ length := 128, tensor := 0 }]
  imageLength := 4096 }

/-- An image with that manifest. -/
def image0 : Image := { man := man0 }

/-- A source record: flash slot 7, a policy and a target slot. -/
def sourceBytes (policy : Byte) : Bytes := [0, 7] ++ natLE 14 0 ++ natLE 8 4096 ++ natLE 8 0 ++ [policy, 1, 7] ++ natLE 5 0 ++ natLE 8 0
def source0 (policy : Byte) : SourceRecord := parseSource false (sourceBytes policy)

/-- The plan with a weight map. -/
def weightPlan : Plan := { plan0 with weightMap := [(0, [(T.key, 5)])] }

/-- A load of the image. -/
def load0 (policy : Byte) : Load := { kind := .swap, src := some (source0 policy) }

/-- The state with a load. -/
def loadingWith (l : Option Load) : State := { servingOf [gen0] with
  boot := { plan := some weightPlan, filled_ := true, staked := true, step := 9 }
  blobs := [(0x802001, some [1])]
  weights := { vocab := 1000, epoch := 3, layout := 9, slots := [(7, some image0)], load := l } }

/-- Its load with the manifest. -/
def load1 (policy : Byte) : Load := { load0 policy with man := some man0 }

/-- Its load with everything opened and staged for stroke 6. -/
def load2 (policy : Byte) : Load := { load1 policy with opened := [(0, some [piece])], staged := true, switchAt := some 6 }

/-- The same with the configuration record unread. -/
def unread (s : State) : State := { s with boot := { s.boot with recordState := 3 } }

/-- A swap from its request to its end. -/
theorem wit_swap : let s := loadingWith (some (load0 1))
    let r := { loadingWith (some { load2 1 with refilling := true }) with clk := { easyAll.clk with causes := [2] } }
    (sourceBytes 0).length = 48 ∧ sourceOk (source0 1) = true ∧ (source0 0).policy ≤ 2 ∧ (source0 0).flags ≤ 1 ∧ (source0 0).targetSlot ≤ 7 ∧ (source0 0).kind = 0 ∧
    Table.get none (loadingWith none).weights.slots (source0 0).slot ≠ none ∧ (loadingWith none).loadBusy = false ∧ s.swapping = true ∧
    s.stagedBad { load2 1 with staged := false } (source0 1) = false ∧
    s.manifestIn (load0 1) (some []) = some man0 ∧ (unread s).manifestFault (load0 1) man0 = some 1 ∧ s.loadComplete { load2 1 with staged := false } = true ∧
    (loadingWith none).dictNat 0x230008 ≠ 0 ∧ (r.placeImage weightPlan man0 [(0, some [piece])]).isSome ∧ Table.wf none s.weights.slots = true ∧
    ends (exec (.swapRequest (sourceBytes 0)) (loadingWith none)) (fun u => u.istatus = 0 && u.weights.load.isSome && u.weights.state = 3 && u.serve.drained) = true ∧
    ends (exec (.swapRequest (sourceBytes 0).tail) (loadingWith none)) (fun u => u.istatus = 4 && u.weights.load = none) = true ∧
    ends (exec (.swapCancel 1) s) (fun u => u.weights.load = none && u.weights.result = 8 && u.weights.epoch = 3) = true ∧
    ends (exec (.manifestReceive (some [])) (unread s)) (fun u => u.weights.load = none && u.weights.result = 1) = true ∧
    ends (exec (.manifestReceive none) s) (fun u => u.weights.load = none && u.weights.result = 1) = true := by decide +kernel

/-- Shards: one comes, too short to be one; the third failure; and while no ingress engine is up one is only passed on. -/
theorem wit_shards : let s := { loadingWith (some { load1 1 with fails := [(0, 1)] }) with regions := [(0, { loop := { gate := 0x1FF } }), (17, routed)] }
    s.ingressUp = true ∧ s.keepsShard man0 0 = true ∧ (0 : Nat) < man0.shards.length ∧ Table.wf 0 [(0, 1)] = true ∧ openShard [] man0 0 piece = none ∧
    ({ s with power := {} } : State).ingressUp = false ∧
    ends (exec (.shardRecordReceive 0 piece) s) (fun u => u.weights.load.map (fun l => (l.fails, l.again)) = some ([(0, 2)], [0])) = true ∧
    ends (exec (.shardRecordReceive 0 piece) { s with power := {} }) (fun u => u.weights.load.map (fun l => l.fails) = some [(0, 1)]) = true ∧
    ends (exec (.shardTimeout 0) (loadingWith (some { load1 1 with fails := [(0, 2)] }))) (fun u => u.weights.load = none && u.weights.result = 5) = true := by
  decide +kernel

/-- Staging, the switch, a drain and the refill. -/
theorem wit_switch_image : let r := { loadingWith (some { load2 1 with refilling := true }) with clk := { easyAll.clk with causes := [2] } }
    let s := loadingWith (some (load0 1))
    let bad : Manifest := { man0 with tensors := [{ tensor0 with srcFmt := 1, source := true, rows := 1 }] }
    ends (exec .stagingComplete (loadingWith (some { load2 1 with man := some bad, opened := [(0, some [List.replicate 128 0xFF])], staged := false }))) (fun u => u.weights.load = none && u.weights.result = 7) = true ∧
    laterMod 48 6 (demo.clk.stroke + 1).toNat = false ∧ r.placeImage weightPlan bad [(0, some [List.replicate 128 0xFF])] = none ∧
    ends (exec .stagingComplete (loadingWith (some { load2 1 with staged := false, switchAt := none }))) (fun u =>
      u.weights.state = 4 && u.weights.swapStroke = 5 + (loadingWith none).dictNat 0x230007) = true ∧
    ends (exec .swapSwitch (loadingWith (some (load2 1)))) (fun u => u.weights.state = 5 && !u.clk.running &&
      u.weights.load.map (fun l => l.refilling) = some true && (u.req 77).map (fun q => q.crossed) = some true) = true ∧
    ends (exec .drainTimeout (loadingWith (some (load2 0)))) (fun u => u.serve.t.reqs.all (fun q => !q.active)) = true ∧
    ends (exec (.switchRefillComplete true) r) (fun u => u.weights.load = none && u.weights.result = 9 && u.weights.epoch = 3) = true ∧
    ends (exec (.switchRefillComplete false) r) (fun u => u.weights.load = none && u.weights.result = 0 && u.weights.newEpoch = some (4, 40) &&
      u.weights.roundingKey = 0x0000000500000006 && (u.tile T).byte 640 = 6) = true ∧
    ends (exec .slotCommitComplete { s with weights := { s.weights with committing := some (6, image0) } }) (fun u =>
      u.weights.committing = none && (Table.get none u.weights.slots 6).isSome && (Table.get none u.weights.slots 7).isSome) = true := by decide +kernel

/-- Adapters. -/
theorem wit_adapters : let r := source0 0
    let s := unread (loadingWith none)
    let rec32 := (sourceBytes 0).take 32
    let named := { servingOf [{ held .queued with par := some { msg0 with adapter := 21 } }] with weights := { adapters := [{ id := 21 }, { id := 22 }] } }
    rec32.length = 32 ∧ sourceOk (parseSource false rec32) = true ∧ r.kind = 0 ∧ (parseSource false rec32).slot = 7 ∧ s.weights.adapters.length < 1024 ∧
    s.adapterFault r man0 = some 1 ∧ named.adapterOpened { id := 21 } = some [] ∧ ({ id := 21 } : Adapter).size ≤ named.adapterArea ∧
    ([] : List Adapter).length < min 256 (named.dictNat 0x313003) ∧ (named.serve.t.reqs.map (fun q => q.adapter)) = [21] ∧
    ends (exec (.adapterRegister rec32 (some [])) s) (fun u => u.istatus = 0 && u.weights.adapters = [] && u.weights.result = 1) = true ∧
    ends (exec (.adapterRegister [] (some [])) s) (fun u => u.istatus = 4) = true ∧
    ends (exec (.adapterUnregister 22) named) (fun u => u.istatus = 0 && u.weights.adapters.map (fun x => x.id) = [21]) = true ∧
    ends (exec (.adapterResident 21) named) (fun u => u.weights.adapters.map (fun x => x.resident) = [true, false]) = true := by decide +kernel

/-! ## Memory tiers and flash -/

/-- A descriptor flit to the controller of edge 0, for one line at `addr`. -/
def descFl (op flags addr : Nat) : Flit := sealFlit {
  head := { head0 with kind := 3, sched := false, sreg := 17, sx := 2, sy := 3, stroke := 5 }
  body := natLE 1 op ++ natLE 1 flags ++ natLE 1 2 ++ natLE 1 1 ++ natLE 2 0x7FFF ++ natLE 1 0xFF ++ natLE 1 0 ++
    natLE 8 (if op = 3 then 0x1000 else 0) ++ List.replicate 16 0 ++ natLE 8 addr ++ natLE 4 1 }

/-- The last line of the first stack's populated bytes. -/
def lastLine : Nat := 96000000000 - 128

/-- Tiers with a byte at the start of that line; every block of the edge region enabled. -/
def tiered : State := { demo with
  regions := [(0, { loop := { gate := 0x1FF, coast := false }, mesh := { rtab := Table.putList 0 [] 0 (List.replicate 64 1) } })]
  tier := { mem := [(lastLine, 7)] } }

/-- Nothing refuses the descriptor. -/
def fitDesc (op : Nat) : Bool :=
  let f := descFl op 1 lastLine
  let d := parseDesc f.body
  !tiered.portGated 0 0 && crcOk f && !tiered.fenceHolds 0 d f && !tiered.descLate f && (tiered.descRefusal 0 d).isNone && d.op = op &&
    d.extents = [(lastLine, 1)]

/-- The controllers' clauses: their premises, and a line read, written and copied, completions with and without a notice. -/
theorem wit_descriptors : let d := fun (op : Nat) => parseDesc (descFl op 1 lastLine).body
    let fin := fun (flags : Nat) => { tiered with tier := { tiered.tier with done := [(0, { flit := descFl 1 flags lastLine })] } }
    edgeRegion 0 = 0 ∧ fitDesc 1 = true ∧ fitDesc 2 = true ∧ fitDesc 3 = true ∧ Table.wf 0 tiered.tier.mem = true ∧ tiered.route 0 17 ≠ 15 ∧
    descTile (d 1) (descFl 1 1 lastLine) = T ∧ (d 1).notify = true ∧
    ends (exec (.dmaRead 0 (descFl 1 1 lastLine) []) tiered) (fun u => (u.tile T).ingress.map (fun l => (l.line, l.tag, l.bytes.take 2)) = [(0x7FFF, some 2, [7, 0])] &&
      (Table.get {} (u.tile T).gtag 2).outstanding && (Table.get {} (u.tile T).gtag 2).linesLeft = 1) = true ∧
    ends (exec (.dmaWrite 0 (descFl 2 1 lastLine) [(List.replicate 128 3, false)]) tiered) (fun u =>
      u.tierByte lastLine = 3 && u.tierByte (lastLine + 127) = 3 && u.tierByte (lastLine - 1) = 0 && u.tier.done.length = 1) = true ∧
    ends (exec (.dmaCopy 0 (descFl 3 1 lastLine) []) tiered) (fun u => u.tier.mem = [(0x1000, 7), (lastLine, 7)]) = true ∧
    ends (exec (.dmaComplete 0) (fin 0)) (fun u => u.tier.done = [] && u.transit = []) = true ∧
    ends (exec (.dmaComplete 0) (fin 1)) (fun u => u.tier.done = [] && u.transit.map (fun e => flitWord e.2.2.2 0) = [2]) = true := by decide +kernel

/-- A READ whose tag a gather holds lands on no tag, a scheduled one that owns its tag lands on it, and with the ingress queue full its lines wait. -/
theorem wit_read_tags : let f := descFl 1 1 lastLine
    let g := sealFlit { f with head := { f.head with sched := true } }
    let own : Tile := { tile0 with gtag := [(2, { outstanding := true, read := true, line := 0x7FFF, serial := 3, linesLeft := 1, lines := 1 })] }
    let at_ := fun (x : Tile) => { tiered with tiles := [(T.key, x)] }
    let full : Tile := { tile0 with ingress := List.replicate 8 { line := 0, bytes := [] } }
    tiered.descLate g = false ∧ tiered.fenceHolds 0 (parseDesc g.body) g = false ∧ (tiered.descRefusal 0 (parseDesc g.body)).isNone = true ∧ crcOk g = true ∧
    (Table.get {} own.gtag 2).line = (parseDesc g.body).line ∧
    ends (exec (.dmaRead 0 f []) (at_ { gathering with gtag := [(2, { outstanding := true, line := 9, serial := 4 })] })) (fun u =>
      (u.tile T).ingress.map (fun l => l.tag) = [none] && (Table.get {} (u.tile T).gtag 2).line = 9) = true ∧
    ends (exec (.dmaRead 0 g []) (at_ own)) (fun u => (u.tile T).ingress.map (fun l => (l.tag, l.serial)) = [(some 2, 3)]) = true ∧
    ends (exec (.dmaRead 0 g []) (at_ tile0)) (fun u => (u.tile T).ingress.map (fun l => l.tag) = [none]) = true ∧
    ends (exec (.dmaRead 0 f []) (at_ full)) (fun u => (u.tile T).ingress.length = 8 && (u.tile T).inWait.length = 1) = true := by decide +kernel

theorem test_checkedPage : checkedPage 96000000000 (checkAddr 0 0) = 0 ∧ checkedPage 96000000000 (checkAddr 0 1 + 31) = 1 ∧
    checkedPage 96000000000 (checkAddr 0 200) = 200 := by decide

theorem wit_uncoded : ∀ c, tiered.codedPages c = 0 := fun _ => rfl

/-- Two coded pages of the first stack, whose contents and check bytes are zero but for word 0 of page 0 and its check. -/
def codedTier : State := { tiered with tier := { coded := [(0, 2)] } }

/-- Coded pages, the patrol and flash. -/
theorem wit_protection : let z := List.replicate 128 (0 : BitVec 256)
    Table.wf 0 codedTier.tier.mem = true ∧ Table.wf 0 codedTier.tier.coded = true ∧ codedTier.isCoded 0 2 = false ∧ codedTier.isCoded 0 1 = true ∧
    (pageCheck (codedTier.tierPageWords 0 1) = codedTier.tierCheck 0 1) ∧ codedTier.codedPages 0 ≠ 0 ∧ codedTier.powered 0 = true ∧
    codedTier.blockReady 0 0 = true ∧ (23255813 : BitVec 25).toNat ≤ 23255813 ∧ codedTier.tier.softOnce.contains (31, 1, 8) = false ∧ z.length = 128 ∧
    ends (exec (.tierPageRead 0 2 [] 0) codedTier) (fun u => u.tier.mem = [] && u.tier.lost = []) = true ∧
    ends (exec (.tierPageRead 0 1 [127] 0) codedTier) (fun u => u.tier.mem = [] && Table.get 0 u.tier.rebuilt 0 = 1) = true ∧
    ends (exec (.tierPatrol 0 [] 1) { codedTier with tier := { codedTier.tier with patrol := [(0, 1)] } }) (fun u => u.tier.patrol = []) = true ∧
    ends (exec (.codedPagesWrite 0 23255813) codedTier) (fun u => u.codedPages 0 = 23255813) = true ∧
    ends (exec (.codedPagesWrite 0 1) codedTier) (fun u => u.codedPages 0 = 1) = true ∧
    ends (exec (.flashCodewordRead 31 true 8 0 3 1 .other) codedTier) (fun u => u.tier.flashRetries = [(31, 1)] && u.tier.retired = []) = true ∧
    ends (exec (.flashCodewordRead 31 true 8 0 3 2 .other) codedTier) (fun u => u.tier.flashSoft = [(31, 1)] && u.tier.softOnce = [(31, 1, 8)]) = true ∧
    ends (exec (.flashCodewordRead 31 true 8 0 3 3 .other) codedTier) (fun u => u.tier.retired = [(31, 1, 8)]) = true := by decide +kernel

/-! ## Mesh, seams and tensor links -/

/-- A flit from (1, 1) of region 17 to (3, 3) of region 18, on lane 2. -/
def eastFl : Flit := sealFlit { head := { head0 with dreg := 18, dx := 3, dy := 3, lane := 2, sreg := 17 }, body := List.replicate 128 1 }

/-- Regions 17 and 18 with routes east, their seam open. -/
def seamed : State :=
  let side : SeamSide := { hold := false }
  let g : Region := { mesh := { rtab := Table.putList 0 [] 0 (List.replicate 64 2), sides := [(1, side)] }, loop := { lock := true, coast := false } }
  let h : Region := { g with mesh := { g.mesh with sides := [(3, side)] } }
  { demo with regions := [(17, g), (18, h)] }

/-- The neighbour of region 17 on the east. -/
theorem wit_mesh : let bad := { eastFl with head := { eastFl.head with par := !eastFl.head.par } }
    let own := sealFlit { eastFl with head := { eastFl.head with dreg := 17 } }
    let at_ := fun (x y : Nat) (f : Flit) => { seamed with transit := [(17, x, y, f)] }
    let no := { eastFl with head := { eastFl.head with sched := false } }
    let go := { eastFl with head := { eastFl.head with sched := true } }
    let q1 : State := { seamed with regions := [(18, { mesh := { sides := [(3, { hold := false, main := [(15, [go])], lane0 := [(15, [no])] })] } })] }
    let q0 : State := { seamed with regions := [(18, { mesh := { sides := [(3, { hold := false, lane0 := [(15, [eastFl])] })] } })] }
    parityOk bad.head = false ∧ parityOk eastFl.head = true ∧ seamed.route 17 18 = 2 ∧ neighbour 17 1 = some 18 ∧
    seamed.regionTarget 17 15 9 eastFl.head = (15, 9) ∧ seamed.regionTarget 17 2 9 eastFl.head = (15, 9) ∧ Table.wf {} seamed.regions = true ∧
    (seamed.seam 18 (opposite 1)).hold = false ∧ (seamed.seam 17 1).hold = false ∧ Table.wf [] (seamed.seam 18 3).main = true ∧
    Table.wf {} (seamed.region 18).mesh.sides = true ∧ easyAll.clk.easy ≠ 0 ∧
    ends (exec (.flitReceive 17 2 9 bad) (at_ 2 9 bad)) (fun u => (u.region 17).mesh.parity = 1 && u.transit = []) = true ∧
    ends (exec (.flitReceive 17 2 9 eastFl) (at_ 2 9 eastFl)) (fun u => u.transit.map (fun e => (e.2.1, e.2.2.1)) = [(3, 9)]) = true ∧
    ends (exec (.flitReceive 17 9 0 own) (at_ 9 0 own)) (fun u => u.transit.map (fun e => (e.2.1, e.2.2.1)) = [(8, 0)]) = true ∧
    ends (exec (.flitReceive 17 3 0 own) (at_ 3 0 own)) (fun u => u.transit.map (fun e => (e.2.1, e.2.2.1)) = [(3, 1)]) = true ∧
    ends (exec (.flitReceive 17 3 9 own) (at_ 3 9 own)) (fun u => u.transit.map (fun e => (e.2.1, e.2.2.1)) = [(3, 8)]) = true ∧
    ends (exec (.flitReceive 17 15 9 eastFl) (at_ 15 9 eastFl)) (fun u => u.transit = [] && ((u.seam 18 3).main.map (fun e => (e.1, e.2.length)) = [(9, 1)])) = true ∧
    ends (exec (.seamCreditReturn 18 .west 15 true) q0) (fun u => (u.seam 18 3).lane0 = [] && u.transit.length = 1) = true ∧
    ends (exec (.seamCreditReturn 18 .west 15 true) q1) (fun u => u = q1) = true ∧
    ends (exec (.seamCreditReturn 18 .west 15 false) q1) (fun u => (u.seam 18 3).main = [] && u.transit.length = 1) = true ∧
    ends (exec (.seamRelease 17 .east) { seamed with clk := easyAll.clk }) (fun u => !(u.seam 17 1).hold) = true := by decide +kernel

/-- The state with a link; the routes of its region lead north. -/
def linked (k : Nat) (l : Link) : State := { planned with
  links := { links := [(k, l)] }
  regions := [(linkRegion k, { mesh := { rtab := Table.putList 0 [] 0 (List.replicate 64 1) } })] }

/-- A flit that stands at its source behind another, and one that reaches a tensor link's port. -/
theorem wit_mesh_ports : let at_ := fun (fs : List Flit) => { seamed with transit := fs.map (fun f => (17, 2, 3, f)) }
    let own := sealFlit { eastFl with head := { eastFl.head with sx := 2, sy := 3 } }
    let f := sealFlit { own with head := { own.head with deliv := 4 } }
    let g := sealFlit { own with head := { own.head with dreg := 63, dkind := 1, dx := 13, dy := 0, deliv := 255 } }
    let s : State := { linked 95 { en := true, state := 2, remote := [(255, 0x10041)] } with transit := [(63, 13, 0, g)] }
    (17, 2, 3) = (f.head.sreg, f.head.sx, f.head.sy) ∧ f ∈ (at_ [own, f]).atMeshPort T ∧ ((at_ [own, f]).atMeshPort T).head? ≠ some f ∧
    ((at_ [own, f]).atMeshPort T).head? = some own ∧ parityOk f.head = true ∧ parityOk g.head = true ∧ s.regionTarget 63 13 0 g.head = (13, 0) ∧
    edgeIndex 63 = some 15 ∧ s.portGated 63 13 = false ∧ (Table.get 0 (s.link 95).remote 255).getLsbD 16 = true ∧ Table.wf {} s.regions = true ∧ s.clk.running = true ∧
    ends (exec (.flitReceive 17 2 3 f) (at_ [own, f])) (fun u => decide (u = at_ [own, f])) = true ∧
    ends (exec (.flitReceive 17 2 3 own) (at_ [own, f])) (fun u => u.transit.length = 2 && u ≠ at_ [own, f]) = true ∧
    ends (exec (.flitReceive 63 13 0 g) s) (fun u => u.transit = [] && (u.link 95).packing.map (fun h => (h.head.dreg, h.head.dx)) = [(1, 1)]) = true := by
  decide +kernel

/-- A flow of two blocks. -/
def flow0 : FlowIn := { head := { head0 with dx := 13, deliv := 255 }, left := 2, poison := 1, lines := [0x7FFF, 0] }

/-- The blocks of a flow header of 48 lines, and of a trailer. -/
def flowHead : Bytes := padTo 128 (natLE 12 (headNat head0) ++ [48, 0] ++ natLE 6 0 ++ (List.replicate 48 (natLE 2 9)).flatten)
def trailer0 : Bytes := blockOf (natLE 12 (headNat commitFl.head) ++ commitFl.body.take 80)

/-- A block whose CRC fails. -/
def spoilt (b : Bytes) : Bytes := b.take 127 ++ [b.getD 127 0 + 1]

/-- The first block of a bulk segment of two, and a word unacknowledged. -/
def bulk0 (segment : Nat) : Bytes := blockOf ([4, 1] ++ natLE 2 128 ++ natLE 4 segment ++ natLE 8 3 ++ natLE 8 (128 * segment) ++ natLE 8 256)
def sent0 : SentWord := { seq := 9, word := .takeover 3, resends := 7 }

/-- Five blocks of a codeword: a reserved type, two words of which one's CRC fails, a data block, an idle one. -/
def five : List (BitVec 4 × Bytes) := [(9, []), (4, spoilt (blockOf [])), (4, blockOf []), (2, []), (0, [])]

/-- What a link receives. -/
theorem wit_receive : let up : Link := { en := true, state := 2, seq := 10 }
    let go := fun (i : Instr) (l : Link) (p : Link → Bool) => ends (exec i (linked 95 l)) (fun u => p (u.link 95)) = true
    let at_ := fun (n : Nat) => (linked 95 { up with flow := some { flow0 with done := n, left := 2 - n } })
    ((linked 95 up).link 95).state = 2 ∧ (linked 95 up).route (linkRegion 95) 17 ≠ 15 ∧ sent0.resends < 8 ∧ 2 < (bulkHeaderOf (bulk0 0)).kind ∧
    blockCrcOk (bulk0 0) = true ∧ blockCrcOk trailer0 = true ∧ blockCrcOk (spoilt trailer0) = false ∧ blockCrcOk (spoilt (bulk0 0)) = false ∧
    (linked 95 up).route (linkRegion 95) (trailerFlit trailer0).head.dreg.toNat ≠ 15 ∧ fieldNat (wordBlock 0 9 .ack) 0 1 = 2 ∧ sent0.seq = wordAck (wordBlock 0 9 .ack) ∧
    blockCrcOk (wordBlock 0 9 .ack) = true ∧
    go (.codewordReceive 95 0 five) { up with badRun := 7, badNow := true } (fun l => l.badRun = 0 && l.crcFail = 2 && !l.badNow) ∧
    go (.codewordReceive 95 1 five) up (fun l => l.corrected = 1 && l.crcFail = 2) ∧
    go (.codewordReceive 95 2 five) { up with badRun := 6 } (fun l => l.badRun = 7 && l.uncorrectable = 1 && l.badNow) ∧
    go (.flowHeaderReceive 95 flowHead) up (fun l => l.flow.map (fun w => (w.left, w.lines.getD 47 0, w.taint)) = some (48, 9, false)) ∧
    ends (exec (.flowDataBlock 95 (List.replicate 128 4)) (at_ 1)) (fun u =>
      u.transit.map (fun e => (e.1, e.2.1, e.2.2.1, e.2.2.2.head.lineOrCrc)) = [(63, 13, 0, 0)] && (u.link 95).flow.map (fun w => w.left) = some 0) = true ∧
    ends (exec (.flowDataBlock 95 (List.replicate 128 4)) (at_ 0)) (fun u => u.transit.map (fun e => e.2.2.2.head.poison) = [true]) = true ∧
    ends (exec (.flowTrailerReceive 95 trailer0) (linked 95 up)) (fun u => u.transit.map (fun e => e.2.2.2.head.taint) = [false] && (u.link 95).flow = none) = true ∧
    ends (exec (.flowTrailerReceive 95 trailer0) (linked 95 { up with flow := some { flow0 with taint := true } })) (fun u =>
      u.transit.map (fun e => (e.2.2.2.head.taint, crcOk e.2.2.2)) = [(true, true)]) = true ∧
    go (.flowTrailerReceive 95 (spoilt trailer0)) { up with flow := some flow0 } (fun l => l.flow.isNone && l.crcFail = 1) ∧
    go (.bulkSegment 95 (bulk0 1) [List.replicate 128 7] .other) up (fun l => l.bulk.map (fun b => (b.got, b.data.map (fun e => (e.2.length, e.2.getD 127 0)))) = [([(1, 128)], [(128, 7)])]) ∧
    go (.bulkSegment 95 (spoilt (bulk0 0)) [] .other) up (fun l => l.crcFail = 1 && l.bulk = []) ∧
    go (.ackOnly 95 (wordBlock 0 9 .ack)) { up with unacked := [sent0] } (fun l => l.unacked = []) ∧
    go (.controlWordResend 95) { up with unacked := [sent0] } (fun l => l.unacked = [{ sent0 with resends := 8 }] && l.retries = 1) := by
  decide +kernel

/-! ## Control words, training, markers and pairs -/

/-- A regatta of two: this module's member number, its links and their partner of serial 3, on link 95. -/
def regatta (member : Nat) (l : Link) (st : PartnerState) : State := { planned with
  boot := { planned.boot with plan := some { plan0 with members := 2 }, member := member }
  links := { links := [(95, l)], parent := if member = 0 then none else some 95, hop := member, map := natLE 16 (if member = 0 then 1 else 3) ++ natLE 16 3
             partners := [{ hail := hail0 3, links := 1#96 <<< 95, state := st }] } }

/-- An up link whose next word in order is the one after the wrap. -/
def upLink : Link := { en := true, state := 2, ack := 0xFFFF, exact_ := 640, pair := true, peer := 3 }

/-- The same state during easy-all. -/
def halted (s : State) : State := { s with clk := { s.clk with running := false, easy := 1 } }

/-- A member, the root, and a module without a regatta. -/
theorem wit_roles : (regatta 1 upLink .member).isMember = true ∧ (regatta 0 upLink .member).isRoot = true ∧
    (regatta 1 upLink .member).wordNext 95 1 = true ∧ (regatta 1 upLink .member).wordNext 95 2 = false ∧
    (halted (regatta 1 upLink .member)).clk.causes = [] ∧ ((regatta 1 upLink .member).wordTaken 95 1 0).links.parent = some 95 ∧
    ((regatta 1 upLink .member).wordTaken 95 1 0).inRegatta = true ∧ ((regatta 1 upLink .member).wordTaken 95 1 0).boot.filled_ = true := by
  decide +kernel

/-- The words of a regatta, each next in order, one that is not, and one whose block fails its check. -/
theorem wit_words : let m := regatta 1 upLink .member
    let root := regatta 0 upLink .member
    let h := halted m
    let w := fun (c : CtlWord) => wordBlock 1 0 c
    let go := fun (i : Instr) (s : State) (p : State → Bool) => ends (exec i s) p = true
    let pair := { m with blobs := [(0x620001, some (natLE 16 3))], links := { m.links with pairState := 2, partners := [{ hail := hail0 3, links := 1#96 <<< 95, state := .pair }] } }
    let fixed := { m with boot := { m.boot with policyFixed := true } }
    pair.pairSerial = 3 ∧ (m.wordTaken 95 1 0).isMember = true ∧ blockCrcOk (w (.halt 3 9)) = true ∧ fieldNat (w (.halt 3 9)) 0 1 = 4 ∧ wordSeq (w (.halt 3 9)) = 1 ∧
    wordAck (w (.halt 3 9)) = 0 ∧ reportPairs (w (.modeReport 5 [(127, 0)])) = [(127, 0)] ∧ reportPairs (w (.modeReport 5 [(0, 2)])) = [(0, 2)] ∧
    root.fixedPolicy = false ∧ fixed.fixedPolicy = true ∧ wordSeq (wordBlock 2 0 (.bulkNak 1 7 4)) ≠ nextSeq upLink.ack ∧ blockCrcOk (spoilt (w (.halt 3 9))) = false ∧
    go (.haltWord 95 (spoilt (w (.halt 3 9)))) m (fun u => decide (u = m)) ∧
    go (.bulkNak 95 (wordBlock 2 0 (.bulkNak 1 7 4))) m (fun u => (u.link 95).out.length = 1 && (u.link 95).ack = 0xFFFF) ∧
    go (.haltWord 95 (w (.halt 3 9))) m (fun u => u.links.haltStroke = 9 && u.clk.named = [{ cause := 10, clearing := false, at_ := none }]) ∧
    go (.resumeWord 95 (w (.resume 5000 4096 64 1 9))) h (fun u => u.clk.resume = some { tick := 5000, len := 4096, fin := 64, step := 1, stroke := 9 }) ∧
    go (.stake 95 (w (.stake 4000 5000 9 4096 64 1))) h (fun u => u.boot.staked && u.links.stake.isSome && u.clk.resume.isSome) ∧
    go (.strokeChange 95 (w (.strokeChange 12 4096 64 2))) m (fun u => (u.region 17).clk.armAt = 12 && (u.region 17).clk.nextLen = 4096) ∧
    go (.modeReport 95 (w (.modeReport 5 [(127, 0)]))) { root with mode := { crabRun := [(0, 1), (127, 1)] } } (fun u => u.mode.crabRun = [(0, 1)]) ∧
    go (.modeReport 95 (w (.modeReport 5 [(0, 2)]))) root (fun u => u.mode.changes.map (fun c => (c.stroke, c.stage)) = [(9, none)]) ∧
    go (.modeChange 95 (w (.modeChange 9 (2 ^ 127) 6))) m (fun u => u.mode.changes.map (fun c => (c.stroke, c.stage, c.count)) =
      [(9, some 127, m.dictNat 0x211002), (9, none, 6)]) ∧
    go (.modeChange 95 (w (.modeChange 9 (2 ^ 127) 6))) fixed (fun u => u.mode.changes = []) ∧
    go (.shardRerequest 95 (w (.rerequest 8 2))) { root with weights := { load := some (load1 1) } } (fun u => (u.link 95).out.length = 2 && u.weights.load.isSome) ∧
    go (.bulkNak 95 (w (.bulkNak 1 7 4))) m (fun u => (u.link 95).out.length = 2) ∧
    go (.bulkAck 95 (w (.bulkAck 3 9))) { m with links := { m.links with mirror := [{ stroke := 9 }, { stroke := 10 }] } } (fun u => u.links.mirror = [{ stroke := 10 }]) ∧
    go (.delayProbe 95 (w (.probe 4 true 30)) 100) (regatta 1 { upLink with state := 1, trips := List.replicate 15 9 } .member) (fun u =>
      (u.link 95).trips.length = 16 && (u.link 95).trips.getLast? = some 70) ∧
    go (.delayProbe 95 (w (.probe 4 false 0)) 0) m (fun u => u.free = 1) ∧
    go (.takeover 95 (w (.takeover 3))) pair (fun u => u.links.pairState = 4 && !u.clk.running) := by decide +kernel

/-- A marker with this module's own count less the link's delay. -/
def marker0 (t : BitVec 64) : Bytes := markerBlock { tick := t, stroke := 5, hop := 0, easy := 0, regattaId := 0 }

/-- Training, hails and markers. -/
theorem wit_training : let up := regatta 1 upLink .bench
    let tr := regatta 1 { upLink with state := 1, trips := List.replicate 16 640, published := 0xFFFF } .member
    let m := regatta 1 upLink .member
    let root : State := { regatta 0 upLink .member with links := { (regatta 0 upLink .member).links with period := 8 } }
    let go := fun (i : Instr) (s : State) (p : State → Bool) => ends (exec i s) p = true
    let lost := { up with links := { up.links with partners := [{ hail := hail0 3, state := .lost }] } }
    let stk := { halted m with links := { m.links with stake := some (1, 2, 3, 4, 5, 6) } }
    let al := { m with links := { m.links with aligned := true, period := 4, markerAt := m.now } }
    (([] : List Nat).length < up.dictNat 0x600005) ∧ up.powered (linkRegion 95) = true ∧ (640 + 1) / 2 ≤ tr.delayLimit 0 1 * 64 ∧
    up.mayWord 95 1 = true ∧ (∀ q, up.partnerOn 95 = some q → q.hail.serial = (hail0 3).serial) ∧ root.memberLinks = [95] ∧
    go (.linkDown 95) up (fun u => (u.link 95).state = 1 && (u.link 95).flaps = 1) ∧ go (.linkRetrain 95) up (fun u => (u.link 95).state = 1) ∧
    go (.linkTrained 95 true) tr (fun u => (u.link 95).state = 2 && (u.link 95).genAct = 2 && (u.link 95).exact_ = 320 && (u.link 95).published = 7) ∧
    go (.trainingTimeout 95) tr (fun u => (u.link 95).trips = [] && (u.link 95).state = 1) ∧ go (.hailSend 95) up (fun u => (u.link 95).out.length = 1) ∧
    blockCrcOk (wordBlock 0 0 (.hail (hail0 3))) = true ∧ hailIn (wordBlock 0 0 (.hail (hail0 3))) = hail0 3 ∧ blockCrcOk (marker0 890) = true ∧
    go (.hail 95 (wordBlock 0 0 (.hail (hail0 3))) false false) up (fun u => (u.link 95).peer = 3 && u.links.partners.map (fun q => q.state) = [.member]) ∧
    go .markerSend root (fun u => u.clk.tick = 904 && (u.link 95).out.length = 1) ∧
    go (.strokeMarker 95 (marker0 890) 0) m (fun u => u.links.alignErr = 0 && u.links.aligned) ∧
    go (.strokeMarker 95 (marker0 891) 0) m (fun u => u.links.alignErr = -64 && u.links.badMarkers = 0 && u.links.aligned) ∧
    go (.strokeMarker 95 (marker0 889) 0) m (fun u => u.links.alignErr = 64 && u.links.badMarkers = 0) ∧
    go (.strokeMarker 95 (marker0 889) 1) m (fun u => u.links.alignErr = 64 && u.links.badMarkers = 1) ∧
    go (.strokeMarker 95 (marker0 7000) 0) stk (fun u => u.clk.tick = 7010 && u.clk.stroke = 5 && u.links.aligned && u.links.stake = none) ∧
    go .markerTimeout al (fun u => !u.links.aligned && u.now = m.now + 16) ∧ go (.partnerHoldExpiry 3) lost (fun u => u.links.partners = []) := by decide +kernel

/-- A pair. -/
theorem wit_pair : let st := fun (n : Nat) => { regatta 1 upLink .pair with links := { (regatta 1 upLink .pair).links with pairState := n } }
    let go := fun (i : Instr) (s : State) (p : State → Bool) => ends (exec i s) p = true
    (st 2).pairLinks = [95] ∧ (st 2).mayWord 95 3 = true ∧ 1 < (st 4).dictNat 0x620005 ∧
    go .heartbeatSend (st 2) (fun u => (u.link 95).out.length = 1) ∧ go (.heartbeat 95 (wordBlock 0 0 (.heartbeat 4))) (st 4) (fun u => u.links.beat) ∧
    go .heartbeatMiss { st 5 with links := { (st 5).links with misses := 99 } } (fun u => u.links.pairState = 3 && u.links.misses = 0) ∧ (st 5).dictNat 0x620005 ≤ 99 + 1 ∧
    go .heartbeatMiss { st 4 with links := { (st 4).links with beat := true, misses := 3 } } (fun u => !u.links.beat && u.links.misses = 0) ∧
    go .heartbeatMiss (st 5) (fun u => u.links.misses = 1 && u.links.pairState = 5) ∧
    go (.resyncComplete { tables := { nextSet := 9 }, rows := [((T, 7), [1])], pages := [(0, [2])] }) (st 4) (fun u => u.links.pairState = 5 && u.serve.t.nextSet = 9 && (u.tile T).byte 896 = 1 && u.tierByte 0 = 2) ∧
    go (.resyncComplete {}) (st 1) (fun u => u.links.pairState = 2) := by decide +kernel

/-! ## Host ports and queue pairs -/

/-- The state with the host ports' blocks out of reset and a port as given. -/
def porting (k : Nat) (p : Port) : State := { servingOf [] with
  regions := [4, 11, 52, 59].map (fun r => (r, { loop := { gate := 0x180 } }))
  boot := { planned.boot with step := 9 }
  dict := [(0x118001, some 8), (0x11800A, some 1)]
  host := { ports := [(k, p)] } }

/-- Host ports. -/
theorem wit_ports : let go := fun (i : Instr) (s : State) (p : State → Bool) => ends (exec i s) p = true
    let up : Port := { state := 4, lane := 2, addr := 0x0A000002 }
    let linkLocal := BitVec.ofNat 128 ((porting 8 up).linkLocal6 8)
    (porting 7 {}).portLive 7 = true ∧ (porting 7 {}).chooseRate 7 0x7F = some ⟨4, 2, 1⟩ ∧ (porting 8 {}).dictNat 0x120001 ≠ 1 ∧
    (porting 7 up).lossless 3 = true ∧ (porting 8 up).portUp 8 = true ∧ (porting 8 up).ownV6 8 linkLocal.toNat = true ∧
    (porting 8 up).ownV4 8 5 = false ∧ (porting 8 up).ownV6 8 5 = false ∧ (porting 8 up).addrMode 8 = 0 ∧
    Table.wf {} (porting 7 up).host.ports = true ∧ (porting 8 up).portMac 8 = 0x020000000008 ∧
    go (.portLinkUp 7 0x7F) (porting 7 {}) (fun u => (u.port 7).state = 4 && (u.port 7).lane = 2) ∧
    go (.portLinkUp 7 0x60) (porting 7 {}) (fun u => (u.port 7).state = 2 && (u.port 7).lane = 2) ∧
    go (.portLinkUp 8 3) (porting 8 {}) (fun u => (u.port 8).state = 2) ∧ go (.portLinkDown 8) (porting 8 up) (fun u => (u.port 8).state = 0 && (u.port 8).addr = 0) ∧
    go (.pluggableInsert 7 25) (porting 7 {}) (fun u => !(u.port 7).lowPower) ∧ go (.pluggableInsert 7 26) (porting 7 {}) (fun u => (u.port 7).lowPower) ∧
    go (.pfcFrame 7 0xFF 0x08) (porting 7 up) (fun u => (u.port 7).paused = 8) ∧ go (.pfcFrame 7 8 0) (porting 7 { up with paused := 8 }) (fun u => (u.port 7).paused = 0) ∧
    go (.pfcStorm 7 3) (porting 7 { up with paused := 8, pausedAt := [(3, 5)] }) (fun u => (u.port 7).paused = 0 && (u.port 7).storm = 8) ∧
    go (.pfcStormClear 7 3) (porting 7 { up with storm := 8 }) (fun u => (u.port 7).storm = 0) ∧
    go (.arpRequest 8 0x0A000002) (porting 8 up) (fun u => u.host.sent = [.arp 8 0x0A000002 0x020000000008]) ∧
    go (.neighbourSolicitation 8 linkLocal) (porting 8 up) (fun u => u.host.sent = [.neighbour 8 linkLocal.toNat 0x020000000008]) ∧
    go (.icmpEcho 8 linkLocal 9) (porting 8 up) (fun u => u.host.sent.length = 1) ∧ go (.icmpEcho 8 5 9) (porting 8 up) (fun u => u.host.sent = []) ∧
    go (.routerAdvertisement 8 0x2001000000000000) (porting 8 up) (fun u => (u.port 8).slaac = [0x2001000000000000 * 2 ^ 64 + 0xFFFE000008]) ∧
    go (.dhcpReply 8 0x0A000003) (porting 8 up) (fun u => (u.port 8).addr = 0x0A000003 && (u.port 8).leased) ∧
    go (.dhcpTimeout 8) (porting 8 { up with addr := 0 }) (fun u => u.free = 1 && u.host.sent = [.dhcp 8]) ∧
    go (.leaseExpiry 8) (porting 8 { up with leased := true }) (fun u => (u.port 8).addr = 0 && u.host.sent = [.dhcp 8]) := by decide +kernel

/-- A queue pair on port 7. -/
def qp0 : Qp := { state := .connected, port := 7, rate := 800000000000 }

/-- The state with queue pair 2, to which connection 9 is bound. -/
def queued (q : Qp) : State :=
  let s := porting 7 { state := 4, lane := 2 }
  { s with
    host := { s.host with qps := [(2, some q)] }
    serve := { conns := [(9, some { endpoint := some (.qp 2) })] } }

/-- The same with a swap's read of shard 0 outstanding and an ingress engine up. -/
def reading : State := { queued { qp0 with out := [{ psn := 5, shard := some 0 }] } with
  weights := { load := some (load1 1) }
  regions := [(0, { loop := { gate := 0x1FF } })] }

/-- Queue pairs. -/
theorem wit_queue_pairs : let go := fun (i : Instr) (q : Qp) (p : State → Bool) => ends (exec i (queued q)) p = true
    let out := { qp0 with out := [{ psn := 0xFFFFFF }] }
    (queued qp0).coxUp = true ∧ pathMtu 2 = some 4096 ∧ pathMtu 3 = none ∧ (queued qp0).connCount < (queued qp0).dictNat 0x300003 ∧ (queued qp0).freeQp = 3 ∧
    (queued qp0).qp 3 = none ∧ Table.wf none (queued qp0).host.qps = true ∧ lineRate 7 4 = 800000000000 ∧
    go (.cmReq 7 true 0 2) qp0 (fun u => u.host.sent = [.rep 3] && u.qp 3 = some { port := 7, mtu := 4096, rate := 800000000000 } && u.qp 2 = some qp0) ∧
    go (.cmReq 7 true 1 2) qp0 (fun u => u.host.sent = [.rej 7]) ∧
    go (.cmRtu 2) { qp0 with state := .offered } (fun u => u.qp 2 = some qp0) ∧ go (.cmDreq 2) qp0 (fun u => u.qp 2 = none && u.host.sent = [.drep 2]) ∧
    go (.cmDrep 2) { qp0 with state := .error } (fun u => u.qp 2 = none) ∧ go (.cmRej 2) { qp0 with state := .offered } (fun u => u.qp 2 = none) ∧
    go (.roceSendReceive 2 0 65536 false) { qp0 with recv := List.replicate 63 8 } (fun u => (u.qp 2).map (fun q => q.recv.length) = some 64 && u.host.sent = [.ack 2]) ∧
    go (.roceSendReceive 2 0 65536 false) { qp0 with recv := List.replicate 64 8 } (fun u => u.host.sent = [.rnrNak 2]) ∧
    go (.roceSendReceive 2 1 8 false) qp0 (fun u => u.host.sent = [.nak 2 false]) ∧
    go (.cnpReceive 2) qp0 (fun u => (u.qp 2).map (fun q => q.rate) = some 600000000000) ∧
    go (.cnpReceive 2) { qp0 with rate := 1000000001 } (fun u => (u.qp 2).map (fun q => q.rate) = some 1000000000) ∧
    go (.rateIncrease 2) { qp0 with rate := 799999999999 } (fun u => (u.qp 2).map (fun q => q.rate) = some 800000000000) ∧
    go (.ackTimeout 2) out (fun u => (u.qp 2).map (fun q => q.retries) = some 1 && u.host.sent = [.again 2 0xFFFFFF]) ∧
    go (.ackTimeout 2) { out with retries := 200 } (fun u => (u.qp 2).map (fun q => q.state) = some .error && (u.conn 9).map (fun c => c.endpoint) = some none) ∧
    go (.ackNakReceive 2 0 0) out (fun u => u.qp 2 = some qp0) ∧ go (.ackNakReceive 2 3 0) out (fun u => (u.qp 2).map (fun q => q.state) = some .error) ∧
    reading.flashImage (load1 1) = none ∧ reading.ingressUp = true ∧ reading.keepsShard man0 0 = true ∧ openShard [] man0 0 piece = none ∧
    Table.wf none (load1 1).opened = true ∧ Table.wf 0 (load1 1).fails = true ∧
    ends (exec (.rdmaReadResponse 2 piece) reading) (fun u => u.weights.load.map (fun l => (l.fails, l.opened.length)) = some ([(0, 1)], 0)) = true := by
  decide +kernel

/-! ## Bundles and instructions as a whole -/

/-- An instruction with every field at its largest value, and its way back through the bundle. -/
theorem wit_round_trip : (Instr.mul T 3 63 255 1023 15 7 true).bundleInstr = true ∧ (Instr.mul T 3 63 255 1023 15 7 true).tile = some T ∧
    ((encodeBundle (Instr.mul T 3 63 255 1023 15 7 true)).map (fun b => decodeBundle T b)).getD [] =
      [.nop T .lsu 0 false, .mul T 3 63 255 1023 15 7 true, .nop T .vec 0 false, .nop T .rqu 0 false, .nop T .net 0 false, .nop T .ctl 0 false] := by
  decide +kernel

/-- Instructions that write outside their tile, and canonical states they and the ends of results start from. -/
theorem wit_canon : (Instr.commit T 1 9).bundleInstr = true ∧ (Instr.commit T 1 9).tile = some T ∧ (sending sender).canon = true ∧
    ends (exec (.commit T 1 9) (sending sender)) (fun u => u.canon && decide (u.tier = (sending sender).tier)) = true ∧
    ends (exec (.landingWrite T) (put { scal with ingress := [{ line := 32767, bytes := List.replicate 128 9 }] })) (fun u => u.canon) = true ∧
    ends (exec (.gatherComplete T 3) (put gathering)) (fun u => u.canon) = true := by decide +kernel

/-! ## Clocks and connectors -/

/-- The state with a reference loop. -/
def reffed (q : RefLoop) : State := { demo with ref := q }

/-- The reference loop of a running module. -/
def ref0 : RefLoop := { src := 3, cur := 3, lock := true, locked := true, search := false, ready := 0x28 }

/-- The reference. -/
theorem wit_reference : let go := fun (i : Instr) (q : RefLoop) (p : State → Bool) => ends (exec i (reffed q)) p = true
    let lossy := { ref0 with loss := true, lastEdge := 1000000 - 32 }
    demo.candLive 111 = true ∧ (reffed ref0).candReady 5 = true ∧ Table.wf {} (reffed ref0).regions = true ∧ demo.powered 63 = true ∧
    go (.candidateReady 111) { search := true } (fun u => u.ref.cur = 111 && !u.ref.loss && u.ref.ready = 1#128 <<< 111) ∧
    go (.candidateReady 8) ref0 (fun u => u.ref.cur = 3 && u.ref.ready = 0x128) ∧
    go (.candidateNotReady 3) ref0 (fun u => u.ref.ready = 0x20 && u.ref.cur = 3) ∧
    go .referenceLock { ref0 with lock := false } (fun u => u.ref.lock && u.clk.ticking) ∧
    go .referenceEdgeLoss ref0 (fun u => u.ref.loss && u.ref.lastEdge = 1000000 && u.clk.tick = 932) ∧
    go .referenceEdgeLoss { ref0 with autoAlt := true, alt := 5 } (fun u => u.ref.cur = 5 && u.ref.prev = 3 && u.ref.forced && !u.ref.loss && u.ref.lock) ∧
    go .bridgeExpiry lossy (fun u => u.ref.cur = 0x7F && u.ref.lost && u.ref.losses = 1 && !u.clk.ticking && u.now = 1000000 - 32 + 256 &&
      (u.region 63).loop.coast) ∧
    go (.plannedSwitch 5) ref0 (fun u => u.ref.swStep = 1 && u.ref.src = 5) ∧ go (.plannedSwitch 5) { ref0 with swStep := 2 } (fun u => u.ref.refused) ∧
    go .switchStepComplete { ref0 with swStep := 1 } (fun u => u.ref.swStep = 2) ∧
    go .switchStepComplete { ref0 with swStep := 2, src := 5 } (fun u => u.ref.cur = 5 && u.ref.swStep = 0) ∧
    go .muxHang { ref0 with swStep := 1 } (fun u => u.ref.hang && u.ref.ints = 1) ∧
    go .force { lossy with src := 5 } (fun u => u.ref.cur = 5 && u.ref.prev = 3 && !u.ref.loss) ∧
    go .force { lossy with src := 6 } (fun u => u.ref.cur = 6 && u.ref.loss) ∧ go .muxRst ref0 (fun u => u.ref.cur = 0x7F) := by decide +kernel

/-- A region's loop with a lock at step 2. -/
def loop0 : RegionLoop := { stepAct := 2, lock := true, coast := false }

/-- The planned state with that loop in a region. -/
def looped (n : Nat) (g : Region) : State := { planned with regions := [(n, g)] }

/-- Loops, blocks and connectors. -/
theorem wit_loops : let go := fun (i : Instr) (s : State) (p : State → Bool) => ends (exec i s) p = true
    let at_ := fun (l : RegionLoop) => looped 63 { loop := l }
    let up : State := { at_ loop0 with links := { links := [(95, upLink)] }, host := { tc := [(15, { present := true, aux := true })] } }
    planned.planRegions = List.range 64 ∧ planned.holdsCrew 17 = true ∧ planned.holdsCrew 63 = false ∧ planned.clk.running = true ∧ holdsBlock 63 6 = true ∧ holdsBlock 59 8 = true ∧ connectorLinks 15 = [90, 91, 92, 93, 94, 95] ∧
    droopLimit loop0 = 30 ∧ Table.wf {} up.host.tc = true ∧
    go (.loopGo 63 15) (at_ loop0) (fun u => (u.region 63).loop.target = some 15) ∧
    go (.loopGo 17 15) (looped 17 { loop := loop0 }) (fun u => (u.region 17).loop.refused && (u.region 17).loop.target = none) ∧
    go (.idlePathLock 63) (at_ { loop0 with target := some 7 }) (fun u => (u.region 63).loop.stepAct = 7 && (u.region 63).pwr.vset = u.stepVset 63 7) ∧
    go (.idlePathLock 63) (looped 63 { loop := { loop0 with target := some 7 }, clk := { arm := true } }) (fun u =>
      (u.region 63).loop.stepAct = 2 && (u.region 63).loop.target = none && (u.region 63).clk.arm) ∧
    go (.loopStop 63) (at_ loop0) (fun u => (u.region 63).loop.stop) ∧
    go (.pathLockLoss 63) (at_ loop0) (fun u => (u.region 63).loop.coast && (u.region 63).loop.unlocks = 1 && (u.region 63).clk.forced) ∧
    go (.droop 63 31) (at_ loop0) (fun u => (u.region 63).loop.droops = 1 && (u.region 63).clk.stretchNow = 1) ∧
    go (.droop 63 30) (at_ loop0) (fun u => (u.region 63).loop.droops = 0) ∧
    go (.monitorWindow 63 255 15) (at_ loop0) (fun u => (u.region 63).loop.jitPeak = 255 && (u.region 63).loop.dutyDev = 15) ∧
    go (.blockEnable 63 6) (at_ loop0) (fun u => (u.region 63).loop.gate = 0x40) ∧
    go (.blockDisable 63 6) (at_ { loop0 with gate := 0x40 }) (fun u => (u.region 63).loop.gate = 0) ∧
    go (.tensorAssemblyMate 15 true) (at_ loop0) (fun u => (u.connector 15).present && (u.connector 15).aux) ∧
    go (.tensorAssemblyUnmate 15) up (fun u => u.host.tc = [] && (u.link 95).state = 1) ∧
    go (.auxFault 15) up (fun u => (u.connector 15).fault && !(u.connector 15).aux && (u.link 95).state = 1) := by decide +kernel

/-! ## The parameter dictionary -/

/-- A message of the protocol with an OP and its items: its header, and an item with its data. -/
def dapMsg (op count : Nat) (items : Bytes) : Bytes := natLE 2 0x4454 ++ natLE 1 1 ++ natLE 1 op ++ natLE 2 4 ++ natLE 1 0 ++ natLE 1 count ++ items
def dapItem1 (index : Nat) (sub : Byte) (offset length total : Nat) (data : Bytes) : Bytes :=
  natLE 2 index ++ [sub, 0] ++ natLE 2 offset ++ natLE 2 length ++ natLE 2 total ++ natLE 2 0 ++ data

/-- The client of M0 that sends it. -/
def client0 : Client := .m0 0x0A000009 700

/-- A read and a write from it of one item, to the protocol's port. -/
def readMsg (item : Bytes) : Instr := .dapRead 0x0A000009 700 47112 (dapMsg 1 1 item) 0
def writeMsg (item : Bytes) : Instr := .dapWrite 0x0A000009 700 47112 (dapMsg 2 1 item) 0 none

/-- The state with M0 up, and with a CAN port. -/
def managed : State := { porting 8 { state := 2, addr := 5 } with ref := { lock := true } }
def canned (c : Can) : State := { managed with host := { managed.host with can := c } }

/-- Reads and writes from M0: an age of classes read, written at its limits, past its range and with a wrong length; no object; read-only; a
BLOB in pieces; LIST and IDENTIFY; a message answered before; what is no message; what times out. -/
theorem wit_dictionary : let go := fun (i : Instr) (s : State) (p : State → Bool) => ends (exec i s) p = true
    let age := fun (length total : Nat) (data : Bytes) => dapItem1 0x3010 5 0 length total data
    let said := fun (op : Nat) (os : List DapOut) => HostOut.dap client0 (dapBytes 4 (op + 0x80) 0 os)
    let out := fun (sub : Byte) (st len total : Nat) (data : Bytes) => DapOut.mk 0x3010 sub st 0 len total data
    let done : Tx := { client := client0, transaction := 4, op := 2, status := 0, items := [out 5 0 4 4 []], done := true }
    let old := { managed with host := { managed.host with pieces := [{ client := client0, key := 0x501002, total := 256, ms := 1 }], kept := [{ client := client0, key := 0x501002, value := [1] }] } }
    let c := dapContext client0 false false (dapMsg 2 1 (age 4 4 [9, 0, 0, 0])) 0
    managed.dapServed client0 = true ∧ c.malformed = false ∧ c.client = client0 ∧ c.count = 1 ∧ managed.isDap 47112 (dapMsg 2 1 (age 4 4 [9, 0, 0, 0])) 2 = true ∧
    (dapItemOf (dapMsg 2 1 (age 4 4 [9, 0, 0, 0])) 0).malformed = false ∧ (dapItemOf (dapMsg 2 1 (age 4 4 [9, 0, 0, 0])) 0).data = [9, 0, 0, 0] ∧
    (objectEntry 0x301005).map (fun e => (e.len, decide (e.access = .rw), pendState e, ownWrite e.key)) = some (4, true, none, false) ∧
    objectEntry 0x301099 = none ∧ (objectEntry 0x501002).map (fun e => (e.len, decide (e.type = .blob))) = some (256, true) ∧
    (objectEntry 0x100002).map (fun e => decide (e.access = .ro)) = some true ∧ Table.wf none managed.dict = true ∧ managed.emptySlot 0x301005 9 = false ∧
    go (.dapRead 0x0A000009 700 47112 (dapMsg 2 1 (age 4 4 [9, 0, 0, 0])) 0) managed (fun u => u.host.sent = []) ∧
    go (.dapWrite 0x0A000009 700 47113 (dapMsg 2 1 (age 4 4 [9, 0, 0, 0])) 0 none) managed (fun u => u.host.sent = [] && u.dictNat 0x301005 ≠ 9) ∧
    go (readMsg (age 4 0 [])) { managed with dict := [(0x301005, some 7)] } (fun u => u.host.sent = [said 1 [out 5 0 4 4 [7, 0, 0, 0]]] && u.host.kept.length = 1) ∧
    go (readMsg (dapItem1 0x3010 0x99 0 4 0 [])) managed (fun u => u.host.sent = [said 1 [out 0x99 1 0 0 []]]) ∧
    go (readMsg (age 4 0 [])) { managed with host := { managed.host with txs := [done] } } (fun u => u.host.sent = [said 2 [out 5 0 4 4 []]]) ∧
    go (writeMsg (age 4 4 [9, 0, 0, 0])) managed (fun u => u.dictNat 0x301005 = 9 && u.host.sent = [said 2 [out 5 0 4 4 []]]) ∧
    go (writeMsg (dapItem1 0x1180 6 0 2 2 [255, 255, 0, 0])) managed (fun u => u.istatus = 3) ∧
    go (writeMsg (age 3 3 [9, 0, 0, 0])) managed (fun u => u.istatus = 4 && u.host.sent = [said 2 [out 5 4 0 3 []]]) ∧
    go (writeMsg (dapItem1 0x1000 2 0 1 1 [9, 0, 0, 0])) managed (fun u => u.istatus = 2) ∧
    go (writeMsg (dapItem1 0x5010 2 128 8 256 [1, 2, 3, 4, 5, 6, 7, 8])) managed (fun u => u.istatus = 0 &&
      u.host.pieces.map (fun q => Table.getList none q.got 134 3) = [[some 7, some 8, none]]) ∧
    go (.dapList 0x0A000009 700 47112 (dapMsg 3 1 (dapItem1 0x3010 5 0 0 0 []))) managed (fun u => u.host.sent.length = 1) ∧
    go (.dapIdentify 0x0A000009 700 47112 (dapMsg 4 0 [])) managed (fun u =>
      u.host.sent = [HostOut.dap client0 (dapBytes 4 0x84 0 ([0x100001, 0x100002, 0x120003].map managed.identifyOut))]) ∧
    go (.pieceTimeout client0 0x5010 2) old (fun u => u.host.pieces = [] && u.host.kept.length = 1) ∧
    go (.keptValueExpiry client0 0x5010 2) old (fun u => u.host.kept = [] && u.host.pieces.length = 1) := by decide +kernel

/-- CAN: the first segment of a message, the last, one out of place, errors and bus-off. -/
theorem wit_can : let go := fun (i : Instr) (s : State) (p : State → Bool) => ends (exec i s) p = true
    let own := BitVec.ofNat 29 (0x400 + managed.dictNat 0x130001)
    managed.canLive = true ∧ managed.coxUp = true ∧ 0x400 + managed.dictNat 0x130001 < 2 ^ 29 ∧
    go (.canSegment own false false true true [0x80, 1, 2] none) (canned { rec_ := 3 }) (fun u => u.host.can = { rec_ := 2, msg := some ([1, 2], 1, own.toNat, true, true) }) ∧
    go (.canSegment own false false true true ([0x43] ++ List.replicate 8 0) none) (canned { msg := some ([1, 2], 3, own.toNat, true, true) }) (fun u => u.host.can = {}) ∧
    go (.canSegment own false false true true [0x03, 9] none) (canned { rec_ := 200 }) (fun u => u.host.can = { rec_ := 127 }) ∧
    go (.canBusError true false) (canned { tec := 247 }) (fun u => u.host.can.tec = 255 && !u.host.can.busOff) ∧
    go (.canBusError true false) (canned { tec := 248 }) (fun u => u.host.can.busOff && !u.canLive) ∧
    go (.canBusError false true) (canned { rec_ := 250 }) (fun u => u.host.can.rec_ = 255) ∧
    go .canBusOffRecovery (canned { tec := 256, busOff := true }) (fun u => u.host.can = {}) := by decide +kernel

/-! ## Store, recovery, boot and trust -/

/-- The planned state with a recovery, and with what a boot needs. -/
def recovering (q : Recovery) : State := { managed with host := { managed.host with recovery := q } }

/-- A recovery whose server offers an image of three chunks, the last of one byte; chunks 1 and 2 are outstanding. -/
def rec0 : Recovery := { on := true, session := 6, server := some (8, 2049, 3), got := [(0, some [1])], asked := [1, 2] }

/-- An OFFER and a DATA of the recovery protocol. -/
def offerMsg (length version : Nat) : Bytes := recoveryHead 2 6 ++ natLE 4 length ++ natLE 4 version
def dataMsg (offset : Nat) (data : Bytes) : Bytes := recoveryHead 4 6 ++ natLE 4 offset ++ natLE 2 data.length ++ data

/-- A firmware image that does not verify, and what a boot finds. -/
def fw0 : Firmware := { bytes := natLE 4 0x46465746 }
def boot0 : BootInputs := { firmware := fw0, factoryOk := true, fieldCopies := 0, coxFailures := 3, deadCores := 0, deadChannels := 0, test := 0, selfTest := 0 }

/-- Store and recovery. -/
theorem wit_recovery : let go := fun (i : Instr) (s : State) (p : State → Bool) => ends (exec i s) p = true
    let storing : State := { managed with dict := [(0x301005, some 9)], host := { managed.host with storeState := 1 } }
    let whole := { rec0 with got := [(0, some [1]), (1, some [2]), (2, some [3])], asked := [] }
    let lone : Recovery := { on := true, session := 6 }
    managed.coxUp = true ∧ storedKey 0x301005 = true ∧ Table.wf none storing.dict = true ∧ Table.wf none storing.host.stored = true ∧
    managed.boot.versionFloor.toNat ≤ (3 : Word).toNat ∧ chunkCount 2049 = 3 ∧ rec0.asked.Nodup ∧ Table.wf none rec0.got = true ∧
    isRecovery (offerMsg 67108864 3) 2 8 = true ∧ isRecovery (dataMsg 2048 [1]) 4 6 = true ∧ recoverySession (dataMsg 2048 [1]) = 6 ∧
    (∀ k, k < chunkCount 2049 → (Table.get none whole.got k).isSome = true) ∧ fwOk 0 fw0 = false ∧
    go (.store_ 0x53544F52) managed (fun u => u.host.storeState = 1 && u.istatus = 0) ∧ go (.store_ 0x53544F52) storing (fun u => u.istatus = 5) ∧
    go (.store_ 1) managed (fun u => u.istatus = 3) ∧ go (.storeComplete true) storing (fun u => u.host.storeState = 2 && u.host.stored = [(0x301005, some 9)]) ∧
    go (.storeComplete false) storing (fun u => u.host.storeState = 3) ∧ go (.restoreDefaults 0x44464C54) managed (fun u => u.host.restore && u.boot.recordSeq = 1) ∧
    go .solicit (recovering { on := true }) (fun u => u.free = 1 && u.host.sent.length = 1) ∧
    go (.offer 8 (dataMsg 2048 [1])) (recovering lone) (fun u => u.host.sent = []) ∧ go (.recoveryData 8 (offerMsg 5 3)) (recovering rec0) (fun u => u.host.recovery = rec0) ∧
    go (.offer 8 (offerMsg 67108864 3)) (recovering lone) (fun u => u.host.recovery.server = some (8, 67108864, 3) && u.host.recovery.asked.length = 16) ∧
    go (.offer 8 (offerMsg 5 2)) { recovering lone with boot := { managed.boot with versionFloor := 3 } } (fun u => u.host.sent = [.recovery (some 8) (resultMsg 6 2)]) ∧
    go (.offer 8 (offerMsg 67108865 3)) (recovering lone) (fun u => u.host.sent = [.recovery (some 8) (resultMsg 6 3)]) ∧
    go (.offer 7 (offerMsg 5 3)) (recovering rec0) (fun u => u.host.sent.length = 1 && u.host.recovery = rec0) ∧
    go (.recoveryData 8 (dataMsg 2048 [1])) (recovering rec0) (fun u => Table.get none u.host.recovery.got 2 = some [1] && u.host.recovery.asked = [1]) ∧
    go .fetchRetry (recovering rec0) (fun u => u.host.recovery.fails = [(1, 1), (2, 1)] &&
      u.host.sent = [.recovery (some 8) (fetchMsg 6 1024 1), .recovery (some 8) (fetchMsg 6 2048 1)]) ∧
    go .fetchRetry (recovering { rec0 with fails := [(2, 7)] }) (fun u => u.host.recovery.server = none && u.host.sent = [.recovery (some 8) (resultMsg 6 4)]) ∧
    go .recoveryVerify (recovering whole) (fun u => u.host.sent = [.recovery (some 8) (resultMsg 6 1)] && u.host.recovery.on) ∧
    go (.serverIgnoreExpiry 8) (recovering { on := true, ignored := [(8, 1), (9, 2)] }) (fun u => u.host.recovery.ignored = [(9, 2)]) := by decide +kernel

theorem wit_no_fails : ∀ k, Table.get 0 rec0.fails k = 0 := fun _ => rfl

/-- A module at the end of its scratch fill. -/
def filling : State := { boot := { filling := true, step := 3 }, ref := demo.ref }

/-- A module with a ready standby. -/
def standing : State := { managed with boot := { managed.boot with standby := 2 } }

/-- The source record of a firmware update over connection 9. -/
def fwRecord : Bytes := natLE 1 1 ++ natLE 1 0 ++ natLE 2 9 ++ List.replicate 12 0 ++ natLE 8 64 ++ natLE 1 1 ++ List.replicate 7 0

/-- Boot and trust. -/
theorem wit_boot : let go := fun (i : Instr) (s : State) (p : State → Bool) => ends (exec i s) p = true
    filling.dictNat 0x141001 ≠ 1 ∧ filling.host.recovery.image = none ∧ fw0.readable = true ∧ standing.coxUp = true ∧
    standing.boot.coxHeld = [] ∧ standing.boot.coxFails = [] ∧ standing.ring = [] ∧ Table.wf {} standing.regions = true ∧ Table.wf 0 standing.counts = true ∧
    go (.scratchFillDone { boot0 with firmware := { fw0 with readable := false } }) filling (fun u => u.host.recovery.on && u.host.recovery.reason = 2 && u.boot.step = 4) ∧
    go (.scratchFillDone boot0) filling (fun u => u.host.recovery.reason = 1 && u.power.pg = 0) ∧
    go (.scratchFillDone { boot0 with factoryOk := false }) filling (fun u => u.boot.step = 4) ∧
    go (.scratchFillDone { boot0 with coxFailures := 4 }) filling (fun u => u.host.recovery.reason = 1) ∧
    go (.coxWatchdogExpiry boot0) standing (fun u => u.boot.active = 59 && u.boot.standby = 1 && (u.region 63).mesh.coxRegion = 59) ∧
    go (.coxFatalFault .lockup boot0) standing (fun u => u.boot.active = 59) ∧
    go .standbyReady { standing with boot := { standing.boot with standby := 1 } } (fun u => u.boot.standby = 2) ∧
    go (.attestationNonce (List.replicate 32 3)) managed (fun u => u.boot.attest = 1 && u.boot.nonce = List.replicate 32 3) ∧
    go .reportSigned { managed with boot := { managed.boot with nonce := List.replicate 32 3, attest := 1 } } (fun u => u.boot.attest = 2 && u.free = 1) ∧
    go (.authorisation .can (List.replicate 16736 0)) managed (fun u => u.istatus = 0 && u.boot.auths.length = 1) ∧
    go (.ownerKeysWrite .can (List.replicate 432 1)) managed (fun u => u.istatus = 7) ∧ managed.authFor .can 0x801003 (List.replicate 432 1) = none ∧
    go (.publisherSlotWrite .can 7 (List.replicate 432 1)) managed (fun u => u.istatus = 7) ∧ managed.authFor .can 0x802008 (List.replicate 432 1) = none ∧
    go (.firmwareWriteComplete fw0) { managed with boot := { managed.boot with fwWrite := some { source0 0 with length := 67108864 } } } (fun u =>
      u.boot.fwWrite = none && u.boot.fwFlash = none) := by decide +kernel

/-- An authorisation of a write of `value` to an object: what stands before the device ID, between it and the digest, and the whole. -/
def authHead : Bytes := natLE 4 0x55415754 ++ natLE 2 1 ++ natLE 2 0
def authMid (key : Nat) (value : Bytes) : Bytes := natLE 8 1 ++ natLE 2 (key / 256) ++ natLE 1 key ++ natLE 1 0 ++ natLE 4 value.length
def auth0 (key : Nat) (value : Bytes) : Bytes :=
  authHead ++ ((({} : Ident).deviceId) ++ (authMid key value ++ (sha384 value ++ List.replicate 16648 0)))

/-- It fits the write, where its fields beside the device ID and the digest do. -/
theorem authFits_auth0 (s : State) (key : Nat) (value : Bytes) (hi : s.ident = {}) (h : (decide (fieldNat authHead 0 4 = 0x55415754) &&
    decide (fieldNat authHead 4 2 = 1) && zeroField authHead 6 2 &&
    decide (s.boot.authCounter.toNat < fieldNat (authMid key value) 0 8 % 2 ^ 64) && decide (fieldNat (authMid key value) 8 2 = key / 256) &&
    decide (fieldNat (authMid key value) 10 1 = key % 256) && zeroField (authMid key value) 11 1 &&
    decide (fieldNat (authMid key value) 12 4 = value.length) &&
    (!(s.blob 0x801003).all (fun b => b = 0) || decide (key = 0x801003))) = true) : s.authFits (auth0 key value) key value = true := by
  have front : ∀ off n, off + n ≤ 8 → slice (auth0 key value) off n = slice authHead off n :=
    fun off n h => slice_before _ _ _ _ (by simpa [authHead] using h)
  have past : ∀ off n, 24 ≤ off → slice (auth0 key value) off n =
      slice (authMid key value ++ (sha384 value ++ List.replicate 16648 0)) (off - 24) n := fun off n h => by
    unfold auth0
    rw [slice_past _ _ _ _ (by simp [authHead]; omega), slice_past _ _ _ _ (by simp [authHead]; omega)]
    simp only [authHead, List.length_append, natLE_length, Ident.deviceId_length]; congr 1
  have mid : ∀ off n, 24 ≤ off → off + n ≤ 40 → slice (auth0 key value) off n = slice (authMid key value) (off - 24) n :=
    fun off n h1 h2 => by rw [past off n h1, slice_before _ _ _ _ (by simp [authMid]; omega)]
  have dev : slice (auth0 key value) 8 16 = s.ident.deviceId := by
    rw [hi]; unfold auth0; rw [slice_past _ _ _ _ (by simp [authHead])]
    have h := slice_whole (({} : Ident).deviceId) (authMid key value ++ (sha384 value ++ List.replicate 16648 0))
    rw [Ident.deviceId_length] at h
    simp only [authHead, List.length_append, natLE_length]; exact h
  have dig : slice (auth0 key value) 40 48 = sha384 value := by
    rw [past 40 48 (by omega), slice_past _ _ _ _ (by simp [authMid])]
    have h := slice_whole (sha384 value) (List.replicate 16648 0)
    rw [sha384_length] at h
    simp only [authMid, List.length_append, natLE_length]; exact h
  have back : zeroField (auth0 key value) 88 40 = true := by
    unfold zeroField
    rw [past 88 40 (by omega), slice_past _ _ _ _ (by simp [authMid]), slice_past _ _ _ _ (by simp [authMid])]
    simp only [authMid, List.length_append, natLE_length, sha384_length]; decide +kernel
  unfold State.authFits
  rw [dig, dev, back]
  simp only [Bool.and_eq_true, fieldNat, zeroField, authCount, front 0 4 (by decide), front 4 2 (by decide), front 6 2 (by decide),
    mid 24 8 (by decide) (by decide), mid 32 2 (by decide) (by decide), mid 34 1 (by decide) (by decide), mid 35 1 (by decide) (by decide),
    mid 36 4 (by decide) (by decide), BitVec.toNat_ofNat, decide_true, and_true, Nat.sub_self, Nat.reduceSub] at h ⊢
  exact h

/-- A module with owner keys, or none, a RoCEv2 connection, and the authorisation of the CAN client. -/
def authorised (owner : Bytes) (key : Nat) (value : Bytes) : State := { queued qp0 with
  boot := { planned.boot with auths := [(.can, auth0 key value, 3)] }
  blobs := [(0x801003, some owner)] }

/-- Its authorisation fits the write of owner keys while there are none, of the last publisher slot, and of a firmware update. -/
theorem wit_authorised : (authorised [] 0x801003 (List.replicate 432 1)).authFits (auth0 0x801003 (List.replicate 432 1)) 0x801003 (List.replicate 432 1) = true ∧
    (authorised [1] 0x802008 (List.replicate 432 1)).authFits (auth0 0x802008 (List.replicate 432 1)) 0x802008 (List.replicate 432 1) = true ∧
    (authorised [1] 0x803003 fwRecord).authFits (auth0 0x803003 fwRecord) 0x803003 fwRecord = true := by
  refine ⟨?_, ?_, ?_⟩ <;> exact authFits_auth0 _ _ _ rfl (by decide +kernel)

theorem wit_authorised_writes : let r := parseSource false fwRecord
    (authorised [1] 0x803003 fwRecord).ms ≤ 3 + 10000 ∧ (authorised [1] 0x803003 fwRecord).coxUp = true ∧ fwRecord.length = 32 ∧ r.kind = 1 ∧
    sourceOk r = true ∧ (authorised [1] 0x803003 fwRecord).roceTag r.connection = true ∧ (authorised [1] 0x803003 fwRecord).boot.fwWrite = none ∧
    (authorised [1] 0x803003 fwRecord).boot.recordState ≠ 3 ∧
    ((authorised [1] 0x803003 fwRecord).boot.auths.find? (fun e => e.1 = Client.can)).map (fun e => e.2.2) = some 3 := by decide +kernel

/-! ## Power and cooling -/

/-- The planned state, and one without a plan, with their power. -/
def fed (p : Power) : State := { planned with power := p }
def bare (p : Power) : State := { demo with power := p }

/-- Every region powered; every region but 7; region 7 being powered. -/
def full : Power := demo.power
def part : Power := { full with pg := 0xFFFFFFFFFFFFFF7F, group := [7] }

/-- Power delivery. -/
theorem wit_power : let go := fun (i : Instr) (s : State) (p : State → Bool) => ends (exec i s) p = true
    let mated : State := { fed full with host := { (fed full).host with mated := true } }
    Table.wf {} (fed full).regions = true ∧ (fed full).powered 17 = true ∧ warnAmps 17 0 = some 650 ∧ shortAmps 17 0 = some (900, 400) ∧
    go .busCharged mated (fun u => u.power.bus) ∧ go .busbarMate { fed full with host := {} } (fun u => u.host.mated && !u.power.bus) ∧
    go .powerOn (bare { bus := true, failed := 8 }) (fun u => u.power.booted && u.boot.step = 2 && u.boot.excluded = 8 && u.power.group = [0, 1, 2, 4]) ∧
    go (.inputOutOfRange 440) (fed full) (fun u => u.power.range) ∧ go (.inputOutOfRange 459) (fed full) (fun u => u.power.range) ∧
    go (.inputOutOfRange 591) (fed full) (fun u => u.power.range) ∧ go (.inputOutOfRange 600) (fed full) (fun u => u.power.range) ∧
    go (.inputOutOfRange 460) (fed full) (fun u => !u.power.range && u.power.vin = 460) ∧ go (.inputOutOfRange 590) (fed full) (fun u => !u.power.range) ∧
    go (.powerFail 439) (fed full) (fun u => u.power.down && u.power.pfail && (u.region 17).clk.forced && u.log.flushing = some u.log.newest) ∧
    go (.powerFail 601) (fed full) (fun u => u.power.down && (u.region 63).clk.forced) ∧
    go (.inputOvercurrent 621) (fed full) (fun u => (u.region 17).pwr.ocForced && (u.region 63).clk.forced) ∧
    go (.inputOvercurrent 620) (fed full) (fun u => !(u.region 17).pwr.ocForced && u.power.iin = 620) ∧
    go (.converterFail 15) (fed full) (fun u => u.power.convOk = 0x7FFF && u.power.convFailed = 0x8000) ∧
    go (.regionPowerRequest 63) (fed { full with on := 1 }) (fun u => u.power.on = 0x8000000000000001) ∧
    go (.regionPowerRequest 63) (fed { full with on := 1, latch := 1#64 <<< 63 }) (fun u => u.power.on = 1) ∧
    go (.regionPowerGood 7) { bare part with boot := { step := 3 } } (fun u => u.powered 7 && (u.region 7).loop.lock && (u.region 7).loop.stepAct = 0) ∧
    go (.regionPowerGood 7) { bare part with boot := { step := 9 } } (fun u => u.powered 7 && u.boot.returned = 0x80) ∧
    go (.powerGoodTimeout 7 0 901 0) (fed part) (fun u => u.power.latch = 0x80 && !u.power.on.getLsbD 7 && u.boot.excluded = 0x80) := by decide +kernel

theorem wit_overcurrent : let go := fun (i : Instr) (s : State) (p : State → Bool) => ends (exec i s) p = true
    (bare full).boot.plan = none ∧ (fed full).boot.plan ≠ none ∧ (fed full).clk.easy = 0 ∧ easyAll.clk.easy ≠ 0 ∧
    go (.regionPowerGoodFall 9) (fed { full with down := true }) (fun u => !u.powered 9 && u.boot.excluded.getLsbD 9) ∧
    go (.regionPowerGoodFall 9) (bare full) (fun u => !u.powered 9 && !u.power.on.getLsbD 9) ∧
    go (.overcurrentWarning 17 0 651) (fed full) (fun u => (u.region 17).pwr.ocWarn && (u.region 17).pwr.warns = 1 && (u.region 17).clk.forced) ∧
    go (.regionShort 17 0 901 400) (bare full) (fun u => !u.powered 17 && u.power.latch.getLsbD 17) ∧
    go (.regionShort 17 0 0 399) (fed { full with down := true }) (fun u => !u.powered 17 && u.power.latch.getLsbD 17) ∧
    go (.regionRetry 63) (bare { full with latch := 1#64 <<< 63 }) (fun u => u.istatus = 0 && u.power.latch = 0 && u.power.on.getLsbD 63) ∧
    go (.regionRetry 0) { easyAll with power := { full with latch := 1 } } (fun u => u.istatus = 0 && u.power.latch = 0) ∧
    go (.regionRetry 63) (fed full) (fun u => u.istatus = 6) ∧ go (.regionRetry 64) (fed full) (fun u => u.istatus = 3) := by decide +kernel

/-- What the sensors read, at an input power. -/
def sensed (watts : Nat) : Sensors := { vin := 540, vmin := 540, iin := 300, watts := watts, flow := 60, inlet := 240, outlet := 400, regions := [] }

/-- Every region powered, in a coolant fault of the present ms, or parking behind one. -/
def faulty : Power := { full with active := true, faultMs := 8, flow := 60 }
def trippy : State := { fed full with regions := [(17, { routed with loop := { coast := false } })] }

/-- Cooling. -/
theorem wit_cooling : let go := fun (i : Instr) (s : State) (p : State → Bool) => ends (exec i s) p = true
    let parking := { faulty with parking := true }
    (fed full).dictNat 0x402004 = 35 ∧ (fed full).dictNat 0x401003 = 100 ∧ (fed full).dictNat 0x402005 = 1 ∧
    full.faultEn = true ∧ full.active = false ∧ full.coolOff = false ∧ full.down = false ∧ (bare faulty).ms ≤ 208 ∧ (bare faulty).boot.plan = none ∧
    (bare faulty).clk.causes = [] ∧ ((List.range 64).all (fun q => (bare faulty).powered q && decide (((bare faulty).region q).pwr.hot.toNat ≤ 800))) = true ∧
    (let off : Power := { full with coolOff := true }; off.coolOff = true ∧ off.down = false ∧ off.leakWait = false) ∧
    (let low : Power := { full with down := true }; low.down = true ∧ Table.wf {} (fed low).regions = true) ∧ (280 : BitVec 12).toNat ≤ 8 * (fed full).dictNat 0x402004 ∧
    go (.thetaSample (sensed 2000)) (fed full) (fun u => u.power.theta.length = 1 && u.power.rth = 1600) ∧
    go (.thetaSample (sensed 1999)) (fed full) (fun u => u.power.theta = [] && u.power.watts = 1999) ∧
    go (.powerCapCompute (sensed 2000)) (fed full) (fun u => u.power.cap = 32000 && u.power.vin = 540) ∧
    go (.powerCapCompute (sensed 2000)) (bare { full with convOk := 0xFF }) (fun u => u.power.cap = 17600) ∧
    go (.inletOverLimit 281) (fed full) (fun u => u.power.inletOver) ∧ go (.inletOverLimit 280) (fed full) (fun u => !u.power.inletOver) ∧
    go (.flowLow 39) (fed full) (fun u => u.power.flowLow) ∧ go (.flowLow 40) (fed full) (fun u => !u.power.flowLow && u.power.flow = 40) ∧
    go (.coolantFault 0 19 0 0) (fed full) (fun u => u.power.active && u.power.faults = 1 && (u.region 63).clk.forced) ∧
    go (.coolantFault 2 60 0 0) (fed full) (fun u => u.power.active && u.power.faults = 4 && u.power.leakWait) ∧
    go (.coolantFaultClear 40 false) (bare faulty) (fun u => !u.power.active && u.power.flow = 40) ∧
    go (.coolantFaultClear 40 true) (fed faulty) (fun u => u.power.active && u.power.flow = 40) ∧
    go (.coolantParkDeadline) { bare parking with regions := [(17, routed)] } (fun u => u.power.coolOff && !u.power.parking && u.power.pg = 0 && u.regions = []) ∧
    go (.thermalTrip 17 0x348) trippy (fun u => (u.region 17).pwr.tripped && (u.region 17).pwr.hot = 0x348 && (u.region 17).clk.forced && u.power.trips.length = 1) ∧
    go (.regionHeatOff 17 801) (bare full) (fun u => u.power.heatOff.getLsbD 17 && !u.powered 17) ∧
    go (.regionHeatOff 17 801) (fed full) (fun u => u.power.heatOff.getLsbD 17 && u.powered 17 && u.power.heatPending = [17] &&
      u.clk.named.any (fun e => e.cause = 4 && e.clearing)) ∧
    go (.regionCooled 17 479) (fed { full with heatOff := 1#64 <<< 17, pg := full.pg &&& ~~~(1#64 <<< 17), on := 0 }) (fun u => u.power.on = 1#64 <<< 17) := by
  decide +kernel

theorem wit_cooling_timeout : ends (exec (.coolantFaultTimeout 1) { bare faulty with now := faulty.faultMs * msTicks + 200 * msTicks - 2 }) (fun u =>
    u.power.parking && !u.clk.running && u.now = 208 * msTicks) = true := by decide +kernel

/-! ## Plan loading -/

/-- A plan with a pair for every step. -/
def steps16 : List StrokePair := (List.range 16).map (fun k => { step := k, s := 4096, f := 64 })
def plan1 : Plan := { plan0 with strokes := steps16 }

/-- The source record of a plan: from a kind of source, with the image of a slot. -/
def planBytes (kind imageSlot : Byte) : Bytes := [kind, 3] ++ natLE 2 9 ++ natLE 12 0 ++ natLE 8 4096 ++ natLE 8 0 ++ [0, 0, imageSlot] ++ natLE 13 0
def planRecord : SourceRecord := parseSource true (planBytes 1 0xFF)

/-- Loads of it over connection 9: begun, and switched. -/
def begun1 : PlanLoad := { src := some planRecord }
def loadedPlan : PlanLoad := { begun1 with plan := some plan1, phase := 2, switchAt := 9 }

/-- A module with a RoCEv2 connection, enrolled keys and a plan load in progress. -/
def planning (l : Option PlanLoad) : State := { queued qp0 with
  boot := { planned.boot with planLoad := l, plan := none }
  weights := { (queued qp0).weights with
    epoch := 1
    layout := plan1.layout }
  blobs := [(0x802001, some (List.replicate 432 1))] }

/-- The loads at their refill. -/
def again1 : PlanLoad := { begun1 with plan := some plan1, variant := some 2, phase := 4 }
def refilling1 : State := { planning (some again1) with
  boot := { (planning (some again1)).boot with plan := some plan1 }
  clk := { demo.clk with running := false } }

/-- Requests, checks and the loss variant's refill. -/
theorem wit_plans : let go := fun (i : Instr) (s : State) (p : State → Bool) => ends (exec i s) p = true
    let slotted : State := { planning none with boot := { (planning none).boot with planSlots := [(3, some plan1)] } }
    let first := (planning none).clk.stroke.toNat + max 4 ((planning none).dictNat 0x210007)
    (planBytes 1 0xFF).length = 48 ∧ planRecord.reservedSet = false ∧ planRecord.kind = 1 ∧ planRecord.slot = 3 ∧ planRecord.flags ≤ 1 ∧ planRecord.targetSlot ≤ 7 ∧
    planRecord.imageSlot = 0xFF ∧ planRecord.length = 4096 ∧ (planning none).roceTag 9 = true ∧ (planning none).weights.load = none ∧ first = 13 ∧
    (planning (some begun1)).planFault begun1 { plan1 with length := 5 } ((planning (some begun1)).planImage begun1.src) = some 1 ∧
    go (.planLoad (planBytes 1 0xFF)) (planning none) (fun u => u.istatus = 0 && u.boot.planLoad.isSome) ∧
    go (.planLoad (planBytes 0 0xFF)) slotted (fun u => u.istatus = 0 && u.boot.planLoad.isSome) ∧
    go (.planLoad (planBytes 0 0xFF)) (planning none) (fun u => u.istatus = 6) ∧ go (.planLoad (planBytes 1 2)) (planning none) (fun u => u.istatus = 6) ∧
    go (.planLoad (planBytes 1 0xFF)) (planning (some begun1)) (fun u => u.istatus = 5 && u.boot.planResult = 11) ∧
    go (.planLoad (planBytes 2 0xFF)) (planning none) (fun u => u.istatus = 3) ∧ go (.planLoad (planBytes 1 8)) (planning none) (fun u => u.istatus = 3) ∧
    go (.planLoad []) (planning none) (fun u => u.istatus = 4 && u.boot.planLoad = none) ∧
    go (.planCheckComplete none) (planning (some begun1)) (fun u => u.boot.planLoad = none && u.boot.planResult = 1) ∧
    go (.planCheckComplete (some { plan1 with length := 5 })) (planning (some begun1)) (fun u => u.boot.planLoad = none && u.boot.planResult = 1) ∧
    go .lossVariantRefillDone refilling1 (fun u => u.boot.filled_ && u.boot.staked && !u.clk.running) := by decide +kernel

/-- What a switch and a stake need. -/
def staking (p : Plan) : State := { planned with boot := { planned.boot with staked := false, plan := some p }, clk := { demo.clk with running := false } }

theorem wit_switch : let r := parseSource true (planBytes 1 2)
    let s := planning (some { loadedPlan with src := some r })
    let t : State := { s with weights := { s.weights with slots := [(2, some image0)] } }
    t.planImage (some r) = some man0 ∧ loadedPlan.variant = none ∧ loadedPlan.hit = false ∧ t.boot.plan = none := by decide +kernel

theorem wit_unfilled : let y : Load := { kind := .plan, src := some planRecord }
    let s := { planning (some loadedPlan) with weights := { (planning none).weights with load := some y } }
    y.man = none ∧ (s.boot.planLoad.bind (fun q => q.prev)) = none ∧ (unread s).manifestFault y man0 = some 1 ∧
    ends (exec (.manifestReceive none) s) (fun u => u.boot.planLoad = none && u.boot.planResult = 13 && u.weights.load = none && u.weights.result = 1) = true := by
  decide +kernel

/-- A plan load whose fill fails gives way to the plan before it (R375). -/
theorem test_restore : let q : PrevPlan := { base := plan1, variant := 0, bad := [], policyFixed := true, map := [] }
    let y : Load := { kind := .plan, src := some planRecord }
    let s := { planning (some { loadedPlan with prev := some q }) with weights := { (planning none).weights with load := some y } }
    ends (exec (.manifestReceive none) s) (fun u => (u.boot.plan.map (fun p => p.strokes)) = some plan1.strokes && u.boot.policyFixed &&
      u.boot.planResult = 13 && u.weights.load = none) = true := by decide +kernel

theorem wit_stake : (staking plan1).planRegions.all (fun q => (staking plan1).powered q && !((staking plan1).region q).loop.stop) = true ∧
    (staking plan1).highestFit plan1 = some 15 ∧ (staking plan1).pairFor {} 15 = some (4096, 64) ∧ (staking plan1).isMember = false ∧
    (staking plan1).isRoot = false ∧ (staking plan1).clk.causes = [] ∧ (staking plan1).links.pairState ≠ 4 ∧ (staking plan1).links.pairState ≠ 5 ∧
    (staking plan1).power.active = false ∧ (staking { plan1 with strokes := [] }).highestFit { plan1 with strokes := [] } = none ∧
    ends (exec .stakeBegin (staking plan1)) (fun u => u.boot.staked && u.clk.step = 15 && (match u.clk.resume with
      | some e => decide (900 + 8192 ≤ e.tick)
      | none => false)) = true ∧
    ends (exec .stakeBegin (staking { plan1 with strokes := [] })) (fun u => u.boot.staked && u.clk.causes = [7] && u.clk.resume = none) = true := by
  decide +kernel

/-! ## The recorder and the registers -/

/-- The managed state with its log, and with the recorder of region 17. -/
def logging (g : Recorder) : State := { managed with log := g }
def evring (e : RegionEvr) : State := { managed with regions := [(17, { routed with evr := e })] }

/-- A record, and a log of 4097 records, one of them not in flash. -/
def rec1 : Record := { tick := 3, code := 0x0405, region := 17, payload := [1] }
def log1 : Recorder := { newest := 4097, flushed := 4096, flushing := some 4097, ring := [(4097, { rec1 with seq := 4097 })] }

/-- An export record over connection 9. -/
def exportTo (len : Nat) : Bytes := natLE 4 9 ++ natLE 4 0 ++ natLE 8 64 ++ natLE 8 len ++ natLE 8 0

/-- Records and flushes. -/
theorem wit_recorder : let go := fun (i : Instr) (s : State) (p : State → Bool) => ends (exec i s) p = true
    let busy : State := { evring { evrQ := [rec1] } with log := { rates := [(0x0405, { recorded := 16 })] } }
    let counts : Recorder := { hist := [(31, 1), (96, 2), (255, 3)], stageCnt := [(4, 1)], extremes := [(3, some (1, 2, 3))] }
    managed.coxUp = true ∧ Table.wf {} (evring { evrQ := [rec1] }).regions = true ∧ Table.wf none (logging {}).dict = true ∧
    (logging {}).host.storeState ≠ 1 ∧ (evring {}).suppressed 0x0405 0 = false ∧ busy.suppressed 0x0405 0 = true ∧
    (Table.get {} log1.ring (log1.newest % 16384)).seq = log1.newest ∧ dueSummaries [] = [] ∧
    go (.eventRecordReceive 17) (evring { evrQ := [rec1, rec1] }) (fun u => (u.region 17).evr.evrQ = [rec1] && u.log.newest = 1 &&
      (Table.get {} u.log.ring 1) = { rec1 with seq := 1 }) ∧
    go (.eventRecordReceive 17) busy (fun u => (u.region 17).evr.evrQ = [] && u.log.newest = 0 && u.log.suppressedTotal = 1) ∧
    go (.eventRecordReceive 17) (evring { evrQ := [rec1], evrLost := 3 }) (fun u => u.log.newest = 1 && (u.region 17).evr.evrLost = 0 &&
      (u.region 17).evr.evrQ.map (fun x => (x.code, x.payload)) = [(3, natLE 8 0 ++ natLE 4 3 ++ natLE 1 3)]) ∧
    zeroField (exportTo 4096) 2 2 = true ∧ zeroField (exportTo 4096) 24 8 = true ∧ Table.wf none (queued qp0).blobs = true ∧ Table.wf 0 counts.hist = true ∧
    go (.export_ (exportTo 4096)) (queued qp0) (fun u => u.log.exportState = 1 && u.istatus = 0 && u.blob 0x503001 = exportTo 4096) ∧
    go (.export_ (exportTo 4095)) (queued qp0) (fun u => u.istatus = 3 && u.log.exportState = 0) ∧
    go (.export_ (exportTo 4096)) (logging {}) (fun u => u.istatus = 6) ∧
    go (.export_ (exportTo 4096)) { queued qp0 with host := { (queued qp0).host with storeState := 1 } } (fun u => u.istatus = 5) ∧
    go (.flush 1) (logging { newest := 7 }) (fun u => u.log.flushing = some 7 && u.istatus = 0) ∧
    go (.flushComplete true) (logging log1) (fun u => u.log.flushed = 4097 && u.log.flushing = none && Table.get {} u.log.flash 4097 = { rec1 with seq := 4097 }) ∧
    go (.flushComplete false) (logging log1) (fun u => !u.log.flashOk && u.log.flushing = some 4097) ∧
    go (.cursorWrite 8) (logging { newest := 7 }) (fun u => u.dictNat 0x502001 = 8 && u.istatus = 0) ∧
    go (.cursorWrite 1) (logging { newest := 7 }) (fun u => u.dictNat 0x502001 = 1) ∧
    go (.cursorWrite 9) (logging { newest := 7 }) (fun u => u.istatus = 3) ∧
    go (.export_ (List.replicate 32 0)) (logging { exportState := 1 }) (fun u => u.log.exportState = 0 && u.istatus = 0) ∧
    go (.histogramClear 0xFF) (logging counts) (fun u => u.log.hist = [] && u.istatus = 0) ∧
    go (.histogramClear 1) (logging counts) (fun u => u.log.hist = [(96, 2), (255, 3)]) ∧
    go (.histogramClear 8) (logging counts) (fun u => u.log.hist = [(31, 1), (96, 2)]) ∧
    go (.stageCountersClear 1) (logging counts) (fun u => u.log.stageCnt = []) ∧ go (.extremesClear 1) (logging counts) (fun u => u.log.extremes = []) ∧
    go .counterMirror { logging counts with boot := { managed.boot with standby := 2 } } (fun u => u.log.histMirror = counts.hist) ∧
    go .histogramPeriodSample { managed with power := { pg := 1#64 <<< 17 }, log := counts } (fun u => Table.get 0 u.log.hist 96 = 3 && Table.get 0 u.log.hist 128 = 4) ∧
    go (.snapshotTrigger 17 1) (evring {}) (fun u => match Table.get none (u.region 17).evr.snaps 0 with
      | some w => w.tick = 900 && w.mask = 1 && w.vals.length = 16
      | none => false) ∧
    go (.snapshotTrigger 17 0x800) (evring {}) (fun u => (Table.get none (u.region 17).evr.snaps 0).isSome) ∧
    go (.snapshotSoftwareFire 17 1) (evring {}) (fun u => (Table.get none (u.region 17).evr.snaps 0).isSome) ∧
    go (.snapshotFree 17 0x8000) (evring { snaps := [(0, some {}), (15, some {})] }) (fun u => (u.region 17).evr.snaps = [(0, some {})]) := by
  decide +kernel

/-- An interval and a flush period end: both a tick before their ms. -/
theorem wit_periods : let s := { logging { limit := 3 } with now := 1000 * msTicks - 1 }
    let t := { logging {} with now := 1000 * (logging {}).dictNat 0x500003 * msTicks - 1 }
    s.coxUp = true ∧ t.coxUp = true ∧ ends (exec .rateIntervalEnd s) (fun u => u.log.intervalStart = 1000 && u.log.limit = 16 && u.ms = 1000) = true ∧
    ends (exec .flushPeriodExpiry t) (fun u => u.log.flushing = some u.log.newest && u.ms = 1000 * (logging {}).dictNat 0x500003) = true := by decide +kernel

/-- Registers. -/
theorem wit_register_accesses : let go := fun (i : Instr) (s : State) (p : State → Bool) => ends (exec i s) p = true
    let s := looped 17 { loop := { loop0 with droops := 5, unlocks := 2, refused := true } }
    Table.wf {} s.regions = true ∧ s.powered 17 = true ∧ peekReg s 17 0xFFFFFF = none ∧
    go (.registerReadClear none 17 0x4C) { s with power := {} } (fun u => u.accessFault && u.readOut = none) ∧
    go (.registerWrite none 17 0x48 0) { s with power := {} } (fun u => u.accessFault) ∧
    go (.registerReadClear none 17 0xFFFFFF) s (fun u => u.accessFault) ∧
    go (.registerReadClear none 17 0x4C) s (fun u => u.readOut = some 5 && (u.region 17).loop.droops = 0) ∧
    go (.registerReadClear none 17 0x44) s (fun u => (u.region 17).loop.unlocks = 0 && (u.region 17).loop.refused) ∧
    go (.registerWrite none 17 0x44 0x80) s (fun u => !(u.region 17).loop.refused && (u.region 17).loop.unlocks = 2) ∧
    go (.registerWrite none 17 0x44 0x7F) s (fun u => (u.region 17).loop.refused) ∧
    go (.registerWrite none 17 0x48 0x85) s (fun u => (u.region 17).loop.thresh = 5 && (u.region 17).loop.droopEn) ∧
    go (.registerWrite none 17 0x4C 0xFFFFFFFF) s (fun u => (u.region 17).loop.droops = 5 && !u.accessFault) ∧
    go (.registerWrite none 17 0x20008 0xFFFFF) s (fun u => (u.region 17).pwr.trip = 0xFFF) := by decide +kernel

end Sys2Proof.Tests
end

/-! # Mesh arrivals at a tile (commit flits, due ticks, control flits) -/

namespace Sys2Proof.Machine

/-! ## Tiles and regions under the operations of a mesh arrival -/

section
variable (s : State) (t u : TileId) (f : Flit)

/-- A tile with a stage is not at reset, so writing it is read back in every tile table. -/
theorem State.tile_updTile_staged (g : Tile → Tile) (h : (g (s.tile t)).stage.isSome) : (s.updTile t g).tile t = g (s.tile t) :=
  s.tile_setTile_some t _ fun e => by simp [e] at h

theorem State.otherTiles_updTile (g : Tile → Tile) : OtherTiles t s (s.updTile t g) :=
  fun k hk => Table.get_put_ne _ _ _ _ k hk

theorem State.otherRegions_updClk (r : Nat) (g : RegionClk → RegionClk) : OtherRegions r s (s.updClk r g) :=
  fun q hq => Table.get_put_ne _ _ _ _ q hq

/-- Changing a tile that keeps a stage changes that tile alone, as the change says. -/
theorem State.updTile_of_staged (g : Tile → Tile) (h : (g (s.tile t)).stage.isSome) :
    OtherTiles t s (s.updTile t g) ∧ (s.updTile t g).tile t = g (s.tile t) :=
  ⟨s.otherTiles_updTile t g, s.tile_updTile_staged t g h⟩

@[simp] theorem State.updClk_tile (r : Nat) (g : RegionClk → RegionClk) : (s.updClk r g).tile u = s.tile u := rfl
@[simp] theorem State.eject_tile : (s.eject t f).tile u = s.tile u := rfl
@[simp] theorem State.eject_clk : (s.eject t f).clk = s.clk := rfl
@[simp] theorem State.eject_tiles : (s.eject t f).tiles = s.tiles := rfl
@[simp] theorem State.eject_dueTick (e : InputEntry) : (s.eject t f).dueTick e = s.dueTick e := rfl

@[simp] theorem State.trigger_tiles (r : Nat) (m : BitVec 16) : (s.trigger r m).tiles = s.tiles := by
  rw [s.trigger_only]

@[simp] theorem State.advanceTo_tiles (m : Nat) : (s.advanceTo m).tiles = s.tiles := by
  unfold State.advanceTo
  split <;> rfl

@[simp] theorem State.advanceToTick_tiles (k : Nat) : (s.advanceToTick k).tiles = s.tiles := by
  unfold State.advanceToTick
  split
  · exact s.advanceTo_tiles _
  · rfl

/-- States with the same tile table agree on every tile. -/
theorem State.tile_congr {s v : State} (h : v.tiles = s.tiles) (t : TileId) : v.tile t = s.tile t := by
  unfold State.tile
  rw [h]

/-- Marking a delivery late does nothing where it is late already; otherwise it drops the commit and adds it to the late list (R64). -/
theorem State.markLate_cases (d : BitVec 8) :
    d ∈ (s.tile t).late ∧ s.markLate t d = s ∨
      (s.markLate t d).tiles =
        (s.updTile t (fun x => { x with late := x.late ++ [d], onTime := Table.put none x.onTime d.toNat none })).tiles := by
  unfold State.markLate
  split
  next hlate => exact .inl ⟨List.contains_iff_mem.mp hlate, rfl⟩
  next => exact .inr (State.trigger_tiles ..)

/-- A delivery of a staged tile marked late is on that tile's late list, and no scratch byte and no other tile changed; `v` is the state
`s` with the flit taken from the mesh or time passed. -/
theorem State.markLate_of_staged {s v : State} (hv : v.tiles = s.tiles) (h : (s.tile t).stage.isSome) (d : BitVec 8) :
    OtherTiles t s (v.markLate t d) ∧ d ∈ ((v.markLate t d).tile t).late ∧ ((v.markLate t d).tile t).scratch = (s.tile t).scratch := by
  have hx := State.tile_congr hv t
  rcases v.markLate_cases t d with ⟨hmem, heq⟩ | heq
  · rw [heq, hx]
    exact ⟨fun k _ => by rw [hv], hx ▸ hmem, rfl⟩
  · have hupd := v.updTile_of_staged t (fun x => { x with late := x.late ++ [d], onTime := Table.put none x.onTime d.toNat none })
      (by rw [hx]; exact h)
    obtain ⟨hother, hself⟩ := hupd
    refine ⟨fun k hk => ?_, ?_⟩
    · rw [heq, hother k hk, hv]
    · rw [State.tile_congr heq, hself, hx]
      exact ⟨by simp, rfl⟩

end

/-! ## What each arrival does -/

section
variable {s : State} {t : TileId} {f : Flit} {e : InputEntry} {d : BitVec 8}

/-- R63, R64: an untainted commit by its due tick, with every data flit received, puts its row mask on the on-time table. -/
theorem execCommitFlitArrive_onTime (hkind : f.head.kind = 1) (hstage : (s.tile t).stage.isSome) (hcrc : crcOk f = true)
    (hin : inputOf (s.tile t) f.head.deliv = some e) (hstroke : f.head.stroke = s.clk.stroke.setWidth 16)
    (hlate : f.head.deliv ∉ (s.tile t).late) (hdue : s.clk.tick.toNat ≤ s.dueTick e)
    (hlines : leNat (f.body.take 4) = Table.get 0 (s.tile t).gotLines f.head.deliv.toNat)
    (hgot : Table.get false (s.tile t).gotTaint f.head.deliv.toNat = false) (htaint : f.head.taint = false) :
    execCommitFlitArrive t f s = .next (((s.eject t f).updTile t (fun x => { x with
      onTime := Table.put none x.onTime f.head.deliv.toNat (some (BitVec.ofNat 576 (leNat ((f.body.drop 8).take 72)))) })).updClk
        t.region.toNat (fun c => { c with marginNow := min c.marginNow (min 0xFFFF (s.dueTick e - s.clk.tick.toNat)) })) := by
  have hnone : (s.tile t).stage.isNone = false := by simpa using hstage
  simp [execCommitFlitArrive, hkind, hnone, hcrc, hin, hstroke, hlate, hdue, hlines, hgot, htaint]

/-- R528: a tainted commit makes its delivery late. -/
theorem execCommitFlitArrive_tainted (hkind : f.head.kind = 1) (hstage : (s.tile t).stage.isSome) (hcrc : crcOk f = true)
    (hin : inputOf (s.tile t) f.head.deliv = some e) (hstroke : f.head.stroke = s.clk.stroke.setWidth 16) (htaint : f.head.taint = true) :
    execCommitFlitArrive t f s = .next ((s.eject t f).markLate t f.head.deliv) := by
  have hnone : (s.tile t).stage.isNone = false := by simpa using hstage
  by_cases hlate : f.head.deliv ∈ (s.tile t).late <;>
    simp [execCommitFlitArrive, State.markLate, hkind, hnone, hcrc, hin, hstroke, htaint, hlate]

/-- R64: at its due tick a delivery without its commit is late. -/
theorem execDueTick_without_commit (hin : inputOf (s.tile t) d = some e) (hrun : s.clk.running = true)
    (hnone : Table.get none (s.tile t).onTime d.toNat = none) :
    execDueTick t d s = .next ((s.advanceToTick (s.dueTick e)).markLate t d) := by
  simp [execDueTick, hin, hrun, hnone]

/-- R179: the head of the waiting flits enters the control queue while it has room. -/
theorem admitCtl_single (x : Tile) (hroom : x.ctlQ.length < 16) (hwait : x.ctlWait = []) :
    admitCtl { x with ctlWait := x.ctlWait ++ [f] } = { x with ctlQ := x.ctlQ ++ [f], ctlWait := [] } := by
  obtain ⟨n, hn⟩ : ∃ n, 16 - x.ctlQ.length = n + 1 := ⟨15 - x.ctlQ.length, by omega⟩
  simp [admitCtl, hwait, hn]

/-- R179: a control flit that finds room goes from the mesh to the end of the control queue. -/
theorem execControlFlitEnqueue_room (hkind : f.head.kind = 2) (hstage : (s.tile t).stage.isSome) (hcrc : crcOk f = true)
    (hroom : (s.tile t).ctlQ.length < 16) (hwait : (s.tile t).ctlWait = []) :
    execControlFlitEnqueue t f s =
      .next ((s.eject t f).updTile t (fun x => { x with ctlQ := x.ctlQ ++ [f], ctlWait := [] })) := by
  have hnone : (s.tile t).stage.isNone = false := by simpa using hstage
  simp [execControlFlitEnqueue, State.updTile, admitCtl_single _ hroom hwait, hkind, hnone, hcrc]

end

/-- Settles O22: a commit on time writes the on-time table of its tile alone, a tainted or missing one is marked late, and a control flit
that finds room is the queue's last. -/
theorem commitAndControlFlits : Obligations.CommitAndControlFlits := by
  intro s t f e hstage _ hcrc
  refine ⟨fun hkind hin hstroke hlate hdue hlines hgot hwf htaint => ?_, fun hkind hin hstroke htaint => ?_,
    fun d hin hrun hnone => ?_, fun hkind hroom hwait => ?_⟩
  · refine ⟨_, execCommitFlitArrive_onTime hkind hstage hcrc hin hstroke (by simpa using hlate) hdue hlines hgot htaint, ?_⟩
    obtain ⟨hother, hself⟩ := (s.eject t f).updTile_of_staged t (fun x => { x with
      onTime := Table.put none x.onTime f.head.deliv.toNat (some (BitVec.ofNat 576 (leNat ((f.body.drop 8).take 72)))) }) hstage
    refine ⟨hother, State.otherRegions_updClk _ _ _, ?_⟩
    rw [State.updClk_tile, hself]
    exact ⟨rfl, Table.get_put_self _ _ _ _ hwf, rfl⟩
  · exact ⟨_, execCommitFlitArrive_tainted hkind hstage hcrc hin hstroke htaint, State.markLate_of_staged t (s.eject_tiles t f) hstage _⟩
  · exact ⟨_, execDueTick_without_commit hin hrun hnone, State.markLate_of_staged t (s.advanceToTick_tiles _) hstage _⟩
  · obtain ⟨hother, hself⟩ := (s.eject t f).updTile_of_staged t (fun x => { x with ctlQ := x.ctlQ ++ [f], ctlWait := [] }) hstage
    refine ⟨_, execControlFlitEnqueue_room hkind hstage hcrc hroom hwait, rfl, hother, ?_⟩
    rw [hself]
    exact ⟨rfl, rfl⟩

end Sys2Proof.Machine

/-! # The passing of time -/

namespace Sys2Proof.Machine

/-! ## What leaves the elapsed time alone -/

section
variable (s : State)

/-- Time passes to a moment that lies ahead, and stands otherwise (log entry 4). -/
@[simp] theorem State.advanceTo_now (m : Nat) : (s.advanceTo m).now = max s.now m := by
  unfold State.advanceTo
  split
  next h => exact (Nat.max_eq_left h).symm
  next h => exact (Nat.max_eq_right (Nat.le_of_not_le h)).symm

/-- A run of updates that each leave the time alone leaves it alone. -/
theorem State.foldl_now {α : Type} (f : State → α → State) (hf : ∀ s a, (f s a).now = s.now) (l : List α) :
    (l.foldl f s).now = s.now := by
  induction l generalizing s with
  | nil => rfl
  | cons a l ih => exact (ih (f s a)).trans (hf s a)

@[simp] theorem State.setReq_now (r : Request) : (s.setReq r).now = s.now := rfl
@[simp] theorem State.updReq_now (id : BitVec 64) (f : Request → Request) : (s.updReq id f).now = s.now := rfl
@[simp] theorem State.dropReq_now (id : BitVec 64) : (s.dropReq id).now = s.now := rfl
@[simp] theorem State.setConn_now (tag : Nat) (c : Option Conn) : (s.setConn tag c).now = s.now := rfl
@[simp] theorem State.setQp_now (n : Nat) (q : Option Qp) : (s.setQp n q).now = s.now := rfl
@[simp] theorem State.histAdd_now (h bin : Nat) : (s.histAdd h bin).now = s.now := rfl
@[simp] theorem State.withdraw_now (id : BitVec 64) : (s.withdraw id).now = s.now := rfl
@[simp] theorem State.unplan_now (id : BitVec 64) : (s.unplan id).now = s.now := rfl
@[simp] theorem State.putSlot_now (k : Nat) (v : SlotState) : (s.putSlot k v).now = s.now := rfl

theorem State.withLog_now (l : Recorder) : ({ s with log := l } : State).now = s.now := rfl

@[simp] theorem State.event_now (code region : Nat) (p : Bytes) : (s.event code region p).now = s.now := by
  obtain ⟨h, l, heq⟩ := s.event_only code region p
  rw [heq]

@[simp] theorem State.startFlush_now : s.startFlush.now = s.now := by
  obtain ⟨h, l, heq⟩ := s.startFlush_only
  rw [heq]

/-! ### Messages and connections -/

@[simp] theorem State.sendMsg_now (tag : Nat) (m : OutMsg) : (s.sendMsg tag m).now = s.now := by
  unfold State.sendMsg
  split
  · split <;> rfl
  · rfl

@[simp] theorem State.notice_now (tag : Nat) (id : BitVec 64) (turn : BitVec 16) (status detail : Nat) :
    (s.notice tag id turn status detail).now = s.now := by
  simp [State.notice]

@[simp] theorem State.sendTokens_now (r : Request) : (s.sendTokens r).now = s.now := by
  unfold State.sendTokens
  split
  · rfl
  · simp

@[simp] theorem State.sendCompletion_now (r : Request) (reason detail : Nat) (late retained : Bool) :
    (s.sendCompletion r reason detail late retained).now = s.now := by
  simp only [State.sendCompletion, State.sendMsg_now, State.count_now, State.histAdd_now]
  split <;> rfl

@[simp] theorem State.stopExport_now (tag : Nat) : (s.stopExport tag).now = s.now := by
  unfold State.stopExport
  split
  · exact State.event_now ..
  · rfl

@[simp] theorem State.detach_now (tag : Nat) : (s.detach tag).now = s.now := by
  unfold State.detach
  split
  · split
    · exact State.stopExport_now ..
    · rfl
  · rfl

/-! ### Page sets, slots and entries -/

@[simp] theorem State.releaseSet_now (n : Nat) : (s.releaseSet n).now = s.now := by
  unfold State.releaseSet
  split
  · rfl
  · dsimp only
    split <;> rfl

@[simp] theorem State.releaseSets_now (ns : List Nat) : (s.releaseSets ns).now = s.now :=
  s.foldl_now _ State.releaseSet_now ns

@[simp] theorem State.giveUpSlot_now (r : Request) (sets : List Nat) : (s.giveUpSlot r sets).now = s.now := by
  unfold State.giveUpSlot
  split
  · simp
  · split <;> simp

@[simp] theorem State.freeEntry_now (r : Request) : (s.freeEntry r).now = s.now := by
  unfold State.freeEntry
  dsimp only
  split
  · split <;> rfl
  · rfl

@[simp] theorem State.discardEntry_now (id : BitVec 64) : (s.discardEntry id).now = s.now := by
  unfold State.discardEntry
  split <;> simp

@[simp] theorem State.toFlash_now (id : BitVec 64) : (s.toFlash id).now = s.now := by
  unfold State.toFlash
  split
  · simp
  · dsimp only
    split <;> simp

@[simp] theorem State.boatFit_now (n : Nat) : (s.boatFit n).now = s.now := by
  induction n generalizing s with
  | zero => rfl
  | succ n ih =>
    unfold State.boatFit
    split
    · split <;> simp [ih]
    · split
      · split <;> simp [ih]
      · rfl

@[simp] theorem State.parkNow_now (id : BitVec 64) : (s.parkNow id).now = s.now := by
  unfold State.parkNow
  split <;> simp

@[simp] theorem State.startMove_now (id : BitVec 64) (serial : BitVec 128) : (s.startMove id serial).now = s.now := by
  unfold State.startMove
  dsimp only
  split <;> simp

@[simp] theorem State.retain_now (r : Request) : (s.retain r).now = s.now := by
  unfold State.retain
  dsimp only
  split
  · simp
  · split <;> simp

@[simp] theorem State.complete_now (id : BitVec 64) (reason detail : Nat) : (s.complete id reason detail).now = s.now := by
  unfold State.complete
  split
  · rfl
  · simp only [apply_ite State.now, State.retain_now, State.freeEntry_now, State.giveUpSlot_now, State.notice_now,
      State.sendCompletion_now, State.sendTokens_now, ite_self]

end

/-! ## The moment at which a timer's command ends

Each proof takes the branch whose condition holds and rewrites with one `_now` lemma after the other. (`simp` would apply those that hold
by `rfl` without naming them, and the kernel would then compare whole states.) -/

/-- The outcome is a next state in which `n` nominal ticks have elapsed. -/
def EndsAt (o : Host.Outcome State Fault Refusal) (n : Nat) : Prop := ∃ u, o = .next u ∧ u.now = n

theorem endsAt_next {u : State} {n : Nat} : EndsAt (.next u) n ↔ u.now = n := by
  simp [EndsAt]

section
variable {s : State}

theorem execQueueTimeout_endsAt {id : BitVec 64} {r : Request} (hr : s.req id = some r) (hqueued : r.state = .queued)
    (hlim : s.dictNat 0x301006 ≠ 0) (hhead : r.atHead = false) :
    EndsAt (execQueueTimeout id s) (max s.now (r.joined + s.dictNat 0x301006 * msTicks)) := by
  simp only [execQueueTimeout, hr]
  rw [if_neg (by simp [hqueued, hlim, hhead]), endsAt_next, State.complete_now, State.advanceTo_now]

theorem execUdpIdleTimeout_endsAt {tag : BitVec 16} {c : Conn} {ip : Nat} {port : BitVec 16} (hc : s.conn tag.toNat = some c)
    (hudp : c.endpoint = some (.udp ip port)) (hidle : s.requestsOf tag.toNat = []) :
    EndsAt (execUdpIdleTimeout tag s) (max s.now ((c.lastMs + 1000 * s.dictNat 0x300006) * msTicks)) := by
  simp only [execUdpIdleTimeout, hc, hudp]
  rw [if_neg (by simp [hidle]), endsAt_next, State.detach_now, State.advanceTo_now]

theorem execFlashTtlExpiry_endsAt {id : BitVec 64} {r : Request} {b : BoatEntry} (hr : s.req id = some r)
    (hparked : r.state = .parked) (hboat : r.boat = some b) (hflash : b.flash = true) :
    EndsAt (execFlashTtlExpiry id s) (max s.now ((b.tierMs + 1000 * s.dictNat 0x312003) * msTicks)) := by
  simp only [execFlashTtlExpiry, hr, hboat]
  rw [if_neg (by simp [hparked, hflash]), endsAt_next, State.discardEntry_now, State.advanceTo_now]

theorem execFlushPeriodExpiry_endsAt (hup : s.coxUp = true) :
    EndsAt (execFlushPeriodExpiry s) (max s.now ((s.log.lastFlush + 1000 * s.dictNat 0x500003) * msTicks)) := by
  rw [execFlushPeriodExpiry, if_neg (by simp [hup]), endsAt_next, State.startFlush_now, State.withLog_now, State.advanceTo_now]

theorem execRateIntervalEnd_endsAt (hup : s.coxUp = true) :
    EndsAt (execRateIntervalEnd s) (max s.now ((s.log.intervalStart + 1000) * msTicks)) := by
  rw [execRateIntervalEnd, if_neg (by simp [hup]), endsAt_next, State.withLog_now, State.foldl_now _ _ fun v p => v.event_now ..,
    State.advanceTo_now]

theorem execPfcStorm_endsAt {port prio : BitVec 3} (hpaused : (s.port port.toNat).paused.getLsbD prio.toNat = true) :
    EndsAt (execPfcStorm port prio s)
      (max s.now (Table.get 0 (s.port port.toNat).pausedAt prio.toNat + s.dictNat 0x118005 * msTicks)) := by
  simp only [execPfcStorm]
  rw [if_neg (by simp [hpaused]), endsAt_next, State.event_now, State.updPort_now, State.advanceTo_now]

theorem execPfcStormClear_endsAt {port prio : BitVec 3} (hstorm : (s.port port.toNat).storm.getLsbD prio.toNat = true) :
    EndsAt (execPfcStormClear port prio s)
      (max s.now (Table.get 0 (s.port port.toNat).lastPause prio.toNat + s.dictNat 0x118005 * msTicks)) := by
  simp only [execPfcStormClear]
  rw [if_neg (by simp [hstorm]), endsAt_next, State.updPort_now, State.advanceTo_now]

theorem execRateIncrease_endsAt {n : Nat} {q : Qp} (hq : s.qp n = some q) (hrate : q.rate < lineRate q.port (s.port q.port).state) :
    EndsAt (execRateIncrease n s) (max s.now (q.cnpAt + usTicks (s.dictNat 0x118007))) := by
  simp only [execRateIncrease, hq]
  rw [if_neg (Nat.not_le.mpr hrate), endsAt_next, State.setQp_now, State.advanceTo_now]

theorem execClassAging_endsAt {id : BitVec 64} {r : Request} (hr : s.req id = some r) (hqueued : r.state = .queued)
    (hage : s.dictNat 0x301005 ≠ 0) (hcls : r.cls ≠ 0) :
    EndsAt (execClassAging id s) (max s.now ((r.clsMs + s.dictNat 0x301005) * msTicks)) := by
  simp only [execClassAging, hr]
  rw [if_neg (by simp [hqueued, hage, hcls]), endsAt_next, State.setReq_now, State.advanceTo_now]

theorem execTrainingTimeout_endsAt {k : BitVec 7} (htraining : (s.link k.toNat).state = 1) :
    EndsAt (execTrainingTimeout k s) (max s.now (((s.link k.toNat).trainMs +
      if ((s.blob 0x600002).getD k.toNat 0).toNat = 2 then 200 else 100) * msTicks)) := by
  simp only [execTrainingTimeout]
  rw [if_neg (by simp [htraining]), endsAt_next, State.updLink_now, State.advanceTo_now]

theorem execPartnerHoldExpiry_endsAt {serial : BitVec 128} {p : Partner}
    (hp : s.links.partners.find? (fun p => p.hail.serial = serial) = some p) (hlost : p.state = .lost) (hlinks : p.links = 0) :
    EndsAt (execPartnerHoldExpiry serial s) (max s.now ((p.lostMs + s.dictNat 0x601003) * msTicks)) := by
  simp only [execPartnerHoldExpiry, hp]
  rw [if_neg (by simp [hlost, hlinks]), endsAt_next, State.updLinks_now, State.advanceTo_now]

/-- One idle tick moves the tick count where it advances, and nothing else but the elapsed time (R55, log entry 1). -/
theorem State.idleTick_eq (s : State) : s.idleTick =
    { s with now := s.now + 1, clk := { s.clk with tick := if s.clk.ticking then s.clk.tick + 1 else s.clk.tick } } := by
  simp [State.idleTick, State.advanceTo]

theorem step_idle (h : s.pending = []) : step s = .next s.idleTick := by
  simp [step, h]

end

/-- Settles O2: an idle step is one idle tick, and each timer's command passes time to its deadline before an update that leaves the time
alone. -/
theorem idleStepPassesOneTick : Obligations.IdleStepPassesOneTick := by
  intro s
  refine ⟨fun hidle => ⟨_, step_idle hidle, ?_⟩, fun _ _ => execQueueTimeout_endsAt, fun _ _ _ _ => execUdpIdleTimeout_endsAt,
    fun _ _ _ => execFlashTtlExpiry_endsAt, execFlushPeriodExpiry_endsAt, execRateIntervalEnd_endsAt,
    fun _ _ => ⟨execPfcStorm_endsAt, execPfcStormClear_endsAt⟩, fun _ _ => execRateIncrease_endsAt,
    fun _ _ => execClassAging_endsAt, fun _ => execTrainingTimeout_endsAt, fun _ _ => execPartnerHoldExpiry_endsAt⟩
  rw [s.idleTick_eq]
  exact ⟨rfl, rfl, rfl⟩

end Sys2Proof.Machine

/-! # Right after reset -/

namespace Sys2Proof.Machine

theorem State.reset_tile (t : TileId) : State.reset.tile t = {} := rfl

theorem State.reset_region (r : Nat) : State.reset.region r = {} := rfl

theorem State.reset_powered (r : Nat) : State.reset.powered r = false :=
  BitVec.getLsbD_zero

/-- Settles O3: every table is empty at reset, so a tile, a region or a byte reads as its own reset value. -/
theorem resetState : Obligations.ResetState := by
  refine ⟨rfl, rfl, rfl, State.reset_powered, fun t => ?_, fun t a => ?_, fun _ => rfl, rfl, fun r => ?_, rfl, rfl⟩
  · rw [State.reset_tile]
    exact ⟨rfl, rfl⟩
  · rw [State.reset_tile]
    rfl
  · rw [State.reset_region]
    exact ⟨rfl, rfl⟩

end Sys2Proof.Machine

/-! # Canonical data

Every command of a tile's program, and every write of a result, of a landed line or of a gathered line, is made of changes of one tile,
changes of one region and stores to the tiers. Each of these keeps the canonical form, provided that what it makes of the tile does; so the
development goes through the model's operations in the order of their definitions, first on a tile, then on the state. -/

namespace Sys2Proof

/-! ## Tables -/

section
variable {α : Type} (d : α)

theorem Table.wf_foldl_put [DecidableEq α] {β : Type} (key : β → Nat) (val : β → α) (l : List β) {t : Table α}
    (h : Table.wf d t = true) : Table.wf d (l.foldl (fun m b => Table.put d m (key b) (val b)) t) = true := by
  induction l generalizing t with
  | nil => exact h
  | cons b l ih => exact ih (Table.wf_put d t _ _ h)

/-- What holds of every listed value and of the default holds of every value read. -/
theorem Table.get_of_all {p : α → Prop} {t : Table α} (hd : p d) (h : ∀ e ∈ t, p e.2) (k : Nat) : p (Table.get d t k) := by
  induction t with
  | nil => exact hd
  | cons e t ih =>
    simp only [Table.get]
    split
    · exact h e (by simp)
    · exact ih fun e' he' => h e' (by simp [he'])

/-- What holds of every listed value holds of them after one more is put. -/
theorem Table.all_put [DecidableEq α] {p : α → Prop} {t : Table α} (h : ∀ e ∈ t, p e.2) (k : Nat) {v : α} (hv : p v) :
    ∀ e ∈ Table.put d t k v, p e.2 := by
  induction t with
  | nil =>
    simp only [Table.put]
    split <;> simp [hv]
  | cons e t ih =>
    obtain ⟨k', v'⟩ := e
    simp only [List.forall_mem_cons] at h
    obtain ⟨hv', ht⟩ := h
    simp only [Table.put]
    split
    · split <;> simp [hv, hv'] <;> exact fun a b hab => ht (a, b) hab
    · split
      · split <;> simp [hv] <;> exact fun a b hab => ht (a, b) hab
      · simp only [List.forall_mem_cons]
        exact ⟨hv', ih ht⟩

end

namespace Machine

/-! ## Canonical tiles -/

/-- The tables of a tile that `Tile.canon` speaks of, by name. -/
structure Tile.Canonical (x : Tile) : Prop where
  scratch : Table.wf 0 x.scratch = true
  chk : Table.wf 0 x.chk = true
  pageChk : Table.wf 0 x.pageChk = true
  linePoison : Table.wf false x.linePoison = true
  lostLine : Table.wf false x.lostLine = true
  s : Table.wf 0 x.s = true
  p : Table.wf false x.p = true
  v : Table.wf {} x.v = true
  acc : Table.wf {} x.acc = true
  opbuf : Table.wf {} x.opbuf = true
  bankSets : Table.wf noBanks x.bankSets = true
  gtag : Table.wf {} x.gtag = true
  scrub : Table.wf {} x.scrub = true
  remap : Table.wf 0 x.remap = true
  cacheDir : Table.wf {} x.cacheDir = true
  progChk : Table.wf none x.progChk = true

theorem Tile.canon_iff (x : Tile) : x.canon = true ↔ x.Canonical := by
  simp only [Tile.canon, Bool.and_eq_true, and_assoc]
  constructor
  · rintro ⟨scratch, chk, pageChk, linePoison, lostLine, s, p, v, acc, opbuf, bankSets, gtag, scrub, remap, cacheDir, progChk⟩
    exact { scratch, chk, pageChk, linePoison, lostLine, s, p, v, acc, opbuf, bankSets, gtag, scrub, remap, cacheDir, progChk }
  · intro h
    exact ⟨h.scratch, h.chk, h.pageChk, h.linePoison, h.lostLine, h.s, h.p, h.v, h.acc, h.opbuf, h.bankSets, h.gtag, h.scrub, h.remap,
      h.cacheDir, h.progChk⟩

theorem Tile.Canonical.reset : ({} : Tile).Canonical := (Tile.canon_iff _).mp rfl

theorem Tile.Canonical.ite {c : Prop} [Decidable c] {x y : Tile} (hx : x.Canonical) (hy : y.Canonical) :
    (if c then x else y).Canonical := by
  split <;> assumption

theorem Tile.Canonical.foldl {β : Type} {f : Tile → β → Tile} (hf : ∀ x b, x.Canonical → (f x b).Canonical) (l : List β) {x : Tile}
    (h : x.Canonical) : (l.foldl f x).Canonical := by
  induction l generalizing x with
  | nil => exact h
  | cons b l ih => exact ih (hf x b h)

section
variable {x : Tile} (h : x.Canonical)
include h

theorem Tile.Canonical.setRawWord (line w : Nat) (d : BitVec 256) (c : BitVec 10) : (setRawWord x line w d c).Canonical := by
  have hchk : Table.wf 0 (Table.put 0 x.chk (physBase x line / 32 + w) c) = true := Table.wf_put _ _ _ _ h.chk
  have hscratch := setRawWord_scratch_wf x line w d c h.scratch
  unfold Machine.setRawWord at hscratch ⊢
  exact { h with scratch := hscratch, chk := hchk }

theorem Tile.Canonical.updScrub (bank : Nat) (f : Scrub → Scrub) : (x.updScrub bank f).Canonical :=
  { h with scrub := Table.wf_put _ _ _ _ h.scrub }

theorem Tile.Canonical.setPageCheck (bank page : Nat) (c : BitVec 256) : (x.setPageCheck bank page c).Canonical :=
  { h with pageChk := Table.wf_put _ _ _ _ h.pageChk }

theorem Tile.Canonical.markPoison (line : Nat) (b : Bool) :
    ({ x with linePoison := Table.put false x.linePoison line b } : Tile).Canonical :=
  { h with linePoison := Table.wf_put _ _ _ _ h.linePoison }

theorem Tile.Canonical.writeWord (line w : Nat) (d : BitVec 256) : (writeWord x line w d).Canonical :=
  have stored := h.setRawWord line w d (checkBits d)
  have checked := stored.setPageCheck (bankOf line) (pageOf line) _
  .ite stored (.ite (stored.updScrub _ _) (.ite (checked.updScrub _ _) checked))

theorem Tile.Canonical.writeLine (line : Nat) (bs : Bytes) (poison : Bool) : (writeLine x line bs poison).Canonical := by
  unfold Machine.writeLine
  extract_lets ws words cancelled
  have hwords : words.Canonical := Tile.Canonical.foldl (fun _ _ hx => hx.writeWord _ _ _) _ h
  have hcancelled : cancelled.Canonical := hwords.updScrub _ _
  clear_value cancelled
  exact { hcancelled with
    linePoison := Table.wf_put _ _ _ _ hcancelled.linePoison
    lostLine := Table.wf_put _ _ _ _ hcancelled.lostLine }

theorem Tile.Canonical.setSreg (n : Nat) (v : Word) : (setSreg x n v).Canonical :=
  .ite h { h with s := Table.wf_put _ _ _ _ h.s }

theorem Tile.Canonical.setPreg (n : Nat) (v : Bool) : (setPreg x n v).Canonical :=
  .ite h { h with p := Table.wf_put _ _ _ _ h.p }

theorem Tile.Canonical.closeBundle (target : Option Nat) : (closeBundle x target).Canonical :=
  .ite { h with } { h with }

theorem Tile.Canonical.fillBlock (n : Nat) : (fillBlock n x).Canonical := by
  induction n generalizing x with
  | zero => exact h
  | succ n ih =>
    unfold Machine.fillBlock
    refine .ite h ?_
    split
    · exact h
    · exact .ite (ih { h with }) { h with }

theorem Tile.Canonical.setCacheLine (way set : Nat) (c : CacheLine) : (setCacheLine x way set c).Canonical :=
  { h with cacheDir := Table.wf_put _ _ _ _ h.cacheDir }

theorem Tile.Canonical.markPoisonList {β : Type} (key : β → Nat) (l : List β) :
    ({ x with linePoison := l.foldl (fun m i => Table.put false m (key i) true) x.linePoison } : Tile).Canonical :=
  { h with linePoison := Table.wf_foldl_put false key (fun _ => true) l h.linePoison }

theorem Tile.Canonical.loseLines (first : Nat) (l : List Nat) :
    ({ x with lostLine := l.foldl (fun m i => Table.put false m (first + i) true) x.lostLine } : Tile).Canonical :=
  { h with lostLine := Table.wf_foldl_put false (fun i => first + i) (fun _ => true) l h.lostLine }

theorem Tile.Canonical.holdUnless (hold : Hold) (c : Bool) : (holdUnless x hold c).Canonical :=
  .ite h { h with }

theorem Tile.Canonical.markPack (executes : Bool) (fmt : Nat) (xs : List (Word × Bool)) (burst : Bytes) :
    (markPack x executes fmt xs burst).Canonical :=
  .ite { h with } { h with }

theorem Tile.Canonical.putGather (k : Nat) (g : Gather) : ({ x with gtag := Table.put {} x.gtag k g } : Tile).Canonical :=
  { h with gtag := Table.wf_put _ _ _ _ h.gtag }

end

/-! ## Canonical states -/

/-- The tables that `State.canon` speaks of, by name. -/
structure State.Canonical (s : State) : Prop where
  tiles : Table.wf {} s.tiles = true
  regions : Table.wf {} s.regions = true
  mem : Table.wf 0 s.tier.mem = true
  each : ∀ e ∈ s.tiles, (e.2 : Tile).Canonical

theorem State.canon_iff (s : State) : s.canon = true ↔ s.Canonical := by
  simp only [State.canon, Bool.and_eq_true, List.all_eq_true, Tile.canon_iff, and_assoc]
  constructor
  · rintro ⟨tiles, regions, mem, each⟩
    exact { tiles, regions, mem, each }
  · intro h
    exact ⟨h.tiles, h.regions, h.mem, h.each⟩

theorem State.Canonical.ite {c : Prop} [Decidable c] {s u : State} (hs : s.Canonical) (hu : u.Canonical) :
    (if c then s else u).Canonical := by
  split <;> assumption

theorem State.Canonical.ite_fst {β : Type} {c : Prop} [Decidable c] {p q : State × β} (hp : p.1.Canonical)
    (hq : q.1.Canonical) : (if c then p else q).1.Canonical := by
  split <;> assumption

theorem State.Canonical.foldl {β : Type} {f : State → β → State} (hf : ∀ s b, s.Canonical → (f s b).Canonical) (l : List β)
    {s : State} (h : s.Canonical) : (l.foldl f s).Canonical := by
  induction l generalizing s with
  | nil => exact h
  | cons b l ih => exact ih (hf s b h)

theorem State.Canonical.foldl_fst {β γ : Type} {f : State × γ → β → State × γ}
    (hf : ∀ p b, p.1.Canonical → (f p b).1.Canonical) (l : List β) {p : State × γ} (h : p.1.Canonical) :
    (l.foldl f p).1.Canonical := by
  induction l generalizing p with
  | nil => exact h
  | cons b l ih => exact ih (hf p b h)

section
variable {s : State} (h : s.Canonical)
include h

/-! ### The three ways a command changes canonical data -/

theorem State.Canonical.tile (t : TileId) : (s.tile t).Canonical :=
  Table.get_of_all (p := Tile.Canonical) _ .reset h.each _

theorem State.Canonical.updTile (t : TileId) {f : Tile → Tile} (hf : ∀ x : Tile, x.Canonical → (f x).Canonical) :
    (s.updTile t f).Canonical :=
  { h with
    tiles := Table.wf_put _ _ _ _ h.tiles
    each := Table.all_put (p := Tile.Canonical) _ h.each _ (hf _ (h.tile t)) }

theorem State.Canonical.updRegion (r : Nat) (f : Region → Region) : (s.updRegion r f).Canonical :=
  { h with regions := Table.wf_put _ _ _ _ h.regions }

theorem State.Canonical.updClk (r : Nat) (f : RegionClk → RegionClk) : (s.updClk r f).Canonical := h.updRegion r _

theorem State.Canonical.updEcc (r : Nat) (f : RegionEcc → RegionEcc) : (s.updEcc r f).Canonical := h.updRegion r _

theorem State.Canonical.updEvr (r : Nat) (f : RegionEvr → RegionEvr) : (s.updEvr r f).Canonical := h.updRegion r _

theorem State.Canonical.updMesh (r : Nat) (f : RegionMesh → RegionMesh) : (s.updMesh r f).Canonical := h.updRegion r _

theorem State.Canonical.tierStore (a : Nat) (bs : Bytes) : (s.tierStore a bs).Canonical :=
  { h with mem := Table.wf_putList _ _ _ _ h.mem }

/-! ### Events, snapshots, stored-data protection -/

theorem State.Canonical.count (key n : Nat) : (s.count key n).Canonical := { h with }

theorem State.Canonical.regionEvent (r code : Nat) (p : Bytes) : (s.regionEvent r code p).Canonical := by
  unfold State.regionEvent
  exact h.updEvr _ _

theorem State.Canonical.trigger (r : Nat) (m : BitVec 16) : (s.trigger r m).Canonical := by
  unfold State.trigger
  dsimp only
  refine .ite h ?_
  split
  · exact h.updEvr _ _
  · split
    · exact (h.updEvr _ _).regionEvent _ _ _
    · exact (h.updEvr _ _).regionEvent _ _ _

theorem State.Canonical.withhold (t : TileId) : (s.withhold t).Canonical := by
  unfold State.withhold
  refine .ite h (.trigger (h.updTile t ?_) _ _)
  exact fun _ hx => { hx with }

theorem State.Canonical.bucket (r n : Nat) : (s.bucket r n).Canonical := by
  induction n generalizing s with
  | zero => exact h
  | succ n ih =>
    exact ih (.ite (.trigger (.regionEvent (.count (h.updEcc _ _) _ _) _ _ _) _ _) (h.updEcc _ _))

theorem State.Canonical.reopenPage (q : Request) : (s.reopenPage q).Canonical := { h with }

theorem State.Canonical.stagingLost : s.stagingLost.Canonical := by
  unfold State.stagingLost
  split
  · exact h
  · refine .ite h ?_
    have reopened := State.Canonical.foldl (β := Request × Nat) (f := fun (u : State) r =>
      if (Config.freeBits s.free).getLsbD (r.2 % 512) then u.reopenPage r.1 else u)
      (fun u r hu => .ite (hu.reopenPage r.1) hu) (s.serve.t.reqs.filter (fun r => r.active)).zipIdx h
    exact { reopened with }

theorem State.Canonical.useBackground (t : TileId) (bank : Nat) : (s.useBackground t bank).Canonical :=
  h.updTile t fun _ hx => { hx with }

theorem State.Canonical.updScrub (t : TileId) (bank : Nat) (f : Scrub → Scrub) : (s.updTile t (fun x => x.updScrub bank f)).Canonical :=
  h.updTile t fun _ hx => hx.updScrub _ _

theorem State.Canonical.losePage (t : TileId) (bank page : Nat) : (s.losePage t bank page).Canonical := by
  unfold State.losePage
  extract_lets r lost role counted1 counted2 told fired
  have hlost : lost.Canonical := h.updTile t fun _ hx => ((hx.setPageCheck bank page _).updScrub bank _).loseLines _ _
  have hfired : fired.Canonical := (((hlost.updEcc r _).count 0x702002 1).regionEvent r 0x0401 _).trigger r (trig 4)
  clear_value fired role
  cases role with
  | weights => exact { hfired with }
  | staging => exact hfired.stagingLost
  | unused | other => exact hfired

theorem State.Canonical.queueRebuild (t : TileId) (bank page : Nat) (words : List Nat) : (s.queueRebuild t bank page words).Canonical := by
  unfold State.queueRebuild
  refine .ite h ?_
  split
  · exact h.updScrub t _ _
  · exact .ite (h.updScrub t _ _) (h.losePage t bank page)

theorem State.Canonical.readEffects (t : TileId) (line : Nat) (o : LineRead) : (s.readEffects t line o).Canonical := by
  have corrected : (if o.fixed = [] then s else
      (s.updTile t (fun x => x.updScrub (bankOf line) (fun q =>
        if q.rewrite.contains (line % 1024) then q else { q with rewrite := q.rewrite ++ [line % 1024] }))).bucket
          t.region.toNat o.fixed.length).Canonical := .ite h ((h.updScrub t _ _).bucket _ _)
  exact .ite corrected (corrected.queueRebuild _ _ _ _)

theorem State.Canonical.unserved (t : TileId) : (s.unserved t).Canonical := by
  refine .withhold (h.updTile t ?_) t
  exact fun _ hx => { hx with }

theorem State.Canonical.schedRead (t : TileId) (line : Nat) : (s.schedRead t line).1.Canonical := by
  have read := h.readEffects t line (lineRead (s.tile t) line)
  unfold State.schedRead
  exact .ite_fst (h.unserved t) (.ite_fst (read.unserved t) read)

theorem State.Canonical.schedWrite (t : TileId) (line : Nat) (bs : Bytes) (poison : Bool) : (s.schedWrite t line bs poison).Canonical := by
  have held : (if poison then s.withhold t else s).Canonical := .ite (h.withhold t) h
  unfold State.schedWrite
  exact .ite (held.withhold t) (.ite held (held.updTile t fun _ hx => hx.writeLine _ _ _))

/-! ### Issue -/

theorem State.Canonical.umpireAt (t : TileId) (kind slot res pc other detail : Nat) :
    (s.umpireAt t kind slot res pc other detail).Canonical := by
  unfold State.umpireAt
  exact .ite (((h.updClk _ _).regionEvent _ _ _).trigger _ _) h

theorem State.Canonical.umpire (t : TileId) (kind slot res other detail : Nat) : (s.umpire t kind slot res other detail).Canonical :=
  h.umpireAt t kind slot res _ other detail

theorem State.Canonical.useRes (t : TileId) (slot : Slot) (res : Nat) : (s.useRes t slot res).1.Canonical := by
  unfold State.useRes
  dsimp only
  split
  · exact h.umpire _ _ _ _ _ _
  · dsimp only
    exact h.updTile t fun _ hx => { hx with }

theorem State.Canonical.useBank (t : TileId) (slot : Slot) (bank : Nat) : (s.useBank t slot bank).1.Canonical := by
  unfold State.useBank
  dsimp only
  split
  · refine .withhold (.updTile (h.umpire _ _ _ _ _ _) t ?_) t
    exact fun _ hx => { hx with }
  · dsimp only
    exact h.updTile t fun _ hx => { hx with }

theorem State.Canonical.staleRead (t : TileId) (slot : Slot) (d : Dest) (res : Nat) : (s.staleRead t slot d res).Canonical := by
  unfold State.staleRead
  dsimp only
  split
  · exact h.umpire _ _ _ _ _ _
  · exact h

theorem State.Canonical.consume (t : TileId) (poison : Bool) : (s.consume t poison).Canonical := .ite (h.withhold t) h

theorem State.Canonical.launch (t : TileId) (slot : Slot) (lat : Nat) (d : Dest) (v : ResultValue) : (s.launch t slot lat d v).Canonical :=
  h.updTile t fun _ hx => { hx with }

theorem State.Canonical.useFree (n : Nat) : (s.useFree n).Canonical := { h with }

theorem State.Canonical.portUse (t : TileId) (slot : Slot) (port line : Nat) :
    (if (s.useRes t slot port).2 then (s.useRes t slot port).1.useBank t slot (bankOf line)
      else ((s.useRes t slot port).1, false)).1.Canonical := by
  have port := h.useRes t slot port
  exact .ite_fst (port.useBank t slot _) port

theorem State.Canonical.portRead (t : TileId) (slot : Slot) (port line : Nat) : (s.portRead t slot port line).1.Canonical := by
  have bank := (h.portUse t slot port line).staleRead t slot (.scratch (BitVec.ofNat 15 line)) (0x8000 + line)
  unfold State.portRead
  exact .ite_fst (bank.schedRead t line) (bank.unserved t)

theorem State.Canonical.portStore (t : TileId) (slot : Slot) (lat line : Nat) (bs : Bytes) (poison : Bool) :
    (s.portStore t slot lat line bs poison).Canonical := by
  have bank := h.portUse t slot 0x20 line
  unfold State.portStore
  exact .ite (bank.launch _ _ _ _ _) (bank.withhold t)

theorem State.Canonical.rotGap (t : TileId) : (s.rotGap t).Canonical := by
  unfold State.rotGap
  split
  · refine .ite h (.updTile (h.umpireAt _ _ _ _ _ _ _) t ?_)
    exact fun _ hx => { hx with }
  · exact h

theorem State.Canonical.closeBundle (t : TileId) (target : Option Nat) : (s.updTile t (fun x => closeBundle x target)).Canonical :=
  h.updTile t fun _ hx => hx.closeBundle _

theorem State.Canonical.fetchFault (t : TileId) : (s.fetchFault t).Canonical := by
  refine .withhold (h.updTile t ?_) t
  exact fun _ hx => { hx with }

theorem State.Canonical.slotRun {t : TileId} {pred : Nat} {f : State → State} (hf : (f s).Canonical) : (slotRun s t pred f).Canonical :=
  .ite hf h

theorem State.Canonical.ctlRun (t : TileId) {f : Tile → Tile} (target : Tile → Option Nat)
    (hf : ∀ x : Tile, x.Canonical → (f x).Canonical) : (ctlRun s t f target).Canonical := by
  have gap := h.rotGap t
  unfold Machine.ctlRun
  exact .ite h (.ite ((gap.fetchFault t).closeBundle t none) (gap.updTile t fun x hx => (hf x hx).closeBundle _))

theorem State.Canonical.fill (t : TileId) : (s.fill t).Canonical :=
  (h.updTile t fun _ hx => hx.fillBlock _).consume t _

/-! ### Results -/

theorem State.Canonical.writeOther (t : TileId) (p : Pending) : (s.writeOther t p).Canonical := by
  unfold State.writeOther
  split
  · exact (h.consume t _).updTile t fun _ hx => { hx with acc := Table.wf_put _ _ _ _ hx.acc }
  · exact h.updTile t fun _ hx => { hx with acc := Table.wf_put _ _ _ _ hx.acc }
  · exact h.updTile t fun _ hx => { hx with opbuf := Table.wf_put _ _ _ _ hx.opbuf }
  · refine .fill (h.updTile t ?_) t
    exact fun _ hx => { hx with }
  · exact h.schedWrite t _ _ _
  · exact h.updTile t fun _ hx => { hx with }
  · exact h.updTile t fun _ hx => .ite { hx with } hx
  · exact h

theorem State.Canonical.putVreg (t : TileId) (d : Nat) (g : Tile → VReg) :
    (s.updTile t (fun x => { x with v := Table.put {} x.v d (g x) })).Canonical :=
  h.updTile t fun _ hx => { hx with v := Table.wf_put _ _ _ _ hx.v }

theorem State.Canonical.writeVregs (t : TileId) (served : List (Nat × Nat)) (ps : List Pending) : (s.writeVregs t served ps).Canonical := by
  induction ps generalizing s served with
  | nil => exact h
  | cons p ps ih =>
    unfold State.writeVregs
    split
    · dsimp only
      split
      · exact ih ((h.putVreg t _ _).umpireAt _ _ _ _ _ _ _) _
      · split
        · exact ih ((h.putVreg t _ _).umpireAt _ _ _ _ _ _ _) _
        · exact ih (h.putVreg t _ _) _
    · exact ih h _

/-! ### The mesh port -/

theorem State.Canonical.inject (f : Flit) : (s.inject f).Canonical := by
  unfold State.inject
  exact .ite (h.updMesh _ _) { h with }

theorem State.Canonical.sendFlit (t : TileId) (f : Flit) : (s.sendFlit t f).Canonical := by
  refine .ite (h.inject f) (h.updTile t ?_)
  exact fun _ hx => { hx with }

theorem State.Canonical.sendData (t : TileId) (entry sr : Nat) (bs : Bytes) (poison : Bool) :
    (s.sendData t entry sr bs poison).Canonical := by
  unfold State.sendData
  refine .ite (h.umpire _ _ _ _ _ _) (.sendFlit (h.updTile t ?_) t _)
  exact fun _ hx => { hx with }

/-! ### The cache -/

theorem State.Canonical.cacheReturn (t : TileId) (q : CacheReq) (d : Option Bytes) : (s.cacheReturn t q d).Canonical :=
  h.updTile t fun x hx => by
    split
    · exact { hx with }
    · exact { hx with }

theorem State.Canonical.cacheMiss (t : TileId) (q : CacheReq) : (s.cacheMiss t q).Canonical := by
  have counted : (s.updTile t (fun x => { x with misses := satAdd x.misses 1 })).Canonical :=
    h.updTile t fun _ hx => { hx with }
  unfold State.cacheMiss
  dsimp only
  split
  · refine .ite (counted.updTile t ?_) (counted.tierStore _ _)
    exact fun _ hx => { hx with }
  · exact counted.updTile t fun _ hx => { hx with }

theorem State.Canonical.setCacheLine (t : TileId) (way set : Nat) (c : CacheLine) :
    (s.updTile t (fun x => setCacheLine x way set c)).Canonical :=
  h.updTile t fun _ hx => hx.setCacheLine _ _ _

/-- A line in error leaves the cache: a dirty one is lost, a clean one is asked for again (R158). -/
theorem State.Canonical.dropCacheLine (t : TileId) (way set : Nat) (dirty : Bool) (q : CacheReq) :
    (if dirty then ((s.updTile t (fun x => Machine.setCacheLine x way set {})).updTile t
        (fun x => { x with cacheLost := true })).cacheReturn t q none
      else (s.updTile t (fun x => Machine.setCacheLine x way set {})).cacheMiss t q).Canonical := by
  have dropped := h.setCacheLine t way set {}
  refine .ite (.cacheReturn (dropped.updTile t ?_) t q none) (dropped.cacheMiss t q)
  exact fun _ hx => { hx with }

theorem State.Canonical.cacheServeHit (t : TileId) (way : Nat) (q : CacheReq) : (s.cacheServeHit t way q).Canonical := by
  have read := h.readEffects t (cacheScratch way (cacheSet q.addr)) (lineRead (s.tile t) (cacheScratch way (cacheSet q.addr)))
  unfold State.cacheServeHit
  dsimp only
  split
  next bs _ =>
    have part := State.Canonical.ite (c := decide (bs.length < 128) = true) read h
    exact .ite (part.dropCacheLine t way _ _ q) (part.updTile t fun _ hx => (hx.writeLine _ _ _).setCacheLine _ _ _)
  · exact .ite (read.cacheReturn t q _) (read.dropCacheLine t way _ _ q)

theorem State.Canonical.cacheServe (t : TileId) (q : CacheReq) : (s.cacheServe t q).Canonical := by
  unfold State.cacheServe
  refine .ite (h.cacheReturn t q none) (.ite (h.updTile t ?_) ?_)
  · exact fun _ hx => { hx with }
  split
  · exact h.cacheServeHit t _ q
  · exact h.cacheMiss t q

end

/-! ### The commands -/

/-- Whatever state a command answers with is canonical. -/
def KeepsCanonical (o : Host.Outcome State Fault Refusal) : Prop := ∀ u, o = .next u → u.Canonical

theorem KeepsCanonical.ite {c : Prop} [Decidable c] {o p : Host.Outcome State Fault Refusal} (ho : KeepsCanonical o)
    (hp : KeepsCanonical p) : KeepsCanonical (if c then o else p) := by
  split <;> assumption

section
variable {s : State} (h : s.Canonical)
include h

theorem State.Canonical.keeps : KeepsCanonical (.next s) := by
  rintro u ⟨⟩
  exact h

/-- An instruction of a slot keeps the canonical form where what it does when it runs keeps it. -/
theorem State.Canonical.slotKeeps {t : TileId} {pred : Nat} {f : State → State} (hf : (f s).Canonical) :
    KeepsCanonical (.next (Machine.slotRun s t pred f)) :=
  (h.slotRun hf).keeps

variable (t : TileId)

/-! #### CTL -/

theorem State.Canonical.ctlKeeps {f : Tile → Tile} (target : Tile → Option Nat)
    (hf : ∀ x : Tile, x.Canonical → (f x).Canonical) :
    KeepsCanonical (.next (Machine.ctlRun s t f target)) :=
  (h.ctlRun t target hf).keeps

theorem State.Canonical.scalarKeeps (d : Nat) (f : Tile → Word) (target : Tile → Option Nat) :
    KeepsCanonical (.next (Machine.ctlRun s t (fun x => setSreg x d (f x)) target)) :=
  h.ctlKeeps t target fun _ hx => hx.setSreg _ _

theorem execNop_keepsCanonical (slot : Slot) (op : BitVec 6) : KeepsCanonical (execNop t slot op false s) := by
  have hkept : execNop t slot op false s =
      .next (if issuing s t && decide (slot = .ctl) then ctlRun s t id (fun _ => none) else s) := by
    by_cases hissue : issuing s t = true <;> by_cases hslot : slot = .ctl <;> simp [execNop, hissue, hslot]
  rw [hkept]
  exact (State.Canonical.ite (h.ctlRun t _ fun _ hx => hx) h).keeps

theorem execWaitc_keepsCanonical (a : BitVec 4) (imm : BitVec 22) : KeepsCanonical (execWaitc t a imm s) := by
  unfold execWaitc
  exact .ite ((h.rotGap t).updTile t fun _ hx => (hx.closeBundle none).holdUnless _ _).keeps (h.ctlKeeps t _ fun _ hx => hx)

theorem State.Canonical.gatherMissed (g : Nat) : (s.gatherMissed t g).Canonical := by
  unfold State.gatherMissed
  exact (h.updTile t fun x hx => hx.markPoisonList _ _).withhold t

theorem execWaitg_keepsCanonical (a : BitVec 4) (imm : BitVec 22) : KeepsCanonical (execWaitg t a imm s) := by
  have closed := (h.rotGap t).closeBundle t none
  unfold execWaitg
  refine .ite (.ite closed.keeps (.ite (closed.gatherMissed t _).keeps (closed.updTile t ?_).keeps)) (h.ctlKeeps t _ fun _ hx => hx)
  exact fun _ hx => { hx with }

theorem execPred_keepsCanonical (d a : BitVec 4) (imm : BitVec 22) : KeepsCanonical (execPred t d a imm s) :=
  h.ctlKeeps t _ fun _ hx => hx.setPreg _ _

/-! #### LSU -/

theorem State.Canonical.putGather (k : Nat) (n : Tile → Nat) (g : Tile → Gather) :
    (s.updTile t (fun x => { x with gatherSerial := n x, gtag := Table.put {} x.gtag k (g x) })).Canonical :=
  h.updTile t fun _ hx => { hx with gtag := Table.wf_put _ _ _ _ hx.gtag }

theorem execLd_keepsCanonical (pred : BitVec 2) (v : BitVec 5) (a : BitVec 4) (line : BitVec 15) (ext : BitVec 16) :
    KeepsCanonical (execLd t pred v a line ext s) := by
  unfold execLd
  refine h.slotKeeps ?_
  exact .ite h (((h.portRead t _ _ _).consume t _).launch t _ _ _ _)

theorem execSt_keepsCanonical (pred : BitVec 2) (v : BitVec 5) (a : BitVec 4) (line : BitVec 15) (ext : BitVec 16) :
    KeepsCanonical (execSt t pred v a line ext s) := by
  unfold execSt
  refine h.slotKeeps ?_
  exact .ite h (((h.staleRead t _ _ _).consume t _).portStore t _ _ _ _ _)

theorem execLdx_keepsCanonical (pred : BitVec 2) (a : BitVec 4) (line : BitVec 15) (ext : BitVec 8) :
    KeepsCanonical (execLdx t pred a line ext s) := by
  unfold execLdx
  refine h.slotKeeps ?_
  exact ((h.portRead t _ _ _).consume t _).launch t _ _ _ _

theorem execClr_keepsCanonical (pred : BitVec 2) (a : BitVec 4) (line : BitVec 15) : KeepsCanonical (execClr t pred a line s) := by
  unfold execClr
  refine h.slotKeeps ?_
  exact h.portStore t _ _ _ _ _

theorem execWset_keepsCanonical (set : BitVec 3) (banks : BitVec 30) : KeepsCanonical (execWset t set banks s) := by
  unfold execWset
  refine h.slotKeeps ?_
  exact h.updTile t fun _ hx => .ite { hx with bankSets := Table.wf_put _ _ _ _ hx.bankSets } hx

theorem execWrd_keepsCanonical (set : BitVec 3) (a : BitVec 4) (line : BitVec 10) : KeepsCanonical (execWrd t set a line s) := by
  unfold execWrd
  refine h.slotKeeps ?_
  extract_lets x l p banks q
  have hp : p.1.Canonical := h.useRes t _ _
  have hq : q.1.Canonical := State.Canonical.foldl_fst (fun acc b hacc =>
    have bank := (hacc.useBank t .lsu b.toNat).staleRead t .lsu _ _
    .ite_fst (bank.schedRead t _) (bank.unserved t)) banks hp
  refine .ite hp (.ite (.updTile (hq.umpire _ _ _ _ _ _) t ?_) (hq.launch _ _ _ _ _))
  exact fun _ hx => { hx with }

theorem execGath_keepsCanonical (pred : BitVec 2) (a : BitVec 4) (line : BitVec 15) (tag : BitVec 4) :
    KeepsCanonical (execGath t pred a line tag s) := by
  unfold execGath
  refine h.slotKeeps ?_
  exact .ite h (.ite ((h.putGather t _ _ _).cacheServe t _) ((h.putGather t _ _ _).updTile t fun _ hx => hx.markPoison _ _))

/-! #### MXU -/

theorem execBld_keepsCanonical (fmt : BitVec 4) : KeepsCanonical (execBld t fmt s) := by
  unfold execBld
  refine h.slotKeeps ?_
  refine .ite (h.umpire _ _ _ _ _ _) (.fill (h.updTile t ?_) t)
  exact fun _ hx => { hx with }

theorem execBsw_keepsCanonical : KeepsCanonical (execBsw t s) := by
  unfold execBsw
  refine h.slotKeeps ?_
  exact h.updTile t fun _ hx => .ite { hx with } { hx with }

theorem State.Canonical.mxuActive : (s.mxuActive t).Canonical := by
  unfold State.mxuActive
  extract_lets r cyc n active c
  have hactive : active.Canonical := h.updClk _ _
  exact .ite ((hactive.updClk _ _).trigger _ _) hactive

theorem execMul_keepsCanonical (pred : BitVec 2) (arow : BitVec 6) (x : BitVec 8) (e : BitVec 10) (fmt : BitVec 4) (j : BitVec 3)
    (init : Bool) : KeepsCanonical (execMul t pred arow x e fmt j init s) := by
  unfold execMul
  refine h.slotKeeps ?_
  exact ((State.Canonical.foldl (fun _ _ hs => hs.staleRead t _ _ _) _ (h.mxuActive t)).consume t _).launch t _ _ _ _

theorem execAclr_keepsCanonical (pred : BitVec 2) (arow count : BitVec 6) : KeepsCanonical (execAclr t pred arow count s) := by
  unfold execAclr
  refine h.slotKeeps ?_
  exact .ite h (State.Canonical.foldl (fun _ _ hs => hs.launch t _ _ _ _) _ h)

theorem execAmov_keepsCanonical (pred : BitVec 2) (arow : BitVec 6) (v : BitVec 5) : KeepsCanonical (execAmov t pred arow v s) := by
  unfold execAmov
  refine h.slotKeeps ?_
  exact .ite h ((((h.staleRead t _ _ _).staleRead t _ _ _).consume t _).launch t _ _ _ _)

/-! #### VEC -/

theorem State.Canonical.vecRun (pred : Nat) (d : BitVec 5) (srcs : List Nat) (lat : Nat) (f : Tile → List Word) :
    (vecRun s t pred d srcs lat f).Canonical := by
  unfold Machine.vecRun
  refine h.slotRun ?_
  exact ((State.Canonical.foldl (fun _ _ hs => hs.staleRead t _ _ _) srcs h).consume t _).launch t _ _ _ _

theorem State.Canonical.longRun (pred : Nat) (d a : BitVec 5) (f : FP → Word) : (longRun s t pred d a f).Canonical := by
  unfold Machine.longRun
  refine h.slotRun ?_
  refine .ite ((h.umpire _ _ _ _ _ _).launch t _ _ _ _) (.updTile (h.vecRun t _ _ _ _ _) t ?_)
  exact fun _ hx => { hx with }

/-! #### RQU -/

theorem State.Canonical.rotate (inverse : Bool) (pred : Nat) (a d : BitVec 5) (fmt mode imm : Nat) :
    (s.rotate t inverse pred a d fmt mode imm).Canonical := by
  unfold State.rotate
  refine h.slotRun ?_
  refine .ite h ?_
  extract_lets u stale x k parts part dn desc toPack dest poison consumed cyc goOn warned prev broken lat es id junk sent dropped blk
    f ws
  have hconsumed : consumed.Canonical := ((h.useRes t _ _).staleRead t _ _ _).consume t _
  have hwarned : warned.Canonical := .ite (hconsumed.umpireAt _ _ _ _ _ _ _) hconsumed
  have hsent : sent.Canonical := (hwarned.useFree 128).launch t _ _ _ _
  have hdropped : dropped.Canonical := hsent.updTile t fun _ hx => { hx with }
  clear_value sent dropped
  refine .ite (.ite hdropped (hdropped.umpire _ _ _ _ _ _))
    (.ite (hsent.updTile t ?_) (.ite (hsent.updTile t ?_) (hsent.updTile t ?_)))
  all_goals exact fun _ hx => { hx with }

theorem execPfeed_keepsCanonical (pred : BitVec 2) (a : BitVec 5) : KeepsCanonical (execPfeed t pred a s) := by
  unfold execPfeed
  refine h.slotKeeps ?_
  exact ((h.staleRead t _ _ _).consume t _).launch t _ _ _ _

theorem execPack_keepsCanonical (pred : BitVec 2) (fmt mode sr : BitVec 4) (imm : BitVec 10) :
    KeepsCanonical (execPack t pred fmt mode sr imm s) := by
  unfold execPack
  extract_lets f skipped marked
  have hmarked : marked.Canonical := by
    refine .ite (h.updTile t ?_) h
    exact fun _ hx => { hx with }
  refine hmarked.slotKeeps ?_
  split
  · exact hmarked
  · next sh _ =>
    extract_lets x line warned late short noted taken bad consumed es draw burst poison packed
    have hlate : late.Canonical := (hmarked.umpire _ _ _ _ _ _).updTile t fun _ hx => .ite { hx with } hx
    have hconsumed : consumed.Canonical := .consume (.ite (hmarked.umpire _ _ _ _ _ _) hmarked) t _
    have hpacked : packed.Canonical := hconsumed.updTile t fun _ hx => by
      extract_lets used y
      have hy : y.Canonical := { hx with }
      exact .ite (hy.markPack _ _ _ _) hy
    clear_value late packed
    exact .ite (.ite ((hlate.useFree 32).launch t _ _ _ _) (hlate.updTile t fun _ hx => hx.markPoison _ _))
      (.ite (hpacked.launch t _ _ _ _) (hpacked.portStore t _ _ _ _ _))

theorem execUnpk_keepsCanonical (pred : BitVec 2) (d : BitVec 5) (fmt mode sr : BitVec 4) (imm : BitVec 10) :
    KeepsCanonical (execUnpk t pred d fmt mode sr imm s) := by
  unfold execUnpk
  refine h.slotKeeps ?_
  have read := h.portRead t .rqu 0x20 (((sreg (s.tile t) sr.toNat).toNat + imm.toNat) % 32768)
  dsimp only
  split
  · exact (read.consume t _).launch t _ _ _ _
  · exact ((read.useFree 128).consume t true).launch t _ _ _ _

theorem execSincos_keepsCanonical (pred : BitVec 2) (d : BitVec 5) (mode sr : BitVec 4) : KeepsCanonical (execSincos t pred d mode sr s) := by
  unfold execSincos
  refine h.slotKeeps ?_
  exact h.launch t _ _ _ _

theorem execSrset_keepsCanonical (pred : BitVec 2) (mode sr : BitVec 4) : KeepsCanonical (execSrset t pred mode sr s) := by
  unfold execSrset
  refine h.slotKeeps ?_
  refine .ite h (h.updTile t ?_)
  exact fun _ hx => { hx with }

theorem execPclr_keepsCanonical (pred : BitVec 2) : KeepsCanonical (execPclr t pred s) := by
  unfold execPclr
  refine h.slotKeeps ?_
  exact h.updTile t fun _ hx => { hx with }

/-! #### NET -/

theorem execSend_keepsCanonical (pred : BitVec 2) (sr : BitVec 4) (line : BitVec 15) (entry : BitVec 8) :
    KeepsCanonical (execSend t pred sr line entry s) := by
  have port := h.useRes t .net 0x2A
  unfold execSend
  refine h.slotKeeps ?_
  exact .ite port ((port.portRead t _ _ _).sendData t _ _ _ _)

theorem execSendq_keepsCanonical (pred : BitVec 2) (sr : BitVec 4) (entry : BitVec 8) : KeepsCanonical (execSendq t pred sr entry s) := by
  have port := h.useRes t .net 0x2A
  unfold execSendq
  refine h.slotKeeps ?_
  refine .ite port ?_
  split
  · exact port.umpire _ _ _ _ _ _
  · refine .sendData (.consume (port.updTile t ?_) t _) t _ _ _ _
    exact fun _ hx => { hx with }

theorem execCommit_keepsCanonical (pred : BitVec 2) (entry : BitVec 8) : KeepsCanonical (execCommit t pred entry s) := by
  have port := h.useRes t .net 0x2A
  unfold execCommit
  refine h.slotKeeps ?_
  refine .ite port (.ite (port.umpire _ _ _ _ _ _) (.ite (port.updTile t ?_) (.sendFlit (port.updTile t ?_) t _)))
  all_goals exact fun _ hx => { hx with }

theorem execDma_keepsCanonical (pred : BitVec 2) (sr : BitVec 4) (line : BitVec 15) : KeepsCanonical (execDma t pred sr line s) := by
  have port := h.useRes t .net 0x2A
  unfold execDma
  refine h.slotKeeps ?_
  have read := (port.portRead t .net 0x22 (lineAddr (s.tile t) sr.toNat line.toNat)).consume t
    ((s.useRes t .net 0x2A).1.portRead t .net 0x22 (lineAddr (s.tile t) sr.toNat line.toNat)).2.2
  exact .ite port (.sendFlit (.ite (read.putGather t _ _ _) read) t _)

/-! #### Writes of results, landed lines and gathered lines -/

theorem execResultWriteback_keepsCanonical : KeepsCanonical (execResultWriteback t s) := by
  unfold execResultWriteback
  extract_lets x
  split
  · exact h.keeps
  · refine .ite h.keeps ?_
    extract_lets now gap passed served
    have hgap : gap.Canonical := .ite (h.rotGap t) h
    have hpassed : passed.Canonical := hgap.updTile t fun _ hx => { hx with }
    exact (State.Canonical.foldl (fun _ _ hs => hs.writeOther t _) _ (hpassed.writeVregs t [] _)).keeps

theorem execLandingWrite_keepsCanonical : KeepsCanonical (execLandingWrite t s) := by
  unfold execLandingWrite
  extract_lets x
  split
  · exact h.keeps
  · refine .ite h.keeps ?_
    extract_lets taken written
    have htaken : taken.Canonical := by
      refine .useBackground (h.updTile t ?_) t _
      exact fun _ hx => { hx with }
    have hwritten : written.Canonical := by
      refine .ite (htaken.withhold t) (.ite (.ite htaken (htaken.updTile t fun _ hx => hx.writeLine _ _ _))
        (.withhold (htaken.updTile t ?_) t))
      exact fun _ hx => { hx with }
    split
    · exact hwritten.keeps
    · exact (hwritten.updTile t fun _ hx => .ite hx (hx.putGather _ _)).keeps

theorem State.Canonical.unschedWrite (line : Nat) (bs : Bytes) (poison : Bool) : (s.unschedWrite t line bs poison).Canonical := by
  unfold State.unschedWrite
  exact .ite (h.updTile t fun _ hx => hx.writeLine _ _ _) h

theorem execGatherComplete_keepsCanonical (tag : BitVec 4) : KeepsCanonical (execGatherComplete t tag s) := by
  unfold execGatherComplete
  extract_lets x
  split
  · exact h.keeps
  · next data _ =>
    extract_lets g used taken written
    have hused : used.Canonical := .ite (h.useBackground t _) h
    have htaken : taken.Canonical := hused.updTile t fun _ hx => { hx with }
    have hwritten : written.Canonical := by
      cases data with
      | some bs => exact htaken.unschedWrite t _ _ _
      | none => exact htaken.updTile t fun _ hx => hx.markPoison _ _
    exact .ite h.keeps (.ite (hwritten.updTile t fun _ hx => hx.putGather _ _).keeps htaken.keeps)

theorem exec_bundleInstr_keepsCanonical {i : Instr} (hi : i.bundleInstr = true) : KeepsCanonical (exec i s) := by
  cases i with
  | nop t slot op bad =>
    have hop : (decide (op = 0) && !bad) = true := hi
    obtain rfl : bad = false := by simpa using (Bool.and_eq_true_iff.mp hop).2
    exact execNop_keepsCanonical h t slot op
  | end_ | bnz | cqpop =>
    refine h.ctlKeeps _ _ ?_
    exact fun _ hx => { hx with }
  | li | addi | add | sub | and | or | xor | shl | shr | scalarMul | slt | bdec | rdcyc | rdstk | cqn | cqrd => exact h.scalarKeeps _ _ _ _
  | waitc => exact execWaitc_keepsCanonical h _ _ _
  | waitg => exact execWaitg_keepsCanonical h _ _ _
  | pred => exact execPred_keepsCanonical h _ _ _ _
  | ld => exact execLd_keepsCanonical h _ _ _ _ _ _
  | st => exact execSt_keepsCanonical h _ _ _ _ _ _
  | ldx => exact execLdx_keepsCanonical h _ _ _ _ _
  | clr => exact execClr_keepsCanonical h _ _ _ _
  | wset => exact execWset_keepsCanonical h _ _ _
  | wrd => exact execWrd_keepsCanonical h _ _ _ _
  | gath => exact execGath_keepsCanonical h _ _ _ _ _
  | bld => exact execBld_keepsCanonical h _ _
  | bsw => exact execBsw_keepsCanonical h _
  | mul => exact execMul_keepsCanonical h _ _ _ _ _ _ _ _
  | aclr => exact execAclr_keepsCanonical h _ _ _ _
  | amov => exact execAmov_keepsCanonical h _ _ _ _
  | vadd | vsub | vmul | vfma | vmax | vmin | vcmplt | vsel | vaddi | vmuli | vrsum | vrmax | vbcast | vrnd | vmov | vsc2 =>
    exact (h.vecRun _ _ _ _ _ _).keeps
  | vexp | vrcp | vrsq => exact (h.longRun _ _ _ _ _).keeps
  | rot | irot => exact (h.rotate _ _ _ _ _ _ _ _).keeps
  | pfeed => exact execPfeed_keepsCanonical h _ _ _
  | pack => exact execPack_keepsCanonical h _ _ _ _ _ _
  | unpk => exact execUnpk_keepsCanonical h _ _ _ _ _ _ _
  | sincos => exact execSincos_keepsCanonical h _ _ _ _ _
  | srset => exact execSrset_keepsCanonical h _ _ _ _
  | pclr => exact execPclr_keepsCanonical h _ _
  | send => exact execSend_keepsCanonical h _ _ _ _ _
  | sendq => exact execSendq_keepsCanonical h _ _ _ _
  | commit => exact execCommit_keepsCanonical h _ _ _
  | dma => exact execDma_keepsCanonical h _ _ _ _
  | _ => nomatch hi

end

/-- Settles O50: a command of a tile's program, or a write of what a tile has in flight, at its port or gathered, is made of changes that each
keep the canonical form. -/
theorem canonicalFormKept : Obligations.CanonicalFormKept := by
  intro i t tag s u hi hs hexec
  rw [State.canon_iff] at hs ⊢
  rcases hi with ⟨hbundle, -⟩ | rfl | rfl | rfl
  · exact exec_bundleInstr_keepsCanonical hs hbundle u hexec
  · exact execResultWriteback_keepsCanonical hs t u hexec
  · exact execLandingWrite_keepsCanonical hs t u hexec
  · exact execGatherComplete_keepsCanonical hs t tag u hexec

end Machine
end Sys2Proof

/-! # Accesses to a tile's registers: cache control and program patches -/

namespace Sys2Proof.Machine

theorem Completes.imp {c : Instr} {s : State} {P Q : State → Prop} (h : Completes c s P) (hpq : ∀ u, P u → Q u) : Completes c s Q := by
  obtain ⟨u, hexec, hu⟩ := h
  exact ⟨u, hexec, hpq u hu⟩

section
variable {s : State} {t : TileId}

theorem State.onlyTile_updTile (f : Tile → Tile) : OnlyTile t s (s.updTile t f) := ⟨rfl, s.otherTiles_updTile t f⟩

theorem OnlyTile.trans {u v : State} (h : OnlyTile t s u) (h' : OnlyTile t u v) : OnlyTile t s v := by
  obtain ⟨hu, hother⟩ := h
  obtain ⟨hv, hother'⟩ := h'
  rw [hu] at hv
  exact ⟨hv, fun k hk => (hother' k hk).trans (hother k hk)⟩

/-- An access in a powered region, to a tile it holds that stands in a crew, is made (R19, R459, R651): it changes that tile alone, as the
access says. -/
theorem completes_tileAccess {c : Instr} {f : State → Tile → Tile} {y : Tile}
    (hexec : exec c s = .next (s.tileAccess t (fun v => v.updTile t (f v)))) (hstage : (s.tile t).stage.isSome)
    (hpower : s.powered t.region.toNat = true) (hrow : t.y.toNat < regionRows t.region.toNat)
    (hy : f { s with accessFault := false } (s.tile t) = y) (hkept : y.stage.isSome) :
    Completes c s (fun u => (u = { s with tiles := u.tiles, accessFault := false } ∧ OtherTiles t s u) ∧ u.tile t = y) := by
  subst hy
  have hmade : s.tileAccess t (fun v => v.updTile t (f v)) =
      State.updTile { s with accessFault := false } t (f { s with accessFault := false }) := by
    have hstage' : (State.tile { s with accessFault := false } t).stage.isSome = true := hstage
    simp [State.tileAccess, State.regAccess, hpower, Nat.not_le.mpr hrow, hstage']
  obtain ⟨hother, hself⟩ := State.updTile_of_staged { s with accessFault := false } t _ hkept
  exact ⟨_, hexec.trans (congrArg _ hmade), ⟨rfl, hother⟩, hself⟩

/-! ## Cache control -/

/-- R160, R163: with no mask change and no operation in progress, and no request that waits, BUSY clears and that is all. -/
theorem State.cacheResume_idle (hmask : (s.tile t).maskPending = none) (hop : (s.tile t).cacheOp = 0) (hwait : (s.tile t).cacheWait = []) :
    s.cacheResume t = s.updTile t (fun x => { x with cacheBusy := false, cacheWait := [] }) := by
  simp [State.cacheResume, hmask, hop, hwait]

/-- A change of a staged tile after which nothing is in progress and nothing waits, and the end of BUSY. -/
theorem State.updTile_cacheResume {f : Tile → Tile} (hstage : (f (s.tile t)).stage.isSome) (hmask : (f (s.tile t)).maskPending = none)
    (hop : (f (s.tile t)).cacheOp = 0) (hwait : (f (s.tile t)).cacheWait = []) :
    OnlyTile t s ((s.updTile t f).cacheResume t) ∧
      ((s.updTile t f).cacheResume t).tile t = { f (s.tile t) with cacheBusy := false, cacheWait := [] } := by
  obtain ⟨-, hself⟩ := s.updTile_of_staged t f hstage
  rw [State.cacheResume_idle (by rw [hself, hmask]) (by rw [hself, hop]) (by rw [hself, hwait])]
  refine ⟨State.onlyTile_updTile f |>.trans (State.onlyTile_updTile _), ?_⟩
  rw [State.tile_updTile_staged _ t _ (by rw [hself]; exact hstage), hself]

/-- R156: an invalidation drops every line and writes none back. -/
theorem execCacheOpComplete_invalidate (hop : (s.tile t).cacheOp = 2) :
    execCacheOpComplete t s = .next ((s.updTile t (fun y => { y with cacheDir := [], cacheOp := 0 })).cacheResume t) := by
  simp [execCacheOpComplete, hop]

/-- A tile none of whose banks is in cache mode takes a mask: the banks it names hold no line, and their scrubbers are idle. -/
def enterCacheMode (m : BitVec 8) (x : Tile) : Tile :=
  let entering := (List.range 8).filter (fun i => m.getLsbD i)
  { x with
    cacheDir := x.cacheDir.filter (fun c => !entering.contains (c.1 / 1024))
    scrub := entering.foldl (fun (u : Table Scrub) w => Table.put {} u (24 + w) {}) x.scrub
    cacheMask := m }

/-- R160: with no bank in cache mode no bank leaves it, so nothing is written back and nothing zeroed. -/
theorem State.takeMask_of_none (h : (s.tile t).cacheMask = 0) (m : BitVec 8) : s.takeMask t m = s.updTile t (enterCacheMode m) := by
  have hleaving : (List.range 8).filter (fun i => (s.tile t).cacheMask.getLsbD i && !m.getLsbD i) = [] := by simp [h]
  have hentering : (List.range 8).filter (fun i => !(s.tile t).cacheMask.getLsbD i && m.getLsbD i) =
      (List.range 8).filter (fun i => m.getLsbD i) := by simp [h]
  unfold State.takeMask
  simp only [hleaving, hentering, List.foldl_nil, List.nil_append]
  rfl

/-- R159: strokes run with a plan, or a mask change may begin and end. -/
theorem State.planRuns (hrun : s.clk.running = true) (hplan : s.boot.plan ≠ none) : (s.clk.running && s.boot.plan.isSome) = true := by
  simp [hrun, Option.isSome_iff_ne_none.mpr hplan]

theorem State.not_planRuns (h : s.clk.running = false ∨ s.boot.plan = none) : (s.clk.running && s.boot.plan.isSome) = false := by
  rcases h with h | h <;> simp [h]

theorem execCacheMaskChangeDone_waits {m : BitVec 8} (hmask : (s.tile t).maskPending = some m) (hrun : s.clk.running = true)
    (hplan : s.boot.plan ≠ none) : execCacheMaskChangeDone t s = .next s := by
  cases hmiss : (s.tile t).cacheMissQ <;> simp [execCacheMaskChangeDone, hmask, hmiss, State.planRuns hrun hplan]

theorem execCacheMaskChangeDone_taken {m : BitVec 8} (hmask : (s.tile t).maskPending = some m) (hmiss : (s.tile t).cacheMissQ = [])
    (hfree : s.clk.running = false ∨ s.boot.plan = none) :
    execCacheMaskChangeDone t s = .next (((s.takeMask t m).updTile t (fun x => { x with maskPending := none })).cacheResume t) := by
  simp [execCacheMaskChangeDone, hmask, hmiss, State.not_planRuns hfree]

end

/-- Settles O25: an access to a staged tile changes that tile alone; the ends of an invalidation and of a first mask change are two changes of
the tile in a row, as nothing is written back and no request waits. -/
theorem cacheControl : Obligations.CacheControl := by
  intro s t mask hstage hpower hrow x on
  have hstart (hidle : x.cacheBusy = false) {c : Instr} {op : BitVec 2} (hc : exec c s = .next (s.startCacheOp t op)) :=
    completes_tileAccess hc hstage hpower hrow (if_neg (by simp [x, hidle])) hstage
  refine ⟨fun hfree => ?_, fun hrun hplan => ?_, fun hidle => ⟨hstart hidle rfl, hstart hidle rfl, hstart hidle rfl⟩, fun hbusy => ?_,
    fun hop hmask hwait => ?_, fun hmask hrun hplan => execCacheMaskChangeDone_waits hmask hrun hplan,
    fun hmask hmiss hnone hwait hop hfree => ?_⟩
  · exact completes_tileAccess rfl hstage hpower hrow (if_neg (by simp [State.not_planRuns hfree])) hstage
  · exact completes_tileAccess rfl hstage hpower hrow (if_pos (State.planRuns hrun hplan)) hstage
  · exact completes_tileAccess rfl hstage hpower hrow (if_pos hbusy) hstage
  · obtain ⟨honly, hself⟩ := State.updTile_cacheResume (s := s) (t := t) (f := fun y => { y with cacheDir := [], cacheOp := 0 })
      hstage hmask rfl hwait
    exact ⟨_, execCacheOpComplete_invalidate hop, honly, by rw [hself]; simp [x, ← hwait]⟩
  · obtain ⟨-, htaken⟩ := s.updTile_of_staged t (enterCacheMode mask) hstage
    obtain ⟨honly, hself⟩ := State.updTile_cacheResume (s := s.updTile t (enterCacheMode mask)) (t := t)
      (f := fun y => { y with maskPending := none }) (by rw [htaken]; exact hstage) rfl (by rw [htaken]; exact hop)
      (by rw [htaken]; exact hwait)
    have hexec := execCacheMaskChangeDone_taken hmask hmiss hfree
    rw [State.takeMask_of_none hnone] at hexec
    refine ⟨_, hexec, (State.onlyTile_updTile _).trans honly, ?_⟩
    rw [hself, htaken]
    exact ⟨rfl, rfl, rfl, rfl⟩

/-! ## Program patches -/

section
variable {x : Tile}

/-- R187: what a write of SEQ_PATCH_CTL.GO makes of its tile. -/
def patchWritten (addr : BitVec 12) (x : Tile) : Tile :=
  if x.patchGo then { x with patchRefused := true }
  else
    let x := { x with patchAddr := addr, patchGo := true, patchStaged := x.patchD }
    if x.run then x else applyPatch x

theorem patchWritten_refused {addr : BitVec 12} (hgo : x.patchGo = true) : patchWritten addr x = { x with patchRefused := true } := by
  simp [patchWritten, hgo]

theorem patchWritten_running {addr : BitVec 12} (hgo : x.patchGo = false) (hrun : x.run = true) :
    patchWritten addr x = { x with patchAddr := addr, patchGo := true, patchStaged := x.patchD } := by
  simp [patchWritten, hgo, hrun]

theorem patchWritten_stopped {addr : BitVec 12} (hgo : x.patchGo = false) (hrun : x.run = false) :
    patchWritten addr x = applyPatch { x with patchAddr := addr, patchGo := true, patchStaged := x.patchD } := by
  simp [patchWritten, hgo, hrun]

/-- R185: a bundle written where the stored code was in error counts as a repair. -/
theorem get_applyPatch_progRepairs (hrep : Table.wf 0 x.progRepairs = true) :
    Table.get 0 (applyPatch x).progRepairs x.patchAddr.toNat =
      if Table.get none x.progChk x.patchAddr.toNat = none then Table.get 0 x.progRepairs x.patchAddr.toNat
      else Table.get 0 x.progRepairs x.patchAddr.toNat + 1 := by
  unfold applyPatch
  by_cases hgood : Table.get none x.progChk x.patchAddr.toNat = none
  · simp [hgood]
  · simp [hgood, Table.get_put_self _ _ _ _ hrep]

end

/-- Settles O30: the write is an access that leaves `patchWritten` of the tile. -/
theorem programPatch : Obligations.ProgramPatch := by
  intro s t addr hstage hpower hrow hprog hchk hrep x on
  have hwrite {y : Tile} := completes_tileAccess (c := .seqPatchGo t addr) (f := fun _ => patchWritten addr) (y := y) rfl
    hstage hpower hrow
  refine ⟨fun hgo hrun => hwrite (patchWritten_running hgo hrun) hstage, fun hgo hrun => ?_,
    fun hgo => hwrite (patchWritten_refused hgo) hstage⟩
  refine (hwrite (patchWritten_stopped hgo hrun) hstage).imp fun u ⟨hon, hself⟩ => ⟨hon, ?_⟩
  rw [hself]
  exact ⟨rfl, Table.get_put_self _ _ _ _ hprog, Table.get_put_self _ _ _ _ hchk, get_applyPatch_progRepairs hrep,
    fun k hk => Table.get_put_ne _ _ _ _ k hk, rfl, rfl⟩

end Sys2Proof.Machine

/-! # Cache accesses -/

namespace Sys2Proof

/-- The default put at the key of a table's first entry uncovers the entries behind it. -/
theorem Table.put_default_head {α : Type} [DecidableEq α] (d v : α) (k : Nat) (m : Table α) : Table.put d ((k, v) :: m) k d = m := by
  simp [Table.put]

namespace Machine

/-- R457: an access outside the tiers is answered at once, with an access fault. -/
theorem execCacheAccess_outside {s : State} {t : TileId} {addr : Nat} {write : Option Bytes} (h : s.inTier (addr / 128 * 128) = false) :
    execCacheAccess t addr write s =
      .next (s.cacheReturn t { addr := addr / 128 * 128, byte := addr % 128, write := write } none) := by
  simp [execCacheAccess, State.cacheServe, h]

/-- A state whose tile table is not canonical: it lists tile (0, 0) of region 0 twice, with an answer of the cache and with another. -/
def listedTwice : State := { State.reset with tiles := [(0, { cacheOut := some [] }), (0, { cacheOut := some [0] })] }

/-- The access takes the tile's answer away, and what it leaves of the tile is a tile at reset. -/
theorem listedTwice_cacheReturn (q : CacheReq) (hq : q.gather = none) :
    (listedTwice.cacheReturn ⟨0, 0, 0⟩ q none).tiles = [(0, { cacheOut := some [0] })] := by
  have htile : listedTwice.tile ⟨0, 0, 0⟩ = { cacheOut := some [] } := rfl
  simp only [State.cacheReturn, hq, State.updTile_tiles, htile]
  exact Table.put_default_head _ _ _ _

/-- Refutes O24: the statement has no condition on the tile table, so it speaks of `listedTwice` too. A read outside the tiers should leave
the tile there without an answer of the cache; it uncovers the tile's second entry and the answer in it. -/
theorem not_cacheAccesses : ¬ Obligations.CacheAccesses := by
  intro h
  have houtside : listedTwice.inTier (2 ^ 60 / 128 * 128) = false := by decide
  obtain ⟨hread, -⟩ := h listedTwice ⟨0, 0, 0⟩ (2 ^ 60) [] {} [] rfl
  obtain ⟨u, hexec, -, htile⟩ := hread houtside
  obtain rfl := Host.Outcome.next.inj ((execCacheAccess_outside houtside).symm.trans hexec)
  rw [State.tile, listedTwice_cacheReturn _ rfl] at htile
  exact absurd (congrArg Tile.cacheOut htile) (by decide)

end Machine
end Sys2Proof

/-! # Bundles: every slot gives its instruction back -/

namespace Sys2Proof.Machine

/-! ## A slot's field of a bundle (R189) -/

/-- The lowest bit of a slot's word in its bundle. -/
def slotOffset : Slot → Nat
  | .ctl => 0
  | .lsu => 40
  | .mxu => 88
  | .vec => 128
  | .rqu => 176
  | .net => 216

/-- The bits of a slot's word. -/
def slotWidth : Slot → Nat
  | .lsu | .vec => 48
  | .ctl | .mxu | .rqu | .net => 40

/-- The instruction of a slot's word. -/
def decodeWordOf (t : TileId) : (sl : Slot) → BitVec (slotWidth sl) → Instr
  | .ctl => decodeCtl t
  | .lsu => decodeLsu t
  | .mxu => decodeMxu t
  | .vec => decodeVec t
  | .rqu => decodeRqu t
  | .net => decodeNet t

theorem decodeSlot_eq (t : TileId) (sl : Slot) (b : BitVec 256) :
    decodeSlot t sl b = decodeWordOf t sl (b.extractLsb' (slotOffset sl) (slotWidth sl)) := by
  cases sl <;> rfl

theorem decodeWordOf_zero (t : TileId) (sl : Slot) : decodeWordOf t sl 0 = .nop t sl 0 false := by
  cases sl <;> rfl

theorem decodeSlot_mem_decodeBundle (t : TileId) (sl : Slot) (b : BitVec 256) : decodeSlot t sl b ∈ decodeBundle t b := by
  cases sl <;> simp [decodeSlot, decodeBundle]

theorem inSlot_eq (sl : Slot) (n : Nat) : inSlot sl n = BitVec.ofNat 256 n <<< slotOffset sl := by
  cases sl <;> rfl

theorem slot_within_bundle (sl : Slot) : slotOffset sl + slotWidth sl ≤ 256 := by
  cases sl <;> decide

/-- Two slots' fields do not overlap. -/
theorem slots_disjoint : ∀ {sl sl' : Slot}, sl' ≠ sl →
    slotOffset sl + slotWidth sl ≤ slotOffset sl' ∨ slotOffset sl' + slotWidth sl' ≤ slotOffset sl := by
  intro sl sl'
  cases sl <;> cases sl' <;> decide

/-- A bit of a bundle that holds one word. -/
theorem inSlot_getLsbD {sl : Slot} (w : BitVec (slotWidth sl)) {i : Nat} (hi : i < 256) :
    (inSlot sl w.toNat).getLsbD i = (decide (slotOffset sl ≤ i) && w.getLsbD (i - slotOffset sl)) := by
  have hlow : (BitVec.ofNat 256 w.toNat).getLsbD (i - slotOffset sl) = w.getLsbD (i - slotOffset sl) := by
    rw [BitVec.getLsbD_ofNat, decide_eq_true (by omega : i - slotOffset sl < 256), Bool.true_and, BitVec.testBit_toNat]
  rw [inSlot_eq, BitVec.getLsbD_shiftLeft, hlow]
  by_cases h : i < slotOffset sl
  · simp [h, Nat.not_le.mpr h]
  · simp [h, hi, Nat.not_lt.mp h]

theorem inSlot_own {sl : Slot} (w : BitVec (slotWidth sl)) :
    (inSlot sl w.toNat).extractLsb' (slotOffset sl) (slotWidth sl) = w := by
  refine BitVec.eq_of_getLsbD_eq fun i hi => ?_
  have hin := slot_within_bundle sl
  rw [BitVec.getLsbD_extractLsb', inSlot_getLsbD w (by omega)]
  simp [hi]

theorem inSlot_other {sl sl' : Slot} (h : sl' ≠ sl) (w : BitVec (slotWidth sl)) :
    (inSlot sl w.toNat).extractLsb' (slotOffset sl') (slotWidth sl') = 0 := by
  refine BitVec.eq_of_getLsbD_eq fun i hi => ?_
  have hin := slot_within_bundle sl'
  rw [BitVec.getLsbD_extractLsb', inSlot_getLsbD w (by omega)]
  rcases slots_disjoint h with hbelow | habove
  · simp [BitVec.getLsbD_of_ge w (slotOffset sl' + i - slotOffset sl) (by omega)]
  · simp [show ¬ slotOffset sl ≤ slotOffset sl' + i by omega]

/-- The bundle that holds the instruction alone gives it back from its slot, and a NOP from every other slot. -/
def RoundTrips (t : TileId) (i : Instr) : Prop :=
  ∃ (sl : Slot) (b : BitVec 256), encodeBundle i = some b ∧ (encodeSlot i).map (fun q => q.1) = some sl ∧ decodeSlot t sl b = i ∧
    (∀ sl', sl' ≠ sl → decodeSlot t sl' b = .nop t sl' 0 false) ∧ i ∈ decodeBundle t b

/-- An instruction whose word decodes to it round-trips through its bundle. -/
theorem roundTrips_of_word {t : TileId} {i : Instr} (sl : Slot) (w : BitVec (slotWidth sl)) (henc : encodeSlot i = some (sl, w.toNat))
    (hdec : decodeWordOf t sl w = i) : RoundTrips t i := by
  have hown : decodeSlot t sl (inSlot sl w.toNat) = i := by rw [decodeSlot_eq, inSlot_own, hdec]
  refine ⟨sl, inSlot sl w.toNat, by simp [encodeBundle, henc], by simp [henc], hown, fun sl' hne => ?_, ?_⟩
  · rw [decodeSlot_eq, inSlot_other hne, decodeWordOf_zero]
  · exact hown ▸ decodeSlot_mem_decodeBundle t sl _

/-! ## The words of each slot decode to their instructions

The fields of a word stand side by side, so a field is read off where the word is written out as their concatenation. -/

/-- A short operand in a longer field stands in its low bits. -/
theorem extractLsb'_setWidth_self {v w : Nat} (x : BitVec v) (h : v ≤ w) : (x.setWidth w).extractLsb' 0 v = x := by
  rw [BitVec.extractLsb'_setWidth_of_le (by omega), BitVec.extractLsb'_eq_self]

/-- The fields of a CTL word (R204). -/
theorem ctlWord_fields (op : BitVec 6) (d a b : BitVec 4) (imm : BitVec 22) :
    (ctlWord op d a b imm).extractLsb' 0 6 = op ∧ (ctlWord op d a b imm).extractLsb' 6 4 = d ∧
      (ctlWord op d a b imm).extractLsb' 10 4 = a ∧ (ctlWord op d a b imm).extractLsb' 14 4 = b ∧
      (ctlWord op d a b imm).extractLsb' 18 22 = imm := by
  have hw : ctlWord op d a b imm = (imm ++ b ++ a ++ d ++ op : BitVec (22 + 4 + 4 + 4 + 6)) := rfl
  simp (disch := omega) only [hw, BitVec.extractLsb'_append_eq_of_add_le, BitVec.extractLsb'_append_eq_of_le]
  simp

/-- The fields of an LSU word (R211). -/
theorem lsuWord_fields (op : BitVec 6) (pred : BitVec 2) (v : BitVec 5) (a : BitVec 4) (line : BitVec 15) (ext : BitVec 16) :
    (lsuWord op pred v a line ext).extractLsb' 0 6 = op ∧ (lsuWord op pred v a line ext).extractLsb' 6 2 = pred ∧
      (lsuWord op pred v a line ext).extractLsb' 8 5 = v ∧ (lsuWord op pred v a line ext).extractLsb' 13 4 = a ∧
      (lsuWord op pred v a line ext).extractLsb' 17 15 = line ∧
      ∀ n, (lsuWord op pred v a line ext).extractLsb' 32 n = ext.extractLsb' 0 n := by
  have hw : lsuWord op pred v a line ext = (ext ++ line ++ a ++ v ++ pred ++ op : BitVec (16 + 15 + 4 + 5 + 2 + 6)) := rfl
  simp (disch := omega) only [hw, BitVec.extractLsb'_append_eq_of_add_le, BitVec.extractLsb'_append_eq_of_le]
  simp

theorem wsetWord_fields (set : BitVec 3) (banks : BitVec 30) :
    (wsetWord set banks).extractLsb' 0 6 = 5 ∧ (wsetWord set banks).extractLsb' 8 3 = set ∧
      (wsetWord set banks).extractLsb' 18 30 = banks := by
  have hw : wsetWord set banks = (banks ++ (0 : BitVec 7) ++ set ++ (0 : BitVec 2) ++ (5 : BitVec 6) : BitVec (30 + 7 + 3 + 2 + 6)) := rfl
  simp (disch := omega) only [hw, BitVec.extractLsb'_append_eq_of_add_le, BitVec.extractLsb'_append_eq_of_le]
  simp

theorem wrdWord_fields (set : BitVec 3) (a : BitVec 4) (line : BitVec 10) :
    (wrdWord set a line).extractLsb' 0 6 = 6 ∧ (wrdWord set a line).extractLsb' 8 3 = set ∧ (wrdWord set a line).extractLsb' 13 4 = a ∧
      (wrdWord set a line).extractLsb' 17 10 = line := by
  have hw : wrdWord set a line = ((0 : BitVec 16) ++ (0 : BitVec 5) ++ line ++ a ++ (0 : BitVec 2) ++ set ++ (0 : BitVec 2) ++
    (6 : BitVec 6) : BitVec (16 + 5 + 10 + 4 + 2 + 3 + 2 + 6)) := rfl
  simp (disch := omega) only [hw, BitVec.extractLsb'_append_eq_of_add_le, BitVec.extractLsb'_append_eq_of_le]
  simp

/-- The fields of an MXU word (R222); X also holds the shorter operands of ACLR and AMOV. -/
theorem mxuWord_fields (op : BitVec 6) (pred : BitVec 2) (arow : BitVec 6) (x : BitVec 8) (e : BitVec 10) (fmt : BitVec 4) (j : BitVec 3)
    (init : BitVec 1) :
    (mxuWord op pred arow x e fmt j init).extractLsb' 0 6 = op ∧ (mxuWord op pred arow x e fmt j init).extractLsb' 6 2 = pred ∧
      (mxuWord op pred arow x e fmt j init).extractLsb' 8 6 = arow ∧
      (∀ n, n ≤ 8 → (mxuWord op pred arow x e fmt j init).extractLsb' 14 n = x.extractLsb' 0 n) ∧
      (mxuWord op pred arow x e fmt j init).extractLsb' 22 10 = e ∧ (mxuWord op pred arow x e fmt j init).extractLsb' 32 4 = fmt ∧
      (mxuWord op pred arow x e fmt j init).extractLsb' 36 3 = j := by
  have hw : mxuWord op pred arow x e fmt j init =
    (init ++ j ++ fmt ++ e ++ x ++ arow ++ pred ++ op : BitVec (1 + 3 + 4 + 10 + 8 + 6 + 2 + 6)) := rfl
  simp +contextual (disch := omega) only [hw, BitVec.extractLsb'_append_eq_of_add_le, BitVec.extractLsb'_append_eq_of_le]
  simp

/-- INIT is the highest bit of an MXU word (R222). -/
theorem mxuWord_init (op : BitVec 6) (pred : BitVec 2) (arow : BitVec 6) (x : BitVec 8) (e : BitVec 10) (fmt : BitVec 4) (j : BitVec 3)
    (init : BitVec 1) : (mxuWord op pred arow x e fmt j init)[39] = init[0] := by
  simp only [← BitVec.getLsbD_eq_getElem, mxuWord, BitVec.getLsbD_append]
  simp

/-- The fields of a VEC word (R230). -/
theorem vecWord_fields (op : BitVec 6) (pred : BitVec 2) (d a b c : BitVec 5) (imm : BitVec 16) :
    (vecWord op pred d a b c imm).extractLsb' 0 6 = op ∧ (vecWord op pred d a b c imm).extractLsb' 6 2 = pred ∧
      (vecWord op pred d a b c imm).extractLsb' 8 5 = d ∧ (vecWord op pred d a b c imm).extractLsb' 13 5 = a ∧
      (vecWord op pred d a b c imm).extractLsb' 18 5 = b ∧
      (vecWord op pred d a b c imm).extractLsb' 23 5 = c ∧ (vecWord op pred d a b c imm).extractLsb' 32 16 = imm := by
  have hw : vecWord op pred d a b c imm =
    (imm ++ (0 : BitVec 4) ++ c ++ b ++ a ++ d ++ pred ++ op : BitVec (16 + 4 + 5 + 5 + 5 + 5 + 2 + 6)) := rfl
  simp (disch := omega) only [hw, BitVec.extractLsb'_append_eq_of_add_le, BitVec.extractLsb'_append_eq_of_le]
  simp

/-- The fields of an RQU word (R234). -/
theorem rquWord_fields (op : BitVec 6) (pred : BitVec 2) (a d : BitVec 5) (fmt mode sreg : BitVec 4) (imm : BitVec 10) :
    (rquWord op pred a d fmt mode sreg imm).extractLsb' 0 6 = op ∧ (rquWord op pred a d fmt mode sreg imm).extractLsb' 6 2 = pred ∧
      (rquWord op pred a d fmt mode sreg imm).extractLsb' 8 5 = a ∧ (rquWord op pred a d fmt mode sreg imm).extractLsb' 13 5 = d ∧
      (rquWord op pred a d fmt mode sreg imm).extractLsb' 18 4 = fmt ∧
      (rquWord op pred a d fmt mode sreg imm).extractLsb' 22 4 = mode ∧ (rquWord op pred a d fmt mode sreg imm).extractLsb' 26 4 = sreg ∧
      (rquWord op pred a d fmt mode sreg imm).extractLsb' 30 10 = imm := by
  have hw : rquWord op pred a d fmt mode sreg imm =
    (imm ++ sreg ++ mode ++ fmt ++ d ++ a ++ pred ++ op : BitVec (10 + 4 + 4 + 4 + 5 + 5 + 2 + 6)) := rfl
  simp (disch := omega) only [hw, BitVec.extractLsb'_append_eq_of_add_le, BitVec.extractLsb'_append_eq_of_le]
  simp

/-- The fields of a NET word (R242). -/
theorem netWord_fields (op : BitVec 6) (pred : BitVec 2) (sreg : BitVec 4) (line : BitVec 15) (entry : BitVec 8) :
    (netWord op pred sreg line entry).extractLsb' 0 6 = op ∧ (netWord op pred sreg line entry).extractLsb' 6 2 = pred ∧
      (netWord op pred sreg line entry).extractLsb' 8 4 = sreg ∧ (netWord op pred sreg line entry).extractLsb' 12 15 = line ∧
      (netWord op pred sreg line entry).extractLsb' 27 8 = entry := by
  have hw : netWord op pred sreg line entry = ((0 : BitVec 5) ++ entry ++ line ++ sreg ++ pred ++ op : BitVec (5 + 8 + 15 + 4 + 2 + 6)) := rfl
  simp (disch := omega) only [hw, BitVec.extractLsb'_append_eq_of_add_le, BitVec.extractLsb'_append_eq_of_le]
  simp

/-- Every instruction of a bundle round-trips: its word's opcode selects its arm of the decoder, and the fields are read back. -/
theorem roundTrips_of_bundleInstr {t : TileId} {i : Instr} (hi : i.bundleInstr = true) (ht : i.tile = some t) : RoundTrips t i := by
  cases i with
  | nop t' sl op bad =>
    obtain rfl : t' = t := by simpa [Instr.tile] using ht
    have hop : (decide (op = 0) && !bad) = true := hi
    obtain ⟨rfl, rfl⟩ : op = 0 ∧ bad = false := by simpa using hop
    exact roundTrips_of_word sl 0 rfl (decodeWordOf_zero t' sl)
  | end_ | li | addi | add | sub | and | or | xor | shl | shr | scalarMul | slt | bnz | bdec | waitc | waitg | pred | rdcyc | rdstk
  | cqn | cqrd | cqpop =>
    obtain rfl := Option.some.inj ht
    refine roundTrips_of_word .ctl _ rfl ?_
    simp [decodeWordOf, decodeCtl, ctlWord_fields]
  | wset =>
    obtain rfl := Option.some.inj ht
    refine roundTrips_of_word .lsu _ rfl ?_
    simp [decodeWordOf, decodeLsu, wsetWord_fields]
  | wrd =>
    obtain rfl := Option.some.inj ht
    refine roundTrips_of_word .lsu _ rfl ?_
    simp [decodeWordOf, decodeLsu, wrdWord_fields]
  | ld | st | ldx | clr | gath =>
    obtain rfl := Option.some.inj ht
    refine roundTrips_of_word .lsu _ rfl ?_
    simp [decodeWordOf, decodeLsu, lsuWord_fields, extractLsb'_setWidth_self]
  | bld | bsw | mul | aclr | amov =>
    obtain rfl := Option.some.inj ht
    refine roundTrips_of_word .mxu _ rfl ?_
    simp [decodeWordOf, decodeMxu, mxuWord_fields, mxuWord_init, extractLsb'_setWidth_self]
  | vadd | vsub | vmul | vfma | vmax | vmin | vcmplt | vsel | vaddi | vmuli | vexp | vrcp | vrsq | vrsum | vrmax | vbcast | vrnd | vmov
  | vsc2 =>
    obtain rfl := Option.some.inj ht
    refine roundTrips_of_word .vec _ rfl ?_
    simp [decodeWordOf, decodeVec, vecWord_fields]
  | rot | irot | pfeed | pack | unpk | sincos | srset | pclr =>
    obtain rfl := Option.some.inj ht
    refine roundTrips_of_word .rqu _ rfl ?_
    simp [decodeWordOf, decodeRqu, rquWord_fields]
  | send | sendq | commit | dma =>
    obtain rfl := Option.some.inj ht
    refine roundTrips_of_word .net _ rfl ?_
    simp [decodeWordOf, decodeNet, netWord_fields]
  | _ => nomatch hi

/-- Settles O48: the slots' fields of a bundle are disjoint, and a slot's decoder reads back the fields its words are made of. -/
theorem bundleRoundTrip : Obligations.BundleRoundTrip := fun _ _ hi ht => roundTrips_of_bundleInstr hi ht

end Sys2Proof.Machine

/-! # The rules of an instruction that issues

With no umpire watching, an instruction of a slot changes its tile alone. Each rule below gives the state that a shared operation leaves as a
change of the tile, so that an instruction's effect is read off as one tile that replaces another. -/

namespace Sys2Proof

/-- What stands at a key that lists a value other than the default is replaced. -/
theorem Table.put_put {α : Type} [DecidableEq α] (d : α) (t : Table α) (k : Nat) {v : α} (w : α) (hv : v ≠ d) :
    Table.put d (Table.put d t k v) k w = Table.put d t k w := by
  induction t with
  | nil => simp [Table.put, hv]
  | cons e t ih =>
    obtain ⟨k', v'⟩ := e
    by_cases hlt : k < k'
    · simp [Table.put, hv, hlt]
    · by_cases heq : k = k'
      · simp [Table.put, hv, heq]
      · simp [Table.put, hlt, heq, ih]

namespace Machine

/-! ## One tile replaced -/

theorem Tile.ne_reset_of_staged {x : Tile} (h : x.stage.isSome = true) : x ≠ {} := by
  rintro rfl
  exact absurd h (by decide)

section
variable {s : State} {t : TileId} {x : Tile}

theorem State.tile_setTile_staged (h : x.stage.isSome = true) : (s.setTile t x).tile t = x :=
  s.tile_setTile_some t x (Tile.ne_reset_of_staged h)

theorem State.setTile_setTile (h : x.stage.isSome = true) (y : Tile) : (s.setTile t x).setTile t y = s.setTile t y :=
  congrArg (fun m => { s with tiles := m }) (Table.put_put _ _ _ _ (Tile.ne_reset_of_staged h))

theorem State.updTile_setTile (h : x.stage.isSome = true) (f : Tile → Tile) : (s.setTile t x).updTile t f = s.setTile t (f x) := by
  rw [State.updTile, State.tile_setTile_staged h, State.setTile_setTile h]

theorem State.onlyTile_setTile (y : Tile) : OnlyTile t s (s.setTile t y) := State.onlyTile_updTile fun _ => y

/-- A command that replaces a tile by a staged one does that and nothing else. -/
theorem completes_setTile {c : Instr} {P : State → Prop} (hexec : exec c s = .next (s.setTile t x)) (h : x.stage.isSome = true)
    (hP : OnlyTile t s (s.setTile t x) → (s.setTile t x).tile t = x → P (s.setTile t x)) : Completes c s P :=
  ⟨_, hexec, hP (State.onlyTile_setTile x) (State.tile_setTile_staged h)⟩

end

/-! ## What holds of a slot that is ready -/

section
variable {s : State} {t : TileId}

theorem issuing_staged (h : issuing s t = true) : (s.tile t).stage.isSome = true := by
  simp only [issuing, Bool.and_eq_true] at h
  exact h.1.1.1.1.1.1.1

theorem slotReady_iff {pred : Nat} : slotReady s t pred = true ↔
    issuing s t = true ∧ bundleBad (s.tile t) = false ∧ preg (s.tile t) pred = true ∧ s.boot.debug = false := by
  simp [slotReady, and_assoc]

theorem slotRun_ready {pred : Nat} (h : slotReady s t pred = true) (f : State → State) : slotRun s t pred f = f s := by
  obtain ⟨hissue, hgood, hpred, -⟩ := slotReady_iff.mp h
  simp [slotRun, hissue, hgood, hpred]

theorem slotReady_staged {pred : Nat} (h : slotReady s t pred = true) : (s.tile t).stage.isSome = true :=
  issuing_staged (slotReady_iff.mp h).1

theorem slotReady_quiet {pred : Nat} (h : slotReady s t pred = true) : s.boot.debug = false := (slotReady_iff.mp h).2.2.2

/-! ## Operations that no umpire watches -/

section
variable (h : s.boot.debug = false)
include h

theorem State.umpireAt_quiet (kind slot res pc other detail : Nat) : s.umpireAt t kind slot res pc other detail = s := by
  simp [State.umpireAt, h]

theorem State.umpire_quiet (kind slot res other detail : Nat) : s.umpire t kind slot res other detail = s :=
  State.umpireAt_quiet h _ _ _ _ _ _

theorem State.staleRead_quiet (slot : Slot) (d : Dest) (res : Nat) : s.staleRead t slot d res = s := by
  unfold State.staleRead
  dsimp only
  split
  · exact State.umpire_quiet h _ _ _ _ _
  · rfl

theorem State.foldl_staleRead_quiet {β : Type} (slot : Slot) (d : β → Dest) (res : β → Nat) (l : List β) :
    l.foldl (fun (s : State) b => s.staleRead t slot (d b) (res b)) s = s := by
  induction l with
  | nil => rfl
  | cons b l ih => rw [List.foldl_cons, State.staleRead_quiet h, ih]

end

@[simp] theorem State.consume_false : s.consume t false = s := rfl

/-! ## Ports, banks and lines -/

/-- A resource is free in this cycle (R252). -/
def resFree (x : Tile) (res : Nat) : Prop := x.uses.any (fun u => decide (u.1 = res)) = false

theorem resFree_of_none {x : Tile} (h : x.uses = []) (res : Nat) : resFree x res := by simp [resFree, h]

/-- The tile with one more use in this cycle. -/
def addUse (x : Tile) (res : Nat) (slot : Slot) : Tile := { x with uses := x.uses ++ [(res, slot)] }

theorem resFree_addUse {x : Tile} {res res' : Nat} (h : resFree x res) (hne : res' ≠ res) (slot : Slot) :
    resFree (addUse x res' slot) res := by
  have hany : x.uses.any (fun u => decide (u.1 = res)) = false := h
  simp [resFree, addUse, hany, hne]

/-- A line can be read without correction: its bank is up and not in cache mode, and its words and marks are clean. -/
def lineClean (x : Tile) (line : Nat) : Prop :=
  bankUp x (bankOf line) = true ∧ cacheBank x (bankOf line) = false ∧ (lineRead x line).fixed = [] ∧ (lineRead x line).bad = [] ∧
    (lineRead x line).marked = false

theorem lineReady_iff {x : Tile} {line : Nat} :
    lineReady x line = true ↔ resFree x 0x20 ∧ resFree x (bankOf line) ∧ lineClean x line := by
  simp [lineReady, resFree, lineClean, and_assoc]

theorem bankOf_lt (line : Nat) : bankOf line < 32 := Nat.mod_lt _ (by decide)

theorem State.useRes_free {res : Nat} (hfree : resFree (s.tile t) res) (slot : Slot) :
    s.useRes t slot res = (s.setTile t (addUse (s.tile t) res slot), true) := if_neg (by rw [hfree]; decide)

theorem State.useBank_free {bank : Nat} (hfree : resFree (s.tile t) bank) (slot : Slot) :
    s.useBank t slot bank = (s.setTile t (addUse (s.tile t) bank slot), true) := if_neg (by rw [hfree]; decide)

theorem State.readEffects_clean {line : Nat} {o : LineRead} (hfixed : o.fixed = []) (hbad : o.bad = []) : s.readEffects t line o = s := by
  simp [State.readEffects, hfixed, hbad]

theorem State.schedRead_clean {line : Nat} (h : lineClean (s.tile t) line) :
    s.schedRead t line = (s, (lineRead (s.tile t) line).bytes, false) := by
  obtain ⟨hup, hcache, hfixed, hbad, hmarked⟩ := h
  simp [State.schedRead, hup, hcache, State.readEffects_clean hfixed hbad, hbad, hmarked]

/-- The tile with one more use of a port in this cycle, and one of the bank of a line. -/
def usedPort (x : Tile) (slot : Slot) (port line : Nat) : Tile := addUse (addUse x port slot) (bankOf line) slot

theorem usedPort_staged {x : Tile} (h : x.stage.isSome = true) (slot : Slot) (port line : Nat) :
    (usedPort x slot port line).stage.isSome = true := h

theorem launched_staged {x : Tile} (h : x.stage.isSome = true) (slot : Slot) (lat : Nat) (d : Dest) (v : ResultValue) :
    (launched x slot lat d v).stage.isSome = true := h

section
variable {slot : Slot} {port line : Nat} (hstage : (s.tile t).stage.isSome = true) (hport : resFree (s.tile t) port)
  (hbank : resFree (s.tile t) (bankOf line)) (hne : port ≠ bankOf line)
include hstage hport hbank hne

/-- A port and a bank that are free are taken. -/
theorem State.usePort_free :
    (if (s.useRes t slot port).2 then (s.useRes t slot port).1.useBank t slot (bankOf line) else ((s.useRes t slot port).1, false)) =
      (s.setTile t (usedPort (s.tile t) slot port line), true) := by
  have htile : (s.setTile t (addUse (s.tile t) port slot)).tile t = addUse (s.tile t) port slot := State.tile_setTile_staged hstage
  rw [State.useRes_free hport, if_pos rfl, State.useBank_free (by rw [htile]; exact resFree_addUse hbank hne slot), htile]
  exact congrArg (fun u => (u, true)) (State.setTile_setTile (x := addUse (s.tile t) port slot) hstage _)

/-- A scheduled read of a clean line takes its port and its bank, and is served (R146-R148). -/
theorem State.portRead_clean (hquiet : s.boot.debug = false) (hclean : lineClean (s.tile t) line) :
    s.portRead t slot port line = (s.setTile t (usedPort (s.tile t) slot port line), (lineRead (s.tile t) line).bytes, false) := by
  have htile : (s.setTile t (usedPort (s.tile t) slot port line)).tile t = usedPort (s.tile t) slot port line :=
    State.tile_setTile_staged hstage
  have hread := State.schedRead_clean (s := s.setTile t (usedPort (s.tile t) slot port line)) (t := t) (line := line)
    (by rw [htile]; exact hclean)
  rw [State.portRead, State.usePort_free hstage hport hbank hne]
  simp only [if_true]
  rw [State.staleRead_quiet (by exact hquiet), hread, htile]
  rfl

end

theorem State.launch_eq (slot : Slot) (lat : Nat) (d : Dest) (v : ResultValue) :
    s.launch t slot lat d v = s.setTile t (launched (s.tile t) slot lat d v) := rfl

theorem State.launch_setTile {x : Tile} (h : x.stage.isSome = true) (slot : Slot) (lat : Nat) (d : Dest) (v : ResultValue) :
    (s.setTile t x).launch t slot lat d v = s.setTile t (launched x slot lat d v) := State.updTile_setTile h _

/-- A store whose port and bank are free is in flight to its line (R212, R248). -/
theorem State.portStore_free {slot : Slot} {line : Nat} (hstage : (s.tile t).stage.isSome = true) (hport : resFree (s.tile t) 0x20)
    (hbank : resFree (s.tile t) (bankOf line)) (lat : Nat) (bs : Bytes) (poison : Bool) :
    s.portStore t slot lat line bs poison =
      s.setTile t (launched (usedPort (s.tile t) slot 0x20 line) slot lat (.scratch (BitVec.ofNat 15 line)) (.line bs poison)) := by
  have hne : 0x20 ≠ bankOf line := (bankOf_lt line).ne'
  rw [State.portStore, State.usePort_free hstage hport hbank hne]
  exact State.launch_setTile (usedPort_staged hstage _ _ _) _ _ _ _

end
end Machine
end Sys2Proof

/-! # Loads and stores -/

namespace Sys2Proof.Machine

section
variable {s : State} {t : TileId} {line : Nat}

/-- A line that is ready is read through the activation port. -/
theorem State.portRead_ready (hstage : (s.tile t).stage.isSome = true) (hquiet : s.boot.debug = false)
    (hready : lineReady (s.tile t) line = true) (slot : Slot) :
    s.portRead t slot 0x20 line = (s.setTile t (usedPort (s.tile t) slot 0x20 line), (lineRead (s.tile t) line).bytes, false) := by
  obtain ⟨hport, hbank, hclean⟩ := lineReady_iff.mp hready
  exact State.portRead_clean hstage hport hbank (bankOf_lt line).ne' hquiet hclean

variable {pred : BitVec 2} {v : BitVec 5} {a : BitVec 4} {addr : BitVec 15} {ext : BitVec 16}

/-- R212: a load of a ready line leaves it in flight to its register. -/
theorem execLd_ready (hslot : slotReady s t pred.toNat = true) (hmode : ext.toNat % 8 < 6)
    (hl : lineAddr (s.tile t) a.toNat addr.toNat = line) (hready : lineReady (s.tile t) line = true) :
    execLd t pred v a addr ext s = .next (s.setTile t (launched (usedPort (s.tile t) .lsu 0x20 line) .lsu
      (s.lat 7) (.vreg v) (.lanes false (loadLanes (ext.toNat % 8) (lineRead (s.tile t) line).bytes)
        false))) := by
  have hstage := slotReady_staged hslot
  rw [execLd, slotRun_ready hslot, if_neg (Nat.not_le.mpr hmode), hl, State.portRead_ready hstage (slotReady_quiet hslot) hready]
  exact congrArg _ (State.launch_setTile (usedPort_staged hstage _ _ _) _ _ _ _)

/-- R212: a load of a ready line leaves it in flight to its operand-buffer line. -/
theorem execLdx_ready {n : BitVec 8} (hslot : slotReady s t pred.toNat = true)
    (hl : lineAddr (s.tile t) a.toNat addr.toNat = line) (hready : lineReady (s.tile t) line = true) :
    execLdx t pred a addr n s = .next (s.setTile t (launched (usedPort (s.tile t) .lsu 0x20 line) .lsu
      (s.lat 7) (.opLine n) (.line (lineRead (s.tile t) line).bytes false))) := by
  have hstage := slotReady_staged hslot
  rw [execLdx, slotRun_ready hslot, hl, State.portRead_ready hstage (slotReady_quiet hslot) hready]
  exact congrArg _ (State.launch_setTile (usedPort_staged hstage _ _ _) _ _ _ _)

/-- R212: a store of a register without poison leaves its line in flight. -/
theorem execSt_ready (hslot : slotReady s t pred.toNat = true) (hclean : vPoison (s.tile t) v.toNat = false) (hmode : ext.toNat % 8 < 6)
    (hl : lineAddr (s.tile t) a.toNat addr.toNat = line) (hready : lineReady (s.tile t) line = true) :
    execSt t pred v a addr ext s = .next (s.setTile t (launched (usedPort (s.tile t) .lsu 0x20 line) .lsu
      (s.lat 7) (.scratch (BitVec.ofNat 15 line))
        (.line (storeLine (ext.toNat % 8) (lanesOf (s.tile t) v.toNat)) false))) := by
  obtain ⟨hport, hbank, -⟩ := lineReady_iff.mp hready
  rw [execSt, slotRun_ready hslot, if_neg (Nat.not_le.mpr hmode), State.staleRead_quiet (slotReady_quiet hslot)]
  simp only [hclean, State.consume_false, hl]
  exact congrArg _ (State.portStore_free (slotReady_staged hslot) hport hbank _ _ _)

/-- R212: a clear leaves a line of zeros in flight. -/
theorem execClr_ready (hslot : slotReady s t pred.toNat = true)
    (hl : lineAddr (s.tile t) a.toNat addr.toNat = line) (hready : lineReady (s.tile t) line = true) :
    execClr t pred a addr s = .next (s.setTile t (launched (usedPort (s.tile t) .lsu 0x20 line) .lsu
      (s.lat 7) (.scratch (BitVec.ofNat 15 line)) (.line (List.replicate 128 0) false))) := by
  obtain ⟨hport, hbank, -⟩ := lineReady_iff.mp hready
  rw [execClr, slotRun_ready hslot, hl]
  exact congrArg _ (State.portStore_free (slotReady_staged hslot) hport hbank _ _ _)

end

/-! ## The lanes a load fills -/

theorem usedPort_eq (x : Tile) (slot : Slot) (port line : Nat) :
    usedPort x slot port line = { x with uses := x.uses ++ [(port, slot), (bankOf line, slot)] } := by
  simp [usedPort, addUse]

theorem loadLanes_length (m : Nat) (bs : Bytes) : (loadLanes m bs).length = if m < 4 then 32 else 64 := by
  by_cases h : m < 4 <;> simp [loadLanes, h, line32, lineHalves]

theorem loadLanes_word {m : Nat} (hm : m < 4) (bs : Bytes) {i : Nat} (hi : i < 32) :
    (loadLanes m bs).getD i (0, 0) = (32 * m + i, BitVec.ofNat 32 (leNat ((bs.drop (4 * i)).take 4))) := by
  simp [loadLanes, hm, line32, List.getD_eq_getElem?_getD, hi]

/-- A BF16 value widened is its code in the upper half of the word (R212). -/
theorem widened_half (n : Nat) : (BitVec.ofNat 16 n).setWidth 32 <<< 16 = BitVec.ofNat 32 (2 ^ 16 * n) := by
  refine BitVec.eq_of_toNat_eq ?_
  simp [Nat.shiftLeft_eq]
  omega

theorem loadLanes_half {m : Nat} (hm : 4 ≤ m) (bs : Bytes) {i : Nat} (hi : i < 64) :
    (loadLanes m bs).getD i (0, 0) = (64 * (m - 4) + i, BitVec.ofNat 32 (2 ^ 16 * leNat ((bs.drop (2 * i)).take 2))) := by
  simp [loadLanes, Nat.not_lt.mpr hm, lineHalves, List.getD_eq_getElem?_getD, hi, widened_half]

/-- Settles O9: a load of a ready line is served, and its lanes are the line's words or its widened halves. -/
theorem lsuLoads : Obligations.LsuLoads := by
  intro s t pred v a line ext n bs i hslot x l
  have hl : lineAddr (s.tile t) a.toNat line.toNat = l := rfl
  clear_value l
  intro used hready
  have hstage := slotReady_staged hslot
  have hused : usedPort (s.tile t) .lsu 0x20 l = used := usedPort_eq _ _ _ _
  refine ⟨fun hmode => ?_, ?_, fun hm hi => loadLanes_word hm bs hi, fun hm hi => loadLanes_half (by omega) bs hi, fun _ => loadLanes_length _ bs⟩
  · exact completes_setTile (execLd_ready hslot hmode hl hready)
      (launched_staged (usedPort_staged hstage _ _ _) _ _ _ _) fun honly hself => ⟨honly, by rw [hself, hused]⟩
  · exact completes_setTile (execLdx_ready hslot hl hready)
      (launched_staged (usedPort_staged hstage _ _ _) _ _ _ _) fun honly hself => ⟨honly, by rw [hself, hused]⟩

/-- Settles O10: a store finds its port and its bank free, and its line waits in flight for the end of its latency. -/
theorem lsuStores : Obligations.LsuStores := by
  intro s t pred v a line ext hslot hclean x l
  have hl : lineAddr (s.tile t) a.toNat line.toNat = l := rfl
  clear_value l
  intro used hready
  have hstage := slotReady_staged hslot
  have hused : usedPort (s.tile t) .lsu 0x20 l = used := usedPort_eq _ _ _ _
  refine ⟨fun hmode => ?_, ?_⟩
  · exact completes_setTile (execSt_ready hslot hclean hmode hl hready)
      (launched_staged (usedPort_staged hstage _ _ _) _ _ _ _) fun honly hself => ⟨honly, by rw [hself, hused]⟩
  · exact completes_setTile (execClr_ready hslot hl hready)
      (launched_staged (usedPort_staged hstage _ _ _) _ _ _ _) fun honly hself => ⟨honly, by rw [hself, hused]⟩

end Sys2Proof.Machine

/-! # Vector instructions -/

namespace Sys2Proof

section
variable {α : Type} (d : α) (t : Table α)

@[simp] theorem Table.getList_length (k n : Nat) : (Table.getList d t k n).length = n := by
  induction n generalizing k with
  | zero => rfl
  | succ n ih => simp [Table.getList, ih]

@[simp] theorem Table.getList_getElem (k n i : Nat) (h : i < (Table.getList d t k n).length) :
    (Table.getList d t k n)[i] = Table.get d t (k + i) := by
  induction n generalizing k i with
  | zero => simp [Table.getList] at h
  | succ n ih =>
    cases i with
    | zero => rfl
    | succ i =>
      have hi : i < (Table.getList d t (k + 1) n).length := by simpa [Table.getList] using h
      simpa [Table.getList, Nat.add_assoc, Nat.add_comm 1 i] using ih (k + 1) i hi

end

namespace Machine

/-! ## Lanes -/

section
variable (x : Tile) (v : Nat)

@[simp] theorem lanesOf_length : (lanesOf x v).length = 128 := Table.getList_length _ _ _ _

@[simp] theorem lanesOf_getElem (i : Nat) (h : i < (lanesOf x v).length) : (lanesOf x v)[i] = lane x v i := by
  simp [lanesOf, lane]

@[simp] theorem valsOf_length : (valsOf x v).length = 128 := by simp [valsOf]

@[simp] theorem valsOf_getElem (i : Nat) (h : i < (valsOf x v).length) : (valsOf x v)[i] = fp32 (lane x v i) := by
  simp [valsOf]

end

/-! ## A result of 128 lanes -/

section
variable {s : State} {t : TileId} {slot : Slot} {d : BitVec 5} {lat : Nat} {i : Instr}

theorem getD_of_getElem {ws : List Word} {w : Nat → Word} (hlen : ws.length = 128) (hlanes : ∀ i (h : i < ws.length), ws[i] = w i)
    (i : Nat) (hi : i < 128) : ws.getD i 0 = w i := by
  rw [List.getD_eq_getElem _ _ (hlen ▸ hi), hlanes]

/-- Lanes put in flight to a register are a vector result. -/
theorem completes_vecResult {ws : List Word} {w : Nat → Word} (hstage : (s.tile t).stage.isSome = true)
    (hexec : exec i s = .next (s.setTile t (launched (s.tile t) slot lat (.vreg d) (.lanes true (numbered ws) false))))
    (hlen : ws.length = 128) (hlanes : ∀ i (h : i < ws.length), ws[i] = w i) : Completes i s (VecResult s t slot d lat w) :=
  completes_setTile hexec (launched_staged hstage _ _ _ _) fun honly hself =>
    ⟨ws, hlen, getD_of_getElem hlen hlanes, honly, hself⟩

/-- A vector operation on registers without poison puts its lanes in flight (R230). -/
theorem vecRun_ready {pred : Nat} {srcs : List Nat} {f : Tile → List Word} (hslot : slotReady s t pred = true)
    (hclean : srcs.any (fun v => vPoison (s.tile t) v) = false) :
    vecRun s t pred d srcs lat f = s.setTile t (launched (s.tile t) .vec lat (.vreg d) (.lanes true (numbered (f (s.tile t))) false)) := by
  rw [vecRun, slotRun_ready hslot, State.foldl_staleRead_quiet (slotReady_quiet hslot)]
  simp only [hclean, State.consume_false]
  rfl

theorem completes_vecRun {pred : Nat} {srcs : List Nat} {f : Tile → List Word} {w : Nat → Word} (hslot : slotReady s t pred = true)
    (hclean : srcs.any (fun v => vPoison (s.tile t) v) = false) (hexec : exec i s = .next (vecRun s t pred d srcs lat f))
    (hlen : (f (s.tile t)).length = 128) (hlanes : ∀ i (h : i < (f (s.tile t)).length), (f (s.tile t))[i] = w i) :
    Completes i s (VecResult s t .vec d lat w) :=
  completes_vecResult (slotReady_staged hslot) (hexec.trans (congrArg _ (vecRun_ready hslot hclean))) hlen hlanes

end

/-- Settles O14: each instruction is a vector operation on registers without poison, and its lanes are those of the list it makes. -/
theorem vectorLanes : Obligations.VectorLanes := by
  intro s t pred d a b c imm hslot ha hb hc x A B C R
  have hsrc1 : [a.toNat].any (fun v => vPoison (s.tile t) v) = false := by simp [ha]
  have hsrc2 : [a.toNat, b.toNat].any (fun v => vPoison (s.tile t) v) = false := by simp [ha, hb]
  have hsrc3 : [a.toNat, b.toNat, c.toNat].any (fun v => vPoison (s.tile t) v) = false := by simp [ha, hb, hc]
  have hbcast (i : Nat) (hi : i < (List.replicate 128 ((lanesOf x a.toNat).getD (imm.toNat % 128) 0)).length) :
      (List.replicate 128 ((lanesOf x a.toNat).getD (imm.toNat % 128) 0))[i] = A (imm.toNat % 128) := by
    have hlane : imm.toNat % 128 < (lanesOf x a.toNat).length := by simp [Nat.mod_lt]
    rw [List.getElem_replicate, List.getD_eq_getElem _ _ hlane, lanesOf_getElem]
  refine ⟨completes_vecRun hslot hsrc2 rfl ?_ ?_, completes_vecRun hslot hsrc2 rfl ?_ ?_, completes_vecRun hslot hsrc2 rfl ?_ ?_,
    completes_vecRun hslot hsrc3 rfl ?_ ?_, completes_vecRun hslot hsrc2 rfl ?_ ?_, completes_vecRun hslot hsrc2 rfl ?_ ?_,
    completes_vecRun hslot hsrc2 rfl ?_ ?_, completes_vecRun hslot hsrc3 rfl ?_ ?_, completes_vecRun hslot hsrc1 rfl ?_ ?_,
    completes_vecRun hslot hsrc1 rfl ?_ ?_, completes_vecRun hslot hsrc1 rfl (by simp) hbcast, completes_vecRun hslot hsrc1 rfl ?_ ?_,
    completes_vecRun hslot hsrc1 rfl ?_ ?_, completes_vecRun hslot hsrc1 rfl ?_ fun i _ => ?scaled⟩
  case scaled => simp only [List.getElem_map, valsOf_getElem, A, x]
  all_goals simp [A, B, C, x]

/-! ## The fixed pairwise tree (R232) -/

section
variable {op : Word → Word → Word}

/-- A tree over values is the tree, one level lower, over the values of its first level. -/
theorem treeVal_first (f : Nat → Word) (k i : Nat) :
    treeVal op f (k + 1) i = treeVal op (fun j => op (f (2 * j)) (f (2 * j + 1))) k i := by
  induction k generalizing i with
  | zero => rfl
  | succ k ih => rw [treeVal, ih, ih, treeVal]

/-- Node `i` of level `k` depends on the `2 ^ k` values below it alone. -/
theorem treeVal_congr {f g : Nat → Word} (k i : Nat) (h : ∀ j, i * 2 ^ k ≤ j → j < (i + 1) * 2 ^ k → f j = g j) :
    treeVal op f k i = treeVal op g k i := by
  induction k generalizing i with
  | zero => exact h i (by omega) (by omega)
  | succ k ih =>
    rw [treeVal, treeVal, ih (2 * i) fun j _ _ => h j (by grind) (by grind), ih (2 * i + 1) fun j _ _ => h j (by grind) (by grind)]

/-- A tree over values from `2 ^ k * m` on is a node of the tree over all. -/
theorem treeVal_shift (f : Nat → Word) (k m i : Nat) : treeVal op (fun j => f (2 ^ k * m + j)) k i = treeVal op f k (m + i) := by
  induction k generalizing m i with
  | zero => simp [treeVal]
  | succ k ih =>
    have hshift : (fun j => f (2 ^ (k + 1) * m + j)) = fun j => f (2 ^ k * (2 * m) + j) := by
      funext j
      rw [Nat.pow_succ, Nat.mul_assoc]
    rw [hshift, treeVal, treeVal, ih, ih, Nat.mul_add, Nat.add_assoc]

theorem pairs_length {n : Nat} {xs : List Word} (h : xs.length = 2 * n) : (pairTree.pairs op xs).length = n := by
  induction xs using pairTree.pairs.induct generalizing n with
  | case1 x y r ih =>
    obtain ⟨m, rfl⟩ : ∃ m, n = m + 1 := ⟨n - 1, by simp at h; omega⟩
    simp [pairTree.pairs, ih (n := m) (by simp at h; omega)]
  | case2 xs hxs =>
    match xs with
    | [] => simp at h; simp [pairTree.pairs, h]
    | [x] => simp at h; omega
    | x :: y :: r => exact (hxs x y r rfl).elim

theorem pairs_getD {xs : List Word} {i : Nat} (h : 2 * i + 1 < xs.length) :
    (pairTree.pairs op xs).getD i 0 = op (xs.getD (2 * i) 0) (xs.getD (2 * i + 1) 0) := by
  induction xs using pairTree.pairs.induct generalizing i with
  | case1 x y r ih =>
    cases i with
    | zero => rfl
    | succ i => simpa [pairTree.pairs, Nat.mul_add] using ih (i := i) (by simp at h; omega)
  | case2 xs hxs =>
    match xs with
    | [] => simp at h
    | [x] => simp at h
    | x :: y :: r => exact (hxs x y r rfl).elim

/-- Combining adjacent pairs level by level gives the root of the tree. -/
theorem pairTree_root {n : Nat} {xs : List Word} (h : xs.length = 2 ^ n) :
    (pairTree op n xs).getD 0 0 = treeVal op (fun i => xs.getD i 0) n 0 := by
  induction n generalizing xs with
  | zero => rfl
  | succ n ih =>
    rw [pairTree, ih (pairs_length (by rw [h, Nat.pow_succ, Nat.mul_comm])), treeVal_first]
    exact treeVal_congr n 0 fun j _ hj => pairs_getD (by rw [h, Nat.pow_succ]; omega)

end

/-! ## Reductions and long operations -/

section
variable {s : State} {t : TileId} {d a : BitVec 5}

theorem getD_lanesOf (x : Tile) (v : Nat) {i : Nat} (hi : i < 128) : (lanesOf x v).getD i 0 = lane x v i :=
  getD_of_getElem (lanesOf_length x v) (lanesOf_getElem x v) i hi

theorem reduceLanes_length (op : Word → Word → Word) (half : Bool) (xs : List Word) : (reduceLanes op half xs).length = 128 := by
  cases half with
  | false => simp only [reduceLanes, Bool.false_eq_true, if_false, List.length_replicate]
  | true => simp only [reduceLanes, if_true, List.length_append, List.length_replicate]

/-- A reduction puts the root of the tree over all lanes in every lane, or the root over each half in that half (R232). -/
theorem reduceLanes_getElem (op : Word → Word → Word) (half : Bool) (x : Tile) (v i : Nat)
    (h : i < (reduceLanes op half (lanesOf x v)).length) :
    (reduceLanes op half (lanesOf x v))[i] = if half then treeVal op (lane x v) 6 (i / 64) else treeVal op (lane x v) 7 0 := by
  have hwhole : (pairTree op 7 (lanesOf x v)).getD 0 0 = treeVal op (lane x v) 7 0 := by
    rw [pairTree_root (by simp)]
    exact treeVal_congr 7 0 fun j _ hj => getD_lanesOf x v (by omega)
  have hlow : (pairTree op 6 ((lanesOf x v).take 64)).getD 0 0 = treeVal op (lane x v) 6 0 := by
    rw [pairTree_root (by simp)]
    refine treeVal_congr 6 0 fun j _ hj => ?_
    rw [List.getD_eq_getElem _ _ (by simp; omega), List.getElem_take, lanesOf_getElem]
  have hhigh : (pairTree op 6 ((lanesOf x v).drop 64)).getD 0 0 = treeVal op (lane x v) 6 1 := by
    rw [pairTree_root (by simp), ← treeVal_shift (lane x v) 6 1 0]
    refine treeVal_congr 6 0 fun j _ hj => ?_
    rw [List.getD_eq_getElem _ _ (by simp; omega), List.getElem_drop, lanesOf_getElem]
    rfl
  have hi : i < 128 := reduceLanes_length op half (lanesOf x v) ▸ h
  cases half with
  | false => simp only [reduceLanes, Bool.false_eq_true, if_false, List.getElem_replicate, hwhole]
  | true =>
    by_cases hlt : i < 64
    · simp only [reduceLanes, if_true, List.getElem_append, List.length_replicate, List.getElem_replicate, dif_pos hlt, hlow,
        Nat.div_eq_of_lt hlt]
    · have hdiv : i / 64 = 1 := by omega
      simp only [reduceLanes, if_true, List.getElem_append, List.length_replicate, List.getElem_replicate, dif_neg hlt, hhigh, hdiv]

/-- A long operation not one cycle after the last is a vector operation, and the last of its kind from then (R171). -/
theorem longRun_served {pred : Nat} {f : FP → Word} (hslot : slotReady s t pred = true) (hclean : vPoison (s.tile t) a.toNat = false)
    (hfar : ¬ ((s.tile t).lastLong = some ((s.tile t).cycle - 1) ∧ 0 < (s.tile t).cycle)) :
    longRun s t pred d a f = s.setTile t
      { (markUse (launched (s.tile t) .vec (s.lat 11) (.vreg d) (.lanes true (numbered ((valsOf (s.tile t) a.toNat).map f)) false)) 0x27) with
        lastLong := some (s.tile t).cycle } := by
  have hslot0 : slotReady s t 0 = true := by
    obtain ⟨hissue, hgood, -, hquiet⟩ := slotReady_iff.mp hslot
    exact slotReady_iff.mpr ⟨hissue, hgood, rfl, hquiet⟩
  rw [longRun, slotRun_ready hslot]
  simp only [Bool.and_eq_true, decide_eq_true_eq, if_neg hfar]
  rw [vecRun_ready hslot0 (by simp [hclean]), State.updTile_setTile (launched_staged (slotReady_staged hslot) _ _ _ _)]
  rfl

/-- A long operation one cycle after the last is discarded, and its destination marked poisoned (R252). -/
theorem longRun_discarded {pred : Nat} {f : FP → Word} (hslot : slotReady s t pred = true)
    (hclose : (s.tile t).lastLong = some ((s.tile t).cycle - 1) ∧ 0 < (s.tile t).cycle) :
    longRun s t pred d a f = s.setTile t (launched (s.tile t) .vec (s.lat 11) (.vreg d) (.lanes false [] true)) := by
  rw [longRun, slotRun_ready hslot]
  simp only [Bool.and_eq_true, decide_eq_true_eq, if_pos hclose, State.umpire_quiet (slotReady_quiet hslot)]
  rfl

end

/-- Settles O15: the reductions are vector operations whose lanes are roots of the tree, and the long operations are served or discarded. -/
theorem vectorReductionsAndFunctions : Obligations.VectorReductionsAndFunctions := by
  intro s t pred d a imm hslot hclean x A sum most T close R
  have hsrc : [a.toNat].any (fun v => vPoison (s.tile t) v) = false := by simp [hclean]
  have hstage := slotReady_staged hslot
  have hlong {i : Instr} {f : FP → Word} (hexec : exec i s = .next (longRun s t pred.toNat d a f)) : R i f := by
    refine ⟨fun hfar => ?_, fun hclose => ?_⟩
    · refine completes_setTile (hexec.trans (congrArg _ (longRun_served hslot hclean hfar))) hstage fun honly hself => ⟨honly, ?_⟩
      rw [hself]
      exact ⟨rfl, _, by simp, getD_of_getElem (by simp) (by simp [x]), rfl⟩
    · exact completes_setTile (hexec.trans (congrArg _ (longRun_discarded hslot hclose))) (launched_staged hstage _ _ _ _)
        fun honly hself => ⟨honly, hself⟩
  exact ⟨completes_vecRun hslot hsrc rfl (reduceLanes_length _ _ _) (reduceLanes_getElem _ _ _ _),
    completes_vecRun hslot hsrc rfl (reduceLanes_length _ _ _) (reduceLanes_getElem _ _ _ _), hlong rfl, hlong rfl, hlong rfl⟩

end Machine
end Sys2Proof

/-! # The control slot -/

namespace Sys2Proof.Machine

/-! ## Scalars and predicates (R194) -/

section
variable (x : Tile) (n m : Nat)

@[simp] theorem sreg_zero : sreg x 0 = 0 := rfl

@[simp] theorem preg_zero : preg x 0 = true := rfl

theorem sreg_setSreg (v : Word) (h : Table.wf 0 x.s = true) : sreg (setSreg x n v) m = if m = n ∧ m ≠ 0 then v else sreg x m := by
  by_cases hm : m = 0
  · simp [hm]
  by_cases hn : n = 0
  · simp [setSreg, hn, hm]
  by_cases hmn : m = n
  · subst hmn
    simpa [sreg, setSreg, hn] using Table.get_put_self _ _ m v h
  · simp [sreg, setSreg, hn, hm, hmn, Table.get_put_ne _ _ _ _ _ hmn]

theorem preg_setPreg (v : Bool) (h : Table.wf false x.p = true) : preg (setPreg x n v) m = if m = n ∧ m ≠ 0 then v else preg x m := by
  by_cases hm : m = 0
  · simp [hm]
  by_cases hn : n = 0
  · simp [setPreg, hn, hm]
  by_cases hmn : m = n
  · subst hmn
    simpa [preg, setPreg, hn] using Table.get_put_self _ _ m v h
  · simp [preg, setPreg, hn, hm, hmn, Table.get_put_ne _ _ _ _ _ hmn]

/-- A write of a scalar changes the scalars alone. -/
theorem setSreg_eq (v : Word) : setSreg x n v = { x with s := (setSreg x n v).s } := by
  by_cases hn : n = 0 <;> simp [setSreg, hn]

/-- A write of a predicate changes the predicates alone. -/
theorem setPreg_eq (v : Bool) : setPreg x n v = { x with p := (setPreg x n v).p } := by
  by_cases hn : n = 0 <;> simp [setPreg, hn]

end

theorem sreg_congr {x y : Tile} (h : x.s = y.s) (n : Nat) : sreg x n = sreg y n := by rw [sreg, sreg, h]

theorem preg_congr {x y : Tile} (h : x.p = y.p) (n : Nat) : preg x n = preg y n := by rw [preg, preg, h]

/-- Settles O4: a write is read back at its own register, and register 0 is written by none. -/
theorem hardwiredRegisters : Obligations.HardwiredRegisters := by
  intro x n v b
  refine ⟨rfl, rfl, rfl, rfl, fun hs hn => ⟨?_, fun m hm => ?_⟩, fun hp hn => ⟨?_, fun m hm => ?_⟩⟩
  · simp [sreg_setSreg x n n v hs, hn]
  · simp [sreg_setSreg x n m v hs, hm]
  · simp [preg_setPreg x n n b hp, hn]
  · simp [preg_setPreg x n m b hp, hm]

/-! ## The bundle that closes -/

/-- The tile without the rotation block that breaks in this cycle (R235). -/
def ungapped (x : Tile) : Tile := { x with rotNow := if rotGapNow x then none else x.rotNow }

section
variable {x : Tile}

theorem ungapped_of_no_gap (h : rotGapNow x = false) : ungapped x = x := by simp [ungapped, h]

/-- A bundle that closes leaves its place to the one that follows (R192, R195, R206, R207). -/
theorem closeBundle_eq (target : Option Nat) : closeBundle x target = { x with
    pc := BitVec.ofNat 12 x.nextPc
    nextPc := target.getD (x.nextPc + 1) % 4096
    cycle := min 0xFFFFFFFF (x.cycle + 1)
    uses := []
    bgUses := []
    done := x.done || decide (4096 ≤ target.getD (x.nextPc + 1))
    endCycle := (closeBundle x target).endCycle
    bswWait := if x.bswWait = 1 then 2 else x.bswWait
    netWait := if x.netWait = 1 then 2 else x.netWait } := by
  cases target <;>
  · unfold closeBundle
    dsimp only [Option.getD]
    split
    next hend => simp [hend, cycleAdd]
    next hgo => simp [hgo, cycleAdd]

theorem closeBundle_staged (h : x.stage.isSome = true) (target : Option Nat) : (closeBundle x target).stage.isSome = true := by
  rw [closeBundle_eq]
  exact h

theorem advanced_closeBundle {y : Tile} (hpc : y.nextPc = x.nextPc) (hcycle : y.cycle = x.cycle) (hdone : y.done = false)
    (target : Option Nat) : Advanced x (closeBundle y target) (target.getD (x.nextPc + 1)) := by
  rw [closeBundle_eq]
  simp [Advanced, hpc, hcycle, hdone]

/-- What changed scalars, predicates and the end of the program alone keeps the frame of a CTL instruction. -/
theorem ctlFrame_closeBundle {y : Tile} (hy : y = { ungapped x with s := y.s, p := y.p, done := y.done, endCycle := y.endCycle })
    (target : Option Nat) : CtlFrame x (closeBundle y target) := by
  rw [closeBundle_eq, hy]
  rfl

end

/-! ## A sequencer that issues -/

section
variable {s : State} {t : TileId}

theorem ctlReady_iff : ctlReady s t = true ↔
    issuing s t = true ∧ bundleBad (s.tile t) = false ∧ (s.boot.debug = false ∨ rotGapNow (s.tile t) = false) := by
  simp [ctlReady, and_assoc]

theorem ctlReady_staged (h : ctlReady s t = true) : (s.tile t).stage.isSome = true := issuing_staged (ctlReady_iff.mp h).1

theorem issuing_held (h : issuing s t = true) : (s.tile t).hold = .none ∧ (s.tile t).done = false := by
  simp only [issuing, Bool.and_eq_true, decide_eq_true_eq, Bool.not_eq_true'] at h
  obtain ⟨⟨⟨⟨⟨⟨⟨-, -⟩, -⟩, hhold⟩, -⟩, -⟩, hdone⟩, -⟩ := h
  exact ⟨hhold, hdone⟩

/-- With no umpire to record it, a rotation block that breaks changes its tile alone (R235). -/
theorem State.updTile_rotGap (hquiet : s.boot.debug = false ∨ rotGapNow (s.tile t) = false) (hstage : (s.tile t).stage.isSome = true)
    (f : Tile → Tile) : (s.rotGap t).updTile t f = s.setTile t (f (ungapped (s.tile t))) := by
  unfold State.rotGap
  split
  next b hb =>
    by_cases hjoined : b.cycle = (s.tile t).cycle
    · have hnone : rotGapNow (s.tile t) = false := by simp [rotGapNow, hb, hjoined]
      rw [if_pos hjoined, ungapped_of_no_gap hnone]
      rfl
    · have hgap : rotGapNow (s.tile t) = true := by simp [rotGapNow, hb, hjoined]
      have hdebug : s.boot.debug = false := by simpa [hgap] using hquiet
      have hbroken : ungapped (s.tile t) = { s.tile t with rotNow := none } := by simp [ungapped, hgap]
      rw [if_neg hjoined, State.umpireAt_quiet hdebug, hbroken]
      exact State.updTile_setTile (x := { s.tile t with rotNow := none }) hstage f
  next hb =>
    rw [ungapped_of_no_gap (by simp [rotGapNow, hb])]
    rfl

/-! ## What an operation leaves of its tile -/

/-- The tile is `y` afterwards, and every other tile as it was. -/
def Leaves (t : TileId) (s u : State) (y : Tile) : Prop := OtherTiles t s u ∧ u.tile t = y

theorem Leaves.updTile {u : State} {y : Tile} (h : Leaves t s u y) {f : Tile → Tile} (hf : (f y).stage.isSome = true) :
    Leaves t s (u.updTile t f) (f y) := by
  obtain ⟨hother, rfl⟩ := h
  exact ⟨fun k hk => (u.otherTiles_updTile t f k hk).trans (hother k hk), u.tile_updTile_staged t f hf⟩

theorem Leaves.of_tiles {u v : State} {y : Tile} (h : Leaves t s u y) (hv : v.tiles = u.tiles) : Leaves t s v y := by
  obtain ⟨hother, hself⟩ := h
  exact ⟨fun k hk => by rw [hv, hother k hk], (State.tile_congr hv t).trans hself⟩

theorem Leaves.refl : Leaves t s s (s.tile t) := ⟨fun _ _ => rfl, rfl⟩

@[simp] theorem State.regionEvent_tiles (r code : Nat) (p : Bytes) : (s.regionEvent r code p).tiles = s.tiles := rfl

@[simp] theorem State.umpireAt_tiles (kind slot res pc other detail : Nat) : (s.umpireAt t kind slot res pc other detail).tiles = s.tiles := by
  unfold State.umpireAt
  dsimp only
  split <;> simp

/-- A rotation block that breaks leaves the tile without it, whether or not the umpire records it (R235). -/
theorem leaves_rotGap (hstage : (s.tile t).stage.isSome = true) : Leaves t s (s.rotGap t) (ungapped (s.tile t)) := by
  unfold State.rotGap
  split
  next b hb =>
    by_cases hjoined : b.cycle = (s.tile t).cycle
    · rw [if_pos hjoined, ungapped_of_no_gap (by simp [rotGapNow, hb, hjoined])]
      exact .refl
    · have hbroken : ungapped (s.tile t) = { s.tile t with rotNow := none } := by simp [ungapped, rotGapNow, hb, hjoined]
      rw [if_neg hjoined, hbroken]
      exact (Leaves.refl.of_tiles (State.umpireAt_tiles ..)).updTile hstage
  next hb =>
    rw [ungapped_of_no_gap (by simp [rotGapNow, hb])]
    exact .refl

/-- The tile once it withholds its commits (R150). -/
def withheld (x : Tile) : Tile := { x with withhold := true, withheldStat := x.withheldStat || !x.withhold }

theorem withheld_of_withhold {x : Tile} (h : x.withhold = true) : withheld x = x := by
  simp only [withheld, h, Bool.not_true, Bool.or_false]
  rw [← h]

theorem Leaves.withhold {u : State} {y : Tile} (h : Leaves t s u y) (hstage : y.stage.isSome = true) :
    Leaves t s (u.withhold t) (withheld y) := by
  obtain rfl := h.2
  unfold State.withhold
  by_cases hheld : (u.tile t).withhold = true
  · rw [if_pos hheld]
    rwa [withheld_of_withhold hheld]
  · have hnew : withheld (u.tile t) = { u.tile t with withhold := true, withheldStat := true } := by simp [withheld, hheld]
    rw [if_neg hheld, hnew]
    exact (h.updTile (f := fun x => { x with withhold := true, withheldStat := true }) hstage).of_tiles (State.trigger_tiles ..)

theorem rotGap_bundleBad (hstage : (s.tile t).stage.isSome = true) : bundleBad ((s.rotGap t).tile t) = bundleBad (s.tile t) := by
  obtain ⟨-, hself⟩ := leaves_rotGap hstage
  rw [hself]
  rfl

/-! ## A CTL instruction that runs -/

/-- A CTL instruction that runs changes its tile, and its bundle closes (R192). -/
theorem ctlRun_ready (h : ctlReady s t = true) (f : Tile → Tile) (target : Tile → Option Nat) :
    ctlRun s t f target = s.setTile t (closeBundle (f (ungapped (s.tile t))) (target (ungapped (s.tile t)))) := by
  obtain ⟨hissue, hgood, hquiet⟩ := ctlReady_iff.mp h
  rw [ctlRun, if_neg (by simp [hissue])]
  dsimp only
  rw [rotGap_bundleBad (issuing_staged hissue), hgood, if_neg (by decide), State.updTile_rotGap hquiet (issuing_staged hissue)]

theorem completes_ctlRun {i : Instr} {P : State → Prop} {f : Tile → Tile} {target : Tile → Option Nat} (h : ctlReady s t = true)
    (hexec : exec i s = .next (ctlRun s t f target)) (hf : (f (ungapped (s.tile t))).stage.isSome = true)
    (hP : ∀ u, OnlyTile t s u → u.tile t = closeBundle (f (ungapped (s.tile t))) (target (ungapped (s.tile t))) → P u) :
    Completes i s P :=
  completes_setTile (hexec.trans (congrArg _ (ctlRun_ready h f target))) (closeBundle_staged hf _) (hP _)

/-- A CTL instruction that writes scalars and predicates alone. -/
theorem completes_ctl {i : Instr} {P : State → Prop} {f : Tile → Tile} {target : Tile → Option Nat} {w : Table Word} {q : Table Bool}
    (h : ctlReady s t = true) (hexec : exec i s = .next (ctlRun s t f target))
    (hf : f (ungapped (s.tile t)) = { ungapped (s.tile t) with s := w, p := q })
    (hP : ∀ u, OnlyTile t s u → CtlFrame (s.tile t) (u.tile t) → (u.tile t).s = w → (u.tile t).p = q →
      Advanced (s.tile t) (u.tile t) ((target (ungapped (s.tile t))).getD ((s.tile t).nextPc + 1)) → P u) : Completes i s P := by
  have hdone := (issuing_held (ctlReady_iff.mp h).1).2
  refine completes_ctlRun h hexec (by rw [hf]; exact ctlReady_staged h) fun u honly hself => ?_
  rw [hf] at hself
  refine hP u honly ?_ ?_ ?_ ?_ <;> rw [hself]
  · exact ctlFrame_closeBundle rfl _
  · rw [closeBundle_eq]
  · rw [closeBundle_eq]
  · refine advanced_closeBundle ?_ ?_ ?_ _
    · rfl
    · rfl
    · exact hdone

/-- A CTL instruction that writes a scalar and no more (R204, R205). -/
theorem completes_scalar {i : Instr} {f : Tile → Word} {d : Nat} {v : Word} (hready : ctlReady s t = true)
    (hwf : Table.wf 0 (s.tile t).s = true)
    (hexec : exec i s = .next (ctlRun s t (fun x => setSreg x d (f x)) fun _ => none)) (hv : f (ungapped (s.tile t)) = v) :
    Completes i s (ScalarResult s t d v) := by
  refine completes_ctl hready hexec (setSreg_eq _ _ _) fun u honly hframe hs hp hadv => ⟨honly, hframe, hadv, fun n => ?_, hp⟩
  rw [sreg_congr hs, sreg_setSreg (ungapped (s.tile t)) _ _ _ hwf, hv]
  rfl

end

/-! ## Words (R204, R205) -/

section
variable (a b : Word)

theorem word_shl : a <<< (b.toNat % 32) = BitVec.ofNat 32 (a.toNat * 2 ^ (b.toNat % 32)) :=
  BitVec.eq_of_toNat_eq (by simp [Nat.shiftLeft_eq])

theorem word_shr : a >>> (b.toNat % 32) = BitVec.ofNat 32 (a.toNat / 2 ^ (b.toNat % 32)) := by
  have hlt : a.toNat / 2 ^ (b.toNat % 32) < 2 ^ 32 := (Nat.div_le_self _ _).trans_lt a.isLt
  refine BitVec.eq_of_toNat_eq ?_
  rw [BitVec.toNat_ushiftRight, Nat.shiftRight_eq_div_pow, BitVec.toNat_ofNat, Nat.mod_eq_of_lt hlt]

theorem word_mul : a * b = BitVec.ofNat 32 (a.toNat * b.toNat) := BitVec.eq_of_toNat_eq (by simp)

theorem word_slt : (if a.slt b then (1 : Word) else 0) = if a.toInt < b.toInt then 1 else 0 := by simp [BitVec.slt]

end

/-- Settles O5: each instruction writes one scalar, and its result is read off the word it computes. -/
theorem ctlScalarResults : Obligations.CtlScalarResults := by
  intro s t d a b imm hready hwf x va vb R
  have hscalar {i : Instr} {f : Tile → Word} {v : Word}
      (hexec : exec i s = .next (ctlRun s t (fun x => setSreg x d.toNat (f x)) fun _ => none)) (hv : f (ungapped (s.tile t)) = v) : R i v :=
    completes_scalar hready hwf hexec hv
  exact ⟨hscalar rfl rfl, hscalar rfl rfl, hscalar rfl rfl, hscalar rfl rfl, hscalar rfl rfl, hscalar rfl rfl, hscalar rfl rfl,
    hscalar rfl (word_shl _ _), hscalar rfl (word_shr _ _), hscalar rfl (word_mul _ _), hscalar rfl (word_slt _ _),
    hscalar rfl rfl, hscalar rfl rfl, hscalar rfl rfl, hscalar rfl rfl⟩

end Sys2Proof.Machine

/-! # Program flow, waits and skipped instructions -/

namespace Sys2Proof.Machine

section
variable {s u v : State} {t : TileId} {y z : Tile}

theorem Leaves.trans (h : Leaves t s u y) (h' : Leaves t u v z) : Leaves t s v z :=
  ⟨fun k hk => (h'.1 k hk).trans (h.1 k hk), h'.2⟩

/-! ## A bundle whose fetch found a double error (R185) -/

/-- The tile with the error reported. -/
def faulted (x : Tile) : Tile := { x with fetchErr := true, errAddr := BitVec.ofNat 12 x.nextPc }

/-- The tile that found it withholds its commits. -/
def fetchFailed (x : Tile) : Tile := withheld (faulted (ungapped x))

theorem ungapped_staged {x : Tile} (h : x.stage.isSome = true) : (ungapped x).stage.isSome = true := h

theorem faulted_staged {x : Tile} (h : x.stage.isSome = true) : (faulted x).stage.isSome = true := h

theorem fetchFailed_staged {x : Tile} (h : x.stage.isSome = true) : (fetchFailed x).stage.isSome = true := h

/-- What a bundle with such an error makes of its tile. -/
def Emptied (x y : Tile) : Prop :=
  y.s = x.s ∧ y.p = x.p ∧ y.scratch = x.scratch ∧ y.fetchErr = true ∧ y.errAddr = BitVec.ofNat 12 x.nextPc ∧ y.withhold = true ∧
    Advanced x y (x.nextPc + 1)

theorem emptied_fetchFailed {x : Tile} (hdone : x.done = false) : Emptied x (closeBundle (fetchFailed x) none) := by
  have hadv : Advanced x (closeBundle (fetchFailed x) none) (x.nextPc + 1) := by
    refine advanced_closeBundle ?_ ?_ ?_ none
    · rfl
    · rfl
    · exact hdone
  refine ⟨?_, ?_, ?_, ?_, ?_, ?_, hadv⟩ <;> rw [closeBundle_eq] <;> rfl

/-- Every CTL instruction of such a bundle closes it and does no more (R185). -/
theorem leaves_ctlRun_bad (hissue : issuing s t = true) (hbad : bundleBad (s.tile t) = true) (f : Tile → Tile)
    (target : Tile → Option Nat) : Leaves t s (ctlRun s t f target) (closeBundle (fetchFailed (s.tile t)) none) := by
  have hstage := issuing_staged hissue
  rw [ctlRun, if_neg (by simp [hissue])]
  dsimp only
  rw [rotGap_bundleBad hstage, if_pos hbad]
  have hfault : Leaves t s ((s.rotGap t).fetchFault t) (fetchFailed (s.tile t)) :=
    ((leaves_rotGap hstage).updTile (f := faulted) (faulted_staged (ungapped_staged hstage))).withhold (faulted_staged (ungapped_staged hstage))
  exact hfault.updTile (f := fun x => closeBundle x none) (closeBundle_staged (fetchFailed_staged hstage) none)

theorem completes_bad {i : Instr} {f : Tile → Tile} {target : Tile → Option Nat} (hissue : issuing s t = true)
    (hbad : bundleBad (s.tile t) = true) (hexec : exec i s = .next (ctlRun s t f target)) :
    Completes i s (fun u => OtherTiles t s u ∧ Emptied (s.tile t) (u.tile t)) := by
  obtain ⟨hother, hself⟩ := leaves_ctlRun_bad hissue hbad f target
  exact ⟨_, hexec, hother, by rw [hself]; exact emptied_fetchFailed (issuing_held hissue).2⟩

/-! ## A bundle that breaks (R185, log entry 51) -/

/-- Two flipped check bits are uncorrectable whatever the word. -/
theorem decodeWord_two_flipped (w : BitVec 256) : (decodeWord w (checkBits w ^^^ 3)).2 = .bad := by
  have hsyn : syndromeOutcome 3 = .bad := by decide +kernel
  have hflip : checkBits w ^^^ 3 ^^^ checkBits w = 3 := by rw [BitVec.xor_comm, ← BitVec.xor_assoc, BitVec.xor_self, BitVec.zero_xor]
  simp only [decodeWord, hflip, hsyn]

/-- The tile whose next bundle's stored code takes two flipped check bits. -/
def broken (x : Tile) : Tile :=
  { x with progChk := Table.put none x.progChk x.nextPc (some (checkBits (Table.get 0 x.prog x.nextPc) ^^^ 3)) }

theorem broken_progChk {x : Tile} : Table.get none (broken x).progChk x.nextPc = some (checkBits (Table.get 0 x.prog x.nextPc) ^^^ 3) :=
  Table.get_put_some _ _ _ _ (by simp)

theorem broken_bundleBad {x : Tile} : bundleBad (broken x) = true := by
  have hchk : Table.get none (broken x).progChk (broken x).nextPc = some (checkBits (Table.get 0 x.prog x.nextPc) ^^^ 3) := broken_progChk
  unfold bundleBad
  rw [hchk]
  exact decide_eq_true (decodeWord_two_flipped _)

/-- A tile that fails while strokes run, with an unused spare or under a plan, changes in its mark alone; no other tile changes (R32, R33). -/
theorem leaves_failTile (hy : s.tile t = y) (hstage : y.stage.isSome = true) (hfail : y.failing = false) (hrun : s.clk.running = true)
    (h : s.bypassNext t.region.toNat t.x.toNat = 0xFF ∨ s.boot.plan ≠ none) :
    Leaves t s (s.failTile t) { y with failing := true } ∧ (s.failTile t).clk.running = true ∧
      (s.failTile t).regions = s.regions := by
  subst hy
  have hmark : Leaves t s (s.updTile t (fun x => { x with failing := true })) { s.tile t with failing := true } :=
    Leaves.refl.updTile (f := fun x => { x with failing := true }) hstage
  have hnext : (s.updTile t (fun x => { x with failing := true })).bypassNext t.region.toNat t.x.toNat =
      s.bypassNext t.region.toNat t.x.toNat := rfl
  unfold State.failTile
  simp only [hfail, hnext, Bool.false_eq_true, if_false]
  by_cases hspare : s.bypassNext t.region.toNat t.x.toNat = 0xFF
  · rw [if_pos hspare]
    exact ⟨hmark.of_tiles rfl, hrun, rfl⟩
  · have hplan : s.boot.plan.isNone = false := by
      simpa [hspare, Option.isNone_eq_false_iff, Option.isSome_iff_ne_none] using h
    simp only [if_neg hspare, State.updTile_boot, hplan, Bool.false_eq_true, if_false, State.nameEasyAll, State.updTile_clk, hrun, if_true,
      State.clearingWork, Bool.or_true]
    exact ⟨hmark.of_tiles rfl, trivial, rfl⟩

/-- What the sequencer of a tile asks for in order to issue. -/
theorem issuing_congr (hclk : u.clk.running = s.clk.running) (hregions : u.regions = s.regions) (hstage : (u.tile t).stage = (s.tile t).stage)
    (hlive : (u.tile t).live = (s.tile t).live) (hhold : (u.tile t).hold = (s.tile t).hold) (hbsw : (u.tile t).bswWait = (s.tile t).bswWait)
    (hnet : (u.tile t).netWait = (s.tile t).netWait) (hdone : (u.tile t).done = (s.tile t).done) : issuing u t = issuing s t := by
  simp only [issuing, hclk, State.region, hregions, hstage, hlive, hhold, hbsw, hnet, hdone]

theorem issuing_running (h : issuing s t = true) : s.clk.running = true := by
  simp only [issuing, Bool.and_eq_true] at h
  obtain ⟨⟨⟨⟨⟨⟨⟨-, -⟩, hrun⟩, -⟩, -⟩, -⟩, -⟩, -⟩ := h
  exact hrun

/-- The state in which a broken bundle's empty instructions run. -/
def State.bundleBroken (s : State) (t : TileId) : State :=
  if 2 ≤ Table.get 0 (s.tile t).progRepairs (s.tile t).nextPc then (s.updTile t broken).failTile t else s.updTile t broken

theorem execNop_bad {op : BitVec 6} (hissue : issuing s t = true) (hgood : bundleBad (s.tile t) = false) :
    execNop t .ctl op true s = .next (ctlRun (s.bundleBroken t) t id (fun _ => none)) := by
  simp only [execNop, hissue, hgood, Bool.not_true, Bool.not_false, Bool.true_and, Bool.false_eq_true, if_false, if_true, decide_eq_true_eq]
  rfl

/-- The tile's bundle breaks, and the bundle goes on empty. -/
theorem completes_broken {op : BitVec 6} {P : State → Prop} (hissue : issuing s t = true) (hgood : bundleBad (s.tile t) = false)
    (hbroken : Leaves t s (s.bundleBroken t) y) (hrun : (s.bundleBroken t).clk.running = true)
    (hregions : (s.bundleBroken t).regions = s.regions) (hy : y = { broken (s.tile t) with failing := y.failing })
    (hP : ∀ u, OtherTiles t s u → Emptied (s.tile t) (u.tile t) →
      Table.get none (u.tile t).progChk (s.tile t).nextPc = some (checkBits (Table.get 0 (s.tile t).prog (s.tile t).nextPc) ^^^ 3) →
      (u.tile t).failing = y.failing → P u) : Completes (.nop t .ctl op true) s P := by
  obtain ⟨hother, hself⟩ := hbroken
  have hissue' : issuing (s.bundleBroken t) t = true := by
    rw [← hissue]
    refine issuing_congr (hrun.trans (issuing_running hissue).symm) hregions ?_ ?_ ?_ ?_ ?_ ?_ <;> rw [hself, hy] <;> rfl
  have hbad : bundleBad ((s.bundleBroken t).tile t) = true := by
    rw [hself, hy]
    exact broken_bundleBad
  obtain ⟨hother', hself'⟩ := leaves_ctlRun_bad hissue' hbad id fun _ => none
  refine ⟨_, execNop_bad (op := op) hissue hgood, hP _ (fun k hk => (hother' k hk).trans (hother k hk)) ?_ ?_ ?_⟩ <;> rw [hself', hself, hy]
  · exact emptied_fetchFailed (x := { broken (s.tile t) with failing := y.failing }) (issuing_held hissue).2
  · rw [closeBundle_eq]
    exact broken_progChk
  · rw [closeBundle_eq]
    rfl

theorem leaves_broken (hstage : (s.tile t).stage.isSome = true) : Leaves t s (s.updTile t broken) (broken (s.tile t)) :=
  Leaves.refl.updTile (f := broken) hstage

/-- A bundle with fewer than two repairs breaks. -/
theorem completes_broken_first {op : BitVec 6} (hissue : issuing s t = true) (hgood : bundleBad (s.tile t) = false)
    (hfew : Table.get 0 (s.tile t).progRepairs (s.tile t).nextPc < 2) :
    Completes (.nop t .ctl op true) s fun u => (OtherTiles t s u ∧ Emptied (s.tile t) (u.tile t)) ∧
      Table.get none (u.tile t).progChk (s.tile t).nextPc = some (checkBits (Table.get 0 (s.tile t).prog (s.tile t).nextPc) ^^^ 3) := by
  have hbroken : s.bundleBroken t = s.updTile t broken := if_neg (Nat.not_le.mpr hfew)
  exact completes_broken (y := broken (s.tile t)) hissue hgood (hbroken ▸ leaves_broken (issuing_staged hissue))
    (by rw [hbroken, State.updTile_clk, issuing_running hissue]) (by rw [hbroken, State.updTile_regions]) rfl
    fun u hother hempty hchk _ => ⟨⟨hother, hempty⟩, hchk⟩

/-- A bundle that breaks again after two repairs makes its tile failing. -/
theorem completes_broken_again {op : BitVec 6} (hissue : issuing s t = true) (hgood : bundleBad (s.tile t) = false)
    (hmany : 2 ≤ Table.get 0 (s.tile t).progRepairs (s.tile t).nextPc) (hfail : (s.tile t).failing = false)
    (hspare : s.bypassNext t.region.toNat t.x.toNat = 0xFF ∨ s.boot.plan ≠ none) :
    Completes (.nop t .ctl op true) s fun u => (OtherTiles t s u ∧ Emptied (s.tile t) (u.tile t)) ∧ (u.tile t).failing = true := by
  have hstage := issuing_staged hissue
  have hbroken : s.bundleBroken t = (s.updTile t broken).failTile t := if_pos hmany
  have hbroke := leaves_broken hstage
  obtain ⟨hleaves, hrun, hregions⟩ := leaves_failTile hbroke.2 hstage hfail ((State.updTile_clk ..).symm ▸ issuing_running hissue) hspare
  exact completes_broken (y := { broken (s.tile t) with failing := true }) hissue hgood (hbroken ▸ hbroke.trans hleaves)
    (by rw [hbroken, hrun]) (by rw [hbroken, hregions, State.updTile_regions]) rfl
    fun u hother hempty _ hfailing => ⟨⟨hother, hempty⟩, hfailing⟩

/-! ## Instructions of the control slot -/

theorem branch_getD (c : Prop) [Decidable c] (n m : Nat) : (if c then none else some m).getD n = if c then n else m := by
  split <;> rfl

theorem decide_and_eq_ite (c : Prop) [Decidable c] (b : Bool) : (decide c && b) = if c then b else false := by
  split <;> simp [*]

theorem exec_nop (hissue : issuing s t = true) (op : BitVec 6) : exec (.nop t .ctl op false) s = .next (ctlRun s t id fun _ => none) := by
  show execNop t .ctl op false s = _
  simp [execNop, hissue]

theorem exec_waitc_bad (hbad : bundleBad (s.tile t) = true) (a : BitVec 4) (imm : BitVec 22) :
    exec (.waitc t a imm) s = .next (ctlRun s t id fun _ => none) := if_neg (by simp [hbad])

theorem exec_waitg_bad (hbad : bundleBad (s.tile t) = true) (a : BitVec 4) (imm : BitVec 22) :
    exec (.waitg t a imm) s = .next (ctlRun s t id fun _ => none) := if_neg (by simp [hbad])

/-- END ends the program. -/
theorem completes_end (h : ctlReady s t = true) : Completes (.end_ t) s fun u => (OnlyTile t s u ∧ CtlFrame (s.tile t) (u.tile t)) ∧
    (u.tile t).s = (s.tile t).s ∧ (u.tile t).p = (s.tile t).p ∧ (u.tile t).done = true ∧ issuing u t = false := by
  refine completes_ctlRun h rfl (ctlReady_staged h) fun u honly hself => ?_
  have hdone : (u.tile t).done = true := by
    rw [hself, closeBundle_eq]
    simp
  refine ⟨⟨honly, ?_⟩, ?_, ?_, hdone, by simp [issuing, hdone]⟩ <;> rw [hself]
  · exact ctlFrame_closeBundle rfl none
  · rw [closeBundle_eq]
    rfl
  · rw [closeBundle_eq]
    rfl

/-- CQPOP removes the head flit, and a flit that waits comes in. -/
theorem completes_cqpop (h : ctlReady s t = true) : Completes (.cqpop t) s fun u => OnlyTile t s u ∧
    ((s.tile t).ctlWait = [] → (u.tile t).ctlQ = (s.tile t).ctlQ.drop 1) ∧ (u.tile t).s = (s.tile t).s ∧ (u.tile t).p = (s.tile t).p ∧
    (u.tile t).scratch = (s.tile t).scratch ∧ Advanced (s.tile t) (u.tile t) ((s.tile t).nextPc + 1) := by
  have hdone := (issuing_held (ctlReady_iff.mp h).1).2
  refine completes_ctlRun h rfl (ctlReady_staged h) fun u honly hself => ?_
  refine ⟨honly, fun hwait => ?_, ?_, ?_, ?_, ?_⟩ <;> rw [hself]
  · have hwait' : (ungapped (s.tile t)).ctlWait = [] := hwait
    rw [closeBundle_eq]
    simp only [admitCtl, hwait', List.take_nil, List.append_nil]
    rfl
  · rw [closeBundle_eq]
    rfl
  · rw [closeBundle_eq]
    rfl
  · rw [closeBundle_eq]
    rfl
  · refine advanced_closeBundle ?_ ?_ ?_ none
    · rfl
    · rfl
    · exact hdone

end

/-- Settles O6: a bundle in error is emptied, one that breaks is in error from then on, and the others close their bundle at the target they name. -/
theorem ctlProgramFlow : Obligations.CtlProgramFlow := by
  intro s t d a b imm op hissue hs hp x va on empty
  refine ⟨fun sl hsl => ?_, fun hfew _ hgood => completes_broken_first hissue hgood hfew,
    fun hmany hfail _ hgood hspare => completes_broken_again hissue hgood hmany hfail hspare, fun h => ?_, fun hready => ?_⟩
  · show execNop t sl op false s = .next s
    simp [execNop, hsl]
  · have hbad {i : Instr} {f : Tile → Tile} {target : Tile → Option Nat}
        (hexec : exec i s = .next (ctlRun s t f target)) : Completes i s empty := completes_bad hissue h hexec
    simp only [List.forall_mem_cons, List.not_mem_nil, false_implies, implies_true, and_true]
    exact ⟨hbad (exec_nop hissue op), hbad rfl, hbad rfl, hbad rfl, hbad rfl, hbad rfl, hbad rfl, hbad rfl, hbad rfl, hbad rfl, hbad rfl,
      hbad rfl, hbad rfl, hbad rfl, hbad rfl, hbad (exec_waitc_bad h a imm), hbad (exec_waitg_bad h a imm), hbad rfl, hbad rfl, hbad rfl,
      hbad rfl, hbad rfl, hbad rfl⟩
  · refine ⟨completes_ctl hready (exec_nop hissue op) rfl fun u honly hframe hs hp hadv => ⟨⟨honly, hframe⟩, hs, hp, hadv⟩,
      completes_end hready,
      completes_ctl hready rfl rfl fun u honly hframe hs hp hadv => ⟨⟨honly, hframe⟩, hs, hp, ?_⟩,
      completes_ctl hready rfl (setSreg_eq _ _ _) fun u honly hframe hs' hp hadv => ⟨⟨honly, hframe⟩, hp, fun n => ?_, ?_⟩,
      completes_ctl hready rfl (setPreg_eq _ _ _) fun u honly hframe hs hp' hadv => ⟨⟨honly, hframe⟩, hs, fun n => ?_, hadv⟩,
      completes_cqpop hready⟩
    · exact branch_getD (va = 0) _ _ ▸ hadv
    · rw [sreg_congr hs', sreg_setSreg (ungapped x) _ _ _ hs]
      rfl
    · exact branch_getD (va - 1 = 0) _ _ ▸ hadv
    · rw [preg_congr hp', preg_setPreg (ungapped x) _ _ _ hp, decide_and_eq_ite]
      rfl

end Sys2Proof.Machine

/-! # Waits and skipped instructions -/

namespace Sys2Proof

/-- A flag set at every key of a list stands at each of them. -/
theorem Table.get_foldl_put_true {β : Type} (key : β → Nat) (l : List β) (m : Table Bool) {k : Nat}
    (h : Table.get false m k = true ∨ ∃ b ∈ l, key b = k) :
    Table.get false (l.foldl (fun m b => Table.put false m (key b) true) m) k = true := by
  induction l generalizing m with
  | nil => simpa using h
  | cons b l ih =>
    refine ih _ ?_
    by_cases hk : key b = k
    · exact .inl (hk ▸ Table.get_put_some _ _ _ _ (by decide))
    · rw [Table.get_put_ne _ _ _ _ _ (Ne.symm hk)]
      simpa [hk] using h

namespace Machine

section
variable {s u : State} {t : TileId} {y : Tile}

/-! ## The cycle after a wait's bundle -/

/-- The tile after the bundle of a wait. -/
def passed (x : Tile) : Tile := closeBundle (ungapped x) none

theorem passed_eq (x : Tile) : passed x = { x with
    rotNow := (ungapped x).rotNow
    pc := BitVec.ofNat 12 x.nextPc
    nextPc := (x.nextPc + 1) % 4096
    cycle := min 0xFFFFFFFF (x.cycle + 1)
    uses := []
    bgUses := []
    done := x.done || decide (4096 ≤ x.nextPc + 1)
    endCycle := (passed x).endCycle
    bswWait := if x.bswWait = 1 then 2 else x.bswWait
    netWait := if x.netWait = 1 then 2 else x.netWait } := closeBundle_eq (x := ungapped x) none

theorem passed_staged {x : Tile} (h : x.stage.isSome = true) : (passed x).stage.isSome = true := closeBundle_staged (x := ungapped x) h none

theorem advanced_passed {x : Tile} (hdone : x.done = false) : Advanced x (passed x) (x.nextPc + 1) := by
  refine advanced_closeBundle ?_ ?_ ?_ none
  · rfl
  · rfl
  · exact hdone

theorem State.rotGap_passed (h : ctlReady s t = true) : (s.rotGap t).updTile t (fun x => closeBundle x none) = s.setTile t (passed (s.tile t)) :=
  State.updTile_rotGap (ctlReady_iff.mp h).2.2 (ctlReady_staged h) _

theorem ctlReady_issues (h : ctlReady s t = true) : (issuing s t && !bundleBad (s.tile t)) = true := by
  obtain ⟨hissue, hgood, -⟩ := ctlReady_iff.mp h
  simp [hissue, hgood]

/-! ## A gather that ends at its deadline -/

/-- The tile with every line of a gather marked poisoned (R163). -/
def missedGather (g : Nat) (x : Tile) : Tile :=
  let e := Table.get {} x.gtag g
  { x with linePoison := (List.range e.lines).foldl (fun m i => Table.put false m ((e.line.toNat + i) % 32768) true) x.linePoison }

theorem missedGather_poison (g : Nat) (x : Tile) {i : Nat} (hi : i < (Table.get {} x.gtag g).lines) :
    Table.get false (missedGather g x).linePoison (((Table.get {} x.gtag g).line.toNat + i) % 32768) = true :=
  Table.get_foldl_put_true (fun i => ((Table.get {} x.gtag g).line.toNat + i) % 32768) _ _ (.inr ⟨i, by simpa using hi, rfl⟩)

theorem Leaves.gatherMissed (h : Leaves t s u y) (hstage : y.stage.isSome = true) (g : Nat) :
    Leaves t s (u.gatherMissed t g) (withheld (missedGather g y)) :=
  (h.updTile (f := missedGather g) hstage).withhold hstage

/-! ## WAITC and WAITG -/

theorem execWaitc_ready (h : ctlReady s t = true) (a : BitVec 4) (imm : BitVec 22) {target : Nat}
    (htarget : (sreg (s.tile t) a.toNat + imm.setWidth 32).toNat = target) :
    exec (.waitc t a imm) s = .next (s.setTile t
      (holdUnless (passed (s.tile t)) (.waitC target) (decide (target ≤ (passed (s.tile t)).cycle)))) := by
  subst htarget
  refine (if_pos (ctlReady_issues h)).trans (congrArg _ ?_)
  exact State.updTile_rotGap (ctlReady_iff.mp h).2.2 (ctlReady_staged h) _

theorem execWaitg_ready (h : ctlReady s t = true) (a : BitVec 4) (imm : BitVec 22) {deadline : Nat}
    (hdeadline : (sreg (s.tile t) a.toNat + BitVec.ofNat 32 (imm.toNat / 16)).toNat = deadline) :
    exec (.waitg t a imm) s = .next (if tagComplete (passed (s.tile t)) (imm.toNat % 16) then s.setTile t (passed (s.tile t))
      else if deadline ≤ (passed (s.tile t)).cycle then (s.setTile t (passed (s.tile t))).gatherMissed t (imm.toNat % 16)
      else s.setTile t { passed (s.tile t) with hold := .waitG (BitVec.ofNat 4 (imm.toNat % 16)) deadline }) := by
  subst hdeadline
  have hstage := passed_staged (ctlReady_staged h)
  refine (if_pos (ctlReady_issues h)).trans ?_
  dsimp only
  rw [State.rotGap_passed h, State.tile_setTile_staged hstage, State.updTile_setTile hstage]
  split
  · rfl
  · split <;> rfl

theorem passed_cycle (x : Tile) : (passed x).cycle = min 0xFFFFFFFF (x.cycle + 1) := by rw [passed_eq]

theorem passed_hold (x : Tile) : (passed x).hold = x.hold := by rw [passed_eq]

theorem passed_gtag (x : Tile) : (passed x).gtag = x.gtag := by rw [passed_eq]

theorem passed_s (x : Tile) : (passed x).s = x.s := by rw [passed_eq]

theorem passed_p (x : Tile) : (passed x).p = x.p := by rw [passed_eq]

theorem passed_scratch (x : Tile) : (passed x).scratch = x.scratch := by rw [passed_eq]

/-- A wait that is over does not hold the sequencer; another does. -/
theorem holdUnless_eq (x : Tile) (h : Hold) (c : Bool) : holdUnless x h c = { x with hold := if c then x.hold else h } := by
  cases c <;> rfl

/-! ## The end of a hold (R208, R209) -/

theorem execWaitRelease_free (hrun : s.clk.running = true) (hbsw : (s.tile t).bswWait ≠ 2) (hnet : (s.tile t).netWait ≠ 2) (m : Nat) :
    exec (.waitRelease t m) s = .next (s.endWait t m) := by
  show execWaitRelease t m s = _
  simp [execWaitRelease, hrun, hbsw, hnet]

theorem State.endWait_counter {n : Nat} (h : (s.tile t).hold = .waitC n) (m : Nat) :
    s.endWait t m = s.setTile t { s.tile t with hold := .none, cycle := max (s.tile t).cycle (min 0xFFFFFFFF n) } := by
  simp only [State.endWait, h]
  rfl

theorem State.endWait_complete {g : BitVec 4} {n : Nat} (h : (s.tile t).hold = .waitG g n)
    (hdone : (Table.get {} (s.tile t).gtag g.toNat).outstanding = false) (m : Nat) :
    s.endWait t m = s.setTile t { s.tile t with hold := .none, cycle := heldTo (s.tile t) m n } := by
  simp only [State.endWait, h, tagComplete, hdone, Bool.not_false, if_true]
  rfl

/-- The tile whose wait ends at its deadline. -/
def waitEnded (n : Nat) (x : Tile) : Tile := { x with hold := .none, cycle := max x.cycle (min 0xFFFFFFFF n) }

theorem State.endWait_missed {g : BitVec 4} {n : Nat} (h : (s.tile t).hold = .waitG g n)
    (hout : (Table.get {} (s.tile t).gtag g.toNat).outstanding = true) (m : Nat) :
    s.endWait t m = (s.updTile t (waitEnded n)).gatherMissed t g.toNat := by
  simp only [State.endWait, h, tagComplete, hout, Bool.not_true, Bool.false_eq_true, if_false]
  rfl

end

/-- Settles O7: a wait's bundle passes and its condition decides the hold; a release ends the hold as the tag stands. -/
theorem ctlWaits : Obligations.CtlWaits := by
  intro s t a imm m x target g deadline free c missed
  have hcycle : (passed x).cycle = c := passed_cycle x
  have htag : tagComplete (passed x) g = !(Table.get {} x.gtag g).outstanding := by rw [tagComplete, passed_gtag]
  have hstage (h : ctlReady s t = true) : (passed x).stage.isSome = true := passed_staged (ctlReady_staged h)
  have hpass (h : ctlReady s t = true) : (passed x).hold = .none ∧ Advanced x (passed x) (x.nextPc + 1) := by
    obtain ⟨hhold, hdone⟩ := issuing_held (ctlReady_iff.mp h).1
    exact ⟨(passed_hold x).trans hhold, advanced_passed hdone⟩
  have hset {i : Instr} {P : State → Prop} {y : Tile} (hexec : exec i s = .next (s.setTile t y)) (hy : y.stage.isSome = true)
      (hP : ∀ u, OnlyTile t s u → u.tile t = y → P u) : Completes i s P := completes_setTile hexec hy (hP _)
  refine ⟨fun h => ?_, fun h hlater hout => ?_, fun h hpast hout _ => ?_, fun h hdone => ?_, fun ⟨hrun, hstaged, hbsw, hnet⟩ n hhold => ?_,
    fun ⟨hrun, hstaged, hbsw, hnet⟩ g n hhold hdone => ?_, fun ⟨hrun, hstaged, hbsw, hnet⟩ g n hhold hout _ => ?_⟩
  · obtain ⟨hhold, hadv⟩ := hpass h
    have hexec := execWaitc_ready h a imm rfl
    rw [holdUnless_eq] at hexec
    refine hset hexec (hstage h) fun u honly hself => ?_
    rw [hself]
    refine ⟨honly, passed_s x, passed_p x, passed_scratch x, ?_, hadv⟩
    rw [hcycle, hhold]
    simp only [decide_eq_true_eq]
    rfl
  · obtain ⟨-, hadv⟩ := hpass h
    have hexec := execWaitg_ready h a imm rfl
    rw [htag, hout, hcycle, if_neg (by decide), if_neg (Nat.not_le.mpr hlater)] at hexec
    refine hset hexec (hstage h) fun u honly hself => ?_
    rw [hself]
    exact ⟨honly, passed_s x, passed_scratch x, rfl, hadv⟩
  · obtain ⟨hhold, hadv⟩ := hpass h
    have hexec := execWaitg_ready h a imm rfl
    rw [htag, hout, hcycle, if_neg (by decide), if_pos hpast] at hexec
    have hpassed : Leaves t s (s.setTile t (passed x)) (passed x) :=
      Leaves.refl.updTile (f := fun _ => passed x) (hstage h)
    obtain ⟨hother, hself⟩ := hpassed.gatherMissed (hstage h) g
    have hmissed : missed _ (Table.get {} x.gtag g) := fun i hi => by
      rw [hself]
      rw [← passed_gtag] at hi ⊢
      exact missedGather_poison g (passed x) hi
    refine ⟨_, hexec, hother, ?_⟩
    rw [hself]
    exact ⟨passed_s x, passed_scratch x, hhold, rfl, hmissed, hadv⟩
  · obtain ⟨hhold, hadv⟩ := hpass h
    have hexec := execWaitg_ready h a imm rfl
    rw [htag, hdone, if_pos (by decide)] at hexec
    refine hset hexec (hstage h) fun u honly hself => ?_
    rw [hself]
    exact ⟨honly, hhold, hadv⟩
  · refine hset ((execWaitRelease_free hrun hbsw hnet m).trans (congrArg _ (State.endWait_counter hhold m))) hstaged fun u honly hself => ?_
    exact ⟨honly, hself⟩
  · refine hset ((execWaitRelease_free hrun hbsw hnet m).trans (congrArg _ (State.endWait_complete hhold hdone m))) hstaged
      fun u honly hself => ?_
    exact ⟨honly, hself⟩
  · have hended : Leaves t s (s.updTile t (waitEnded n)) (waitEnded n x) := Leaves.refl.updTile (f := waitEnded n) hstaged
    obtain ⟨hother, hself⟩ := hended.gatherMissed hstaged g.toNat
    have hmissed : missed _ (Table.get {} x.gtag g.toNat) := fun i hi => by
      rw [hself]
      exact missedGather_poison g.toNat (waitEnded n x) hi
    refine ⟨_, (execWaitRelease_free hrun hbsw hnet m).trans (congrArg _ (State.endWait_missed hhold hout m)), hother, ?_⟩
    rw [hself]
    exact ⟨rfl, rfl, hmissed, rfl⟩

/-! ## Instructions skipped (R198) -/

section
variable {s : State} {t : TileId} {pred : BitVec 2} (hskip : preg (s.tile t) pred.toNat = false)
include hskip

theorem slotRun_skipped (f : State → State) : slotRun s t pred.toNat f = s := by simp [slotRun, hskip]

theorem exec_skipped {i : Instr} {f : State → State} (hexec : exec i s = .next (slotRun s t pred.toNat f)) : exec i s = .next s := by
  rw [hexec, slotRun_skipped hskip]

end

/-- The tile with one more marked PACK counted (R281). -/
def packCounted (x : Tile) : Tile := { x with marked := x.marked + 1 }

/-- A marked PACK that is skipped counts its mark, and does nothing else (R281). -/
theorem exec_pack_counts (s : State) (t : TileId) (pred : BitVec 2) (fmt mode sr : BitVec 4) (imm : BitVec 10) :
    ∃ f, exec (.pack t pred fmt mode sr imm) s = .next (slotRun (if issuing s t && mode.getLsbD 2 && !preg (s.tile t) pred.toNat then
      s.updTile t packCounted else s) t pred.toNat f) := ⟨_, rfl⟩

/-- Settles O8: an instruction of a slot does what it does under its predicate, and a PACK counts its mark before. -/
theorem predicateSkips : Obligations.PredicateSkips := by
  intro s t pred v d a b c ra sr line ext imm op tag fmt mode arow n e i10 j init entry hskip
  have hslot {i : Instr} {f : State → State} (hexec : exec i s = .next (slotRun s t pred.toNat f)) : exec i s = .next s :=
    exec_skipped hskip hexec
  obtain ⟨f, hpack⟩ := exec_pack_counts s t pred fmt mode sr i10
  refine ⟨fun hplain => ?_, fun hmark hissue => ?_, ?_⟩
  · rw [hplain, Bool.and_false, Bool.false_and, if_neg (by decide)] at hpack
    exact hslot hpack
  · have hstage := issuing_staged hissue
    rw [hissue, hmark, hskip, if_pos (by decide)] at hpack
    have hself : (s.updTile t packCounted).tile t = packCounted (s.tile t) := State.tile_updTile_staged s t packCounted hstage
    rw [slotRun_skipped (by rw [hself]; exact hskip)] at hpack
    exact completes_setTile hpack hstage fun honly hself => ⟨honly, hself⟩
  · simp only [List.forall_mem_cons, List.not_mem_nil, false_implies, implies_true, and_true]
    exact ⟨hslot rfl, hslot rfl, hslot rfl, hslot rfl, hslot rfl, hslot rfl, hslot rfl, hslot rfl, hslot rfl, hslot rfl, hslot rfl, hslot rfl,
      hslot rfl, hslot rfl, hslot rfl, hslot rfl, hslot rfl, hslot rfl, hslot rfl, hslot rfl, hslot rfl, hslot rfl, hslot rfl, hslot rfl,
      hslot rfl, hslot rfl, hslot rfl, hslot rfl, hslot rfl, hslot rfl, hslot rfl, hslot rfl, hslot rfl, hslot rfl, hslot rfl, hslot rfl,
      hslot rfl, hslot rfl⟩

end Machine
end Sys2Proof

/-! # The rotation and quantization unit -/

namespace Sys2Proof.Machine

section
variable {s : State} {t : TileId} {pred : BitVec 2}

/-! ## The pack stream, the rounding position and the generator -/

theorem completes_launch {i : Instr} {slot : Slot} {lat : Nat} {dest : Dest} {v : ResultValue} (hstage : (s.tile t).stage.isSome = true)
    (hexec : exec i s = .next (s.launch t slot lat dest v)) :
    Completes i s fun u => OnlyTile t s u ∧ u.tile t = launched (s.tile t) slot lat dest v :=
  completes_setTile hexec (launched_staged hstage _ _ _ _) fun honly hself => ⟨honly, hself⟩

theorem execPfeed_ready {a : BitVec 5} (h : slotReady s t pred.toNat = true) (hclean : vPoison (s.tile t) a.toNat = false) :
    exec (.pfeed t pred a) s = .next (s.launch t .rqu 1 .packStream (.elems ((lanesOf (s.tile t) a.toNat).map fun w => (w, false)))) := by
  show execPfeed t pred a s = _
  rw [execPfeed, slotRun_ready h, State.staleRead_quiet (slotReady_quiet h)]
  simp only [hclean, State.consume_false]

theorem execSrset_ready {mode sr : BitVec 4} (h : slotReady s t pred.toNat = true) (hsr : sr.toNat < 14 ∨ (sr = 14 ∧ mode.getLsbD 0 = false)) :
    exec (.srset t pred mode sr) s = .next (s.setTile t { s.tile t with
      srPos := sreg (s.tile t) sr.toNat
      srIdx := sreg (s.tile t) (sr.toNat + 1)
      srStage := if mode.getLsbD 0 then (sreg (s.tile t) (sr.toNat + 2)).setWidth 7 else (s.tile t).srStage }) := by
  have hnot : ¬ (decide (sr = 15) || (decide (sr = 14) && mode.getLsbD 0)) = true := by
    rcases hsr with hlt | ⟨rfl, hmode⟩
    · have h15 : sr ≠ 15 := by rintro rfl; exact absurd hlt (by decide)
      have h14 : sr ≠ 14 := by rintro rfl; exact absurd hlt (by decide)
      rw [decide_eq_false h15, decide_eq_false h14, Bool.false_and]
      decide
    · rw [hmode]
      decide
  show execSrset t pred mode sr s = _
  rw [execSrset, slotRun_ready h, if_neg hnot]
  rfl

end

/-- Settles O17: each instruction changes its tile in one step. -/
theorem rquSimple : Obligations.RquSimple := by
  intro s t pred a d mode sr hready hclean x
  have hstage := slotReady_staged hready
  refine ⟨completes_launch hstage (execPfeed_ready hready hclean), ?_, fun hsr => ?_,
    completes_launch hstage (congrArg _ (slotRun_ready hready _))⟩
  · exact completes_setTile (congrArg _ (slotRun_ready hready _)) hstage fun honly hself => ⟨honly, hself⟩
  · exact completes_setTile (execSrset_ready hready hsr) hstage fun honly hself => ⟨honly, hself⟩

/-! ## PACK -/

section
variable {s : State} {t : TileId} {pred : BitVec 2} {fmt mode sr : BitVec 4} {imm : BitVec 10} {sh : FmtShape}

/-- The burst of a PACK: the elements at the head of the stream, and zeros where it is short (R238). -/
def packedBurst (x : Tile) (fmt mode : BitVec 4) (sh : FmtShape) : Bytes :=
  packBurst fmt.toNat x.replayRule
    (if mode.getLsbD 0 then some (x.srPos.toNat, x.srStage.toNat, x.srKey0.toNat, x.srKey1.toNat, x.srIdx.toNat) else none)
    ((x.pack.take sh.nf ++ List.replicate (sh.nf - (x.pack.take sh.nf).length) (0, false)).map fun (q : Word × Bool) => fp32 q.1)

/-- The tile after the elements of a PACK are taken (R238, R277, R281). -/
def packTaken (x : Tile) (fmt mode : BitVec 4) (sh : FmtShape) : Tile :=
  let rest := { (markUse x 0x25) with
    pack := x.pack.drop sh.nf
    srIdx := if mode.getLsbD 0 then x.srIdx + BitVec.ofNat 32 sh.nf else x.srIdx
    lastPack := some x.cycle }
  if mode.getLsbD 2 then markPack rest true fmt.toNat (x.pack.take sh.nf) (packedBurst x fmt mode sh) else rest

/-- The tile that counts a PACK discarded (R252, R281). -/
def packPassed (x : Tile) (mode : BitVec 4) : Tile := if mode.getLsbD 2 then { x with marked := x.marked + 1 } else x

/-- Counting a marked PACK leaves the stage and the uses of the cycle. -/
theorem markPack_kept (x : Tile) (executes : Bool) (fmt : Nat) (xs : List (Word × Bool)) (burst : Bytes) :
    (markPack x executes fmt xs burst).stage = x.stage ∧ (markPack x executes fmt xs burst).uses = x.uses := by
  unfold markPack
  dsimp only
  split <;> exact ⟨rfl, rfl⟩

theorem packTaken_kept (x : Tile) (fmt mode : BitVec 4) (sh : FmtShape) :
    (packTaken x fmt mode sh).stage = x.stage ∧ (packTaken x fmt mode sh).uses = x.uses := by
  unfold packTaken
  dsimp only
  split
  · exact markPack_kept _ _ _ _ _
  · exact ⟨rfl, rfl⟩

theorem packPassed_staged {x : Tile} (h : x.stage.isSome = true) (mode : BitVec 4) : (packPassed x mode).stage.isSome = true := by
  unfold packPassed
  split <;> exact h

variable (h : slotReady s t pred.toNat = true) (hsh : fmtShape fmt.toNat = some sh)
include h hsh

/-- R252: a PACK one cycle after the last is discarded. -/
theorem execPack_close (hclose : (s.tile t).lastPack = some ((s.tile t).cycle - 1) ∧ 0 < (s.tile t).cycle) :
    exec (.pack t pred fmt mode sr imm) s = .next (if mode.getLsbD 1 then
        ((s.setTile t (packPassed (s.tile t) mode)).useFree 32).launch t .rqu (s.lat 13) .egress
          (.line ((freeWords s.free 32).flatMap fun w => natLE 4 w.toNat) true)
      else (s.setTile t (packPassed (s.tile t) mode)).updTile t (fun x =>
        { x with linePoison := Table.put false x.linePoison (lineAddr (s.tile t) sr.toNat imm.toNat) true })) := by
  have hquiet := slotReady_quiet h
  obtain ⟨-, -, hpred, -⟩ := slotReady_iff.mp h
  show execPack t pred fmt mode sr imm s = _
  simp only [execPack, hpred, Bool.not_true, Bool.and_false, Bool.false_eq_true, if_false]
  rw [slotRun_ready h]
  simp only [hsh, hclose, decide_true, Bool.and_true, if_true, State.umpire_quiet hquiet]
  rfl

/-- R238: a PACK takes its elements, and its burst goes to the egress queue or to its line. -/
theorem execPack_taken (hfar : ¬ ((s.tile t).lastPack = some ((s.tile t).cycle - 1) ∧ 0 < (s.tile t).cycle))
    (hclean : ∀ p ∈ (s.tile t).pack, p.2 = false) :
    exec (.pack t pred fmt mode sr imm) s = .next (
      let u := s.setTile t (packTaken (s.tile t) fmt mode sh)
      let poison := decide ((s.tile t).pack.length < sh.nf) || (s.tile t).packOver
      if mode.getLsbD 1 then u.launch t .rqu (s.lat 13) .egress (.line (packedBurst (s.tile t) fmt mode sh) poison)
      else u.portStore t .rqu (s.lat 13) (lineAddr (s.tile t) sr.toNat imm.toNat) (packedBurst (s.tile t) fmt mode sh) poison) := by
  have hquiet := slotReady_quiet h
  have hbad : ((s.tile t).pack.take sh.nf).any (fun p => p.2) = false := by
    simpa using fun a b hab => hclean (a, b) (List.mem_of_mem_take hab)
  obtain ⟨-, -, hpred, -⟩ := slotReady_iff.mp h
  show execPack t pred fmt mode sr imm s = _
  simp only [execPack, hpred, Bool.not_true, Bool.and_false, Bool.false_eq_true, if_false]
  rw [slotRun_ready h]
  simp only [hsh, Bool.and_eq_true, decide_eq_true_eq, if_neg hfar, State.umpire_quiet hquiet, ite_self, hbad, State.consume_false,
    Bool.false_or]
  rfl

end

/-! ## UNPK -/

@[simp] theorem launched_scratch (x : Tile) (slot : Slot) (lat : Nat) (d : Dest) (v : ResultValue) :
    (launched x slot lat d v).scratch = x.scratch := rfl

@[simp] theorem usedPort_scratch (x : Tile) (slot : Slot) (port line : Nat) : (usedPort x slot port line).scratch = x.scratch := rfl

/-- A result put in flight is the last one there (R248). -/
theorem launched_inflight (x : Tile) (slot : Slot) (lat : Nat) (d : Dest) (v : ResultValue) :
    ∃ p, (launched x slot lat d v).inflight = x.inflight ++ [p] ∧ p.dest = d ∧ p.done = x.cycle + lat ∧ p.value = v :=
  ⟨_, rfl, rfl, rfl, rfl⟩

theorem resFree_congr {x y : Tile} {res : Nat} (huses : y.uses = x.uses) (h : x.uses.any (fun u => decide (u.1 = res)) = false) : resFree y res := by
  rw [resFree, huses, h]

theorem State.useFree_setTile (s : State) (t : TileId) (x : Tile) (n : Nat) : (s.setTile t x).useFree n = (s.useFree n).setTile t x := rfl

/-- A command that replaces a tile by a staged one and takes free values does no more. -/
theorem completes_setTile_useFree {s : State} {t : TileId} {x : Tile} {n : Nat} {c : Instr} {P : State → Prop}
    (hexec : exec c s = .next ((s.useFree n).setTile t x)) (h : x.stage.isSome = true)
    (hP : ∀ u : State, u = { s with tiles := u.tiles, free := s.free + n } → OtherTiles t s u → u.tile t = x → P u) : Completes c s P :=
  ⟨_, hexec, hP _ rfl (fun k hk => Table.get_put_ne _ _ _ _ k hk) (State.tile_setTile_staged h)⟩

/-- The 128 lanes of a part of a burst (R241). -/
def partLanes (es : List FP) (p : Nat) : List Word :=
  let ws := ((es.drop (128 * p)).take 128).map toFP32
  ws ++ List.replicate (128 - ws.length) 0

theorem partLanes_length (es : List FP) (p : Nat) : (partLanes es p).length = 128 := by
  rw [partLanes, List.length_append, List.length_replicate, List.length_map, List.length_take]
  omega

theorem partLanes_getD (es : List FP) (p : Nat) {i : Nat} (hi : i < 128) :
    (partLanes es p).getD i 0 = ((es.drop (128 * p)).map toFP32).getD i 0 := by
  rw [partLanes, List.map_take]
  by_cases h : i < ((es.drop (128 * p)).map toFP32).length
  · rw [List.getD_append _ _ _ _ (by rw [List.length_take]; omega)]
    simp only [List.getD_eq_getElem?_getD, List.getElem?_take_of_lt hi]
  · rw [List.getD_append_right _ _ _ _ (by rw [List.length_take]; omega), List.getD_eq_default _ _ (Nat.not_lt.mp h), List.getD_eq_getElem?_getD,
      List.getElem?_replicate]
    split <;> rfl

/-- A store whose port and bank are free is in flight to its line (R212, R248). -/
theorem State.portStore_setTile {s : State} {t : TileId} {x : Tile} {line : Nat} (h : x.stage.isSome = true) (hport : resFree x 0x20)
    (hbank : resFree x (bankOf line)) (slot : Slot) (lat : Nat) (bs : Bytes) (poison : Bool) :
    (s.setTile t x).portStore t slot lat line bs poison =
      s.setTile t (launched (usedPort x slot 0x20 line) slot lat (.scratch (BitVec.ofNat 15 line)) (.line bs poison)) := by
  have htile : (s.setTile t x).tile t = x := State.tile_setTile_staged h
  rw [State.portStore_free (by rw [htile]; exact h) (by rw [htile]; exact hport) (by rw [htile]; exact hbank), htile, State.setTile_setTile h]

section
variable {s : State} {t : TileId} {pred : BitVec 2} {fmt mode sr : BitVec 4} {imm : BitVec 10} {line : Nat} {es : List FP}

/-- R241: UNPK of a ready line. -/
theorem execUnpk_ready {d : BitVec 5} (h : slotReady s t pred.toNat = true) (hl : lineAddr (s.tile t) sr.toNat imm.toNat = line)
    (hready : lineReady (s.tile t) line = true) (hes : decodeLine fmt.toNat (lineRead (s.tile t) line).bytes = some es) :
    exec (.unpk t pred d fmt mode sr imm) s = .next (s.setTile t (launched (usedPort (s.tile t) .rqu 0x20 line) .rqu (s.lat 13) (.vreg d)
      (.lanes true (numbered (partLanes es (mode.toNat % 8))) false))) := by
  have hstage := slotReady_staged h
  have hl' : ((sreg (s.tile t) sr.toNat).toNat + imm.toNat) % 32768 = line := hl
  show execUnpk t pred d fmt mode sr imm s = _
  rw [execUnpk, slotRun_ready h]
  simp only [hl', State.portRead_ready hstage (slotReady_quiet h) hready .rqu, hes, Option.isNone_some, Bool.or_self, State.consume_false]
  exact congrArg _ (State.launch_setTile (usedPort_staged hstage _ _ _) _ _ _ _)

end

/-- Settles O18: a PACK is discarded or takes its elements, and its burst goes to the egress queue or to its line. -/
theorem packAndUnpack : Obligations.PackAndUnpack := by
  intro s t pred d fmt mode sr imm sh es hready hsh x l draw close taken burst poison rest counted used passed
  have hstage := slotReady_staged hready
  have hl : lineAddr (s.tile t) sr.toNat imm.toNat = l := rfl
  obtain ⟨hcstage, hcuses⟩ := packTaken_kept x fmt mode sh
  have hcounted : (packTaken x fmt mode sh).stage.isSome = true := by rw [hcstage]; exact hstage
  have hpassed := packPassed_staged hstage mode
  refine ⟨fun hfar hegress hclean => ?_, fun hfar hline hclean hport hbank => ?_, fun hclose hegress => ?_, fun hclose hline hwf => ?_,
    fun hline hes => ?_⟩
  · have hexec := execPack_taken (mode := mode) (sr := sr) (imm := imm) hready hsh hfar hclean
    rw [hegress, if_pos rfl] at hexec
    refine completes_setTile (hexec.trans (congrArg _ (State.launch_setTile hcounted _ _ _ _))) (launched_staged hcounted _ _ _ _)
      fun honly hself => ⟨honly, hself⟩
  · have hexec := execPack_taken (mode := mode) (sr := sr) (imm := imm) hready hsh hfar hclean
    rw [hline, if_neg (by decide), hl] at hexec
    have hstore := State.portStore_setTile (s := s) (t := t) hcounted (resFree_congr hcuses hport) (resFree_congr hcuses hbank) .rqu (s.lat 13)
      burst poison
    have hused : usedPort (packTaken x fmt mode sh) .rqu 0x20 l = used := by
      rw [usedPort_eq, hcuses]
      rfl
    refine completes_setTile (hexec.trans (congrArg _ hstore)) (launched_staged (usedPort_staged hcounted _ _ _) _ _ _ _)
      fun honly hself => ⟨honly, ?_⟩
    rw [hself, hused]
  · have hexec := execPack_close (mode := mode) (sr := sr) (imm := imm) hready hsh hclose
    rw [hegress, if_pos rfl, State.useFree_setTile, State.launch_setTile hpassed] at hexec
    exact completes_setTile_useFree hexec (launched_staged hpassed _ _ _ _) fun u hu hother hself => ⟨hu, hother, hself⟩
  · have hexec := execPack_close (mode := mode) (sr := sr) (imm := imm) hready hsh hclose
    rw [hline, if_neg (by decide), State.updTile_setTile hpassed, hl] at hexec
    have hpoison : (packPassed x mode).linePoison = x.linePoison := by
      unfold packPassed
      split <;> rfl
    refine completes_setTile hexec hpassed fun honly hself => ?_
    rw [hself]
    refine ⟨honly, rfl, fun k => ?_⟩
    show Table.get false (Table.put false (packPassed x mode).linePoison l true) k = _
    rw [hpoison]
    by_cases hk : k = l
    · rw [hk, if_pos rfl, Table.get_put_self _ _ _ _ hwf]
    · rw [if_neg hk, Table.get_put_ne _ _ _ _ _ hk]
  · clear_value l
    refine completes_setTile (execUnpk_ready hready hl hline hes) (launched_staged (usedPort_staged hstage _ _ _) _ _ _ _)
      fun honly hself => ?_
    rw [hself]
    exact ⟨honly, (launched_scratch ..).trans (usedPort_scratch ..), partLanes es (mode.toNat % 8), partLanes_length es _, fun i hi =>
      partLanes_getD es _ hi, launched_inflight (usedPort (s.tile t) .rqu 0x20 l) ..⟩

end Sys2Proof.Machine

/-! # Rotations -/

namespace Sys2Proof.Machine

/-- The parts of a block (R235). -/
def rotParts (mode : Nat) : Nat := if mode + 6 ≤ 7 then 1 else 2 ^ (mode + 6 - 7)

/-- A part goes on from the block in hand (R235). -/
def rotJoins (x : Tile) (inverse : Bool) (mode dn part : Nat) : Bool :=
  match x.rotNow with
  | some b => b.desc = dn && b.mode = mode && b.inverse = inverse && b.part + 1 = part && b.cycle + 1 = x.cycle
  | none => false

/-- The tile with a part of a block in the datapath, its result still poisoned. -/
def rotFlown (s : State) (x : Tile) (d : BitVec 5) (fmt mode : Nat) : Tile :=
  launched (addUse x 0x29 .rqu) .rqu (max (s.lat 12 + (mode + 6)) (rotParts mode)) (if fmt % 2 = 1 then .packStream else .vreg d)
    (rotResult (fmt % 2 = 1) (freeWords s.free 128) true)

/-- The block with a part that joins it. -/
def rotJoined (x : Tile) (inverse : Bool) (a : BitVec 5) (mode dn part : Nat) (b : RotBlock) : RotBlock :=
  { desc := dn, mode := mode, inverse := inverse, part := part, cycle := x.cycle, elems := b.elems ++ valsOf x a.toNat,
    poison := b.poison, ids := b.ids ++ [x.nextId], pc := x.nextPc }

/-- The rotated elements of a block (R267-R272). -/
def rotValues (desc : RotDesc) (inverse : Bool) (k : Nat) (es : List FP) : List Word :=
  let f (xs : List FP) : List Word := if inverse then irotBlock desc k xs else rotBlock desc k xs
  if k = 6 then f (es.take 64) ++ f (es.drop 64) else f es

section
variable {s : State} {t : TileId} {inverse : Bool} {pred : Nat} {a d : BitVec 5} {fmt mode imm : Nat}

theorem rotFlown_staged {x : Tile} (h : x.stage.isSome = true) : (rotFlown s x d fmt mode).stage.isSome = true := h

variable (h : slotReady s t pred = true) (hclean : vPoison (s.tile t) a.toNat = false) (hfree : (s.tile t).uses = []) (hmode : mode < 7)
include h hclean hfree hmode

/-- R235: a part of a block enters the datapath, and joins the block in hand, ends it or breaks it. -/
theorem State.rotate_enters : s.rotate t inverse pred a d fmt mode imm =
    let x := s.tile t
    let part := imm / 32 % 32
    let dn := imm % 32
    let u := (s.useFree 128).setTile t (rotFlown s x d fmt mode)
    let blk := rotJoined x inverse a mode dn part (if part = 0 then {} else x.rotNow.getD {})
    if (decide (part ≠ 0) && !rotJoins x inverse mode dn part) || decide (rotParts mode ≤ part) then
      u.updTile t (fun x => { x with rotNow := none })
    else if part + 1 < rotParts mode then u.updTile t (fun x => { x with rotNow := some blk })
    else if (Table.get {} x.rot dn).log2b.toNat ≠ mode + 6 then u.updTile t (fun x => { x with rotNow := none })
    else u.updTile t (fun y => { y with
      rotNow := none
      inflight := fillParts blk.poison (blk.ids.zip (chunksOf 128 (rotParts mode) (rotValues (Table.get {} x.rot dn) inverse (mode + 6) blk.elems)))
        y.inflight }) := by
  have hquiet := slotReady_quiet h
  have hstage := slotReady_staged h
  have htile : (s.setTile t (addUse (s.tile t) 0x29 .rqu)).tile t = addUse (s.tile t) 0x29 .rqu := State.tile_setTile_staged hstage
  have hquiet' : (s.setTile t (addUse (s.tile t) 0x29 .rqu)).boot.debug = false := hquiet
  rw [State.rotate, slotRun_ready h, if_neg (Nat.not_le.mpr hmode), State.useRes_free (resFree_of_none hfree 0x29)]
  dsimp only
  rw [State.staleRead_quiet hquiet', htile]
  have hclean' : vPoison (addUse (s.tile t) 0x29 .rqu) a.toNat = false := hclean
  simp only [hclean', State.consume_false, State.umpireAt_quiet hquiet', ite_self, State.useFree_setTile,
    State.launch_setTile (x := addUse (s.tile t) 0x29 .rqu) hstage, State.umpire_quiet, State.updTile_boot, State.setTile_boot,
    State.useFree_boot, hquiet, Bool.not_true, Bool.false_or, Bool.or_false, Bool.false_eq_true]
  rfl

/-- A part that joins the block `b`, or begins one: what it does is told by the parts still to come and the descriptor's length. -/
theorem State.rotate_joins {b : RotBlock} (hb : (imm / 32 % 32 = 0 ∧ b = {}) ∨ (imm / 32 % 32 ≠ 0 ∧ (s.tile t).rotNow = some b ∧
      rotJoins (s.tile t) inverse mode (imm % 32) (imm / 32 % 32) = true)) (hlt : imm / 32 % 32 < rotParts mode) :
    s.rotate t inverse pred a d fmt mode imm =
      let x := s.tile t
      let u := (s.useFree 128).setTile t (rotFlown s x d fmt mode)
      let blk := rotJoined x inverse a mode (imm % 32) (imm / 32 % 32) b
      if imm / 32 % 32 + 1 < rotParts mode then u.updTile t (fun x => { x with rotNow := some blk })
      else if (Table.get {} x.rot (imm % 32)).log2b.toNat ≠ mode + 6 then u.updTile t (fun x => { x with rotNow := none })
      else u.updTile t (fun y => { y with
        rotNow := none
        inflight := fillParts blk.poison (blk.ids.zip (chunksOf 128 (rotParts mode)
          (rotValues (Table.get {} x.rot (imm % 32)) inverse (mode + 6) blk.elems))) y.inflight }) := by
  rw [State.rotate_enters h hclean hfree hmode]
  rcases hb with ⟨hpart, rfl⟩ | ⟨hpart, hnow, hjoin⟩
  · rw [hpart] at hlt ⊢
    simp only [ne_eq, not_true_eq_false, decide_false, Bool.false_and, Bool.false_or, decide_eq_true_eq, if_neg (Nat.not_le.mpr hlt), if_true]
  · simp only [hjoin, hnow, Bool.not_true, Bool.and_false, Bool.false_or, decide_eq_true_eq, if_neg (Nat.not_le.mpr hlt), if_neg hpart,
      Option.getD_some]

section
variable {b : RotBlock} (hb : (imm / 32 % 32 = 0 ∧ b = {}) ∨ (imm / 32 % 32 ≠ 0 ∧ (s.tile t).rotNow = some b ∧
  rotJoins (s.tile t) inverse mode (imm % 32) (imm / 32 % 32) = true))
include hb

/-- A part with others to come leaves the block in hand. -/
theorem State.rotate_goesOn (hmore : imm / 32 % 32 + 1 < rotParts mode) : s.rotate t inverse pred a d fmt mode imm =
    ((s.useFree 128).setTile t (rotFlown s (s.tile t) d fmt mode)).updTile t (fun x => { x with
      rotNow := some (rotJoined (s.tile t) inverse a mode (imm % 32) (imm / 32 % 32) b) }) :=
  (State.rotate_joins h hclean hfree hmode hb (by omega)).trans (if_pos hmore)

variable (hlast : imm / 32 % 32 + 1 = rotParts mode)
include hlast

/-- The last part of a block of another length than the descriptor's leaves it poisoned (R235). -/
theorem State.rotate_endsWrong (hlen : (Table.get {} (s.tile t).rot (imm % 32)).log2b.toNat ≠ mode + 6) :
    s.rotate t inverse pred a d fmt mode imm =
      ((s.useFree 128).setTile t (rotFlown s (s.tile t) d fmt mode)).updTile t (fun x => { x with rotNow := none }) :=
  (State.rotate_joins h hclean hfree hmode hb (by omega)).trans ((if_neg (by omega)).trans (if_pos hlen))

/-- The last part of a block gives every part its values (R235). -/
theorem State.rotate_ends (hlen : (Table.get {} (s.tile t).rot (imm % 32)).log2b.toNat = mode + 6) :
    s.rotate t inverse pred a d fmt mode imm =
      ((s.useFree 128).setTile t (rotFlown s (s.tile t) d fmt mode)).updTile t (fun y => { y with
        rotNow := none
        inflight := fillParts b.poison ((b.ids ++ [(s.tile t).nextId]).zip (chunksOf 128 (rotParts mode)
          (rotValues (Table.get {} (s.tile t).rot (imm % 32)) inverse (mode + 6) (b.elems ++ valsOf (s.tile t) a.toNat)))) y.inflight }) :=
  (State.rotate_joins h hclean hfree hmode hb (by omega)).trans ((if_neg (by omega)).trans (if_neg (by simpa using hlen)))

end

/-- A later part with no block to join stays poisoned. -/
theorem State.rotate_alone (hpart : imm / 32 % 32 ≠ 0) (hnow : (s.tile t).rotNow = none) : s.rotate t inverse pred a d fmt mode imm =
    ((s.useFree 128).setTile t (rotFlown s (s.tile t) d fmt mode)).updTile t (fun x => { x with rotNow := none }) := by
  have hjoin : rotJoins (s.tile t) inverse mode (imm % 32) (imm / 32 % 32) = false := by simp [rotJoins, hnow]
  rw [State.rotate_enters h hclean hfree hmode]
  simp only [hjoin, Bool.not_false, Bool.and_true, Bool.or_eq_true, decide_eq_true_eq, if_pos (Or.inl hpart)]

end

theorem rotFlown_frame (s : State) (x : Tile) (d : BitVec 5) (fmt mode : Nat) (now : Option RotBlock) (fl : List Pending) :
    { rotFlown s x d fmt mode with rotNow := now, inflight := fl } =
      { x with uses := (rotFlown s x d fmt mode).uses, nextId := x.nextId + 1, inflight := fl, rotNow := now } := rfl

/-- The frame of a rotation: of the tile, the uses of the cycle, the results in flight and the block in hand. -/
def RotFrame (s : State) (t : TileId) (u : State) : Prop :=
  u = { s with tiles := u.tiles, free := s.free + 128 } ∧ OtherTiles t s u ∧ u.tile t = { s.tile t with
    uses := (u.tile t).uses
    nextId := (s.tile t).nextId + 1
    inflight := (u.tile t).inflight
    rotNow := (u.tile t).rotNow }

section
variable {s : State} {t : TileId} {d : BitVec 5} {fmt mode : Nat} {i : Instr} {P : State → Prop} (hstage : (s.tile t).stage.isSome = true)
include hstage

/-- A rotation leaves its block, and the results in flight with one more, its own, poisoned. -/
theorem completes_rotNow {now : Option RotBlock}
    (hexec : exec i s = .next (((s.useFree 128).setTile t (rotFlown s (s.tile t) d fmt mode)).updTile t (fun x => { x with rotNow := now })))
    (hP : ∀ u : State, RotFrame s t u → (u.tile t).rotNow = now →
      (u.tile t).inflight = (rotFlown s (s.tile t) d fmt mode).inflight → P u) : Completes i s P := by
  rw [State.updTile_setTile (rotFlown_staged hstage)] at hexec
  refine completes_setTile_useFree hexec hstage fun u hu hother hself => hP u ⟨hu, hother, ?_⟩ ?_ ?_ <;> rw [hself]
  exact rotFlown_frame s (s.tile t) d fmt mode now _

/-- A block that ends gives its results their values. -/
theorem completes_rotDone {g : List Pending → List Pending}
    (hexec : exec i s = .next (((s.useFree 128).setTile t (rotFlown s (s.tile t) d fmt mode)).updTile t (fun x => { x with
      rotNow := none
      inflight := g x.inflight })))
    (hP : ∀ u : State, RotFrame s t u → (u.tile t).rotNow = none →
      (u.tile t).inflight = g (rotFlown s (s.tile t) d fmt mode).inflight → P u) : Completes i s P := by
  rw [State.updTile_setTile (rotFlown_staged hstage)] at hexec
  refine completes_setTile_useFree hexec hstage fun u hu hother hself => hP u ⟨hu, hother, ?_⟩ ?_ ?_ <;> rw [hself]
  exact rotFlown_frame s (s.tile t) d fmt mode none _

end

/-- Settles O16: a part joins the block in hand, ends it with its length right or wrong, or stands alone. -/
theorem rotations : Obligations.Rotations := by
  intro s t pred a d fmt mode imm b hready hclean hfree hmode x k parts part dn desc es junk frame flies goesOn R alone
  have hstage := slotReady_staged hready
  have hpart : imm.toNat / 32 % 32 = part := Nat.mod_eq_of_lt (by have := imm.isLt; omega)
  have hodd : fmt.toNat % 2 = 1 ↔ fmt.getLsbD 0 = true := by simp [BitVec.getLsbD, Nat.testBit_zero]
  have hdecide : decide (fmt.toNat % 2 = 1) = fmt.getLsbD 0 := by simp [BitVec.getLsbD, Nat.testBit_zero]
  have hflies : ∃ p, flies p ∧ (rotFlown s x d fmt.toNat mode.toNat).inflight = x.inflight ++ [p] := by
    refine ⟨_, ⟨rfl, rfl, ?_, rfl, ?_⟩, rfl⟩
    · simp only [hodd]
    · show rotResult _ _ _ = _
      rw [hdecide]
  have hrot (inverse : Bool) {i : Instr} (f : List FP → List Word)
      (hf : ∀ es, rotValues desc inverse k es = if k = 6 then f (es.take 64) ++ f (es.drop 64) else f es)
      (hexec : exec i s = .next (s.rotate t inverse pred.toNat a d fmt.toNat mode.toNat imm.toNat)) : R i inverse f := by
    intro hgoes
    have hb : (imm.toNat / 32 % 32 = 0 ∧ b = {}) ∨ (imm.toNat / 32 % 32 ≠ 0 ∧ x.rotNow = some b ∧
        rotJoins x inverse mode.toNat dn (imm.toNat / 32 % 32) = true) := by
      rw [hpart]
      refine hgoes.imp_right fun ⟨hlater, hnow, hdesc, hbmode, hbinv, hbpart, hbcycle⟩ => ⟨hlater, hnow, ?_⟩
      simp [rotJoins, hnow, hdesc, hbmode, hbinv, hbpart, hbcycle]
    obtain ⟨p, hp, hflown⟩ := hflies
    refine ⟨fun hmore => ?_, fun hlast hlen => ?_, fun hlast hlen => ?_⟩
    · rw [State.rotate_goesOn hready hclean hfree hmode hb (by rw [hpart]; exact hmore), hpart] at hexec
      exact completes_rotNow hstage hexec fun u hframe hnow hin => ⟨hframe, ⟨p, hp, hin.trans hflown⟩, hnow⟩
    · rw [State.rotate_endsWrong hready hclean hfree hmode hb (by rw [hpart]; exact hlast) hlen] at hexec
      exact completes_rotNow hstage hexec fun u hframe hnow hin => ⟨hframe, hnow, p, hp, hin.trans hflown⟩
    · rw [State.rotate_ends hready hclean hfree hmode hb (by rw [hpart]; exact hlast) hlen] at hexec
      refine completes_rotDone hstage hexec fun u hframe hnow hin => ⟨hframe, hnow, p, hp, hin.trans ?_⟩
      rw [hflown]
      exact congrArg (fun ws => fillParts b.poison ((b.ids ++ [x.nextId]).zip (chunksOf 128 parts ws)) (x.inflight ++ [p])) (hf es)
  have halone (inverse : Bool) {i : Instr}
      (hexec : exec i s = .next (s.rotate t inverse pred.toNat a d fmt.toNat mode.toNat imm.toNat)) : alone i := by
    intro hlater hnow
    obtain ⟨p, hp, hflown⟩ := hflies
    rw [State.rotate_alone hready hclean hfree hmode (by rw [hpart]; exact hlater) hnow] at hexec
    exact completes_rotNow hstage hexec fun u hframe hnow hin => ⟨hframe, hnow, p, hp, hin.trans hflown⟩
  exact ⟨hrot false _ (fun _ => rfl) rfl, hrot true _ (fun _ => rfl) rfl, halone false rfl, halone true rfl⟩

end Sys2Proof.Machine

/-! # The mesh port -/

namespace Sys2Proof.Machine

/-! ## Sealed flits -/

section
variable (f : Flit)

theorem withParity_eq (h : FlitHead) : ∃ p, withParity h = { h with par := p } := ⟨_, rfl⟩

/-- Sealing a flit sets its CRC and its parity, and nothing else of its head (R503-R506). -/
theorem sealFlit_head : ∃ c p, (sealFlit f).head = { f.head with lineOrCrc := c, par := p } := by
  have hseal (c : BitVec 16) : ∃ c' p, withParity (if f.head.kind = 0 then f.head else { f.head with lineOrCrc := c }) =
      { f.head with lineOrCrc := c', par := p } := by
    split
    · obtain ⟨p, hp⟩ := withParity_eq f.head
      exact ⟨_, p, hp⟩
    · obtain ⟨p, hp⟩ := withParity_eq { f.head with lineOrCrc := c }
      exact ⟨c, p, hp⟩
  exact hseal _

@[simp] theorem sealFlit_sreg : (sealFlit f).head.sreg = f.head.sreg := by
  obtain ⟨c, p, hhead⟩ := sealFlit_head f
  rw [hhead]

@[simp] theorem sealFlit_sx : (sealFlit f).head.sx = f.head.sx := by
  obtain ⟨c, p, hhead⟩ := sealFlit_head f
  rw [hhead]

@[simp] theorem sealFlit_sy : (sealFlit f).head.sy = f.head.sy := by
  obtain ⟨c, p, hhead⟩ := sealFlit_head f
  rw [hhead]

@[simp] theorem sealFlit_dkind : (sealFlit f).head.dkind = f.head.dkind := by
  obtain ⟨c, p, hhead⟩ := sealFlit_head f
  rw [hhead]

@[simp] theorem sealFlit_dreg : (sealFlit f).head.dreg = f.head.dreg := by
  obtain ⟨c, p, hhead⟩ := sealFlit_head f
  rw [hhead]

@[simp] theorem sealFlit_dx : (sealFlit f).head.dx = f.head.dx := by
  obtain ⟨c, p, hhead⟩ := sealFlit_head f
  rw [hhead]

@[simp] theorem sealFlit_kind : (sealFlit f).head.kind = f.head.kind := by
  obtain ⟨c, p, hhead⟩ := sealFlit_head f
  rw [hhead]

theorem sealFlit_body : (sealFlit f).body = padTo 128 f.body := rfl

end

/-! ## A flit sent -/

/-- The flit comes from a tile's stroke program, for a port that its region reaches (R510, R511, R530). -/
def Departs (s : State) (t : TileId) (f : Flit) : Prop :=
  f.head.sreg = t.region ∧ f.head.sx = t.x ∧ f.head.sy = t.y ∧ f.head.dkind ≠ 3 ∧ s.route t.region.toNat f.head.dreg.toNat ≠ 15

section
variable {s : State} {t : TileId} {f : Flit} {y : Tile}

theorem departs_sealFlit (h : Departs s t f) : Departs s t (sealFlit f) := by simpa [Departs] using h

theorem departs_sendHead {e : SendEntry} {kind : BitVec 3} {line : BitVec 16} {bs : Bytes}
    (hreach : e.dkind ≠ 3 ∧ s.route t.region.toNat e.dreg.toNat ≠ 15) :
    Departs s t { head := { sendHead s t e kind with lineOrCrc := line }, body := bs } := ⟨rfl, rfl, rfl, hreach⟩

/-- The state in which a tile's flit is in the mesh. -/
def State.injected (s : State) (t : TileId) (f : Flit) : State :=
  { s with transit := s.transit ++ [(t.region.toNat, t.x.toNat, t.y.toNat, f)] }

theorem State.inject_departs (h : Departs s t f) : s.inject f = s.injected t f := by
  obtain ⟨hreg, hx, hy, hkind, hroute⟩ := h
  simp only [State.inject, if_neg hkind, hreg, hx, hy, if_neg hroute]
  rfl

theorem State.egressRoom_setTile (h : y.stage.isSome = true) :
    (s.setTile t y).egressRoom t = decide (y.egress.length + (s.atMeshPort t).length < 8) := by
  rw [State.egressRoom, State.tile_setTile_staged h]
  rfl

/-- With room in the egress queue a flit goes into the mesh (R178). -/
theorem State.sendFlit_room (h : y.stage.isSome = true) (hroom : y.egress.length + (s.atMeshPort t).length < 8) (hf : Departs s t f) :
    (s.setTile t y).sendFlit t f = (s.injected t f).setTile t y := by
  have hf' : Departs (s.setTile t y) t f := hf
  rw [State.sendFlit, State.egressRoom_setTile h, if_pos (decide_eq_true hroom), State.inject_departs hf']
  rfl

/-- Without room it is held back, and the sequencer waits (R178). -/
theorem State.sendFlit_full (h : y.stage.isSome = true) (hfull : ¬ y.egress.length + (s.atMeshPort t).length < 8) :
    (s.setTile t y).sendFlit t f = s.setTile t { y with netWait := 1, netHeld := some f } := by
  rw [State.sendFlit, State.egressRoom_setTile h, if_neg (by simpa using hfull), State.updTile_setTile h]

/-- What an instruction of the slot changes outside its tile: flits in the mesh. -/
def NetFrame (s : State) (t : TileId) (u : State) : Prop :=
  u = { s with tiles := u.tiles, transit := u.transit } ∧ OtherTiles t s u ∧ (u.tile t).scratch = (s.tile t).scratch

theorem completes_injected {i : Instr} {P : State → Prop} (hexec : exec i s = .next ((s.injected t f).setTile t y))
    (h : y.stage.isSome = true) (hscratch : y.scratch = (s.tile t).scratch)
    (hP : ∀ u, NetFrame s t u → u.transit = s.transit ++ [(t.region.toNat, t.x.toNat, t.y.toNat, f)] → u.tile t = y → P u) :
    Completes i s P := by
  have hself : ((s.injected t f).setTile t y).tile t = y := State.tile_setTile_staged h
  exact ⟨_, hexec, hP _ ⟨rfl, fun k hk => Table.get_put_ne _ _ _ _ k hk, by rw [hself, hscratch]⟩ rfl hself⟩

/-! ## Data flits -/

/-- The tile that has sent one more line of an entry. -/
def lineSent (entry : BitVec 8) (x : Tile) : Tile :=
  { x with sentLines := Table.put 0 x.sentLines entry.toNat (Table.get 0 x.sentLines entry.toNat + 1) }

/-- The data flit of an entry that lands at its base plus s[S] (R243). -/
def dataFlit (s : State) (t : TileId) (entry : BitVec 8) (sr : Nat) (y : Tile) (bs : Bytes) : Flit :=
  let e := Table.get {} y.send entry.toNat
  sealFlit { head := { sendHead s t e 0 with lineOrCrc := (BitVec.ofNat 15 (e.base.toNat + (sreg y sr).toNat)).setWidth 16 }, body := bs }

theorem State.sendData_setTile {entry : BitVec 8} (h : y.stage.isSome = true) (hopen : y.committed.contains entry = false) (sr : Nat) (bs : Bytes) :
    (s.setTile t y).sendData t entry.toNat sr bs false = (s.setTile t (lineSent entry y)).sendFlit t (dataFlit s t entry sr y bs) := by
  rw [State.sendData, State.tile_setTile_staged h]
  simp only [BitVec.ofNat_toNat, BitVec.setWidth_eq, hopen, Bool.false_eq_true, if_false]
  rw [State.updTile_setTile h]
  rfl

theorem departs_dataFlit {entry : BitVec 8} {sr : Nat} {bs : Bytes} (hreach : (Table.get {} y.send entry.toNat).dkind ≠ 3 ∧
    s.route t.region.toNat (Table.get {} y.send entry.toNat).dreg.toNat ≠ 15) : Departs s t (dataFlit s t entry sr y bs) :=
  departs_sealFlit (departs_sendHead hreach)

/-! ## The injection port and the line read -/

/-- The tile that reads a line through the NET slot's port. -/
def netRead (x : Tile) (line : Nat) : Tile := usedPort (addUse x 0x2A .net) .net 0x22 line

/-- Of the tile, the read changes the uses of the cycle. -/
theorem netRead_eq (x : Tile) (line : Nat) : ∃ us, netRead x line = { x with uses := us } := ⟨_, rfl⟩

theorem netRead_staged {x : Tile} (h : x.stage.isSome = true) (line : Nat) : (netRead x line).stage.isSome = true := h

/-- With nothing used in the cycle, the port and the line's bank serve the read of a clean line. -/
theorem State.netRead_ready {line : Nat} (hstage : (s.tile t).stage.isSome = true) (hquiet : s.boot.debug = false) (hfree : (s.tile t).uses = [])
    (hready : lineReady (s.tile t) line = true) : (s.setTile t (addUse (s.tile t) 0x2A .net)).portRead t .net 0x22 line =
      (s.setTile t (netRead (s.tile t) line), (lineRead (s.tile t) line).bytes, false) := by
  obtain ⟨-, -, hclean⟩ := lineReady_iff.mp hready
  have hlt := bankOf_lt line
  have htile : (s.setTile t (addUse (s.tile t) 0x2A .net)).tile t = addUse (s.tile t) 0x2A .net := State.tile_setTile_staged hstage
  have hstage' : (addUse (s.tile t) 0x2A .net).stage.isSome = true := hstage
  rw [State.portRead_clean (s := s.setTile t (addUse (s.tile t) 0x2A .net)) (line := line) (by rw [htile]; exact hstage')
    (by rw [htile]; exact resFree_addUse (resFree_of_none hfree _) (by decide) _)
    (by rw [htile]; exact resFree_addUse (resFree_of_none hfree _) (by omega) _) (by omega) hquiet (by rw [htile]; exact hclean), htile,
    State.setTile_setTile hstage']
  rfl

end

/-- What SEND leaves of its tile. -/
theorem sent_kept (entry : BitVec 8) (x : Tile) (line : Nat) : (lineSent entry (netRead x line)).stage = x.stage ∧
    (lineSent entry (netRead x line)).egress = x.egress ∧ (lineSent entry (netRead x line)).scratch = x.scratch ∧ (lineSent entry (netRead x line)).sentLines =
      Table.put 0 x.sentLines entry.toNat (Table.get 0 x.sentLines entry.toNat + 1) := by
  obtain ⟨us, hread⟩ := netRead_eq x line
  rw [hread]
  exact ⟨rfl, rfl, rfl, rfl⟩

theorem dataFlit_netRead (s : State) (t : TileId) (entry : BitVec 8) (sr : Nat) (x : Tile) (line : Nat) (bs : Bytes) :
    dataFlit s t entry sr (netRead x line) bs = dataFlit s t entry sr x bs := by
  obtain ⟨us, hread⟩ := netRead_eq x line
  rw [hread]
  rfl

theorem State.egressRoom_iff {s : State} {t : TileId} :
    s.egressRoom t = true ↔ (s.tile t).egress.length + (s.atMeshPort t).length < 8 := decide_eq_true_iff

/-- The tile that has committed an entry. -/
def entryCommitted (entry : BitVec 8) (x : Tile) : Tile :=
  { (markUse x (0x1000 + entry.toNat)) with committed := x.committed ++ [entry] }

theorem addUse_kept (x : Tile) (res : Nat) (slot : Slot) : (addUse x res slot).stage = x.stage ∧ (addUse x res slot).scratch = x.scratch ∧
    (addUse x res slot).committed = x.committed := ⟨rfl, rfl, rfl⟩

/-- What COMMIT leaves of its tile. -/
theorem committed_kept (entry : BitVec 8) (x : Tile) (slot : Slot) (res : Nat) : (entryCommitted entry (addUse x res slot)).stage = x.stage ∧
    (entryCommitted entry (addUse x res slot)).egress = x.egress ∧ (entryCommitted entry (addUse x res slot)).scratch = x.scratch ∧
    (entryCommitted entry (addUse x res slot)).committed = x.committed ++ [entry] := ⟨rfl, rfl, rfl, rfl⟩

/-- The tile that takes the oldest burst of its egress queue. -/
def burstTaken (rest : List (Bytes × Bool)) (x : Tile) : Tile := { addUse x 0x2A .net with egress := rest }

/-- What SENDQ leaves of its tile. -/
theorem burstSent_kept (entry : BitVec 8) (rest : List (Bytes × Bool)) (x : Tile) :
    (lineSent entry (burstTaken rest x)).stage = x.stage ∧ (lineSent entry (burstTaken rest x)).egress = rest ∧
      (lineSent entry (burstTaken rest x)).scratch = x.scratch := ⟨rfl, rfl, rfl⟩

theorem dataFlit_burstTaken (s : State) (t : TileId) (entry : BitVec 8) (sr : Nat) (rest : List (Bytes × Bool)) (x : Tile) (bs : Bytes) :
    dataFlit s t entry sr (burstTaken rest x) bs = dataFlit s t entry sr x bs := rfl

/-! ## Descriptors -/

/-- The region of the controller that a descriptor goes to: that of its first extent's channel (R470). -/
def dmaEdge (d : Descriptor) : Nat :=
  match d.extents with
  | e :: _ => (match addrChan e.1 with
    | some (c, _) => chanEdge c
    | none => 0)
  | [] => 0

theorem dmaEdge_eq {d : Descriptor} {a n c o : Nat} (hd : d.extents.head? = some (a, n)) (hc : addrChan a = some (c, o)) :
    dmaEdge d = chanEdge c := by
  obtain ⟨es, he⟩ : ∃ es, d.extents = (a, n) :: es := List.head?_eq_some_iff.mp hd
  simp [dmaEdge, he, hc]

/-- The tag of a tier READ is outstanding from its DMA on (R180). -/
def dmaTagged (d : Descriptor) (x : Tile) : Tile :=
  if d.op = 1 then { x with
    gatherSerial := x.gatherSerial + 1
    gtag := Table.put {} x.gtag (d.tag % 16)
      { outstanding := true, line := d.line, serial := x.gatherSerial + 1, linesLeft := descLines d, lines := descLines d, read := true } }
  else x

/-- The flit that takes a descriptor to its controller (R471). -/
def dmaFlit (s : State) (t : TileId) (x : Tile) (d : Descriptor) (bs : Bytes) : Flit :=
  sealFlit { head := sendHead s t { (Table.get {} x.send 0) with dkind := 1, dreg := BitVec.ofNat 6 (edgeRegion (dmaEdge d)), dx := 0, dy := 0 } 3
             body := bs }

theorem dmaFlit_departs {s : State} {t : TileId} {x : Tile} {d : Descriptor} {bs : Bytes}
    (h : s.route t.region.toNat (BitVec.ofNat 6 (edgeRegion (dmaEdge d))).toNat ≠ 15) : Departs s t (dmaFlit s t x d bs) :=
  departs_sealFlit ⟨rfl, rfl, rfl, (by decide : (1 : BitVec 2) ≠ 3), h⟩

/-- A descriptor of a whole line goes as it stands to the controller of its first extent. -/
theorem dmaFlit_fields (s : State) (t : TileId) (x : Tile) (d : Descriptor) {bs : Bytes} (h : bs.length = 128) :
    (dmaFlit s t x d bs).body = bs ∧ (dmaFlit s t x d bs).head.dkind = 1 ∧
      (dmaFlit s t x d bs).head.dreg = BitVec.ofNat 6 (edgeRegion (dmaEdge d)) ∧ (dmaFlit s t x d bs).head.dx = 0 ∧
      (dmaFlit s t x d bs).head.kind = 3 := by
  refine ⟨?_, sealFlit_dkind _, sealFlit_dreg _, sealFlit_dx _, sealFlit_kind _⟩
  rw [dmaFlit, sealFlit_body, padTo, ← h, List.take_left]

theorem dmaTagged_kept (d : Descriptor) (x : Tile) :
    (dmaTagged d x).stage = x.stage ∧ (dmaTagged d x).egress = x.egress ∧ (dmaTagged d x).scratch = x.scratch := by
  unfold dmaTagged
  split <;> exact ⟨rfl, rfl, rfl⟩

theorem dmaTagged_gtag {d : Descriptor} (hop : d.op = 1) (x : Tile) : Table.get {} (dmaTagged d x).gtag (d.tag % 16) =
    { outstanding := true, line := d.line, serial := x.gatherSerial + 1, linesLeft := descLines d, lines := descLines d, read := true } := by
  rw [dmaTagged, if_pos hop]
  exact Table.get_put_some _ _ _ _ (by simp)

/-! ## The instructions -/

section
variable {s : State} {t : TileId} {pred : BitVec 2} {sr : BitVec 4} {entry : BitVec 8} {line : Nat} (h : slotReady s t pred.toNat = true)
  (hfree : (s.tile t).uses = [])
include h hfree

theorem execSend_ready {addr : BitVec 15} (hopen : (s.tile t).committed.contains entry = false)
    (hl : lineAddr (s.tile t) sr.toNat addr.toNat = line) (hready : lineReady (s.tile t) line = true) :
    exec (.send t pred sr addr entry) s = .next ((s.setTile t (lineSent entry (netRead (s.tile t) line))).sendFlit t
      (dataFlit s t entry sr.toNat (netRead (s.tile t) line) (lineRead (s.tile t) line).bytes)) := by
  have hstage := slotReady_staged h
  show execSend t pred sr addr entry s = _
  rw [execSend, slotRun_ready h, State.useRes_free (resFree_of_none hfree 0x2A), hl]
  simp only [Bool.not_true, Bool.false_eq_true, if_false, State.netRead_ready hstage (slotReady_quiet h) hfree hready]
  obtain ⟨us, hread⟩ := netRead_eq (s.tile t) line
  exact congrArg _ (State.sendData_setTile (netRead_staged hstage line) (by rw [hread]; exact hopen) _ _)

theorem execSendq_ready {b : Bytes × Bool} {rest : List (Bytes × Bool)} (hopen : (s.tile t).committed.contains entry = false)
    (hhead : (s.tile t).egress = b :: rest) (hclean : b.2 = false) :
    exec (.sendq t pred sr entry) s = .next ((s.setTile t (lineSent entry (burstTaken rest (s.tile t)))).sendFlit t
      (dataFlit s t entry sr.toNat (s.tile t) b.1)) := by
  have hstage := slotReady_staged h
  show execSendq t pred sr entry s = _
  rw [execSendq, slotRun_ready h, State.useRes_free (resFree_of_none hfree 0x2A)]
  simp only [Bool.not_true, Bool.false_eq_true, if_false, hhead, hclean, State.consume_false]
  rw [State.updTile_setTile (x := addUse (s.tile t) 0x2A .net) hstage, ← dataFlit_burstTaken s t entry sr.toNat rest]
  exact congrArg _ (State.sendData_setTile (y := burstTaken rest (s.tile t)) hstage hopen _ _)

theorem execCommit_repeated (hdone : (s.tile t).committed.contains entry = true) :
    exec (.commit t pred entry) s = .next (s.setTile t (addUse (s.tile t) 0x2A .net)) := by
  have hstage := slotReady_staged h
  have htile : (s.setTile t (addUse (s.tile t) 0x2A .net)).tile t = addUse (s.tile t) 0x2A .net := State.tile_setTile_staged hstage
  have hdone' : (addUse (s.tile t) 0x2A .net).committed.contains entry = true := hdone
  have hquiet : (s.setTile t (addUse (s.tile t) 0x2A .net)).boot.debug = false := by
    rw [State.setTile_boot, slotReady_quiet h]
  show execCommit t pred entry s = _
  rw [execCommit, slotRun_ready h, State.useRes_free (resFree_of_none hfree 0x2A)]
  simp only [Bool.not_true, Bool.false_eq_true, if_false, htile, hdone', if_true, State.umpire_quiet hquiet]

theorem execCommit_withheld (hopen : (s.tile t).committed.contains entry = false) (hheld : (s.tile t).withhold = true) :
    exec (.commit t pred entry) s = .next (s.setTile t (entryCommitted entry (addUse (s.tile t) 0x2A .net))) := by
  have hstage := slotReady_staged h
  have htile : (s.setTile t (addUse (s.tile t) 0x2A .net)).tile t = addUse (s.tile t) 0x2A .net := State.tile_setTile_staged hstage
  have hopen' : (addUse (s.tile t) 0x2A .net).committed.contains entry = false := hopen
  have hheld' : (addUse (s.tile t) 0x2A .net).withhold = true := hheld
  show execCommit t pred entry s = _
  rw [execCommit, slotRun_ready h, State.useRes_free (resFree_of_none hfree 0x2A)]
  simp only [Bool.not_true, Bool.false_eq_true, if_false, htile, hopen', hheld', if_true]
  exact congrArg _ (State.updTile_setTile (x := addUse (s.tile t) 0x2A .net) hstage _)

/-- The commit flit of an entry, with its lines sent and the present rows of it (R244, R507). -/
def commitFlit (s : State) (t : TileId) (entry : BitVec 8) (x : Tile) : Flit :=
  let e := Table.get {} x.send entry.toNat
  sealFlit { head := sendHead s t e 1
             body := commitBody (Table.get 0 x.sentLines entry.toNat) e.firstRow e.rows (maskRows x.present e.firstRow e.rows) }

theorem execCommit_open (hopen : (s.tile t).committed.contains entry = false) (hheld : (s.tile t).withhold = false) :
    exec (.commit t pred entry) s = .next ((s.setTile t (entryCommitted entry (addUse (s.tile t) 0x2A .net))).sendFlit t
      (commitFlit s t entry (s.tile t))) := by
  have hstage := slotReady_staged h
  have htile : (s.setTile t (addUse (s.tile t) 0x2A .net)).tile t = addUse (s.tile t) 0x2A .net := State.tile_setTile_staged hstage
  have hopen' : (addUse (s.tile t) 0x2A .net).committed.contains entry = false := hopen
  have hheld' : (addUse (s.tile t) 0x2A .net).withhold = false := hheld
  have hflit : commitFlit (s.setTile t (addUse (s.tile t) 0x2A .net)) t entry (addUse (s.tile t) 0x2A .net) =
      commitFlit s t entry (s.tile t) := rfl
  show execCommit t pred entry s = _
  rw [execCommit, slotRun_ready h, State.useRes_free (resFree_of_none hfree 0x2A), ← hflit]
  simp only [Bool.not_true, Bool.false_eq_true, if_false, htile, hopen', hheld']
  rw [State.updTile_setTile (x := addUse (s.tile t) 0x2A .net) hstage]
  rfl

theorem execDma_ready {addr : BitVec 15} (hl : lineAddr (s.tile t) sr.toNat addr.toNat = line) (hready : lineReady (s.tile t) line = true) :
    exec (.dma t pred sr addr) s = .next (
      let bs := (lineRead (s.tile t) line).bytes
      (s.setTile t (dmaTagged (parseDesc bs) (netRead (s.tile t) line))).sendFlit t (dmaFlit s t (netRead (s.tile t) line) (parseDesc bs) bs)) := by
  have hstage := slotReady_staged h
  have hread : (s.setTile t (netRead (s.tile t) line)).tile t = netRead (s.tile t) line :=
    State.tile_setTile_staged (netRead_staged hstage line)
  show execDma t pred sr addr s = _
  rw [execDma, slotRun_ready h, State.useRes_free (resFree_of_none hfree 0x2A), hl]
  simp only [Bool.not_true, Bool.false_eq_true, if_false, State.netRead_ready hstage (slotReady_quiet h) hfree hready, State.consume_false,
    hread]
  generalize (lineRead (s.tile t) line).bytes = bs
  generalize parseDesc bs = d
  by_cases hop : d.op = 1
  · simp only [dmaTagged, hop, if_true]
    rw [State.updTile_setTile (netRead_staged hstage line)]
    rfl
  · simp only [dmaTagged, hop, if_false]
    rfl

theorem completes_send {addr : BitVec 15} (hopen : (s.tile t).committed.contains entry = false)
    (hl : lineAddr (s.tile t) sr.toNat addr.toNat = line) (hready : lineReady (s.tile t) line = true) (hwf : Table.wf 0 (s.tile t).sentLines = true)
    (hroom : s.egressRoom t = true)
    (hf : Departs s t (dataFlit s t entry sr.toNat (s.tile t) (lineRead (s.tile t) line).bytes)) :
    Completes (.send t pred sr addr entry) s fun u => NetFrame s t u ∧ u.transit = s.transit ++ [(t.region.toNat, t.x.toNat, t.y.toNat,
        dataFlit s t entry sr.toNat (s.tile t) (lineRead (s.tile t) line).bytes)] ∧
      Table.get 0 (u.tile t).sentLines entry.toNat = Table.get 0 (s.tile t).sentLines entry.toNat + 1 := by
  obtain ⟨hstage, hegress, hscratch, hlines⟩ := sent_kept entry (s.tile t) line
  have hstaged : (lineSent entry (netRead (s.tile t) line)).stage.isSome = true := by rw [hstage, slotReady_staged h]
  have hexec := execSend_ready (sr := sr) h hfree hopen hl hready
  rw [dataFlit_netRead, State.sendFlit_room hstaged (by rw [hegress]; exact State.egressRoom_iff.mp hroom) hf] at hexec
  refine completes_injected hexec hstaged hscratch fun u hframe htransit hself => ⟨hframe, htransit, ?_⟩
  rw [hself, hlines, Table.get_put_self _ _ _ _ hwf]

theorem completes_send_held {addr : BitVec 15} (hopen : (s.tile t).committed.contains entry = false)
    (hl : lineAddr (s.tile t) sr.toNat addr.toNat = line) (hready : lineReady (s.tile t) line = true) (hfull : s.egressRoom t = false) :
    Completes (.send t pred sr addr entry) s fun u => NetFrame s t u ∧ u.transit = s.transit ∧ (u.tile t).netWait = 1 ∧
      (u.tile t).netHeld = some (dataFlit s t entry sr.toNat (s.tile t) (lineRead (s.tile t) line).bytes) := by
  obtain ⟨hstage, hegress, hscratch, -⟩ := sent_kept entry (s.tile t) line
  have hstaged : (lineSent entry (netRead (s.tile t) line)).stage.isSome = true := by rw [hstage, slotReady_staged h]
  have hfull' : ¬ (s.tile t).egress.length + (s.atMeshPort t).length < 8 := fun hlt => by simp [State.egressRoom_iff.mpr hlt] at hfull
  have hexec := execSend_ready (sr := sr) h hfree hopen hl hready
  rw [dataFlit_netRead, State.sendFlit_full hstaged (by rw [hegress]; exact hfull')] at hexec
  refine completes_setTile hexec hstaged fun honly hself => ?_
  rw [NetFrame, hself]
  exact ⟨⟨rfl, honly.2, hscratch⟩, rfl, rfl, rfl⟩

theorem completes_sendq {b : Bytes × Bool} {rest : List (Bytes × Bool)} (hopen : (s.tile t).committed.contains entry = false)
    (hhead : (s.tile t).egress = b :: rest) (hclean : b.2 = false) (hroom : rest.length + (s.atMeshPort t).length < 8)
    (hf : Departs s t (dataFlit s t entry sr.toNat (s.tile t) b.1)) :
    Completes (.sendq t pred sr entry) s fun u => NetFrame s t u ∧ (u.tile t).egress = rest ∧
      u.transit = s.transit ++ [(t.region.toNat, t.x.toNat, t.y.toNat, dataFlit s t entry sr.toNat (s.tile t) b.1)] := by
  obtain ⟨hstage, hegress, hscratch⟩ := burstSent_kept entry rest (s.tile t)
  have hstaged : (lineSent entry (burstTaken rest (s.tile t))).stage.isSome = true := by rw [hstage, slotReady_staged h]
  have hexec := execSendq_ready (sr := sr) h hfree hopen hhead hclean
  rw [State.sendFlit_room hstaged (by rw [hegress]; exact hroom) hf] at hexec
  exact completes_injected hexec hstaged hscratch fun u hframe htransit hself => ⟨hframe, by rw [hself, hegress], htransit⟩

theorem completes_commit (hopen : (s.tile t).committed.contains entry = false) (hheld : (s.tile t).withhold = false)
    (hroom : s.egressRoom t = true) (hf : Departs s t (commitFlit s t entry (s.tile t))) :
    Completes (.commit t pred entry) s fun u => NetFrame s t u ∧ (u.tile t).committed = (s.tile t).committed ++ [entry] ∧
      u.transit = s.transit ++ [(t.region.toNat, t.x.toNat, t.y.toNat, commitFlit s t entry (s.tile t))] := by
  obtain ⟨hstage, hegress, hscratch, hcommitted⟩ := committed_kept entry (s.tile t) .net 0x2A
  have hstaged : (entryCommitted entry (addUse (s.tile t) 0x2A .net)).stage.isSome = true := by rw [hstage, slotReady_staged h]
  have hexec := execCommit_open h hfree hopen hheld
  rw [State.sendFlit_room hstaged (by rw [hegress]; exact State.egressRoom_iff.mp hroom) hf] at hexec
  exact completes_injected hexec hstaged hscratch fun u hframe htransit hself => ⟨hframe, by rw [hself, hcommitted], htransit⟩

/-- COMMIT sends nothing where the tile withholds or has committed the entry (R244, R245). -/
theorem completes_commit_unsent (hnot : (s.tile t).withhold = true ∨ (s.tile t).committed.contains entry = true) :
    Completes (.commit t pred entry) s fun u => OnlyTile t s u ∧ (u.tile t).scratch = (s.tile t).scratch ∧
      (u.tile t).committed = if (s.tile t).committed.contains entry then (s.tile t).committed else (s.tile t).committed ++ [entry] := by
  have hstage := slotReady_staged h
  by_cases hdone : (s.tile t).committed.contains entry = true
  · obtain ⟨hustage, huscratch, hucommitted⟩ := addUse_kept (s.tile t) 0x2A .net
    refine completes_setTile (execCommit_repeated h hfree hdone) (by rw [hustage, hstage]) fun honly hself => ?_
    rw [hself, if_pos hdone]
    exact ⟨honly, huscratch, hucommitted⟩
  · have hopen : (s.tile t).committed.contains entry = false := by simpa using hdone
    obtain ⟨hcstage, -, hcscratch, hcommitted⟩ := committed_kept entry (s.tile t) .net 0x2A
    refine completes_setTile (execCommit_withheld h hfree hopen (hnot.resolve_right hdone)) (by rw [hcstage, hstage]) fun honly hself => ?_
    rw [hself, if_neg hdone]
    exact ⟨honly, hcscratch, hcommitted⟩

theorem completes_dma {addr : BitVec 15} {bs : Bytes} (hl : lineAddr (s.tile t) sr.toNat addr.toNat = line)
    (hready : lineReady (s.tile t) line = true) (hbs : (lineRead (s.tile t) line).bytes = bs) (hroom : s.egressRoom t = true)
    (hf : Departs s t (dmaFlit s t (netRead (s.tile t) line) (parseDesc bs) bs)) :
    Completes (.dma t pred sr addr) s fun u => NetFrame s t u ∧
      u.transit = s.transit ++ [(t.region.toNat, t.x.toNat, t.y.toNat, dmaFlit s t (netRead (s.tile t) line) (parseDesc bs) bs)] ∧
      (u.tile t) = dmaTagged (parseDesc bs) (netRead (s.tile t) line) := by
  obtain ⟨us, hread⟩ := netRead_eq (s.tile t) line
  obtain ⟨hstage, hegress, hscratch⟩ := dmaTagged_kept (parseDesc bs) (netRead (s.tile t) line)
  have hexec := execDma_ready (sr := sr) h hfree hl hready
  rw [hbs] at hexec
  dsimp only at hexec
  have hstaged : (dmaTagged (parseDesc bs) (netRead (s.tile t) line)).stage.isSome = true := by
    rw [hstage, hread]
    exact slotReady_staged h
  have hroom' : (dmaTagged (parseDesc bs) (netRead (s.tile t) line)).egress.length + (s.atMeshPort t).length < 8 := by
    rw [hegress, hread]
    exact State.egressRoom_iff.mp hroom
  rw [State.sendFlit_room hstaged hroom' hf] at hexec
  exact completes_injected hexec hstaged (by rw [hscratch, hread]) fun u hframe htransit hself => ⟨hframe, htransit, hself⟩

end
theorem lineRead_length (x : Tile) (line : Nat) : (lineRead x line).bytes.length = 128 := by
  simp [lineRead, List.length_flatMap, Function.comp_def]

/-- Settles O19: each instruction makes a flit, and the room of the egress queue says whether it goes or waits. -/
theorem netInstructions : Obligations.NetInstructions := by
  intro s t pred sr line entry b rest hready hfree x e l reach here commitFlit land d body sent
  have hl : lineAddr (s.tile t) sr.toNat line.toNat = l := rfl
  clear_value l
  have hdma (hroom : s.egressRoom t = true) (hline : lineReady x l = true) := completes_dma (addr := line) hready hfree hl hline rfl hroom
  refine ⟨fun hreach hopen hline hwf hroom => completes_send hready hfree hopen hl hline hwf hroom (departs_dataFlit hreach),
    fun hopen hline hfull => completes_send_held hready hfree hopen hl hline hfull,
    fun hreach hopen hhead hclean hroom => completes_sendq hready hfree hopen hhead hclean hroom (departs_dataFlit hreach),
    fun hreach hopen hheld hroom => completes_commit hready hfree hopen hheld hroom (departs_sealFlit ⟨rfl, rfl, rfl, hreach⟩),
    fun hnot => completes_commit_unsent hready hfree hnot, fun hroom hline a n hd c o hc hroute hedge => ?_⟩
  have hreg : (BitVec.ofNat 6 (edgeRegion (dmaEdge d))).toNat = edgeRegion (chanEdge c) := by
    rw [dmaEdge_eq hd hc, BitVec.toNat_ofNat, Nat.mod_eq_of_lt hedge]
  refine (hdma hroom hline (dmaFlit_departs (by rw [hreg]; exact hroute))).imp fun u ⟨hframe, htransit, hself⟩ => ?_
  obtain ⟨hbody, hdkind, hdreg, hdx, hkind⟩ := dmaFlit_fields s t (netRead x l) d (lineRead_length x l)
  obtain ⟨us, hread⟩ := netRead_eq x l
  refine ⟨hframe, _, htransit, hbody, hdkind, by rw [hdreg, dmaEdge_eq hd hc], hdx, hkind, fun hop => ?_⟩
  rw [hself, dmaTagged_gtag hop, hread]

end Sys2Proof.Machine

/-! # Statements that a tile table in no canonical form refutes

The statements on the gathers, the weight path and the results in flight put no condition on the table of the tiles, so they speak of a state
that lists a tile twice, too. A command that leaves the first entry as a tile at reset drops that entry, and the tile is the second one from then
on, which the command did not change. -/

namespace Sys2Proof.Machine

/-- A state that lists tile (0, 0) of region 0 twice, as `x` and behind it as `y`. -/
def covered (x y : Tile) : State := { State.reset with tiles := [(0, x), (0, y)] }

/-- The state that is left where `x` is dropped. -/
def uncovered (y : Tile) : State := { State.reset with tiles := [(0, y)] }

/-- The tile that stands second in the refutations: five cycles have passed in it. -/
def hidden : Tile := { cycle := 5 }

theorem covered_tile (x y : Tile) : (covered x y).tile ⟨0, 0, 0⟩ = x := rfl

theorem uncovered_tile (y : Tile) : (uncovered y).tile ⟨0, 0, 0⟩ = y := rfl

/-- A change that leaves a tile at reset uncovers the second entry. -/
theorem covered_updTile {x y : Tile} {f : Tile → Tile} (h : f x = {}) : (covered x y).updTile ⟨0, 0, 0⟩ f = uncovered y := by
  have htiles : Table.put {} [(0, x), (0, y)] 0 (f x) = [(0, y)] := by rw [h, Table.put_default_head]
  exact congrArg (fun m => { State.reset with tiles := m }) htiles

/-! ## The loading block -/

/-- A tile whose loading block is filled and not yet ready. -/
def loading : Tile := { blkLoad := { ready := false } }

theorem exec_blockReady_covered : exec (.blockReady ⟨0, 0, 0⟩) (covered loading hidden) = .next (uncovered hidden) :=
  congrArg Host.Outcome.next (covered_updTile rfl)

/-- Refutes O12: BLOCK_READY should make ready the block of tile `loading`, which has passed no cycle; it uncovers the tile behind it, which has
passed five. -/
theorem not_weightPath : ¬ Obligations.WeightPath := by
  intro h
  obtain ⟨-, -, -, -, -, hready, -⟩ := h (covered loading hidden) ⟨0, 0, 0⟩ 0 0 0 0 0 rfl
  obtain ⟨u, hexec, -, htile⟩ := hready rfl (.inl (Nat.zero_le _))
  obtain rfl := Host.Outcome.next.inj (exec_blockReady_covered.symm.trans hexec)
  exact absurd (congrArg Tile.cycle htile) (by decide)

/-! ## The data of a gather -/

/-- A tile with data for a tag that is not outstanding. -/
def overtaken : Tile := { gatherReady := [(0, 0, some [])] }

theorem exec_gatherComplete_covered : exec (.gatherComplete ⟨0, 0, 0⟩ 0) (covered overtaken hidden) = .next (uncovered hidden) :=
  congrArg Host.Outcome.next (covered_updTile rfl)

/-- Refutes O11: the data of `overtaken` should be discarded and leave the rest of that tile, which has passed no cycle; the discard uncovers the
tile behind it, which has passed five. -/
theorem not_gathers : ¬ Obligations.Gathers := by
  intro h
  obtain ⟨-, -, -, -, -, hdiscard⟩ := h (covered overtaken hidden) ⟨0, 0, 0⟩ 0 0 0 0 0 [] [] rfl
  obtain ⟨u, hexec, -, htile⟩ := hdiscard rfl (.inl rfl)
  obtain rfl := Host.Outcome.next.inj (exec_gatherComplete_covered.symm.trans hexec)
  exact absurd (congrArg Tile.cycle htile) (by decide)

/-! ## A result in flight -/

/-- Zeros in flight to accumulator row 0, due at once. -/
def zerosDue : Pending := { id := 0, slot := .mxu, done := 0, dest := .acc 0, value := .lanes true [] false, pc := 0 }

/-- A tile with that result in flight. -/
def clearing : Tile := { inflight := [zerosDue] }

theorem exec_resultWriteback_covered :
    exec (.resultWriteback ⟨0, 0, 0⟩) (covered clearing hidden) = .next ((uncovered hidden).writeOther ⟨0, 0, 0⟩ zerosDue) :=
  congrArg (fun s => Host.Outcome.next (State.writeOther s ⟨0, 0, 0⟩ zerosDue)) (covered_updTile rfl)

/-- The tile with zeros written to accumulator row 0. -/
def cleared (x : Tile) : Tile := { x with acc := Table.put {} x.acc 0 (writeLanes (Table.get {} x.acc 0) true [] false) }

theorem uncovered_writeOther_cycle : (((uncovered hidden).writeOther ⟨0, 0, 0⟩ zerosDue).tile ⟨0, 0, 0⟩).cycle = 5 := by
  have hne : cleared hidden ≠ {} := fun h => absurd (congrArg Tile.cycle h) (by decide)
  have hself : ((uncovered hidden).updTile ⟨0, 0, 0⟩ cleared).tile ⟨0, 0, 0⟩ = cleared hidden := State.tile_setTile_some _ _ _ hne
  exact congrArg Tile.cycle hself

/-- Refutes O20: the result of `clearing` should be written to that tile, which has passed no cycle; the end of its flight uncovers the tile
behind it, which has passed five. -/
theorem not_resultWriteback : ¬ Obligations.ResultWriteback := by
  intro h
  obtain ⟨-, -, hclear, -⟩ := h (covered clearing hidden) ⟨0, 0, 0⟩ zerosDue rfl (Nat.le_refl _) rfl rfl rfl
  obtain ⟨u, hexec, -, htile, -⟩ := hclear 0 rfl rfl
  obtain rfl := Host.Outcome.next.inj (exec_resultWriteback_covered.symm.trans hexec)
  exact absurd (uncovered_writeOther_cycle.symm.trans (congrArg Tile.cycle htile)) (by decide)

end Sys2Proof.Machine

/-! # Isolation

An instruction of a tile's program changes its tile, its region, the counters and what the serving side learns of a lost page, and sends flits; the
lemmas go through the model's operations in the order of their definitions. -/

namespace Sys2Proof.Machine

/-- From `s` to `u` tile `t` has changed nothing outside itself and its region but through the mesh. -/
structure Within (t : TileId) (s u : State) : Prop where
  tiles : OtherTiles t s u
  regions : OtherRegions t.region.toNat s u
  fixed : u.tier = s.tier ∧ u.clk = s.clk ∧ u.links = s.links ∧ u.host = s.host ∧ u.mode = s.mode ∧ u.power = s.power ∧
    u.boot = s.boot ∧ u.dict = s.dict ∧ u.blobs = s.blobs ∧ u.ident = s.ident ∧ u.now = s.now ∧ u.pending = s.pending
  transit : ∃ fs, u.transit = s.transit ++ fs

section
variable {s : State} {t : TileId}

theorem Within.refl : Within t s s :=
  ⟨fun _ _ => rfl, fun _ _ => rfl, ⟨rfl, rfl, rfl, rfl, rfl, rfl, rfl, rfl, rfl, rfl, rfl, rfl⟩, [], (List.append_nil _).symm⟩

theorem Within.ite {c : Prop} [Decidable c] {u v : State} (hu : Within t s u) (hv : Within t s v) : Within t s (if c then u else v) := by
  split <;> assumption

theorem Within.ite_fst {β : Type} {c : Prop} [Decidable c] {p q : State × β} (hp : Within t s p.1) (hq : Within t s q.1) :
    Within t s (if c then p else q).1 := by
  split <;> assumption

theorem Within.foldl {β : Type} {f : State → β → State} (hf : ∀ u b, Within t s u → Within t s (f u b)) (l : List β) {u : State}
    (h : Within t s u) : Within t s (l.foldl f u) := by
  induction l generalizing u with
  | nil => exact h
  | cons b l ih => exact ih (hf u b h)

theorem Within.foldl_fst {β γ : Type} {f : State × γ → β → State × γ} (hf : ∀ p b, Within t s p.1 → Within t s (f p b).1) (l : List β)
    {p : State × γ} (h : Within t s p.1) : Within t s (l.foldl f p).1 := by
  induction l generalizing p with
  | nil => exact h
  | cons b l ih => exact ih (hf p b h)

variable {u : State} (h : Within t s u)
include h

/-! ## The changes a tile makes -/

theorem Within.updTile (f : Tile → Tile) : Within t s (u.updTile t f) :=
  { h with tiles := fun k hk => (u.otherTiles_updTile t f k hk).trans (h.tiles k hk) }

theorem Within.updRegion (f : Region → Region) : Within t s (u.updRegion t.region.toNat f) :=
  { h with regions := fun q hq => (Table.get_put_ne _ _ _ _ q hq).trans (h.regions q hq) }

theorem Within.updClk (f : RegionClk → RegionClk) : Within t s (u.updClk t.region.toNat f) := h.updRegion _

theorem Within.updEcc (f : RegionEcc → RegionEcc) : Within t s (u.updEcc t.region.toNat f) := h.updRegion _

theorem Within.updEvr (f : RegionEvr → RegionEvr) : Within t s (u.updEvr t.region.toNat f) := h.updRegion _

theorem Within.updMesh (f : RegionMesh → RegionMesh) : Within t s (u.updMesh t.region.toNat f) := h.updRegion _

theorem Within.count (key n : Nat) : Within t s (u.count key n) := { h with }

theorem Within.useFree (n : Nat) : Within t s (u.useFree n) := { h with }

/-- A flit of the tile's region goes into the mesh, or is counted as unreachable in that region (R530). -/
theorem Within.inject {f : Flit} (hf : f.head.sreg = t.region) : Within t s (u.inject f) := by
  obtain ⟨fs, hfs⟩ := h.transit
  unfold State.inject
  rw [hf]
  exact .ite (h.updMesh _) { h with transit := ⟨fs ++ [_], by rw [← List.append_assoc, ← hfs]⟩ }

/-! ## Events, snapshots, stored-data protection -/

theorem Within.regionEvent (code : Nat) (p : Bytes) : Within t s (u.regionEvent t.region.toNat code p) := by
  unfold State.regionEvent
  exact h.updEvr _

theorem Within.trigger (m : BitVec 16) : Within t s (u.trigger t.region.toNat m) := by
  unfold State.trigger
  dsimp only
  refine .ite h ?_
  split
  · exact h.updEvr _
  · split
    · exact (h.updEvr _).regionEvent _ _
    · exact (h.updEvr _).regionEvent _ _

theorem Within.withhold : Within t s (u.withhold t) := .ite h ((h.updTile _).trigger _)

theorem Within.bucket (n : Nat) : Within t s (u.bucket t.region.toNat n) := by
  induction n generalizing u with
  | zero => exact h
  | succ n ih => exact ih (.ite ((((h.updEcc _).count _ _).regionEvent _ _).trigger _) (h.updEcc _))

theorem Within.reopenPage (q : Request) : Within t s (u.reopenPage q) := { h with }

theorem Within.stagingLost : Within t s u.stagingLost := by
  unfold State.stagingLost
  split
  · exact h
  · exact .ite h (.useFree (.foldl (fun _ _ hv => .ite (hv.reopenPage _) hv) _ h) 1)

theorem Within.losePage (bank page : Nat) : Within t s (u.losePage t bank page) := by
  unfold State.losePage
  extract_lets r lost role counted1 counted2 told fired
  have hfired : Within t s fired := ((((h.updTile _).updEcc _).count 0x702002 1).regionEvent 0x0401 _).trigger (trig 4)
  clear_value fired role
  cases role with
  | weights => exact { hfired with }
  | staging => exact hfired.stagingLost
  | unused | other => exact hfired

theorem Within.queueRebuild (bank page : Nat) (words : List Nat) : Within t s (u.queueRebuild t bank page words) := by
  unfold State.queueRebuild
  refine .ite h ?_
  split
  · exact h.updTile _
  · exact .ite (h.updTile _) (h.losePage bank page)

theorem Within.readEffects (line : Nat) (o : LineRead) : Within t s (u.readEffects t line o) := by
  unfold State.readEffects
  extract_lets bank corrected rewritten
  have hcorrected : Within t s rewritten := .ite h ((h.updTile _).bucket _)
  exact .ite hcorrected (hcorrected.queueRebuild _ _ _)

theorem Within.unserved : Within t s (u.unserved t) := (h.updTile _).withhold

theorem Within.schedRead (line : Nat) : Within t s (u.schedRead t line).1 := by
  have hread := h.readEffects line (lineRead (u.tile t) line)
  unfold State.schedRead
  exact .ite_fst h.unserved (.ite_fst hread.unserved hread)

/-! ## Issue -/

theorem Within.umpireAt (kind slot res pc other detail : Nat) : Within t s (u.umpireAt t kind slot res pc other detail) :=
  .ite (((h.updClk _).regionEvent _ _).trigger _) h

theorem Within.umpire (kind slot res other detail : Nat) : Within t s (u.umpire t kind slot res other detail) := h.umpireAt _ _ _ _ _ _

theorem Within.useRes (slot : Slot) (res : Nat) : Within t s (u.useRes t slot res).1 := by
  unfold State.useRes
  refine .ite_fst (h.umpire _ _ _ _ _) ?_
  dsimp only
  exact h.updTile _

theorem Within.useBank (slot : Slot) (bank : Nat) : Within t s (u.useBank t slot bank).1 := by
  unfold State.useBank
  refine .ite_fst ((h.umpire _ _ _ _ _).updTile _).withhold ?_
  dsimp only
  exact h.updTile _

theorem Within.staleRead (slot : Slot) (d : Dest) (res : Nat) : Within t s (u.staleRead t slot d res) := by
  unfold State.staleRead
  dsimp only
  split
  · exact h.umpire _ _ _ _ _
  · exact h

theorem Within.consume (poison : Bool) : Within t s (u.consume t poison) := .ite h.withhold h

theorem Within.launch (slot : Slot) (lat : Nat) (d : Dest) (v : ResultValue) : Within t s (u.launch t slot lat d v) := h.updTile _

theorem Within.portUse (slot : Slot) (port line : Nat) :
    Within t s (if (u.useRes t slot port).2 then (u.useRes t slot port).1.useBank t slot (bankOf line) else ((u.useRes t slot port).1, false)).1 :=
  .ite_fst ((h.useRes slot port).useBank slot _) (h.useRes slot port)

theorem Within.portRead (slot : Slot) (port line : Nat) : Within t s (u.portRead t slot port line).1 := by
  have hbank := (h.portUse slot port line).staleRead slot (.scratch (BitVec.ofNat 15 line)) (0x8000 + line)
  unfold State.portRead
  exact .ite_fst (hbank.schedRead line) hbank.unserved

theorem Within.portStore (slot : Slot) (lat line : Nat) (bs : Bytes) (poison : Bool) : Within t s (u.portStore t slot lat line bs poison) :=
  .ite ((h.portUse slot 0x20 line).launch _ _ _ _) (h.portUse slot 0x20 line).withhold

theorem Within.rotGap : Within t s (u.rotGap t) := by
  unfold State.rotGap
  split
  · exact .ite h ((h.umpireAt _ _ _ _ _ _).updTile _)
  · exact h

theorem Within.fetchFault : Within t s (u.fetchFault t) := (h.updTile _).withhold

theorem Within.slotRun {pred : Nat} {f : State → State} (hf : Within t s (f u)) : Within t s (slotRun u t pred f) := .ite hf h

theorem Within.ctlRun (f : Tile → Tile) (target : Tile → Option Nat) : Within t s (ctlRun u t f target) :=
  .ite h (.ite (h.rotGap.fetchFault.updTile _) (h.rotGap.updTile _))

theorem Within.fill : Within t s (u.fill t) := (h.updTile _).consume _

theorem Within.mxuActive : Within t s (u.mxuActive t) := .ite (((h.updClk _).updClk _).trigger _) (h.updClk _)

theorem Within.sendFlit {f : Flit} (hf : f.head.sreg = t.region) : Within t s (u.sendFlit t f) := .ite (h.inject hf) (h.updTile _)

theorem Within.sendData (entry sr : Nat) (bs : Bytes) (poison : Bool) : Within t s (u.sendData t entry sr bs poison) :=
  .ite (h.umpire _ _ _ _ _) ((h.updTile _).sendFlit (sealFlit_sreg _))

/-! ## The cache, for a read -/

theorem Within.cacheReturn (q : CacheReq) (d : Option Bytes) : Within t s (u.cacheReturn t q d) := h.updTile _

section
variable {q : CacheReq} (hread : q.write = none)
include hread

theorem Within.cacheMiss : Within t s (u.cacheMiss t q) := by
  unfold State.cacheMiss
  rw [hread]
  exact (h.updTile _).updTile _

theorem Within.cacheServeHit (way : Nat) : Within t s (u.cacheServeHit t way q) := by
  have heffects := h.readEffects (cacheScratch way (cacheSet q.addr)) (lineRead (u.tile t) (cacheScratch way (cacheSet q.addr)))
  unfold State.cacheServeHit
  simp only [hread]
  exact .ite (heffects.cacheReturn q _) (.ite (((heffects.updTile _).updTile _).cacheReturn q none) ((heffects.updTile _).cacheMiss hread))

theorem Within.cacheServe : Within t s (u.cacheServe t q) := by
  unfold State.cacheServe
  refine .ite (h.cacheReturn q none) (.ite (h.updTile _) ?_)
  split
  · exact h.cacheServeHit hread _
  · exact h.cacheMiss hread

end
end

/-! ## The instructions -/

/-- Whatever state a command answers with, the tile has changed nothing else. -/
def Isolates (t : TileId) (s : State) (o : Host.Outcome State Fault Refusal) : Prop := ∀ u, o = .next u → Within t s u

section
variable {s u : State} {t : TileId}

theorem Within.isolates (h : Within t s u) : Isolates t s (.next u) := by
  rintro v ⟨⟩
  exact h

theorem Isolates.ite {c : Prop} [Decidable c] {o p : Host.Outcome State Fault Refusal} (ho : Isolates t s o) (hp : Isolates t s p) :
    Isolates t s (if c then o else p) := by
  split <;> assumption

theorem isolates_slotRun {pred : Nat} {f : State → State} (hf : Within t s (f s)) : Isolates t s (.next (slotRun s t pred f)) :=
  (Within.refl.slotRun hf).isolates

theorem isolates_ctlRun (f : Tile → Tile) (target : Tile → Option Nat) : Isolates t s (.next (ctlRun s t f target)) :=
  (Within.refl.ctlRun f target).isolates

/-! ### CTL -/

theorem execNop_isolates (slot : Slot) (op : BitVec 6) : Isolates t s (execNop t slot op false s) := by
  unfold execNop
  simp only [Bool.false_and, Bool.false_eq_true, if_false]
  exact .ite Within.refl.isolates (.ite (isolates_ctlRun _ _) Within.refl.isolates)

theorem execWaitc_isolates (a : BitVec 4) (imm : BitVec 22) : Isolates t s (execWaitc t a imm s) :=
  .ite (Within.refl.rotGap.updTile _).isolates (isolates_ctlRun _ _)

theorem Within.gatherMissed (h : Within t s u) (g : Nat) : Within t s (u.gatherMissed t g) := (h.updTile _).withhold

theorem execWaitg_isolates (a : BitVec 4) (imm : BitVec 22) : Isolates t s (execWaitg t a imm s) := by
  have hclosed : Within t s ((s.rotGap t).updTile t (fun x => closeBundle x none)) := Within.refl.rotGap.updTile _
  exact .ite (.ite hclosed.isolates (.ite (hclosed.gatherMissed _).isolates (hclosed.updTile _).isolates)) (isolates_ctlRun _ _)

/-! ### LSU -/

theorem execLd_isolates (pred : BitVec 2) (v : BitVec 5) (a : BitVec 4) (line : BitVec 15) (ext : BitVec 16) :
    Isolates t s (execLd t pred v a line ext s) :=
  isolates_slotRun (.ite .refl (((Within.refl.portRead _ _ _).consume _).launch _ _ _ _))

theorem execSt_isolates (pred : BitVec 2) (v : BitVec 5) (a : BitVec 4) (line : BitVec 15) (ext : BitVec 16) :
    Isolates t s (execSt t pred v a line ext s) :=
  isolates_slotRun (.ite .refl (((Within.refl.staleRead _ _ _).consume _).portStore _ _ _ _ _))

theorem execLdx_isolates (pred : BitVec 2) (a : BitVec 4) (line : BitVec 15) (ext : BitVec 8) : Isolates t s (execLdx t pred a line ext s) :=
  isolates_slotRun (((Within.refl.portRead _ _ _).consume _).launch _ _ _ _)

theorem execClr_isolates (pred : BitVec 2) (a : BitVec 4) (line : BitVec 15) : Isolates t s (execClr t pred a line s) :=
  isolates_slotRun (Within.refl.portStore _ _ _ _ _)

theorem execWset_isolates (set : BitVec 3) (banks : BitVec 30) : Isolates t s (execWset t set banks s) :=
  isolates_slotRun (Within.refl.updTile _)

theorem execWrd_isolates (set : BitVec 3) (a : BitVec 4) (line : BitVec 10) : Isolates t s (execWrd t set a line s) := by
  unfold execWrd
  refine isolates_slotRun ?_
  extract_lets x l p banks q
  have hp : Within t s p.1 := Within.refl.useRes _ _
  have hq : Within t s q.1 := Within.foldl_fst (fun acc b hacc =>
    have hbank := (hacc.useBank .lsu b.toNat).staleRead .lsu _ _
    .ite_fst (hbank.schedRead _) hbank.unserved) banks hp
  exact .ite hp (.ite ((hq.umpire _ _ _ _ _).updTile _) (hq.launch _ _ _ _))

theorem execGath_isolates (pred : BitVec 2) (a : BitVec 4) (line : BitVec 15) (tag : BitVec 4) : Isolates t s (execGath t pred a line tag s) :=
  isolates_slotRun (.ite .refl (.ite ((Within.refl.updTile _).cacheServe rfl) ((Within.refl.updTile _).updTile _)))

/-! ### MXU -/

theorem execBld_isolates (fmt : BitVec 4) : Isolates t s (execBld t fmt s) := by
  unfold execBld
  exact isolates_slotRun (.ite (Within.refl.umpire _ _ _ _ _) (Within.refl.updTile _).fill)

theorem execBsw_isolates : Isolates t s (execBsw t s) := isolates_slotRun (Within.refl.updTile _)

theorem execMul_isolates (pred : BitVec 2) (arow : BitVec 6) (x : BitVec 8) (e : BitVec 10) (fmt : BitVec 4) (j : BitVec 3) (init : Bool) :
    Isolates t s (execMul t pred arow x e fmt j init s) := by
  unfold execMul
  exact isolates_slotRun (((Within.foldl (fun _ _ hv => hv.staleRead _ _ _) _ Within.refl.mxuActive).consume _).launch _ _ _ _)

theorem execAclr_isolates (pred : BitVec 2) (arow count : BitVec 6) : Isolates t s (execAclr t pred arow count s) := by
  unfold execAclr
  exact isolates_slotRun (.ite .refl (Within.foldl (fun _ _ hv => hv.launch _ _ _ _) _ .refl))

theorem execAmov_isolates (pred : BitVec 2) (arow : BitVec 6) (v : BitVec 5) : Isolates t s (execAmov t pred arow v s) := by
  unfold execAmov
  exact isolates_slotRun (.ite .refl ((((Within.refl.staleRead _ _ _).staleRead _ _ _).consume _).launch _ _ _ _))

/-! ### VEC -/

theorem Within.vecRun (h : Within t s u) (pred : Nat) (d : BitVec 5) (srcs : List Nat) (lat : Nat) (f : Tile → List Word) :
    Within t s (vecRun u t pred d srcs lat f) :=
  h.slotRun (((Within.foldl (fun _ _ hv => hv.staleRead _ _ _) srcs h).consume _).launch _ _ _ _)

theorem Within.longRun (h : Within t s u) (pred : Nat) (d a : BitVec 5) (f : FP → Word) : Within t s (longRun u t pred d a f) :=
  h.slotRun (.ite ((h.umpire _ _ _ _ _).launch _ _ _ _) ((h.vecRun _ _ _ _ _).updTile _))

/-! ### RQU -/

theorem Within.rotate (h : Within t s u) (inverse : Bool) (pred : Nat) (a d : BitVec 5) (fmt mode imm : Nat) :
    Within t s (u.rotate t inverse pred a d fmt mode imm) := by
  unfold State.rotate
  refine h.slotRun (.ite h ?_)
  extract_lets p stale x k parts part dn desc toPack dest poison consumed cyc goOn warned prev broken lat es id junk sent dropped blk f ws
  have hconsumed : Within t s consumed := ((h.useRes _ _).staleRead _ _ _).consume _
  have hwarned : Within t s warned := .ite (hconsumed.umpireAt _ _ _ _ _ _) hconsumed
  have hsent : Within t s sent := (hwarned.useFree 128).launch _ _ _ _
  have hdropped : Within t s dropped := hsent.updTile _
  exact .ite (.ite hdropped (hdropped.umpire _ _ _ _ _)) (.ite (hsent.updTile _) (.ite (hsent.updTile _) (hsent.updTile _)))

theorem execPfeed_isolates (pred : BitVec 2) (a : BitVec 5) : Isolates t s (execPfeed t pred a s) :=
  isolates_slotRun (((Within.refl.staleRead _ _ _).consume _).launch _ _ _ _)

theorem execPack_isolates (pred : BitVec 2) (fmt mode sr : BitVec 4) (imm : BitVec 10) : Isolates t s (execPack t pred fmt mode sr imm s) := by
  unfold execPack
  extract_lets f skipped counted
  have hcounted : Within t s counted := .ite (Within.refl.updTile _) .refl
  refine (hcounted.slotRun ?_).isolates
  split
  · exact hcounted
  · extract_lets x line warned late short noted taken bad consumed es draw burst poison packed
    have hlate : Within t s late := (hcounted.umpire _ _ _ _ _).updTile _
    have hpacked : Within t s packed := (Within.consume (.ite (hcounted.umpire _ _ _ _ _) hcounted) _).updTile _
    exact .ite (.ite ((hlate.useFree 32).launch _ _ _ _) (hlate.updTile _)) (.ite (hpacked.launch _ _ _ _) (hpacked.portStore _ _ _ _ _))

theorem execUnpk_isolates (pred : BitVec 2) (d : BitVec 5) (fmt mode sr : BitVec 4) (imm : BitVec 10) :
    Isolates t s (execUnpk t pred d fmt mode sr imm s) := by
  unfold execUnpk
  refine isolates_slotRun ?_
  have hread : Within t s (s.portRead t .rqu 0x20 (((sreg (s.tile t) sr.toNat).toNat + imm.toNat) % 32768)).1 := Within.refl.portRead _ _ _
  dsimp only
  split
  · exact (hread.consume _).launch _ _ _ _
  · exact ((hread.useFree 128).consume true).launch _ _ _ _

theorem execSincos_isolates (pred : BitVec 2) (d : BitVec 5) (mode sr : BitVec 4) : Isolates t s (execSincos t pred d mode sr s) :=
  isolates_slotRun (Within.refl.launch _ _ _ _)

theorem execSrset_isolates (pred : BitVec 2) (mode sr : BitVec 4) : Isolates t s (execSrset t pred mode sr s) :=
  isolates_slotRun (.ite .refl (Within.refl.updTile _))

theorem execPclr_isolates (pred : BitVec 2) : Isolates t s (execPclr t pred s) := isolates_slotRun (Within.refl.updTile _)

/-! ### NET -/

theorem execSend_isolates (pred : BitVec 2) (sr : BitVec 4) (line : BitVec 15) (entry : BitVec 8) :
    Isolates t s (execSend t pred sr line entry s) :=
  isolates_slotRun (.ite (Within.refl.useRes _ _) (((Within.refl.useRes .net 0x2A).portRead _ _ _).sendData _ _ _ _))

theorem execSendq_isolates (pred : BitVec 2) (sr : BitVec 4) (entry : BitVec 8) : Isolates t s (execSendq t pred sr entry s) := by
  have hport : Within t s (s.useRes t .net 0x2A).1 := Within.refl.useRes _ _
  unfold execSendq
  refine isolates_slotRun (.ite hport ?_)
  split
  · exact hport.umpire _ _ _ _ _
  · exact ((hport.updTile _).consume _).sendData _ _ _ _

theorem execCommit_isolates (pred : BitVec 2) (entry : BitVec 8) : Isolates t s (execCommit t pred entry s) := by
  have hport : Within t s (s.useRes t .net 0x2A).1 := Within.refl.useRes _ _
  unfold execCommit
  exact isolates_slotRun (.ite hport (.ite (hport.umpire _ _ _ _ _) (.ite (hport.updTile _) ((hport.updTile _).sendFlit (sealFlit_sreg _)))))

theorem execDma_isolates (pred : BitVec 2) (sr : BitVec 4) (line : BitVec 15) : Isolates t s (execDma t pred sr line s) := by
  have hport : Within t s (s.useRes t .net 0x2A).1 := Within.refl.useRes _ _
  unfold execDma
  refine isolates_slotRun (.ite hport ?_)
  extract_lets q consumed d edge head tagged
  have hconsumed : Within t s consumed := (hport.portRead _ _ _).consume _
  exact Within.sendFlit (.ite (hconsumed.updTile _) hconsumed) (sealFlit_sreg _)

/-! ### Every instruction of a bundle -/

theorem exec_bundleInstr_isolates {i : Instr} (hi : i.bundleInstr = true) (ht : i.tile = some t) : Isolates t s (exec i s) := by
  cases i with
  | nop t' slot op bad =>
    obtain rfl := Option.some.inj ht
    have hop : (decide (op = 0) && !bad) = true := hi
    obtain rfl : bad = false := by simpa using (Bool.and_eq_true_iff.mp hop).2
    exact execNop_isolates slot op
  | end_ | li | addi | add | sub | and | or | xor | shl | shr | scalarMul | slt | bnz | bdec | pred | rdcyc | rdstk | cqn | cqrd | cqpop =>
    obtain rfl := Option.some.inj ht
    exact isolates_ctlRun _ _
  | waitc => obtain rfl := Option.some.inj ht; exact execWaitc_isolates _ _
  | waitg => obtain rfl := Option.some.inj ht; exact execWaitg_isolates _ _
  | ld => obtain rfl := Option.some.inj ht; exact execLd_isolates _ _ _ _ _
  | st => obtain rfl := Option.some.inj ht; exact execSt_isolates _ _ _ _ _
  | ldx => obtain rfl := Option.some.inj ht; exact execLdx_isolates _ _ _ _
  | clr => obtain rfl := Option.some.inj ht; exact execClr_isolates _ _ _
  | wset => obtain rfl := Option.some.inj ht; exact execWset_isolates _ _
  | wrd => obtain rfl := Option.some.inj ht; exact execWrd_isolates _ _ _
  | gath => obtain rfl := Option.some.inj ht; exact execGath_isolates _ _ _ _
  | bld => obtain rfl := Option.some.inj ht; exact execBld_isolates _
  | bsw => obtain rfl := Option.some.inj ht; exact execBsw_isolates
  | mul => obtain rfl := Option.some.inj ht; exact execMul_isolates _ _ _ _ _ _ _
  | aclr => obtain rfl := Option.some.inj ht; exact execAclr_isolates _ _ _
  | amov => obtain rfl := Option.some.inj ht; exact execAmov_isolates _ _ _
  | vadd | vsub | vmul | vfma | vmax | vmin | vcmplt | vsel | vaddi | vmuli | vrsum | vrmax | vbcast | vrnd | vmov | vsc2 =>
    obtain rfl := Option.some.inj ht
    exact (Within.refl.vecRun _ _ _ _ _).isolates
  | vexp | vrcp | vrsq =>
    obtain rfl := Option.some.inj ht
    exact (Within.refl.longRun _ _ _ _).isolates
  | rot | irot =>
    obtain rfl := Option.some.inj ht
    exact (Within.refl.rotate _ _ _ _ _ _ _).isolates
  | pfeed => obtain rfl := Option.some.inj ht; exact execPfeed_isolates _ _
  | pack => obtain rfl := Option.some.inj ht; exact execPack_isolates _ _ _ _ _
  | unpk => obtain rfl := Option.some.inj ht; exact execUnpk_isolates _ _ _ _ _ _
  | sincos => obtain rfl := Option.some.inj ht; exact execSincos_isolates _ _ _ _
  | srset => obtain rfl := Option.some.inj ht; exact execSrset_isolates _ _ _
  | pclr => obtain rfl := Option.some.inj ht; exact execPclr_isolates _
  | send => obtain rfl := Option.some.inj ht; exact execSend_isolates _ _ _ _
  | sendq => obtain rfl := Option.some.inj ht; exact execSendq_isolates _ _ _
  | commit => obtain rfl := Option.some.inj ht; exact execCommit_isolates _ _
  | dma => obtain rfl := Option.some.inj ht; exact execDma_isolates _ _ _
  | _ => nomatch hi

end

/-- Settles O49: an instruction of a bundle is made of changes of its tile and its region, and of flits sent. -/
theorem instructionIsolation : Obligations.InstructionIsolation := by
  intro i t s u hi ht hexec
  obtain ⟨htiles, hregions, ⟨htier, hclk, hlinks, hhost, hmode, hpower, hboot, hdict, hblobs, hident, hnow, hpending⟩, htransit⟩ :=
    exec_bundleInstr_isolates hi ht u hexec
  exact ⟨htiles, hregions, htier, hclk, hlinks, hhost, hmode, hpower, hboot, hdict, hblobs, hident, hnow, hpending, htransit⟩

end Sys2Proof.Machine

/-! # The sampled check and the mode vector -/

namespace Sys2Proof

/-- A stable sort keeps the elements of the list. -/
theorem sortBy_perm {α : Type} (f : α → Nat) (l : List α) : (sortBy f l).Perm l := by
  have hinsert (x : α) (l : List α) : (sortBy.insertByR f x l).Perm (x :: l) := by
    induction l with
    | nil => exact .refl _
    | cons y ys ih =>
      unfold sortBy.insertByR
      split
      · exact (ih.cons y).trans (.swap x y ys)
      · exact .refl _
  induction l with
  | nil => exact .refl _
  | cons x xs ih => exact (hinsert x _).trans (ih.cons x)

namespace Machine

/-! ## The check flit (R284) -/

section
variable {s : State} {t : TileId} {stage : Nat} {crew : Crew}

/-- The flit that takes a tile's sums to the referee of its stage, at seat (1, 0) of the home region. -/
def checkFlit (s : State) (t : TileId) (stage home : Nat) : Flit :=
  let x := s.tile t
  ctlFlit t 2 ⟨BitVec.ofNat 6 home, 1, 0⟩ s.clk.stroke true 1
    [BitVec.ofNat 32 (stage + 128 * b2n x.chkPoison + 256 * b2n x.heldNow + 65536 * x.seat), s.clk.stroke.setWidth 32, x.sumErr, x.sumRef]

theorem departs_checkFlit {home : Nat} (hhome : home < 64) (hroute : s.route t.region.toNat home ≠ 15) :
    Departs s t (checkFlit s t stage home) := by
  have hdest : (BitVec.ofNat 6 home).toNat = home := by rw [BitVec.toNat_ofNat, Nat.mod_eq_of_lt hhome]
  exact departs_sealFlit ⟨rfl, rfl, rfl, show (2 : BitVec 2) ≠ 3 by decide, hdest.symm ▸ hroute⟩

/-- The port of a tile takes a flit whatever the tile's own data. -/
theorem State.inject_setTile {f : Flit} {y : Tile} (h : Departs s t f) : (s.setTile t y).inject f = (s.injected t f).setTile t y := by
  have h' : Departs (s.setTile t y) t f := h
  rw [State.inject_departs h']
  rfl

/-- The tile that has sent its check flit. -/
def checkFlitSent (x : Tile) : Tile := { x with checkSent := true }

theorem execCheckFlitSend_due (hrun : s.clk.running = true) (hstage : (s.tile t).stage = some stage) (hcrew : s.crewOf stage = some crew)
    (hen : (s.tile t).chkEn = true) (hsent : (s.tile t).checkSent = false) (htime : (s.tile t).chkSend.toNat ≤ (s.tile t).cycle)
    (hhome : crewHome crew < 64) (hroute : s.route t.region.toNat (crewHome crew) ≠ 15) :
    execCheckFlitSend t s =
      .next ((s.injected t (checkFlit s t stage (crewHome crew))).setTile t (checkFlitSent (s.tile t))) := by
  have htile : s.updTile t (fun x => { x with checkSent := true, cycle := max x.cycle x.chkSend.toNat }) =
      s.setTile t (checkFlitSent (s.tile t)) := by
    simp only [State.updTile, Nat.max_eq_left htime]
    rfl
  simp only [execCheckFlitSend, hstage, hcrew]
  rw [if_neg (by simp [hrun, hen, hsent, Nat.not_lt.mpr htime]), htile]
  exact congrArg _ (State.inject_setTile (departs_checkFlit hhome hroute))

end

/-! ## The verdict flit (R290, R293) -/

section
variable {s : State} {t : TileId} {f : Flit} {stage : Nat}

/-- The tile whose repechage is granted: it crabbed, and packs under the replay scale rule. -/
def verdictGranted (f : Flit) (x : Tile) : Tile :=
  { x with ctlQ := x.ctlQ ++ [f], crab := true, granted := true, replayRule := true }

/-- The tile that notes a verdict flit: whether it is for this stage and stroke, what it says, and whether it came late. -/
def verdictNoted (f : Flit) (mine granted refused late : Bool) (x : Tile) : Tile :=
  admitCtl { x with
    ctlWait := x.ctlWait ++ [f]
    crab := x.crab || mine
    granted := x.granted || granted
    refused := x.refused || refused
    replayRule := x.replayRule || granted
    lateVerdict := x.lateVerdict || late }

theorem Tile.none_waiting {x : Tile} (hwait : x.ctlWait = []) : ({ x with ctlWait := [] } : Tile) = x := by rw [← hwait]

theorem verdictNoted_granted {x : Tile} (hroom : x.ctlQ.length < 16) (hwait : x.ctlWait = []) :
    verdictNoted f true true false false x = verdictGranted f x := by
  unfold verdictNoted
  rw [Bool.or_true, Bool.or_true, Bool.or_true, Bool.or_false, Bool.or_false]
  exact (admitCtl_single { x with crab := true, granted := true, replayRule := true } hroom hwait).trans
    (Tile.none_waiting (x := verdictGranted f x) hwait)

theorem execVerdictFlitArrive_granted (hkind : f.head.kind = 2) (hckind : f.body.getD 0 0 = 2) (hcrc : crcOk f = true)
    (hstage : (s.tile t).stage = some stage) (htime : (s.tile t).cycle ≤ (s.tile t).verdictRead) (hstageBits : bits (flitWord f 0) 2 7 = stage)
    (hgrant : bits (flitWord f 0) 0 2 = 1) (hstroke : flitWord f 1 = s.clk.stroke.setWidth 32) :
    execVerdictFlitArrive t f s = .next ((s.eject t f).updTile t (verdictNoted f true true false false)) := by
  have hmine : (decide (((s.eject t f).tile t).stage = some (bits (flitWord f 0) 2 7)) &&
      decide (flitWord f 1 = (s.eject t f).clk.stroke.setWidth 32)) = true := by simp [hstage, hstageBits, hstroke]
  have hontime : decide (((s.eject t f).tile t).verdictRead < ((s.eject t f).tile t).cycle) = false :=
    decide_eq_false (Nat.not_lt.mpr htime)
  have hstaged : ((s.eject t f).tile t).stage.isNone = false := by simp [hstage]
  unfold execVerdictFlitArrive
  rw [if_neg (by rw [hkind, hckind]; decide)]
  simp only [hstaged, hcrc, hmine, hontime, hgrant]
  rfl

end

/-! ## The verdict of a referee (R286-R290, R298) -/

section
variable {s u : State} {stage k : Nat}

/-- A checked stage that does not crab ends its run of crabs (R298). -/
def State.checkPassed (u : State) (k : Nat) : State :=
  let u := u.stageCount k 0
  if u.isMember then u.reportMode k 0
  else { u with mode := { u.mode with crabRun := Table.put 0 u.mode.crabRun k 0 } }

/-- What the stage's good verdicts leave: its run of crabs is over, and no tile and no region changed. -/
structure RunEnded (s : State) (stage : Nat) (u : State) : Prop where
  tiles : u.tiles = s.tiles
  regions : u.regions = s.regions
  notMember : u.isMember = false
  wf : Table.wf 0 u.mode.crabRun = true
  ended : Table.get 0 u.mode.crabRun stage = 0

theorem State.checkPassed_home (h : u.isMember = false) : u.checkPassed k =
    { u.stageCount k 0 with mode := { u.mode with crabRun := Table.put 0 u.mode.crabRun k 0 } } := by
  have hcounted : (u.stageCount k 0).isMember = false := h
  unfold State.checkPassed
  rw [if_neg (by simp [hcounted])]
  rfl

theorem runEnded_checkPassed (h : u.isMember = false) (hwf : Table.wf 0 u.mode.crabRun = true) : RunEnded u k (u.checkPassed k) := by
  rw [State.checkPassed_home h]
  exact ⟨rfl, rfl, h, Table.wf_put _ _ _ _ hwf, Table.get_put_self _ _ _ _ hwf⟩

/-- One good verdict or more of a stage end its run. -/
theorem runEnded_foldl_checkPassed {now : List Nat} (hmember : s.isMember = false) (hwf : Table.wf 0 s.mode.crabRun = true)
    (hmem : stage ∈ now) (hall : ∀ k ∈ now, k = stage) : RunEnded s stage (now.foldl State.checkPassed s) := by
  obtain _ | ⟨k, rest⟩ := now
  · cases hmem
  obtain rfl := hall k (.head _)
  refine List.foldlRecOn rest State.checkPassed (motive := RunEnded s k) (runEnded_checkPassed hmember hwf) fun u hu j hj => ?_
  obtain rfl := hall j (.tail _ hj)
  have hnext := runEnded_checkPassed (k := j) hu.notMember hu.wf
  exact { hnext with tiles := hnext.tiles.trans hu.tiles, regions := hnext.regions.trans hu.regions }

theorem State.region_updRef_self (r : Nat) (f : RegionRef → RegionRef) (hwf : Table.wf {} s.regions = true) :
    (s.updRef r f).region r = { s.region r with ref := f (s.region r).ref } := s.region_setRegion_self r _ hwf

/-- The referee has counted the flits it could not read, has taken those of the stages it judges, and notes these stages as judged. -/
def State.refereeTakes (s : State) (home : Nat) (mesh : RegionMesh → RegionMesh) (transit : List (Nat × Nat × Nat × Flit)) (now : List Nat) :
    State :=
  { (s.updMesh home mesh).updRef home (fun q => { q with judged := q.judged ++ now }) with transit := transit }

theorem State.refereeTakes_ref (hwf : Table.wf {} s.regions = true) (home : Nat) (mesh : RegionMesh → RegionMesh)
    (transit : List (Nat × Nat × Nat × Flit)) (now : List Nat) : ((s.refereeTakes home mesh transit now).region home).ref =
      { (s.region home).ref with judged := (s.region home).ref.judged ++ now } := by
  have hmesh : (s.updMesh home mesh).region home = { s.region home with mesh := mesh (s.region home).mesh } :=
    s.region_setRegion_self home _ hwf
  have hwfMesh : Table.wf {} (s.updMesh home mesh).regions = true := s.wf_setRegion home _ hwf
  have hjudged := State.region_updRef_self home (fun q => { q with judged := q.judged ++ now }) hwfMesh
  rw [hmesh] at hjudged
  exact congrArg Region.ref hjudged

end

/-- The crew of a stage is one of the plan in service. -/
theorem State.crewOf_some {s : State} {stage : Nat} {crew : Crew} (h : s.crewOf stage = some crew) :
    ∃ p, s.boot.plan = some p ∧ crew ∈ p.crews ∧ crew.stage = stage := by
  unfold State.crewOf at h
  split at h
  next p hp => exact ⟨p, hp, List.mem_of_find?_eq_some h, by simpa using List.find?_some h⟩
  next => cases h

/-- Where every stage homed in the region is `stage`, which is not judged yet and did not crab, the referee judges it and no other. -/
theorem execRefereeVerdict_good {s : State} {stage : BitVec 7} {crew : Crew} {c : StageCheck} (hrun : s.clk.running = true)
    (hcrew : s.crewOf stage.toNat = some crew) (hcheck : s.checkOf stage.toNat = some c)
    (hjudged : (s.region (crewHome crew)).ref.judged.contains stage.toNat = false) (hgood : s.judge c crew = .good)
    (hhomed : ∀ p, s.boot.plan = some p → ∀ w ∈ p.crews, crewHome w = crewHome crew → w.stage = stage.toNat) :
    ∃ (now : List Nat) (mesh : RegionMesh → RegionMesh) (transit : List (Nat × Nat × Nat × Flit)),
      stage.toNat ∈ now ∧ (∀ k ∈ now, k = stage.toNat) ∧
      execRefereeVerdict stage s = .next (now.foldl State.checkPassed (s.refereeTakes (crewHome crew) mesh transit now)) := by
  obtain ⟨p, hplan, hmemCrew, hstage⟩ := State.crewOf_some hcrew
  simp only [execRefereeVerdict, hcrew, hcheck, hplan]
  generalize hnow : (sortBy id _).filter _ = now
  have hmem : stage.toNat ∈ now := by
    have hhome : stage.toNat ∈ (p.crews.filter (fun w => crewHome w = crewHome crew)).map (fun w => w.stage) :=
      List.mem_map.mpr ⟨crew, List.mem_filter.mpr ⟨hmemCrew, by simp⟩, hstage⟩
    rw [← hnow]
    refine List.mem_filter.mpr ⟨(sortBy_perm id _).mem_iff.mpr hhome, ?_⟩
    simpa [hcheck] using hjudged
  have hall : ∀ k ∈ now, k = stage.toNat := by
    intro k hk
    rw [← hnow] at hk
    obtain ⟨w, hw, rfl⟩ := List.mem_map.mp ((sortBy_perm id _).mem_iff.mp (List.mem_of_mem_filter hk))
    obtain ⟨hin, hhome⟩ := List.mem_filter.mp hw
    exact hhomed p hplan w hin (by simpa using hhome)
  have hjudges : ¬ (!s.clk.running || decide (now = [])) = true := by simp [hrun, List.ne_nil_of_mem hmem]
  refine ⟨now, _, _, hmem, hall, (if_neg hjudges).trans (congrArg _ (List.foldl_ext _ _ _ fun u k hk => ?_))⟩
  obtain rfl := hall k hk
  simp only [hcheck, hcrew, hgood]
  rfl

/-! ## The mode vector (R303) -/

section
variable {s : State}

/-- A change of the referees below `n` is read back from each of them, and leaves the others. -/
theorem State.ref_foldl_updRef (f : RegionRef → RegionRef) (hwf : Table.wf {} s.regions = true) (n : Nat) :
    let u := (List.range n).foldl (fun s r => s.updRef r f) s
    Table.wf {} u.regions = true ∧ ∀ r, (u.region r).ref = if r < n then f (s.region r).ref else (s.region r).ref := by
  induction n with
  | zero => exact ⟨hwf, fun r => rfl⟩
  | succ n ih =>
    obtain ⟨hwf', href⟩ := ih
    rw [List.range_succ, List.foldl_concat]
    refine ⟨State.wf_setRegion _ _ _ hwf', fun r => ?_⟩
    by_cases hr : r = n
    · subst hr
      rw [State.region_updRef_self _ _ hwf', if_pos r.lt_succ_self, href, if_neg r.lt_irrefl]
    · rw [State.updRef, State.updRegion, State.region_setRegion_ne _ _ _ _ hr, href]
      simp [show r < n + 1 ↔ r < n by omega]

theorem State.foldl_updRef_only (f : RegionRef → RegionRef) (l : List Nat) (s : State) :
    l.foldl (fun s r => s.updRef r f) s = { s with regions := (l.foldl (fun s r => s.updRef r f) s).regions } := by
  induction l generalizing s with
  | nil => rfl
  | cons r l ih => exact ih (s.updRef r f)

/-- While strokes run, the stroke that the next catch begins is the next one. -/
theorem State.comingStroke_running (hrun : s.clk.running = true) (hbegun : s.clk.begun = true) : s.comingStroke = s.clk.stroke + 1 := by
  unfold State.comingStroke
  split
  · rw [if_pos hrun]
  · rw [if_pos hbegun]

/-- The referee that holds a vector for the next catch. -/
def withNextVec (v : ModeVec) (q : RegionRef) : RegionRef := { q with next := some v }

theorem execModeVectorSend_running (hplan : s.boot.plan ≠ none) (hrun : s.clk.running = true) (hbegun : s.clk.begun = true) :
    execModeVectorSend s =
      .next ((List.range 64).foldl (fun u r => u.updRef r (withNextVec (s.nextVec (s.clk.stroke + 1)))) s) := by
  unfold execModeVectorSend State.eachRegion
  rw [if_neg (fun h => hplan (Option.isNone_iff_eq_none.mp h)), State.comingStroke_running hrun hbegun]
  unfold withNextVec
  rfl

end

/-- Settles O32: each clause follows from what its command does. As every stage that the referee judges is `stage`, the fold over its
verdicts ends that one run of crabs. -/
theorem checkAndModes : Obligations.CheckAndModes := by
  intro s t f stage crew k hrun hwf x home w0 g
  refine ⟨fun hstage hcrew hhome hroute hen hsent htime => ?_, fun hcrew hcheck _ hjudged hgood hmember hhomed hwfRun => ?_,
    fun hkind hckind hcrc hstage htime hmine hgrant hstroke hroom hwait => ?_, fun hplan hbegun => ?_⟩
  · exact completes_injected (execCheckFlitSend_due hrun hstage hcrew hen hsent htime hhome hroute) (y := checkFlitSent x)
      (by simp [checkFlitSent, hstage]) rfl fun u ⟨honly, hother, _⟩ htransit htile => ⟨honly, hother, htile, htransit⟩
  · obtain ⟨now, mesh, transit, hmem, hall, hexec⟩ := execRefereeVerdict_good hrun hcrew hcheck hjudged hgood hhomed
    have hended := runEnded_foldl_checkPassed (s := s.refereeTakes home mesh transit now) hmember hwfRun hmem hall
    have href := State.refereeTakes_ref hwf home mesh transit now
    have hregion := hended.regions
    refine ⟨_, hexec, hended.tiles, ?_, hended.ended, ?_⟩
    · rw [State.region, hregion, ← State.region, href]
      simp [hmem]
    · rw [State.region, hregion, ← State.region, href]
  · obtain ⟨hother, hself⟩ := (s.eject t f).updTile_of_staged t (verdictNoted f true true false false) (by
      rw [State.eject_tile, verdictNoted_granted hroom hwait]
      exact Option.isSome_of_eq_some hstage)
    refine ⟨_, execVerdictFlitArrive_granted hkind hckind hcrc hstage htime hmine hgrant hstroke, rfl, hother, ?_⟩
    rw [hself, State.eject_tile, verdictNoted_granted hroom hwait]
    rfl
  · obtain ⟨_, href⟩ := s.ref_foldl_updRef (withNextVec (s.nextVec (s.clk.stroke + 1))) hwf 64
    refine ⟨_, execModeVectorSend_running hplan hrun hbegun, State.foldl_updRef_only _ _ s, fun r hr => ?_⟩
    rw [href, if_pos hr]
    rfl

end Machine
end Sys2Proof

/-! # What subsides

Where a swap, a switch or an easy-all ends the work of sequences, no sequence becomes active; the lemmas go through the model's operations in the
order of their definitions. -/

namespace Sys2Proof.Machine

/-- A request of this ID is active. -/
def State.runs (s : State) (id : BitVec 64) : Prop := ∃ r ∈ s.serve.t.reqs, r.id = id ∧ r.active = true

/-- From `s` to `u` no request has become active, and neither the weights nor the stroke counter changed. -/
structure Subsides (s u : State) : Prop where
  weights : u.weights = s.weights
  clk : u.clk = s.clk
  runs : ∀ id, u.runs id → s.runs id

section
variable {s : State}

theorem Subsides.refl : Subsides s s := ⟨rfl, rfl, fun _ => id⟩

theorem Subsides.ite {c : Prop} [Decidable c] {u v : State} (hu : Subsides s u) (hv : Subsides s v) : Subsides s (if c then u else v) := by
  split <;> assumption

theorem Subsides.foldl {β : Type} {f : State → β → State} (hf : ∀ u b, Subsides s u → Subsides s (f u b)) (l : List β) {u : State}
    (h : Subsides s u) : Subsides s (l.foldl f u) := by
  induction l generalizing u with
  | nil => exact h
  | cons b l ih => exact ih (hf u b h)

variable {u : State} (h : Subsides s u)
include h

/-! ## Parts of the state -/

theorem Subsides.event (code region : Nat) (p : Bytes) : Subsides s (u.event code region p) := by
  obtain ⟨_, _, heq⟩ := u.event_only code region p
  rw [heq]
  exact { h with }

theorem Subsides.count (key n : Nat) : Subsides s (u.count key n) := { h with }

theorem Subsides.useFree (n : Nat) : Subsides s (u.useFree n) := { h with }

theorem Subsides.histAdd (k bin : Nat) : Subsides s (u.histAdd k bin) := { h with }

theorem Subsides.updLink (k : Nat) (f : Link → Link) : Subsides s (u.updLink k f) := { h with }

theorem Subsides.updTile (t : TileId) (f : Tile → Tile) : Subsides s (u.updTile t f) := { h with }

theorem Subsides.updRegion (r : Nat) (f : Region → Region) : Subsides s (u.updRegion r f) := { h with }

theorem Subsides.trigger (r : Nat) (m : BitVec 16) : Subsides s (u.trigger r m) := by
  rw [State.trigger_only]
  exact { h with }

theorem Subsides.sendWords (ks : List Nat) (w : CtlWord) : Subsides s (u.sendWords ks w) := by
  refine .foldl (fun u k hu => ?_) ks h
  rw [u.sendWord_only]
  exact { hu with }

theorem Subsides.putSet (n : Nat) (p : Option PageSet) : Subsides s (u.putSet n p) := { h with }

theorem Subsides.putSlot (k : Nat) (v : SlotState) : Subsides s (u.putSlot k v) := { h with }

theorem Subsides.setConn (tag : Nat) (c : Option Conn) : Subsides s (u.setConn tag c) := { h with }

theorem Subsides.updPasses (f : List Pass → List Pass) : Subsides s (u.updTables (fun t => { t with passes := f t.passes })) := { h with }

/-! ## Requests -/

/-- Requests that keep their IDs, and of which none that was idle is active, subside. -/
theorem Subsides.mapReqs {f : Tables → Request → Request} (hid : ∀ t q, (f t q).id = q.id)
    (hactive : ∀ t q, (f t q).active = true → q.active = true) :
    Subsides s (u.updTables (fun t => { t with reqs := t.reqs.map (f t) })) where
  weights := h.weights
  clk := h.clk
  runs id hr := by
    obtain ⟨_, hmapped, hqid, hq⟩ := hr
    obtain ⟨q, hmem, rfl⟩ := List.mem_map.mp hmapped
    exact h.runs id ⟨q, hmem, (hid _ q).symm.trans hqid, hactive _ q hq⟩

theorem Subsides.updReq (id : BitVec 64) {f : Request → Request} (hid : ∀ q, (f q).id = q.id)
    (hactive : ∀ q, (f q).active = true → q.active = true) : Subsides s (u.updReq id f) := by
  refine h.mapReqs (fun _ q => ?_) (fun _ q => ?_)
  · split
    · exact hid q
    · rfl
  · split
    · exact hactive q
    · exact fun hq => hq

/-- A request that becomes idle. -/
theorem Subsides.updReq_idle (id : BitVec 64) {f : Request → Request} (hid : ∀ q, (f q).id = q.id) (hidle : ∀ q, (f q).active = false) :
    Subsides s (u.updReq id f) :=
  h.updReq id hid fun q hq => absurd ((hidle q).symm.trans hq) Bool.false_ne_true

theorem Subsides.setReq {id : BitVec 64} {q r : Request} (hq : u.req id = some q) (hid : r.id = q.id)
    (hactive : r.active = true → q.active = true) : Subsides s (u.setReq r) where
  weights := h.weights
  clk := h.clk
  runs id hr := by
    obtain ⟨_, hmapped, hxid, hx⟩ := hr
    obtain ⟨x, hmem, rfl⟩ := List.mem_map.mp hmapped
    split at hxid
    next heq =>
      rw [if_pos heq] at hx
      exact h.runs id ⟨q, List.mem_of_find?_eq_some hq, hid.symm.trans hxid, hactive hx⟩
    next heq =>
      rw [if_neg heq] at hx
      exact h.runs id ⟨x, hmem, hxid, hx⟩

theorem Subsides.dropReq (id : BitVec 64) : Subsides s (u.dropReq id) where
  weights := h.weights
  clk := h.clk
  runs id hr := by
    obtain ⟨q, hmem, hq⟩ := hr
    exact h.runs id ⟨q, List.mem_of_mem_filter hmem, hq⟩

/-! ## Messages, page sets and slots -/

theorem Subsides.sendMsg (tag : Nat) (m : OutMsg) : Subsides s (u.sendMsg tag m) := by
  unfold State.sendMsg
  split
  · exact .ite (h.setConn _ _) h
  · exact h

theorem Subsides.notice (tag : Nat) (id : BitVec 64) (turn : BitVec 16) (status detail : Nat) :
    Subsides s (u.notice tag id turn status detail) := (h.useFree 1).sendMsg _ _

theorem Subsides.sendTokens (r : Request) : Subsides s (u.sendTokens r) :=
  .ite h ((h.sendMsg _ _).updReq r.id (fun _ => rfl) (fun _ hq => hq))

theorem Subsides.sendCompletion (r : Request) (reason detail : Nat) (late retained : Bool) :
    Subsides s (u.sendCompletion r reason detail late retained) :=
  ((((Subsides.ite (h.useFree 1) h).histAdd _ _).histAdd _ _).count _ _).sendMsg _ _

theorem Subsides.releaseSet (n : Nat) : Subsides s (u.releaseSet n) := by
  unfold State.releaseSet
  split
  · exact h
  · exact .ite (h.putSet _ _) (h.putSet _ _)

theorem Subsides.releaseSets (ns : List Nat) : Subsides s (u.releaseSets ns) := .foldl (fun _ n hu => hu.releaseSet n) ns h

theorem Subsides.giveUpSlot (r : Request) (sets : List Nat) : Subsides s (u.giveUpSlot r sets) := by
  unfold State.giveUpSlot
  split
  · exact (h.updPasses _).releaseSets sets
  · exact .ite ((h.updPasses _).putSlot _ _) (((h.updPasses _).putSlot _ _).releaseSets sets)

theorem Subsides.freeEntry (r : Request) : Subsides s (u.freeEntry r) := by
  have hdropped := h.dropReq r.id
  unfold State.freeEntry
  dsimp only
  split
  · exact .ite (hdropped.setConn _ _) hdropped
  · exact hdropped

/-! ## The boathouse -/

theorem Subsides.discardEntry (id : BitVec 64) : Subsides s (u.discardEntry id) := by
  unfold State.discardEntry
  split
  · exact h
  · exact (((h.notice _ _ _ _ _).count _ _).releaseSets _).dropReq id

theorem Subsides.toFlash (id : BitVec 64) : Subsides s (u.toFlash id) := by
  unfold State.toFlash
  refine .ite (h.discardEntry id) ?_
  dsimp only
  split
  · refine .notice (h.updReq id ?_ ?_) _ _ _ _ _
    · exact fun _ => rfl
    · exact fun _ hq => hq
  · exact h

theorem Subsides.boatFit (n : Nat) : Subsides s (u.boatFit n) := by
  induction n generalizing u with
  | zero => exact h
  | succ n ih =>
    unfold State.boatFit
    refine .ite ?_ (.ite ?_ h)
    · split
      · exact ih (h.toFlash _)
      · exact h
    · split
      · exact ih (h.discardEntry _)
      · exact h

theorem Subsides.parkNow (id : BitVec 64) : Subsides s (u.parkNow id) := by
  unfold State.parkNow
  split
  · refine .boatFit (.notice ((h.releaseSets _).updReq_idle id ?_ ?_) _ _ _ _ _) _
    · exact fun _ => rfl
    · exact fun _ => rfl
  · exact h

theorem Subsides.startMove (id : BitVec 64) (serial : BitVec 128) : Subsides s (u.startMove id serial) := by
  have hmoving : Subsides s (u.updReq id (fun q => { q with state := .moving, moveTo := none })) :=
    h.updReq_idle id (fun _ => rfl) (fun _ => rfl)
  unfold State.startMove
  extract_lets moved
  have hmoved : Subsides s moved := { hmoving with }
  clear_value moved
  split
  · exact hmoved.updLink _ _
  · exact hmoved

/-! ## The end of a request -/

theorem Subsides.retain (r : Request) : Subsides s (u.retain r) := by
  unfold State.retain
  extract_lets freed kept
  have hkept : Subsides s kept := (h.giveUpSlot r []).updReq_idle r.id (fun _ => rfl) (fun _ => rfl)
  clear_value kept
  split
  · exact (hkept.parkNow _).startMove _ _
  · exact .ite (hkept.parkNow _) hkept

theorem Subsides.complete (id : BitVec 64) (reason detail : Nat) : Subsides s (u.complete id reason detail) := by
  unfold State.complete
  split
  · exact h
  · extract_lets told r keep natural any retained late sent moved noticed
    have hsent : Subsides s sent := (h.sendTokens _).sendCompletion _ _ _ _ _
    have hmoved : Subsides s moved := .ite (hsent.notice _ _ _ _ _) hsent
    have hnoticed : Subsides s noticed := .ite (hmoved.notice _ _ _ _ _) hmoved
    exact .ite (hsent.retain r) ((hnoticed.giveUpSlot _ _).freeEntry _)

end

/-! ## A request that completes runs no more -/

section
variable {s u : State} {id : BitVec 64}

theorem Subsides.not_runs (h : Subsides s u) (hidle : ¬ s.runs id) : ¬ u.runs id := fun hruns => hidle (h.runs id hruns)

theorem State.not_runs_updReq {f : Request → Request} (hidle : ∀ q, (f q).active = false) : ¬ (s.updReq id f).runs id := by
  rintro ⟨_, hmapped, hid, hactive⟩
  obtain ⟨q, -, rfl⟩ := List.mem_map.mp hmapped
  by_cases hq : q.id = id
  · simp [hq, hidle] at hactive
  · simp [hq] at hid

theorem State.not_runs_dropReq : ¬ (s.dropReq id).runs id := by
  rintro ⟨q, hmem, hid, -⟩
  simpa [hid] using List.of_mem_filter hmem

theorem State.not_runs_of_req_none (hreq : s.req id = none) : ¬ s.runs id := by
  rintro ⟨q, hmem, hid, -⟩
  exact absurd hid (by simpa using List.find?_eq_none.mp hreq q hmem)

theorem State.req_id {r : Request} (hreq : s.req id = some r) : r.id = id := by
  simpa using List.find?_some hreq

theorem State.not_runs_retain (r : Request) : ¬ (s.retain r).runs r.id := by
  unfold State.retain
  extract_lets freed kept
  have hkept : ¬ kept.runs r.id := State.not_runs_updReq fun _ => rfl
  clear_value kept
  split
  · exact ((Subsides.refl.parkNow _).startMove _ _).not_runs hkept
  · exact (Subsides.ite (Subsides.refl.parkNow _) .refl).not_runs hkept

theorem State.not_runs_freeEntry (r : Request) : ¬ (s.freeEntry r).runs r.id := by
  have hdropped : ¬ (s.dropReq r.id).runs r.id := State.not_runs_dropReq
  unfold State.freeEntry
  dsimp only
  split
  · exact (Subsides.ite (Subsides.refl.setConn _ _) .refl).not_runs hdropped
  · exact hdropped

theorem State.not_runs_complete (id : BitVec 64) (reason detail : Nat) : ¬ (s.complete id reason detail).runs id := by
  unfold State.complete
  split
  next hreq => exact State.not_runs_of_req_none hreq
  next r0 hreq =>
    extract_lets told r keep natural any retained late sent moved noticed
    have hid : r.id = id := by
      obtain hnone | ⟨q, hq⟩ := (s.sendTokens r0).req id |>.eq_none_or_eq_some
      · simpa [r, told, hnone] using State.req_id hreq
      · simpa [r, told, hq] using State.req_id hq
    clear_value r
    subst hid
    split
    · exact State.not_runs_retain r
    · exact State.not_runs_freeEntry r

/-- Completing requests one after the other leaves none of them active. -/
theorem State.runs_foldl_complete (reason detail : Nat) (l : List Request)
    (hruns : (l.foldl (fun (s : State) r => s.complete r.id reason detail) s).runs id) : s.runs id ∧ ∀ r ∈ l, r.id ≠ id := by
  induction l generalizing s with
  | nil => exact ⟨hruns, fun _ hmem => absurd hmem List.not_mem_nil⟩
  | cons r l ih =>
    obtain ⟨hafter, hothers⟩ := ih hruns
    refine ⟨(Subsides.refl.complete _ _ _).runs id hafter, fun q hmem hid => ?_⟩
    obtain rfl | hmem := List.mem_cons.mp hmem
    · exact State.not_runs_complete _ _ _ (hid ▸ hafter)
    · exact hothers q hmem hid

/-- Once every active request has completed, none is active (R388). -/
theorem State.idle_foldl_complete (s : State) (reason detail : Nat) :
    ∀ q ∈ ((s.serve.t.reqs.filter (fun r => r.active)).foldl (fun (s : State) r => s.complete r.id reason detail) s).serve.t.reqs,
      q.active = false := by
  intro q hmem
  by_contra hactive
  obtain ⟨⟨r, hin, hid, hr⟩, hothers⟩ :=
    State.runs_foldl_complete reason detail _ ⟨q, hmem, rfl, Bool.not_eq_false _ |>.mp hactive⟩
  exact hothers r (List.mem_filter.mpr ⟨hin, hr⟩) hid

end

/-! ## The end of a stroke -/

section
variable {s u : State} (h : Subsides s u)
include h

theorem Subsides.eachCrewTile (f : TileId → Tile → Tile) : Subsides s (u.eachCrewTile f) := .foldl (fun _ t hu => hu.updTile t (f t)) _ h

theorem Subsides.eachRegion {f : Nat → State → State} (hf : ∀ r u, Subsides s u → Subsides s (f r u)) : Subsides s (u.eachRegion f) :=
  .foldl (fun u r hu => hf r u hu) _ h

theorem Subsides.regionEvent (r code : Nat) (p : Bytes) : Subsides s (u.regionEvent r code p) := { h with }

theorem Subsides.updClk (r : Nat) (f : RegionClk → RegionClk) : Subsides s (u.updClk r f) := { h with }

theorem Subsides.updRef (r : Nat) (f : RegionRef → RegionRef) : Subsides s (u.updRef r f) := { h with }

theorem Subsides.heavyRecord (r w : Nat) : Subsides s (u.heavyRecord r w) := { h with }

theorem Subsides.markLate (t : TileId) (d : BitVec 8) : Subsides s (u.markLate t d) :=
  .ite h (((h.updTile t _).updRegion _ _).trigger _ _)

theorem Subsides.dropFrom (r : Request) (j : Nat) : Subsides s (u.dropFrom r j) := by
  refine (h.releaseSets _).updReq r.id (fun q => ?_) (fun q => ?_)
  · split <;> rfl
  · split <;> exact fun hq => hq

theorem Subsides.loseSets (bad : Nat → Bool) : Subsides s (u.loseSets bad) := by
  refine .foldl (fun u r hu => ?_) _ (.foldl (fun u e hu => ?_) _ h)
  · split
    · exact hu.dropFrom r _
    · exact hu
  · split
    · exact .ite (hu.putSet _ _) hu
    · exact hu

theorem Subsides.boatPageLost (r : Request) : Subsides s (u.boatPageLost r) := by
  refine .ite ((h.releaseSets _).updReq r.id ?_ ?_) (h.updReq r.id ?_ ?_)
  · exact fun _ => rfl
  · exact fun _ hq => hq
  · exact fun _ => rfl
  · exact fun _ hq => hq

theorem Subsides.tierContentLost (chan page : Nat) : Subsides s (u.tierContentLost chan page) := by
  have hfree := h.useFree 1
  unfold State.tierContentLost
  extract_lets v drawn onSets onBoats
  have hdrawn : Subsides s drawn := hfree
  clear_value drawn
  refine .ite (.ite ?_ (.ite { hdrawn with } hdrawn)) (.ite ?_ hdrawn)
  · split
    · exact hdrawn.loseSets _
    · exact hdrawn
  · split
    · exact hdrawn.boatPageLost _
    · exact hdrawn

theorem Subsides.tierLose (chan page : Nat) : Subsides s (u.tierLose chan page) := by
  unfold State.tierLose
  extract_lets r tier lost counted told
  have htold : Subsides s told := { h with }
  exact htold.tierContentLost chan page

theorem Subsides.loseExtents (es : List (Nat × Nat)) : Subsides s (u.loseExtents es) := by
  refine .foldl (fun u e hu => ?_) es h
  split
  · exact hu
  · exact .foldl (fun u i hu => .ite (hu.tierLose _ _) hu) _ hu

theorem Subsides.discardWrites : Subsides s u.discardWrites :=
  .foldl (fun _ _ hu => hu.loseExtents _) _ { h with }

theorem Subsides.replacePrefill (id : BitVec 64) (q : Nat) : Subsides s (u.replacePrefill id q) :=
  (h.updPasses _).updReq id (fun _ => rfl) (fun _ hq => hq)

theorem Subsides.dropPass (q : Pass) : Subsides s (u.dropPass q) := by
  have hdropped := h.updPasses (fun ps => ps.filter (fun x => x ≠ q))
  unfold State.dropPass
  extract_lets dropped
  split
  · exact hdropped
  next r hr =>
    have hcounted := hdropped.setReq hr (r := { r with drops := r.drops + 1 }) rfl (fun hq => hq)
    exact .ite hdropped (.ite ((hcounted.event _ _ _).complete _ _ _) hcounted)

theorem Subsides.freeReleasing : Subsides s u.freeReleasing := by
  refine .foldl (fun u e hu => ?_) _ h
  split
  · exact .ite hu ((hu.putSlot _ _).releaseSets _)
  · exact hu

theorem Subsides.chunksDone (p : Plan) (n : Nat) : Subsides s (u.chunksDone p n) := by
  refine .foldl (fun u q hu => hu.updReq q.id ?_ ?_) _ h
  · exact fun _ => rfl
  · exact fun _ hq => hq

theorem Subsides.endPasses : Subsides s u.endPasses := by
  unfold State.endPasses
  split
  · exact h
  · exact .freeReleasing (.foldl (fun _ q hu => .ite (hu.dropPass q) (hu.replacePrefill _ _)) _ (h.chunksDone _ _))

theorem Subsides.endStroke : Subsides s (u.endStroke false) := by
  unfold State.endStroke
  extract_lets sampled late cycles ended regioned counted
  have hlate : Subsides s late := .foldl (fun u t hu => .foldl (fun _ _ hv => hv.markLate t _) _ hu) _ h
  have hended : Subsides s ended := hlate.eachCrewTile _
  have hregioned : Subsides s regioned := hended.eachRegion fun r u hu => .updClk (.foldl (fun _ w hv => hv.heavyRecord r w) _ hu) r _
  clear_value regioned
  have hcounted : Subsides s counted := { hregioned with }
  exact hcounted.discardWrites.endPasses

end

/-! ## Strokes halt -/

section
variable {s u : State}

theorem Subsides.restartFlight (h : Subsides s u) : Subsides s u.restartFlight := by
  unfold State.restartFlight
  extract_lets emptied released freed
  have hemptied : Subsides s emptied := { h with }
  have hreleased : Subsides s released := hemptied.freeReleasing
  have hfreed : Subsides s freed := by
    refine .foldl (fun u e hu => ?_) _ hreleased
    split
    · exact hu.putSlot _ _
    · exact hu
  refine hfreed.mapReqs (fun t q => ?_) (fun t q => ?_)
  · split <;> rfl
  · split <;> exact fun hq => hq


/-- What a clearing easy-all does to the work in flight leaves the weights, and strokes running or halted as they were. -/
theorem State.clearFlight_keeps (s : State) : s.clearFlight.clk.running = s.clk.running ∧ s.clearFlight.weights = s.weights := by
  unfold State.clearFlight
  extract_lets restarted emptied reset clk
  have hemptied : Subsides s emptied := Subsides.refl.restartFlight.eachCrewTile _
  have hreset : Subsides s reset := hemptied.eachRegion fun r u hu => hu.updRef r _
  have hrunning : reset.clk.running = s.clk.running := congrArg StrokeClock.running hreset.clk
  clear_value reset
  exact ⟨hrunning, hreset.weights⟩

/-- An easy-all halts strokes and leaves the weights (R84). -/
theorem State.enterEasy_halts (s : State) (due : List NamedEasy) :
    (s.enterEasy due).clk.running = false ∧ (s.enterEasy due).weights = s.weights := by
  unfold State.enterEasy
  extract_lets more all clearing rest clk halted recorded told
  have hrecorded : Subsides halted recorded := .foldl (fun _ _ hu => hu.event _ _ _) _ .refl
  have htold : Subsides halted told := .ite (hrecorded.sendWords _ _) hrecorded
  have hrunning : told.clk.running = false := congrArg StrokeClock.running htold.clk
  have hweights : told.weights = s.weights := htold.weights
  clear_value told
  split
  · exact ⟨told.clearFlight_keeps.1.trans hrunning, told.clearFlight_keeps.2.trans hweights⟩
  · exact ⟨hrunning, hweights⟩

theorem State.nameEasyAll_weights (s : State) (cause : Nat) (clearing : Bool) (at_ : Option (BitVec 48)) :
    (s.nameEasyAll cause clearing at_).weights = s.weights := by
  unfold State.nameEasyAll
  split
  · rfl
  · exact (s.enterEasy_halts _).2

@[simp] theorem State.advanceTo_weights (s : State) (m : Nat) : (s.advanceTo m).weights = s.weights := by
  unfold State.advanceTo
  split <;> rfl

@[simp] theorem State.advanceToTick_weights (s : State) (k : Nat) : (s.advanceToTick k).weights = s.weights := by
  unfold State.advanceToTick
  split
  · exact s.advanceTo_weights _
  · rfl

/-- Strokes halt for a switch whose stroke has come, or at once while they are halted already (R84). -/
theorem State.haltFor_due (s : State) (cause : Nat) (n : Option Nat)
    (hdue : s.clk.running = false ∨ ∀ k, n = some k → laterMod 48 k (s.clk.stroke + 1).toNat = false) :
    ∃ u, s.haltFor cause n = some u ∧ u.clk.running = false ∧ u.weights = s.weights := by
  have hhalts (v : State) (due : List NamedEasy) (hv : v.weights = s.weights) :
      ∃ u, some (v.enterEasy due) = some u ∧ u.clk.running = false ∧ u.weights = s.weights :=
    ⟨_, rfl, (v.enterEasy_halts due).1, (v.enterEasy_halts due).2.trans hv⟩
  unfold State.haltFor
  extract_lets named ahead caught unnamed
  split
  next hrun =>
    split
    · exact ⟨s, rfl, by simpa using hrun, rfl⟩
    · exact hhalts _ _ rfl
  next hrun =>
    have hahead : ahead = false := by
      simp only [Bool.not_eq_true', Bool.not_eq_false] at hrun
      have hk := hdue.resolve_left (by simp [hrun])
      cases n with
      | none => rfl
      | some k => exact hk k rfl
    rw [if_neg (by simp [hahead])]
    exact hhalts _ _ ((Subsides.refl.endStroke.weights).trans (s.advanceToTick_weights _))

end
end Sys2Proof.Machine

/-! # Loads of weights -/

namespace Sys2Proof.Machine

section
variable {s : State} {l : Load}

/-! ## The end of a load -/

theorem State.endAs_weights (s : State) (kind : LoadKind) (code : Nat) : (s.endAs kind code).weights =
    { s.weights with load := none, result := code, state := if s.noImage then 0 else 2, swapStroke := 0 } :=
  (Subsides.refl.event _ _ _).weights

theorem State.event_tiles (s : State) (code region : Nat) (p : Bytes) : (s.event code region p).tiles = s.tiles := by
  obtain ⟨_, _, heq⟩ := s.event_only code region p
  rw [heq]

theorem State.endAs_tiles (s : State) (kind : LoadKind) (code : Nat) : (s.endAs kind code).tiles = s.tiles :=
  State.event_tiles _ _ _ _

/-- A load that ends with a result leaves the epoch in service and every tile (R375, R386). -/
theorem State.endAs_ends (s : State) (kind : LoadKind) (code : Nat) : (s.endAs kind code).weights.load = none ∧
    (s.endAs kind code).weights.result = code ∧ (s.endAs kind code).weights.epoch = s.weights.epoch ∧ (s.endAs kind code).tiles = s.tiles := by
  rw [State.endAs_weights]
  exact ⟨rfl, rfl, rfl, s.endAs_tiles kind code⟩

theorem State.endLoad_loading (hload : s.weights.load = some l) (code : Nat) : s.endLoad code = s.endAs l.kind code := by
  simp only [State.endLoad, hload]

/-- The failure of a swap leaves what serves (R386). -/
theorem State.fillFails_swap (hload : s.weights.load = some l) (hkind : l.kind = .swap) (code : Nat) :
    s.fillFails code = s.endAs .swap code := by
  simp only [State.fillFails, hload]
  rw [if_pos hkind, s.endLoad_loading hload, hkind]

/-- A load of any kind that fails is over, with the result that names why (R375, R720). -/
theorem State.fillFails_ends (hload : s.weights.load = some l) (code : Nat) :
    (s.fillFails code).weights.load = none ∧ (s.fillFails code).weights.result = code := by
  by_cases hkind : l.kind = .swap
  · rw [State.fillFails_swap hload hkind, State.endAs_weights]
    exact ⟨rfl, rfl⟩
  · obtain ⟨restored, heq⟩ : ∃ v : State, s.fillFails code = (v.endAs l.kind code).planUnfilled := by
      simp only [State.fillFails, hload]
      rw [if_neg hkind]
      exact ⟨_, rfl⟩
    have hunfilled : (restored.endAs l.kind code).planUnfilled.weights = (restored.endAs l.kind code).weights :=
      (Subsides.refl.event _ _ _).weights
    rw [heq, hunfilled, State.endAs_weights]
    exact ⟨rfl, rfl⟩

/-- A swap's fill ends with its refill, not with its last shard (R387, R389). -/
theorem State.fillWhole_swap (hload : s.weights.load = some l) (hkind : l.kind = .swap) : s.fillWhole = s := by
  simp [State.fillWhole, hload, hkind]

/-! ## What a load in progress sends and asks for -/

theorem State.with_load (hload : s.weights.load = some l) : { s with weights := { s.weights with load := some l } } = s := by
  rw [← hload]

theorem State.updLoad_updLoad (s : State) (f g : Load → Load) : (s.updLoad f).updLoad g = s.updLoad (fun x => g (f x)) := by
  simp [State.updLoad, Function.comp_def]

theorem State.updLoad_load (hload : s.weights.load = some l) (f : Load → Load) : (s.updLoad f).weights.load = some (f l) := by
  simp [hload]

theorem State.foldl_sendObject (s : State) (kind obj : Nat) (b : Option Bytes) (ks : List Nat) :
    ∃ links, ks.foldl (fun (s : State) k => s.sendObject k kind obj b) s = { s with links := { s.links with links := links } } := by
  induction ks generalizing s with
  | nil => exact ⟨_, rfl⟩
  | cons k ks ih =>
    obtain ⟨links, heq⟩ := ih (s.sendObject k kind obj b)
    exact ⟨links, heq⟩

/-- A broadcast changes the links and the load's list of what was sent (R371, R373). -/
theorem State.broadcast_eq (hload : s.weights.load = some l) (kind obj : Nat) (bytes : Bytes) :
    ∃ links sent, s.broadcast kind obj bytes =
      { s with links := { s.links with links := links }, weights := { s.weights with load := some { l with sent := sent } } } := by
  simp only [State.broadcast, hload]
  split
  · exact ⟨s.links.links, l.sent, (State.with_load hload).symm⟩
  · obtain ⟨links, heq⟩ := s.foldl_sendObject kind obj (some bytes) s.children
    refine ⟨links, l.sent ++ [(kind, obj)], ?_⟩
    rw [heq]
    simp [State.updLoad, hload]

theorem State.broadcast_load (hload : s.weights.load = some l) (kind obj : Nat) (bytes : Bytes) :
    ∃ sent, (s.broadcast kind obj bytes).weights.load = some { l with sent := sent } := by
  obtain ⟨_, sent, heq⟩ := State.broadcast_eq hload kind obj bytes
  rw [heq]
  exact ⟨sent, rfl⟩

theorem State.broadcast_ingressUp (hload : s.weights.load = some l) (kind obj : Nat) (bytes : Bytes) :
    (s.broadcast kind obj bytes).ingressUp = s.ingressUp := by
  obtain ⟨_, _, heq⟩ := State.broadcast_eq hload kind obj bytes
  rw [heq]
  rfl

theorem State.broadcast_keepsShard (hload : s.weights.load = some l) (kind obj : Nat) (bytes : Bytes) (m : Manifest) (i : Nat) :
    (s.broadcast kind obj bytes).keepsShard m i = s.keepsShard m i := by
  obtain ⟨_, _, heq⟩ := State.broadcast_eq hload kind obj bytes
  rw [heq]
  rfl

theorem State.postQp_weights (s : State) (n : Nat) (shard : Option Nat) : (s.postQp n shard).weights = s.weights := by
  unfold State.postQp State.updQp
  split <;> rfl

/-- One READ is issued, or none (R372). -/
theorem State.postReads_succ (hload : s.weights.load = some l) (n : Nat) : s.postReads (n + 1) = s ∨
    ∃ v again asked, s.postReads (n + 1) = State.postReads v n ∧ v.weights.load = some { l with again := again, asked := asked } := by
  simp only [State.postReads, hload]
  split
  next r m _ _ =>
    split
    next => exact .inl rfl
    next i l' hnext =>
      obtain ⟨again, asked, rfl⟩ : ∃ again asked, l' = { l with again := again, asked := asked } := by
        split at hnext
        · obtain ⟨-, rfl⟩ := hnext
          exact ⟨_, _, rfl⟩
        · obtain ⟨-, hnext⟩ := Option.ite_none_right_eq_some.mp hnext
          obtain ⟨-, rfl⟩ := hnext
          exact ⟨_, _, rfl⟩
      split
      · exact .inl rfl
      split
      · exact .inl rfl
      split
      · exact .inl rfl
      split
      · exact .inl rfl
      · exact .inr ⟨_, again, asked, rfl, congrArg Weights.load (State.postQp_weights _ _ _)⟩
  next => exact .inl rfl

/-- READs change of a load what it has asked for alone (R372). -/
theorem State.postReads_load (hload : s.weights.load = some l) (n : Nat) :
    ∃ again asked, (s.postReads n).weights.load = some { l with again := again, asked := asked } := by
  induction n generalizing s l with
  | zero => exact ⟨l.again, l.asked, hload⟩
  | succ n ih =>
    obtain hnone | ⟨v, again, asked, hnext, hv⟩ := State.postReads_succ hload n
    · rw [hnone]
      exact ⟨l.again, l.asked, hload⟩
    · obtain ⟨again', asked', hread⟩ := ih hv
      rw [hnext]
      exact ⟨again', asked', hread⟩

/-! ## Manifests -/

section
variable {got : Option Bytes} (hload : s.weights.load = some l) (hman : l.man = none) (hkind : l.kind = .swap)
include hload hman hkind

theorem State.takeManifest_unread (hgot : got = none) : s.takeManifest got = s.endAs .swap 1 := by
  simp [State.takeManifest, hload, hman, hgot, State.manifestIn, State.fillFails_swap hload hkind]

theorem State.takeManifest_refused {m : Manifest} {c : Nat} (hin : s.manifestIn l got = some m) (hfault : s.manifestFault l m = some c) :
    s.takeManifest got = s.endAs .swap c := by
  simp [State.takeManifest, hload, hman, hin, hfault, State.fillFails_swap hload hkind]

/-- An accepted manifest stands in the load with the content key that its envelope holds (R357, R359). -/
theorem State.takeManifest_accepted {m : Manifest} (hin : s.manifestIn l got = some m) (hfault : s.manifestFault l m = none) :
    ∃ y, (s.takeManifest got).weights.load = some y ∧ y.man = some m ∧ y.key = (s.ident.contentKey m).getD [] ∧ y.opened = l.opened ∧
      y.kind = l.kind := by
  simp only [State.takeManifest, hload, hman, hin, hfault]
  rw [if_neg (by simp)]
  obtain ⟨sent, hsent⟩ := State.broadcast_load (State.updLoad_load hload _) 1 0 (manifestBytes m)
  obtain ⟨again, asked, hread⟩ := State.postReads_load hsent 128
  rw [State.fillWhole_swap hread hkind]
  exact ⟨_, hread, rfl, rfl, rfl, rfl⟩

end

/-! ## Shards -/

/-- A shard that failed: what is counted, recorded and told leaves the weights; then the load ends, or the shard is asked for again
(R374, R375). -/
theorem State.shardFailed_eq (hload : s.weights.load = some l) (i : Nat) : ∃ v : State, v.weights = s.weights ∧
    s.shardFailed i =
      if 3 ≤ Table.get 0 l.fails i + 1 then v.fillFails 5
      else
        let asked := v.updLoad (fun y => { y with fails := Table.put 0 y.fails i (Table.get 0 l.fails i + 1), again := y.again ++ [i] })
        if v.isMember then asked else asked.postReads 128 := by
  unfold State.shardFailed
  split
  next hnone => rw [hload] at hnone; cases hnone
  next y hy =>
    obtain rfl : l = y := Option.some.inj (hload.symm.trans hy)
    extract_lets n counted recorded told
    have hrecorded : Subsides s recorded := (Subsides.refl.count _ _).event _ _ _
    refine ⟨told, ?_, rfl⟩
    simp only [told]
    clear_value recorded
    split
    · split
      · exact (congrArg State.weights (recorded.sendWord_only _ _)).trans hrecorded.weights
      · exact hrecorded.weights
    · exact hrecorded.weights

/-- The third failure of a shard ends the load with result 5 (R374). -/
theorem State.shardFailed_third (hload : s.weights.load = some l) {i : Nat} (hfails : Table.get 0 l.fails i = 2) :
    (s.shardFailed i).weights.load = none ∧ (s.shardFailed i).weights.result = 5 := by
  obtain ⟨v, hv, heq⟩ := State.shardFailed_eq hload i
  rw [heq, if_pos (by rw [hfails])]
  exact State.fillFails_ends (by rw [hv, hload]) 5

/-- Before that, it is counted and asked for again (R374). -/
theorem State.shardFailed_again (hload : s.weights.load = some l) {i : Nat} (hfails : Table.get 0 l.fails i < 2) :
    ∃ y, (s.shardFailed i).weights.load = some y ∧ y.fails = Table.put 0 l.fails i (Table.get 0 l.fails i + 1) ∧ y.opened = l.opened := by
  obtain ⟨v, hv, heq⟩ := State.shardFailed_eq hload i
  rw [heq, if_neg (by omega)]
  have hasked := State.updLoad_load (s := v) (by rw [hv, hload])
    (fun y => { y with fails := Table.put 0 y.fails i (Table.get 0 l.fails i + 1), again := y.again ++ [i] })
  dsimp only
  split
  · exact ⟨_, hasked, rfl, rfl⟩
  · obtain ⟨again, asked, hread⟩ := State.postReads_load hasked 128
    exact ⟨_, hread, rfl, rfl⟩

/-- A shard that a swap keeps stands opened beside its record, and is not asked for any more (R373). -/
theorem State.shardOpened_swap (hload : s.weights.load = some l) (hkind : l.kind = .swap) {m : Manifest} {i : Nat}
    (hkeeps : s.keepsShard m i = true) (record bs : Bytes) : s.shardOpened m i record bs = s.updLoad (fun y => { y with
      opened := Table.put none y.opened i (some (chunksOf 128 (bs.length + 1) bs))
      records := Table.put none y.records i (some record)
      again := y.again.filter (fun j => j ≠ i) }) := by
  unfold State.shardOpened
  extract_lets answered
  have hkept : answered.keepsShard m i = true := hkeeps
  rw [if_neg (by simp [hkept]), State.fillWhole_swap (State.updLoad_load (State.updLoad_load hload _) _) hkind, State.updLoad_updLoad]

/-- The bytes of a shard record that a load reads (R373): those of its image in flash, or those that came. -/
def State.recordRead (s : State) (l : Load) (i : Nat) (record : Bytes) : Bytes :=
  ((s.flashImage l).bind (fun f => Table.get none f.records i)).getD record

section
variable {m : Manifest} {i : Nat} (hload : s.weights.load = some l) (hman : l.man = some m) (hi : i < m.shards.length)
include hload hman hi

/-- A record that comes is passed on, and opened where an ingress engine is up (R364, R373). -/
theorem State.takeShard_eq (record : Bytes) : s.takeShard i record =
    if s.ingressUp then
      match openShard l.key m i (s.recordRead l i record) with
      | none => (s.broadcast 2 i (s.recordRead l i record)).shardFailed i
      | some bs => (s.broadcast 2 i (s.recordRead l i record)).shardOpened m i (s.recordRead l i record) bs
    else s.broadcast 2 i (s.recordRead l i record) := by
  simp only [State.takeShard, hload, hman]
  rw [if_neg (by omega)]
  simp only [State.broadcast_ingressUp hload]
  cases s.ingressUp <;> rfl

theorem State.takeShard_down (hdown : s.ingressUp = false) (record : Bytes) :
    s.takeShard i record = s.broadcast 2 i (s.recordRead l i record) := by
  rw [State.takeShard_eq hload hman hi, if_neg (by simp [hdown])]

section
variable (hup : s.ingressUp = true) {record : Bytes}
include hup

/-- A shard whose tag fails is counted (R374). -/
theorem State.takeShard_failed (hopen : openShard l.key m i (s.recordRead l i record) = none) (hfails : Table.get 0 l.fails i < 2)
    (hwf : Table.wf 0 l.fails = true) : ∃ y, (s.takeShard i record).weights.load = some y ∧
      Table.get 0 y.fails i = Table.get 0 l.fails i + 1 ∧ y.opened = l.opened := by
  obtain ⟨_, hsent⟩ := State.broadcast_load hload 2 i (s.recordRead l i record)
  rw [State.takeShard_eq hload hman hi, if_pos hup, hopen]
  obtain ⟨y, hy, hcount, hopened⟩ := State.shardFailed_again hsent hfails
  exact ⟨y, hy, by rw [hcount, Table.get_put_self _ _ _ _ hwf], hopened⟩

/-- A shard whose tag is good is opened, and a swap keeps it with its record (R364, R373). -/
theorem State.takeShard_opened {bs : Bytes} (hkind : l.kind = .swap) (hkeeps : s.keepsShard m i = true)
    (hopen : openShard l.key m i (s.recordRead l i record) = some bs) :
    s.takeShard i record = (s.broadcast 2 i (s.recordRead l i record)).updLoad (fun y => { y with
      opened := Table.put none y.opened i (some (chunksOf 128 (bs.length + 1) bs))
      records := Table.put none y.records i (some (s.recordRead l i record))
      again := y.again.filter (fun j => j ≠ i) }) := by
  obtain ⟨_, hsent⟩ := State.broadcast_load hload 2 i (s.recordRead l i record)
  rw [State.takeShard_eq hload hman hi, if_pos hup, hopen]
  exact State.shardOpened_swap hsent hkind ((State.broadcast_keepsShard hload _ _ _ _ _).trans hkeeps) _ _

end

end

/-- A shard that has not come in time fails, for the third time here (R374). -/
theorem execShardTimeout_third {m : Manifest} {shard : BitVec 20} (hload : s.weights.load = some l) (hman : l.man = some m)
    (hi : shard.toNat < m.shards.length) (hopened : Table.get none l.opened shard.toNat = none) (hfails : Table.get 0 l.fails shard.toNat = 2) :
    ∃ u, execShardTimeout shard s = .next u ∧ u.weights.load = none ∧ u.weights.result = 5 := by
  simp only [execShardTimeout, hload, hman]
  rw [if_neg (by simp [hopened, hi])]
  exact ⟨_, rfl, State.shardFailed_third hload hfails⟩

end

section
variable {s u : State} {l : Load}

/-! ## What the switch does to the sequences -/

theorem Subsides.freshStart (h : Subsides s u) (id epoch : BitVec 64) : Subsides s (u.freshStart id epoch) := by
  unfold State.freshStart
  split
  · exact h
  · refine (h.releaseSets _).updReq id ?_ ?_
    · exact fun _ => rfl
    · exact fun _ hq => hq

theorem Subsides.foldl_freshStart (h : Subsides s u) (epoch : BitVec 64) (rs : List Request) :
    Subsides s (rs.foldl (fun (u : State) r => u.freshStart r.id epoch) u) := .foldl (fun _ _ hu => hu.freshStart _ _) rs h

theorem Subsides.foldl_complete (h : Subsides s u) (reason detail : Nat) (rs : List Request) :
    Subsides s (rs.foldl (fun (u : State) r => u.complete r.id reason detail) u) := .foldl (fun _ _ hu => hu.complete _ _ _) rs h

theorem Subsides.withdrawNodes (h : Subsides s u) : Subsides s u.withdrawNodes := by
  refine .foldl (fun u e hu => ?_) _ h
  split
  · exact .ite hu (.ite (hu.putSet _ _) (hu.putSet _ _))
  · exact hu

/-- A swap's policy does what it does to the sequences alone, and to the load's list of those it crossed (R388, R392). -/
theorem State.policyAtSwitch_keeps (hload : s.weights.load = some l) (policy : Nat) (epoch : BitVec 64) :
    (s.policyAtSwitch policy epoch).clk = s.clk ∧
      ∃ ids, (s.policyAtSwitch policy epoch).weights.load = some { l with crossedNow := ids } := by
  unfold State.policyAtSwitch
  extract_lets old completed ended withdrawn ids marked noted
  have hcompleted : Subsides s completed := Subsides.refl.foldl_complete _ _ _
  have hended : Subsides s ended := hcompleted.foldl_complete _ _ _
  have hkept {v : State} (hv : Subsides s v) : v.clk = s.clk ∧ ∃ ids, v.weights.load = some { l with crossedNow := ids } :=
    ⟨hv.clk, l.crossedNow, (congrArg Weights.load hv.weights).trans hload⟩
  split
  · exact hkept (hended.foldl_freshStart _ _)
  · split
    · have hmarked : Subsides s marked := by
        refine hcompleted.withdrawNodes.mapReqs (fun _ q => ?_) (fun _ q => ?_)
        · split <;> rfl
        · split <;> exact fun hq => hq
      have hnoted : noted.weights.load = some { l with crossedNow := ids } :=
        State.updLoad_load ((congrArg Weights.load hmarked.weights).trans hload) _
      have hclk : noted.clk = s.clk := hmarked.clk
      have hfresh := (Subsides.refl (s := noted)).foldl_freshStart epoch (noted.serve.t.reqs.filter (fun r => r.state = .queued))
      exact ⟨hfresh.clk.trans hclk, ids, (congrArg Weights.load hfresh.weights).trans hnoted⟩
    · exact hkept (hcompleted.foldl_freshStart _ _)

/-! ## An image placed and in service -/

theorem Subsides.placeLine (h : Subsides s u) (place : Nat × Nat) (bs : Bytes) : Subsides s (u.placeLine place bs) :=
  .ite (h.updTile _ _) { h with }

theorem Subsides.placeTensor (h : Subsides s u) {p : Plan} {m : Manifest} {opened : Table (Option (List Bytes))} {t : TensorEntry} {v : State}
    (hplaced : u.placeTensor p m opened t = some v) : Subsides s v := by
  obtain ⟨q, -, rfl⟩ := Option.map_eq_some_iff.mp hplaced
  exact (Subsides.foldl (fun _ e hu => hu.placeLine e.1 e.2) _ h).count _ _

theorem Subsides.placeImage (h : Subsides s u) {p : Plan} {m : Manifest} {opened : Table (Option (List Bytes))} {v : State}
    (hplaced : u.placeImage p m opened = some v) : Subsides s v := by
  have hall : ∀ v, u.placeImage p m opened = some v → Subsides s v :=
    List.foldlRecOn m.tensors _ (motive := fun a => ∀ v, a = some v → Subsides s v) (fun v hv => Option.some.inj hv ▸ h)
      fun a ha t _ v hv => by
        obtain ⟨w, hw, hv⟩ := Option.bind_eq_some_iff.mp hv
        exact (ha w hw).placeTensor hv
  exact hall v hplaced

theorem Subsides.writeImageKeys (h : Subsides s u) (p : Plan) (m : Manifest) : Subsides s (u.writeImageKeys p m) :=
  .foldl (fun _ _ hu => .foldl (fun _ _ hv => hv.updTile _ _) _ hu) _ h

theorem Subsides.recordFill (h : Subsides s u) (p : Plan) (epoch : BitVec 64) : Subsides s (u.recordFill p epoch) := by
  refine .foldl (fun u r hu => ?_) _ h
  exact { hu with }

theorem State.nameResume_weights (s : State) (step : Nat) : (s.nameResume step).weights = s.weights := by
  unfold State.nameResume
  split
  · rfl
  · split
    · rfl
    · split
      · unfold State.nameStake
        extract_lets
        split
        · exact (Subsides.refl.sendWords _ _).weights
        · rfl
      · unfold State.resumeAt
        extract_lets
        split
        · exact (Subsides.refl.sendWords _ _).weights
        · rfl

theorem State.afterRefill_weights (s : State) : s.afterRefill.weights = s.weights := by
  unfold State.afterRefill
  split
  · exact s.nameResume_weights _
  · rfl

end

section
variable {s : State} {l : Load}

/-! ## The commands of a swap -/

theorem execSwapRequest_begins {value : Bytes} (hlength : value.length = 48) (hok : sourceOk (parseSource false value) = true)
    (hpolicy : (parseSource false value).policy ≤ 2) (hflags : (parseSource false value).flags ≤ 1)
    (htarget : (parseSource false value).targetSlot ≤ 7) (hbusy : s.loadBusy = false) (hplan : s.boot.plan ≠ none)
    (hkind : (parseSource false value).kind = 0) (hslot : Table.get none s.weights.slots (parseSource false value).slot ≠ none) :
    execSwapRequest value s = .next ((s.startStaging (parseSource false value)).answer 0) := by
  rw [execSwapRequest, if_neg (not_not.mpr hlength), State.swapRequest, if_neg (by simp [hok, hpolicy, hflags, htarget]),
    if_neg (by simp [hbusy]), if_neg (by simp [hplan, hkind, hslot])]

theorem State.swapCancel_swapping (hswapping : s.swapping = true) : s.swapCancel 1 = (s.endAs .swap 8).answer 0 := by
  rw [State.swapCancel, if_neg (by simp), if_neg (by simp [hswapping])]
  unfold State.swapping at hswapping
  split at hswapping
  next y hload =>
    have hkind : y.kind = .swap := by simpa using (Bool.and_eq_true_iff.mp hswapping).1
    rw [State.endLoad_loading hload, hkind]
  next => cases hswapping

/-- The switch stroke that staging names (R387): the one asked for, unless the earliest that the lead allows is later. -/
def State.switchStroke (s : State) (r : SourceRecord) : Nat :=
  if r.stroke = 0 || laterMod 48 (s.clk.stroke.toNat + s.dictNat 0x230007) r.stroke then
    (s.clk.stroke + BitVec.ofNat 48 (s.dictNat 0x230007)).toNat
  else r.stroke

/-- The state once staging is complete and the switch stroke is named (R387). -/
def State.stagingEnded (s : State) (r : SourceRecord) : State :=
  let s' := s.updLoad (fun y => { y with staged := true, stagedMs := s.ms, switchAt := some (s.switchStroke r) })
  { s' with weights := { s'.weights with state := 4, swapStroke := s.switchStroke r } }

theorem execStagingComplete_names {r : SourceRecord} (hload : s.weights.load = some l) (hsrc : l.src = some r) (hkind : l.kind = .swap)
    (hstaged : l.staged = false) (hcomplete : s.loadComplete l = true) (hgood : s.stagedBad l r = false) :
    ∃ u, execStagingComplete s = .next u ∧ u.weights = (s.stagingEnded r).weights := by
  simp only [execStagingComplete, hload, hsrc]
  rw [if_neg (by simp [hkind, hstaged, hcomplete]), if_neg (by simp [hgood])]
  change ∃ u, (if r.policy = 0 then Host.Outcome.next (s.stagingEnded r)
    else if (s.stagingEnded r).clk.running then .next ((s.stagingEnded r).nameEasyAll 2 true (some (BitVec.ofNat 48 (s.switchStroke r))))
    else .next (s.stagingEnded r)) = .next u ∧ _
  generalize s.stagingEnded r = ended
  split
  · exact ⟨_, rfl, rfl⟩
  · split
    · exact ⟨_, rfl, State.nameEasyAll_weights _ _ _ _⟩
    · exact ⟨_, rfl, rfl⟩

/-- The switch of a swap whose moment has come halts strokes and begins the refill (R388, R389). -/
theorem execSwapSwitch_due {r : SourceRecord} {m : Manifest} {n : Nat} (hload : s.weights.load = some l) (hsrc : l.src = some r)
    (hman : l.man = some m) (hswitch : l.switchAt = some n) (hstaged : l.staged = true) (hrefilling : l.refilling = false)
    (hdue : if r.policy = 0 then ∀ q ∈ s.serve.t.reqs, q.active = false
      else s.clk.running = false ∨ laterMod 48 n (s.clk.stroke + 1).toNat = false) :
    ∃ u, execSwapSwitch s = .next u ∧ u.weights.state = 5 ∧ u.clk.running = false ∧
      ∃ y, u.weights.load = some y ∧ y.refilling = true ∧ y.man = some m := by
  obtain ⟨v, hhalt, hrunning, hv⟩ := s.haltFor_due 2 (if r.policy = 0 then none else some n) (by
    split at hdue
    next hpolicy => exact .inr fun k hk => by simp [hpolicy] at hk
    next hpolicy =>
      refine hdue.imp_right fun hnot k hk => ?_
      rw [if_neg hpolicy] at hk
      obtain rfl := Option.some.inj hk
      exact hnot)
  have hbusy : (decide (r.policy = 0) && s.serve.t.reqs.any (fun q => q.active)) = false := by
    split at hdue
    next hpolicy => simpa [hpolicy] using hdue
    next hpolicy => simp [hpolicy]
  have hloaded : v.weights.load = some l := by rw [hv, hload]
  simp only [execSwapSwitch, hload, hsrc, hman, hswitch, hhalt]
  rw [if_neg (by simp [hstaged, hrefilling, hbusy])]
  obtain ⟨w, ids, hw, hclk, hwload⟩ : ∃ (w : State) (ids : List (BitVec 64)),
      (if v.weights.epoch = 0 then v else v.policyAtSwitch r.policy m.epoch) = w ∧ w.clk.running = false ∧
        w.weights.load = some { l with crossedNow := ids } := by
    split
    · exact ⟨v, l.crossedNow, rfl, hrunning, hloaded⟩
    · obtain ⟨hclk, ids, hids⟩ := State.policyAtSwitch_keeps hloaded r.policy m.epoch
      exact ⟨_, ids, rfl, (congrArg StrokeClock.running hclk).trans hrunning, hids⟩
  rw [hw]
  exact ⟨_, rfl, rfl, hclk, _, State.updLoad_load hwload _, rfl, hman⟩

theorem execDrainTimeout_drains {r : SourceRecord} (hload : s.weights.load = some l) (hsrc : l.src = some r) (hpolicy : r.policy = 0)
    (hstaged : l.staged = true) (hrefilling : l.refilling = false) (hlimit : s.dictNat 0x230008 ≠ 0) :
    ∃ u, execDrainTimeout s = .next u ∧ ∀ q ∈ u.serve.t.reqs, q.active = false := by
  simp only [execDrainTimeout, hload, hsrc]
  rw [if_neg (by simp [hpolicy, hstaged, hrefilling, hlimit])]
  exact ⟨_, rfl, State.idle_foldl_complete _ 4 0⟩

/-! ## The refill -/

section
variable {r : SourceRecord} {m : Manifest} {p : Plan} (hload : s.weights.load = some l) (hsrc : l.src = some r) (hman : l.man = some m)
  (hrefilling : l.refilling = true) (hplan : s.boot.plan = some p)
include hload hsrc hman hrefilling hplan

/-- A refill that fails ends the swap with its result, and the epoch in service stays (R386, R389). -/
theorem execSwitchRefillComplete_fails {failed : Bool} {code : Nat}
    (hcode : (failed = true ∧ code = 9) ∨ (failed = false ∧ s.placeImage p m l.opened = none ∧ code = 7)) :
    ∃ u, execSwitchRefillComplete failed s = .next u ∧ u.weights.load = none ∧ u.weights.result = code ∧
      u.weights.epoch = s.weights.epoch := by
  obtain ⟨v, hv, heq⟩ : ∃ v : State, v.weights = s.weights ∧ execSwitchRefillComplete failed s = .next (v.endLoad code).afterRefill := by
    have hback : (match s.weights.copyMan with
        | some m' => (s.placeImage p m' s.weights.copy).getD s
        | none => s).weights = s.weights := by
      split
      next m' _ =>
        cases hplaced : s.placeImage p m' s.weights.copy with
        | none => rfl
        | some v => exact (Subsides.refl.placeImage hplaced).weights
      next => rfl
    simp only [execSwitchRefillComplete, hload, hsrc, hman, hplan]
    rw [if_neg (by simp [hrefilling])]
    obtain ⟨rfl, rfl⟩ | ⟨rfl, hplaced, rfl⟩ := hcode
    · exact ⟨State.updTables _ _, hback, rfl⟩
    · simp only [hplaced]
      exact ⟨State.updTables _ _, hback, rfl⟩
  refine ⟨_, heq, ?_⟩
  rw [State.afterRefill_weights, State.endLoad_loading (by rw [hv, hload]), State.endAs_weights, hv]
  exact ⟨rfl, rfl, rfl⟩

/-- A refill that places every tensor puts the image in service (R389, R394). -/
theorem execSwitchRefillComplete_serves {s1 : State} (hplaced : s.placeImage p m l.opened = some s1) :
    ∃ u, execSwitchRefillComplete false s = .next u ∧ u.weights.load = none ∧ u.weights.result = 0 ∧
      u.weights.newEpoch = some (m.epoch, m.imageId) ∧ u.weights.copyMan = some m ∧ u.weights.roundingKey = m.roundingKey := by
  obtain ⟨v, committing, hv, heq⟩ : ∃ (v : State) (committing : Option (Nat × Image)),
      v.weights = { (s1.imageIn p m l).weights with load := none, result := 0, swapStroke := 0, committing := committing } ∧
        execSwitchRefillComplete false s = .next v.afterRefill := by
    simp only [execSwitchRefillComplete, hload, hsrc, hman, hplan, hplaced]
    rw [if_neg (by simp [hrefilling]), if_neg (by simp)]
    have hfilled := ((Subsides.refl (s := s1.imageIn p m l)).recordFill p m.epoch).weights
    generalize (s1.imageIn p m l).recordFill p m.epoch = filled at hfilled
    refine ⟨_, if r.flags % 2 = 1 then some (r.targetSlot, { man := m, records := l.records }) else filled.weights.committing, ?_, rfl⟩
    rw [← hfilled]
    exact (Subsides.refl.event _ _ _).weights
  refine ⟨_, heq, ?_⟩
  rw [State.afterRefill_weights, hv]
  exact ⟨rfl, rfl, rfl, rfl, rfl⟩

end

/-! ## The swap -/

theorem execSlotCommitComplete_commits {k : Nat} {img : Image} (hcommitting : s.weights.committing = some (k, img))
    (hepoch : s.weights.newEpoch = none) :
    ∃ u, execSlotCommitComplete s = .next u ∧
      u.weights = { s.weights with committing := none, slots := Table.put none s.weights.slots k (some img) } := by
  simp only [execSlotCommitComplete, hcommitting]
  rw [if_neg (by simp [hepoch])]
  exact ⟨_, rfl, rfl⟩

end

/-- Settles O37: each clause follows from what its command does. A failed load of any other kind also ends with its result, so the third failure of
a shard needs no premise on the kind of the load. -/
theorem weightSwap : Obligations.WeightSwap := by
  intro s value r m l shard record got n k p s1 img asked i lead earliest atStroke loading held
  refine ⟨fun hlength hok hpolicy hflags htarget hbusy hplan hkind hslot =>
      ⟨_, execSwapRequest_begins hlength hok hpolicy hflags htarget hbusy hplan hkind hslot, rfl, rfl, rfl, rfl⟩,
    fun hlength => ⟨_, if_pos hlength, rfl⟩, fun hswapping => ?_, fun hload hman hkind hin => ?_, fun hload hman hkind hgot => ?_,
    fun hload hman hi hkind hup hkeeps hfails hwf => ?_, fun hload hman hi hdown => ?_, fun hload hman hi hopened hfails => ?_,
    fun hload hsrc hkind hstaged hcomplete hgood => ?_, fun hload hsrc hman hswitch hstaged hrefilling hdue => ?_,
    fun hload hsrc hpolicy hstaged hrefilling hlimit => ?_, fun hload hsrc hman hrefilling hplan => ⟨?_, fun hplaced => ?_, fun hplaced => ?_⟩,
    fun hcommitting hepoch hwf => ?_⟩
  · exact ⟨_, congrArg Host.Outcome.next (State.swapCancel_swapping hswapping), rfl, s.endAs_ends .swap 8⟩
  · refine ⟨_, rfl, ?_⟩
    split
    next hfault => exact State.takeManifest_accepted hload hman hkind hin hfault
    next c hfault =>
      obtain ⟨hended, hresult, -, htiles⟩ := s.endAs_ends .swap c
      rw [State.takeManifest_refused hload hman hkind hin hfault]
      exact ⟨hended, hresult, htiles⟩
  · obtain ⟨hended, hresult, -, htiles⟩ := s.endAs_ends .swap 1
    exact ⟨_, congrArg Host.Outcome.next (State.takeManifest_unread hload hman hkind hgot), hended, hresult, htiles⟩
  · refine ⟨_, rfl, ?_⟩
    split
    next bs hopen => exact State.takeShard_opened hload hman hi hup hkind hkeeps hopen
    next hopen => exact State.takeShard_failed hload hman hi hup hopen hfails hwf
  · exact ⟨_, congrArg Host.Outcome.next (State.takeShard_down hload hman hi hdown record), rfl⟩
  · exact execShardTimeout_third hload hman hi hopened hfails
  · obtain ⟨u, hexec, hu⟩ := execStagingComplete_names hload hsrc hkind hstaged hcomplete hgood
    refine ⟨u, hexec, ?_⟩
    beta_reduce
    rw [hu]
    exact ⟨rfl, rfl, State.updLoad_load hload _⟩
  · exact execSwapSwitch_due hload hsrc hman hswitch hstaged hrefilling hdue
  · exact execDrainTimeout_drains hload hsrc hpolicy hstaged hrefilling hlimit
  · exact execSwitchRefillComplete_fails hload hsrc hman hrefilling hplan (.inl ⟨rfl, rfl⟩)
  · exact execSwitchRefillComplete_serves hload hsrc hman hrefilling hplan hplaced
  · exact execSwitchRefillComplete_fails hload hsrc hman hrefilling hplan (.inr ⟨rfl, hplaced, rfl⟩)
  · obtain ⟨u, hexec, hu⟩ := execSlotCommitComplete_commits hcommitting hepoch
    refine ⟨u, hexec, ?_⟩
    beta_reduce
    rw [hu]
    exact ⟨rfl, Table.get_put_self _ _ _ _ hwf, fun j hj => Table.get_put_ne _ _ _ _ _ hj⟩

end Sys2Proof.Machine

/-! # Adapters -/

namespace Sys2Proof.Machine

section
variable {s : State}

theorem State.imageFrom_slot {r : SourceRecord} {i : Image} (hkind : r.kind = 0) (hslot : Table.get none s.weights.slots r.slot = some i)
    (b : Bytes) : s.imageFrom r (some b) = some i := by
  simp [State.imageFrom, hkind, hslot]

/-- A registration of an image in a flash slot is refused with its code, or joins the list (R380). -/
theorem State.adapterRegister_slot {r : SourceRecord} {i : Image} (hok : sourceOk r = true) (hkind : r.kind = 0)
    (hslot : Table.get none s.weights.slots r.slot = some i) (hroom : s.weights.adapters.length < 1024)
    (hfresh : ∀ x ∈ s.weights.adapters, x.id ≠ i.man.adapterId) (b : Bytes) : s.adapterRegister r (some b) =
      { s with
        istatus := 0
        weights := match s.adapterFault r i.man with
          | some c => { s.weights with result := c }
          | none => { s.weights with
            result := 0
            adapters := s.weights.adapters ++
              [{ id := i.man.adapterId, epoch := i.man.epoch, rank := i.man.adapterRank, image := some i }] } } := by
  have himage : (s.answer 0).imageFrom r (some b) = some i := State.imageFrom_slot hkind hslot b
  have hfault : (s.answer 0).adapterFault r i.man = s.adapterFault r i.man := rfl
  have hnew : (s.answer 0).weights.adapters.any (fun a => decide (a.id = i.man.adapterId)) = false := by simpa [State.answer] using hfresh
  unfold State.adapterRegister
  rw [if_neg (by simp [hok]), if_neg (by simp [hslot, hkind, hroom])]
  simp only [himage, hfault]
  cases s.adapterFault r i.man with
  | some c => rfl
  | none => exact if_neg (by simp [hnew])

/-- An adapter that no request names but parked ones leaves the list (R384). -/
theorem State.adapterUnregister_unnamed {id : Word} (hid : id ≠ 0) (hlisted : ∃ a ∈ s.weights.adapters, a.id = id)
    (hparked : ∀ q ∈ s.serve.t.reqs, q.adapter = id → q.state = .parked) :
    ∃ v : State, s.adapterUnregister id = v.answer 0 ∧
      v.weights = { s.weights with adapters := s.weights.adapters.filter (fun a => a.id ≠ id) } := by
  unfold State.adapterUnregister
  rw [if_neg hid, if_neg (by simpa using ⟨hlisted, hparked⟩)]
  extract_lets weights listed cut
  have hcut : Subsides listed cut := by
    refine .foldl (fun u e hu => ?_) _ .refl
    split
    · exact .ite (hu.putSet _ _) hu
    · exact hu
  exact ⟨_, rfl, (Subsides.foldl (fun _ r hu => hu.discardEntry r.id) _ hcut).weights⟩

/-- Where the limit and the area leave room, no resident adapter makes way (R381). -/
theorem adapterRoom_free {limit area size : Nat} {resident : List Adapter} (hlimit : resident.length < limit)
    (harea : size + resident.foldl (fun n a => n + a.size) 0 ≤ area) (victims : List Adapter) :
    adapterRoom limit area size resident victims = some [] := by
  cases victims <;> simp [adapterRoom, hlimit, harea]

/-- A wanted adapter for which there is room becomes resident once its shards open, and no other changes (R381, log entry 59). -/
theorem execAdapterResident_room {id : Word} {a : Adapter} (hwanted : ∃ q ∈ s.serve.t.reqs, q.state = .queued ∧ q.adapter = id)
    (hfind : s.weights.adapters.find? (fun x => x.id = id && !x.resident) = some a)
    (hlimit : (s.weights.adapters.filter (fun a => a.resident)).length < min 256 (s.dictNat 0x313003))
    (harea : a.size + (s.weights.adapters.filter (fun a => a.resident)).foldl (fun n a => n + a.size) 0 ≤ s.adapterArea) :
    ∃ u, execAdapterResident id s = .next u ∧ u.serve = s.serve ∧ u.weights.adapters = match s.adapterOpened a with
      | none => s.weights.adapters
      | some t => s.weights.adapters.map (fun x => if x.id = id then { x with resident := true, used := s.now + 1, opened := t } else x) := by
  unfold execAdapterResident
  simp only [hfind, adapterRoom_free hlimit harea]
  rw [if_neg (by simpa using hwanted)]
  cases s.adapterOpened a with
  | none => exact ⟨s, rfl, rfl, rfl⟩
  | some t => exact ⟨_, rfl, rfl, rfl⟩

end

/-- Settles O38: each clause follows from what its command does. -/
theorem adapters : Obligations.Adapters := by
  intro s value b i a id w r
  refine ⟨fun hlength => ⟨_, if_pos hlength, rfl⟩, fun hlength hok hkind hslot hroom hfresh => ?_, fun hid hlisted hparked => ?_,
    execAdapterResident_room⟩
  · exact ⟨_, if_neg (not_not.mpr hlength), State.adapterRegister_slot hok hkind hslot hroom hfresh b⟩
  · obtain ⟨v, heq, hv⟩ := State.adapterUnregister_unnamed hid hlisted hparked
    refine ⟨_, congrArg Host.Outcome.next heq, rfl, ?_⟩
    exact congrArg Weights.adapters hv

end Sys2Proof.Machine

/-! # The request table of the token service -/

namespace Sys2Proof.Machine

/-! ## What leaves the request table alone -/

/-- From `s` to `u` the request table and the moves under way stand, and the connections are canonical still. -/
structure Spares (s u : State) : Prop where
  reqs : u.serve.t.reqs = s.serve.t.reqs
  moves : u.serve.moves = s.serve.moves
  conns : Table.wf none s.serve.conns = true → Table.wf none u.serve.conns = true

section
variable {s : State}

theorem Spares.refl : Spares s s := ⟨rfl, rfl, id⟩

theorem Spares.ite {c : Prop} [Decidable c] {u v : State} (hu : Spares s u) (hv : Spares s v) : Spares s (if c then u else v) := by
  split <;> assumption

theorem Spares.foldl {β : Type} {f : State → β → State} (hf : ∀ u b, Spares s u → Spares s (f u b)) (l : List β) {u : State}
    (h : Spares s u) : Spares s (l.foldl f u) :=
  List.foldlRecOn l f h fun u hu b _ => hf u b hu

variable {u : State} (h : Spares s u)
include h

theorem Spares.req (id : BitVec 64) : u.req id = s.req id := by
  rw [State.req, State.req, h.reqs]

theorem Spares.useFree (n : Nat) : Spares s (u.useFree n) := { h with }

theorem Spares.count (key n : Nat) : Spares s (u.count key n) := { h with }

theorem Spares.histAdd (k bin : Nat) : Spares s (u.histAdd k bin) := { h with }

theorem Spares.putSlot (k : Nat) (v : SlotState) : Spares s (u.putSlot k v) := { h with }

theorem Spares.putSet (n : Nat) (p : Option PageSet) : Spares s (u.putSet n p) := { h with }

theorem Spares.updPasses (f : List Pass → List Pass) : Spares s (u.updTables (fun t => { t with passes := f t.passes })) := { h with }

theorem Spares.setConn (tag : Nat) (c : Option Conn) : Spares s (u.setConn tag c) :=
  { h with conns := fun hwf => Table.wf_put _ _ _ _ (h.conns hwf) }

theorem Spares.advanceTo (m : Nat) : Spares s (u.advanceTo m) := .ite h { h with }

theorem Spares.sendMsg (tag : Nat) (m : OutMsg) : Spares s (u.sendMsg tag m) := by
  unfold State.sendMsg
  split
  · exact .ite (h.setConn _ _) h
  · exact h

theorem Spares.notice (tag : Nat) (id : BitVec 64) (turn : BitVec 16) (status detail : Nat) :
    Spares s (u.notice tag id turn status detail) := (h.useFree 1).sendMsg _ _

theorem Spares.sendMoved (r : Request) (serial : BitVec 128) (result : Nat) : Spares s (u.sendMoved r serial result) := h.sendMsg _ _

theorem Spares.sendCompletion (r : Request) (reason detail : Nat) (late retained : Bool) :
    Spares s (u.sendCompletion r reason detail late retained) :=
  ((((Spares.ite (h.useFree 1) h).histAdd _ _).histAdd _ _).count _ _).sendMsg _ _

theorem Spares.releaseSets (ns : List Nat) : Spares s (u.releaseSets ns) := by
  refine .foldl (fun u n hu => ?_) ns h
  unfold State.releaseSet
  split
  · exact hu
  · exact .ite (hu.putSet _ _) (hu.putSet _ _)

theorem Spares.takeNode (n : Nat) : Spares s (u.takeNode n) := by
  unfold State.takeNode
  split
  · exact { h with }
  · exact h

theorem Spares.giveUpSlot (r : Request) (sets : List Nat) : Spares s (u.giveUpSlot r sets) := by
  unfold State.giveUpSlot
  split
  · exact (h.updPasses _).releaseSets sets
  · exact .ite ((h.updPasses _).putSlot _ _) (((h.updPasses _).putSlot _ _).releaseSets sets)

end

/-! ## The entry that an update leaves -/

section
variable {s : State} {id : BitVec 64} {q r : Request}

theorem State.req_setReq (hreq : s.req id = some q) (hid : r.id = q.id) : (s.setReq r).req id = some r := by
  obtain rfl := State.req_id hreq
  have hkeeps : (fun x : Request => decide (x.id = q.id)) ∘ (fun x => if x.id = r.id then r else x) = fun x => decide (x.id = q.id) := by
    funext x
    by_cases hx : x.id = q.id <;> simp [hx, hid]
  change List.find? _ (List.map _ _) = _
  rw [List.find?_map, hkeeps, show s.serve.t.reqs.find? _ = some q from hreq]
  simp [hid]

theorem State.req_updReq (id' : BitVec 64) {f : Request → Request} (hid : ∀ x, (f x).id = x.id) :
    (s.updReq id' f).req id = (s.req id).map (fun x => if x.id = id' then f x else x) := by
  have hkeeps : (fun x : Request => decide (x.id = id)) ∘ (fun x => if x.id = id' then f x else x) = fun x => decide (x.id = id) := by
    funext x
    by_cases hx : x.id = id' <;> simp [hx, hid]
  change List.find? _ (List.map _ _) = _
  rw [List.find?_map, hkeeps]
  rfl

theorem State.req_updReq_self {f : Request → Request} (hid : ∀ x, (f x).id = x.id) (hreq : s.req id = some q) :
    (s.updReq id f).req id = some (f q) := by
  rw [State.req_updReq id hid, hreq, Option.map_some, if_pos (State.req_id hreq)]

theorem State.req_dropReq_self : (s.dropReq id).req id = none :=
  List.find?_eq_none.mpr fun q hmem => by simpa using List.of_mem_filter hmem

theorem State.req_dropReq_none (id' : BitVec 64) (hreq : s.req id = none) : (s.dropReq id').req id = none :=
  List.find?_eq_none.mpr fun q hmem => List.find?_eq_none.mp hreq q (List.mem_of_mem_filter hmem)

theorem State.req_setReq_joinQueue (hreq : s.req id = some q) (hid : r.id = q.id) (cls : Nat) :
    ((s.setReq r).joinQueue id cls).req id =
      some { r with state := .queued, cls := cls, joined := s.now, clsMs := s.ms, firstEntry := none, firstCommit := none } := by
  have hset := State.req_setReq hreq hid
  simp only [State.joinQueue, hset]
  rw [(Spares.refl.notice _ _ _ _ _).req]
  exact State.req_setReq hset rfl

end

end Sys2Proof.Machine

/-! # Messages of the token service -/

namespace Sys2Proof.Machine

/-! ## The connection that takes a message -/

section
variable {s v : State} {a : Arrival}

theorem leNat_lt (bs : Bytes) : leNat bs < 256 ^ bs.length := by
  induction bs with
  | nil => exact Nat.one_pos
  | cons b bs ih =>
    have hb : b.toNat < 256 := b.isLt
    rw [leNat, List.length_cons, Nat.pow_succ]
    omega

theorem arrivedTag_eq (a : Arrival) : arrivedTag a = leNat ((a.unit.drop 6).take 2) := by
  have hlt : leNat ((a.unit.drop 6).take 2) < 256 ^ 2 :=
    (leNat_lt _).trans_le (Nat.pow_le_pow_right (by decide) (List.length_take_le _ _))
  exact Nat.mod_eq_of_lt hlt

/-- A message that its connection takes has its effect there (R421, R424, R425). -/
theorem State.acceptMsg_opened {type length : Nat} (hopened : s.opened a type length = some v) (f : State → State) :
    s.acceptMsg a type length f = f v := by
  unfold State.opened at hopened
  split at hopened
  next hgood =>
    obtain ⟨hlistens, hheader⟩ := Bool.and_eq_true_iff.mp hgood
    obtain ⟨taken, htaken, hbound⟩ := Option.bind_eq_some_iff.mp hopened
    simp [State.acceptMsg, hlistens, hheader, htaken, hbound]
  next => cases hopened

/-! No time passes while a message is taken. -/

theorem State.reopen_now (s : State) (tag : Nat) : (s.reopen tag).now = s.now :=
  s.foldl_now _ (fun u _ => (State.updReq_now ..).trans (u.foldl_now _ (fun _ _ => State.sendMsg_now ..) _)) _

theorem State.pfcBuffer_now (s : State) (k : Nat) : (s.pfcBuffer k).now = s.now := by
  refine s.foldl_now _ (fun u p => ?_) _
  dsimp only
  split
  · rfl
  · split
    · rfl
    · split <;> rfl

theorem State.takeUnit_now {bad : Bool} (htaken : s.takeUnit a bad = some v) : v.now = s.now := by
  unfold State.takeUnit at htaken
  split at htaken
  · split at htaken
    · cases htaken
    · rw [← Option.some.inj htaken]
  · rw [← Option.some.inj htaken]
    split
    · unfold State.takeSend
      split
      · rfl
      · exact State.pfcBuffer_now _ _
    · rfl

theorem State.bindMsg_now (hbound : s.bindMsg a = some v) : v.now = s.now := by
  unfold State.bindMsg at hbound
  extract_lets tag other at hbound
  split at hbound
  · cases hbound
  · split at hbound
    · split at hbound
      · split at hbound
        · rw [← Option.some.inj hbound]; rfl
        · cases hbound
      · split at hbound
        · cases hbound
        · rw [← Option.some.inj hbound]
          exact State.reopen_now _ _
    · split at hbound
      · rw [← Option.some.inj hbound]; rfl
      · cases hbound

theorem State.opened_now {type length : Nat} (hopened : s.opened a type length = some v) : v.now = s.now := by
  unfold State.opened at hopened
  split at hopened
  · obtain ⟨taken, htaken, hbound⟩ := Option.bind_eq_some_iff.mp hopened
    exact (State.bindMsg_now hbound).trans (State.takeUnit_now htaken)
  · cases hopened

end

/-! ## The checks of an admission -/

section
variable {s u : State} {m : RequestMsg} {ts : List Word} {total : Nat}

/-- A message with its whole prompt, in one part (R430, R431). -/
structure WholePrompt (m : RequestMsg) : Prop where
  offset : m.promptOffset = 0
  count : m.promptCount = m.promptTotal
  tokens : m.tokens.length = m.promptCount
  nonzero : m.promptCount ≠ 0

/-- The part ends where the prompt does. -/
theorem WholePrompt.within (h : WholePrompt m) : ¬ m.promptTotal < m.promptOffset + m.promptCount := by
  simp [h.offset, h.count]

theorem State.admitCheck_eq_none : s.admitCheck m ts total = none ↔ s.boot.plan ≠ none ∧ s.noImage = false ∧
    s.queueLen < s.dictNat 0x301003 ∧ fieldsOk m = true ∧
    (ts ++ m.stopIds.take m.stopCount).all (fun t => decide (t.toNat < s.weights.vocab)) = true ∧ total < s.contextLimit ∧
    s.adapterUsable m.adapter = true := by
  have hite {c : Prop} [Decidable c] {d : Nat} {e : Option Nat} : (if c then some d else e) = none ↔ ¬ c ∧ e = none := by
    split <;> simp [*]
  simp only [State.admitCheck, hite]
  simp [and_assoc]

/-- What an admission passes is passed with no more requests in the queue (R403). -/
theorem State.admitCheck_of_queueLen_le (hboot : u.boot = s.boot) (hweights : u.weights = s.weights) (hdict : u.dict = s.dict)
    (hqueue : u.queueLen ≤ s.queueLen) (hpasses : s.admitCheck m ts total = none) : u.admitCheck m ts total = none := by
  rw [State.admitCheck_eq_none] at hpasses ⊢
  rw [State.dictNat, State.noImage, State.contextLimit, State.adapterUsable, hboot, hweights, hdict]
  obtain ⟨hplan, himage, hroom, hrest⟩ := hpasses
  exact ⟨hplan, himage, hqueue.trans_lt hroom, hrest⟩

theorem State.plan_of_admitCheck (hpasses : s.admitCheck m ts total = none) : s.boot.plan ≠ none :=
  (State.admitCheck_eq_none.mp hpasses).1

theorem State.requestId_of_admitCheck (hpasses : s.admitCheck m ts total = none) : m.requestId ≠ 0 := by
  obtain ⟨_, _, _, hfields, _⟩ := State.admitCheck_eq_none.mp hpasses
  intro hid
  simp [fieldsOk, hid] at hfields

/-- An entry that is not queued does not lengthen the queue by taking another's place. -/
theorem State.queueLen_setReq_le {r : Request} (hstate : r.state ≠ .queued) : (s.setReq r).queueLen ≤ s.queueLen := by
  change (List.filter _ (List.map _ _)).length ≤ (List.filter _ _).length
  rw [← List.countP_eq_length_filter, ← List.countP_eq_length_filter, List.countP_map]
  refine List.countP_mono_left fun x _ hx => ?_
  by_cases hid : x.id = r.id
  · simp [hid, hstate] at hx
  · simpa [hid] using hx

theorem partsLen_whole (ts : List Word) : partsLen [(0, ts)] = ts.length := by simp [partsLen]

theorem joinParts_whole (ts : List Word) : joinParts [(0, ts)] = ts := by simp [joinParts, sortBy, sortBy.insertByR]

end

/-! ## REQUEST -/

section
variable {s v : State} {a : Arrival} {m : RequestMsg}

theorem State.restoreFloor_kept (hfloor : s.dictNat 0x301004 + 1 ≤ s.freeEntries) (n : Nat) : s.restoreFloor n = s := by
  cases n with
  | zero => rfl
  | succ n => rw [State.restoreFloor, if_pos hfloor]

/-- A request whose one part is its whole prompt joins the queue once it is checked (R403, R431). -/
theorem State.req_partsDone {id : BitVec 64} {r : Request} {ts : List Word} (hreq : s.req id = some r) (hpar : r.par = some m)
    (hparts : r.parts = [(0, ts)]) (hlength : ts.length = m.promptTotal) (hpasses : s.admitCheck m ts m.promptTotal = none) :
    (s.partsDone id).req id = some { r with
      parts := [], tokens := ts, promptEnd := ts.length, state := .queued, cls := m.cls, joined := s.now, clsMs := s.ms, firstEntry := none,
      firstCommit := none } := by
  simp only [State.partsDone, hreq, hpar, hparts, partsLen_whole, joinParts_whole, hpasses]
  rw [if_neg hlength.not_lt]
  exact State.req_setReq_joinQueue hreq (by rfl) m.cls

/-- The entry of a request as its first part makes it (R431). -/
def requestEntry (m : RequestMsg) (tag ms : Nat) : Request :=
  { id := m.requestId, tag := tag, par := some { m with tokens := [] }, parts := [(m.promptOffset, m.tokens)], partsMs := ms, cls := m.cls }

/-- The state with one more entry in the request table. -/
def State.addReq (s : State) (r : Request) : State := s.updTables (fun t => { t with reqs := t.reqs ++ [r] })

theorem State.req_addReq {r : Request} (hnew : s.req r.id = none) : (s.addReq r).req r.id = some r := by
  change List.find? _ (s.serve.t.reqs ++ [r]) = _
  rw [List.find?_append, show s.serve.t.reqs.find? _ = none from hnew]
  simp

theorem State.queueLen_addReq {r : Request} (hstate : r.state ≠ .queued) : (s.addReq r).queueLen = s.queueLen := by
  simp [State.addReq, State.queueLen, hstate]

/-- A new request that passes every check takes an entry, and its parts are looked at (R403). -/
theorem State.takeRequest_enters (tag : Nat) (hnew : s.req m.requestId = none) (hfloor : s.dictNat 0x301004 + 1 ≤ s.freeEntries)
    (hfree : s.freeEntries ≠ 0) (hwhole : WholePrompt m) (hpasses : s.admitCheck m m.tokens m.promptTotal = none) :
    s.takeRequest tag m = (s.addReq (requestEntry m tag s.ms)).partsDone m.requestId := by
  have hplan := State.plan_of_admitCheck hpasses
  have hid := State.requestId_of_admitCheck hpasses
  simp only [State.takeRequest, hnew, s.restoreFloor_kept hfloor]
  rw [ite_self, if_neg (by simp [hplan]), if_neg hfree, if_neg (by simpa [hwhole.nonzero, hwhole.within] using hid)]
  rfl

/-- A whole request that passes every check is queued (R403, R404). -/
theorem State.takeRequest_queues (tag : Nat) (hnew : s.req m.requestId = none) (hfloor : s.dictNat 0x301004 + 1 ≤ s.freeEntries)
    (hfree : s.freeEntries ≠ 0) (hwhole : WholePrompt m) (hpasses : s.admitCheck m m.tokens m.promptTotal = none) :
    ∃ q, (s.takeRequest tag m).req m.requestId = some q ∧ q.state = .queued ∧ q.tokens = m.tokens ∧ q.cls = m.cls ∧ q.joined = s.now ∧
      q.tag = tag := by
  have hentry : (s.addReq (requestEntry m tag s.ms)).req m.requestId = some (requestEntry m tag s.ms) := State.req_addReq hnew
  have hqueue : (s.addReq (requestEntry m tag s.ms)).queueLen = s.queueLen := State.queueLen_addReq (by simp [requestEntry])
  have hchecked := State.admitCheck_of_queueLen_le (s := s) (u := s.addReq (requestEntry m tag s.ms)) rfl rfl rfl hqueue.le hpasses
  rw [State.takeRequest_enters tag hnew hfloor hfree hwhole hpasses]
  exact ⟨_, State.req_partsDone hentry rfl (by rw [requestEntry, hwhole.offset]) (hwhole.tokens.trans hwhole.count) hchecked,
    rfl, rfl, rfl, rfl, rfl⟩

end

/-! ## RESUME -/

section
variable {s : State} {m : RequestMsg} {r : Request} {id : BitVec 64}

/-- The context a resume starts from keeps the sequence's turn and its tokens (R346, R347). -/
theorem State.req_resumeContext (hreq : s.req id = some r) (t : Request) (hid : t.id = id) :
    ∃ q, (s.resumeContext t).req id = some q ∧ q.id = id ∧ q.turn = r.turn ∧ q.tokens = r.tokens := by
  subst hid
  have hchanged {w : State} (hw : Spares s w) (f : Request → Request)
      (hf : ∀ x, (f x).id = x.id ∧ (f x).turn = x.turn ∧ (f x).tokens = x.tokens) :
      ∃ q, (w.updReq t.id f).req t.id = some q ∧ q.id = t.id ∧ q.turn = r.turn ∧ q.tokens = r.tokens :=
    have hwr := (hw.req t.id).trans hreq
    ⟨f r, State.req_updReq_self (fun x => (hf x).1) hwr, (hf r).1.trans (State.req_id hreq), (hf r).2.1, (hf r).2.2⟩
  unfold State.resumeContext
  extract_lets last fresh
  have hfresh : ∃ q, (fresh s).req t.id = some q ∧ q.id = t.id ∧ q.turn = r.turn ∧ q.tokens = r.tokens :=
    hchanged (Spares.refl.releaseSets _) _ fun _ => ⟨rfl, rfl, rfl⟩
  clear_value fresh
  split
  · split
    · exact hfresh
    · extract_lets got taken counted start
      have htaken : Spares s taken := .foldl (fun _ n hu => hu.takeNode n) got .refl
      exact hchanged (htaken.count _ _) _ fun _ => ⟨rfl, rfl, rfl⟩
  · split
    · exact hfresh
    · exact hchanged .refl _ fun _ => ⟨rfl, rfl, rfl⟩

/-- A resume whose one part is its whole prompt joins the queue in its next turn once it is checked (R447, R448). -/
theorem State.resumeDone_queues (tag : Nat) {ts : List Word} (hreq : s.req id = some r) (hparts : r.parts = [(0, ts)])
    (hlength : ts.length = m.promptTotal) (hstate : r.state ≠ .queued)
    (hpasses : s.admitCheck m ts (r.tokens.length + ts.length) = none) (hadapter : m.adapter = (r.par.map (fun p => p.adapter)).getD 0) :
    ∃ q, (s.resumeDone id m tag).req id = some q ∧ q.state = .queued ∧ q.turn = r.turn + 1 ∧ q.tokens = r.tokens ++ ts ∧
      q.committed = [] ∧ q.par = some { m with tokens := [] } ∧ q.tag = tag := by
  have hassembled : (s.setReq { r with parts := [], resumePar := none }).req id = some { r with parts := [], resumePar := none } :=
    State.req_setReq hreq rfl
  have hchecked : (s.setReq { r with parts := [], resumePar := none }).admitCheck m ts (r.tokens.length + ts.length) = none :=
    State.admitCheck_of_queueLen_le (s := s) rfl rfl rfl (State.queueLen_setReq_le (r := { r with parts := [], resumePar := none }) hstate) hpasses
  obtain ⟨q, hq, hid, hturn, htokens⟩ := State.req_resumeContext hassembled r (State.req_id hreq)
  simp only [State.resumeDone, hreq, hparts, partsLen_whole, joinParts_whole, if_neg hlength.not_lt, hchecked,
    if_neg (not_not.mpr hadapter), hq]
  exact ⟨_, State.req_setReq_joinQueue hq (by rfl) m.cls, rfl, congrArg (· + 1) hturn, congrArg (· ++ ts) htokens, rfl, rfl, rfl⟩

end

/-! ## What a message does -/

section
variable {s v : State} {a : Arrival} {r : Request}

theorem execRequest_queues (hopened : (s.keep (.request a)).opened a 1 (requestLength (requestOf a.unit)) = some v)
    (hnew : v.req (requestOf a.unit).requestId = none) (hfloor : v.dictNat 0x301004 + 1 ≤ v.freeEntries) (hfree : v.freeEntries ≠ 0)
    (hwhole : WholePrompt (requestOf a.unit))
    (hpasses : v.admitCheck (requestOf a.unit) (requestOf a.unit).tokens (requestOf a.unit).promptTotal = none) :
    ∃ u, execRequest a s = .next u ∧ ∃ q, u.req (requestOf a.unit).requestId = some q ∧ q.state = .queued ∧
      q.tokens = (requestOf a.unit).tokens ∧ q.cls = (requestOf a.unit).cls ∧ q.joined = s.now ∧ q.tag = arrivedTag a := by
  have hnow : v.now = (s.keep (.request a)).now := State.opened_now hopened
  obtain ⟨q, hq, hstate, htokens, hcls, hjoined, htag⟩ := State.takeRequest_queues (arrivedTag a) hnew hfloor hfree hwhole hpasses
  exact ⟨_, congrArg Host.Outcome.next (State.acceptMsg_opened hopened _), q, hq, hstate, htokens, hcls, hjoined.trans hnow, htag⟩

theorem execCancel_marks (hopened : (s.keep (.cancel a)).opened a 4 32 = some v) (hreq : v.req (arrivedId a) = some r) :
    execCancel a s = .next (v.setReq { r with cancel := true }) := by
  simp only [execCancel, State.acceptMsg_opened hopened, hreq]

theorem execCancel_notices (hopened : (s.keep (.cancel a)).opened a 4 32 = some v) (hreq : v.req (arrivedId a) = none) :
    execCancel a s = .next (v.notice (arrivedTag a) (arrivedId a) 0 5 0) := by
  simp only [execCancel, State.acceptMsg_opened hopened, hreq]

theorem execPark_generating (hopened : (s.keep (.park a)).opened a 5 32 = some v) (hreq : v.req (arrivedId a) = some r)
    (hcancel : r.cancel = false) (hstate : r.state = .generating) :
    execPark a s = .next (v.setReq { r with state := .parking, parkStroke := some v.clk.stroke }) := by
  simp only [execPark, State.acceptMsg_opened hopened, hreq, hstate]
  rw [if_neg (by simp [hcancel])]

/-- The entry of a sequence at rest as the first part of a resume makes it (R433). -/
def resumeEntry (r : Request) (m : RequestMsg) (ms : Nat) : Request :=
  { r with parts := [(m.promptOffset, m.tokens)], resumePar := some { m with tokens := [] }, partsMs := ms }

/-- The first part of a resume is kept, and the parts are looked at (R433). -/
theorem execResume_takes (hopened : (s.keep (.resume a)).opened a 6 (requestLength (requestOf a.unit)) = some v)
    (hreq : v.req (requestOf a.unit).requestId = some r) (hstate : r.state = .retained ∨ r.state = .parked) (hparts : r.parts = [])
    (hpar : r.resumePar = none) (hwhole : WholePrompt (requestOf a.unit)) :
    execResume a s = .next ((v.setReq (resumeEntry r (requestOf a.unit) v.ms)).resumeDone (requestOf a.unit).requestId (requestOf a.unit)
      (arrivedTag a)) := by
  simp only [execResume, State.acceptMsg_opened hopened, hreq, hparts, hpar]
  rw [if_neg (by obtain hstate | hstate := hstate <;> simp [hstate]), if_neg (by simp [hwhole.within, hwhole.nonzero])]
  rfl

theorem execResume_queues (hopened : (s.keep (.resume a)).opened a 6 (requestLength (requestOf a.unit)) = some v)
    (hreq : v.req (requestOf a.unit).requestId = some r) (hstate : r.state = .retained ∨ r.state = .parked) (hparts : r.parts = [])
    (hpar : r.resumePar = none) (hwhole : WholePrompt (requestOf a.unit))
    (hpasses : v.admitCheck (requestOf a.unit) (requestOf a.unit).tokens (r.tokens.length + (requestOf a.unit).tokens.length) = none)
    (hadapter : (requestOf a.unit).adapter = (r.par.map (fun p => p.adapter)).getD 0) :
    ∃ u, execResume a s = .next u ∧ ∃ q, u.req (requestOf a.unit).requestId = some q ∧ q.state = .queued ∧ q.turn = r.turn + 1 ∧
      q.tokens = r.tokens ++ (requestOf a.unit).tokens ∧ q.committed = [] ∧ q.par = some { requestOf a.unit with tokens := [] } ∧
      q.tag = arrivedTag a := by
  refine ⟨_, execResume_takes hopened hreq hstate hparts hpar hwhole, ?_⟩
  generalize requestOf a.unit = m at *
  have hentry : (v.setReq (resumeEntry r m v.ms)).req m.requestId = some (resumeEntry r m v.ms) := State.req_setReq hreq rfl
  have hidle : (resumeEntry r m v.ms).state ≠ .queued := by
    obtain hstate | hstate := hstate <;> simp [resumeEntry, hstate]
  have hchecked : (v.setReq (resumeEntry r m v.ms)).admitCheck m m.tokens (r.tokens.length + m.tokens.length) = none :=
    State.admitCheck_of_queueLen_le (s := v) rfl rfl rfl (State.queueLen_setReq_le hidle) hpasses
  exact State.resumeDone_queues (r := resumeEntry r m v.ms) _ hentry (by rw [resumeEntry, hwhole.offset]) (hwhole.tokens.trans hwhole.count)
    hidle hchecked hadapter

theorem execHandOff_generating (hopened : (s.keep (.handOff a)).opened a 7 56 = some v) (hkind : fieldNat a.unit 24 1 = 0)
    (hreq : v.req (arrivedId a) = some r) (hstate : r.state = .generating)
    (hpartner : v.isPartner (BitVec.ofNat 128 (fieldNat a.unit 32 16)) = true) :
    execHandOff a s = .next (v.setReq { r with state := .parking, moveTo := some (BitVec.ofNat 128 (fieldNat a.unit 32 16)) }) := by
  simp only [execHandOff, State.acceptMsg_opened hopened, hreq, hstate]
  rw [if_neg (not_not.mpr hkind), if_neg (by simp), if_neg (by simp [hpartner])]

end

/-- Settles O33: on a connection that takes it, each message has the effect of its command. -/
theorem tokenMessages : Obligations.TokenMessages := by
  intro s v a r opens m id tag kind serial whole
  have htag : tag = arrivedTag a := (arrivedTag_eq a).symm
  have hwhole (h : whole) : WholePrompt m := by
    obtain ⟨hoffset, hcount, htokens, hnonzero⟩ := h
    exact ⟨hoffset, hcount, htokens, hnonzero⟩
  rw [htag]
  exact ⟨fun hopened hnew hfloor hfree hw => execRequest_queues hopened hnew hfloor hfree (hwhole hw),
    fun hopened hreq => ⟨_, execCancel_marks hopened hreq, rfl⟩,
    fun hopened hreq => ⟨_, execCancel_notices hopened hreq, rfl⟩,
    fun hopened hreq hcancel hstate => ⟨_, execPark_generating hopened hreq hcancel hstate, rfl⟩,
    fun hopened hreq hstate hparts hpar hw => execResume_queues hopened hreq hstate hparts hpar (hwhole hw),
    fun hopened hkind hreq hstate hpartner => ⟨_, execHandOff_generating hopened hkind hreq hstate hpartner, rfl⟩⟩

end Sys2Proof.Machine

/-! # Timers of the token service -/

namespace Sys2Proof.Machine

/-! ## A request that ends -/

/-- From `s` to `u` no request ID has come into the table, and the connections are canonical still. -/
structure Dwindles (s u : State) : Prop where
  gone : ∀ id, s.req id = none → u.req id = none
  conns : Table.wf none s.serve.conns = true → Table.wf none u.serve.conns = true

section
variable {s u v : State}

theorem Dwindles.refl : Dwindles s s := ⟨fun _ => id, id⟩

theorem Dwindles.trans (h : Dwindles s u) (h' : Dwindles u v) : Dwindles s v :=
  ⟨fun id hid => h'.gone id (h.gone id hid), fun hwf => h'.conns (h.conns hwf)⟩

theorem Spares.dwindles (h : Spares s u) : Dwindles s u := ⟨fun id hid => (h.req id).trans hid, h.conns⟩

theorem Dwindles.updReq (id' : BitVec 64) {f : Request → Request} (hid : ∀ x, (f x).id = x.id) : Dwindles s (s.updReq id' f) :=
  ⟨fun id hnone => by rw [State.req_updReq id' hid, hnone, Option.map_none], id⟩

theorem Dwindles.sendTokens (r : Request) : Dwindles s (s.sendTokens r) := by
  unfold State.sendTokens
  split
  · exact .refl
  · exact (Spares.refl.sendMsg _ _).dwindles.trans (.updReq _ fun _ => rfl)

theorem State.freeEntry_spares (r : Request) : Spares (s.dropReq r.id) (s.freeEntry r) := by
  unfold State.freeEntry
  dsimp only
  split
  · exact .ite (Spares.refl.setConn _ _) .refl
  · exact .refl

theorem State.req_freeEntry (r : Request) : (s.freeEntry r).req r.id = none :=
  ((State.freeEntry_spares r).req _).trans State.req_dropReq_self

theorem Dwindles.freeEntry (r : Request) : Dwindles s (s.freeEntry r) :=
  .trans ⟨fun _ => State.req_dropReq_none r.id, id⟩ (State.freeEntry_spares r).dwindles

/-- A request that ends for a reason after which nothing is retained frees its entry (R342, R437). -/
theorem State.complete_frees (id : BitVec 64) {reason : Nat} (detail : Nat) (hreason : reason ∉ [0, 1, 3, 4]) :
    Dwindles s (s.complete id reason detail) ∧ (s.complete id reason detail).req id = none := by
  unfold State.complete
  split
  next hreq => exact ⟨.refl, hreq⟩
  next r0 hreq =>
    extract_lets told r keep natural any retained late sent moved noticed
    have htold : Dwindles s told := .sendTokens r0
    have hid : r.id = id := by
      obtain hnone | ⟨q, hq⟩ := told.req id |>.eq_none_or_eq_some
      · simpa [r, hnone] using State.req_id hreq
      · simpa [r, hq] using State.req_id hq
    have hretained : retained = false := by simp [retained, natural, hreason]
    clear_value r told retained
    subst hid
    rw [if_neg (by simp [hretained])]
    have hsent : Spares told sent := Spares.refl.sendCompletion _ _ _ _ _
    have hmoved : Spares told moved := .ite (hsent.notice _ _ _ _ _) hsent
    have hnoticed : Spares told noticed := .ite (hmoved.notice _ _ _ _ _) hmoved
    exact ⟨htold.trans ((hnoticed.giveUpSlot _ _).dwindles.trans (.freeEntry r)), State.req_freeEntry r⟩

/-- Requests that end one after the other free all their entries. -/
theorem State.foldl_complete_frees {reason : Nat} (detail : Nat) (hreason : reason ∉ [0, 1, 3, 4]) (l : List Request) :
    Dwindles s (l.foldl (fun (s : State) r => s.complete r.id reason detail) s) ∧
      ∀ r ∈ l, (l.foldl (fun (s : State) r => s.complete r.id reason detail) s).req r.id = none := by
  induction l generalizing s with
  | nil => exact ⟨.refl, fun _ hmem => absurd hmem List.not_mem_nil⟩
  | cons r l ih =>
    obtain ⟨hfirst, hgone⟩ := State.complete_frees (s := s) r.id detail hreason
    obtain ⟨hrest, hothers⟩ := ih (s := s.complete r.id reason detail)
    refine ⟨hfirst.trans hrest, fun q hmem => ?_⟩
    obtain rfl | hmem := List.mem_cons.mp hmem
    · exact hrest.gone _ hgone
    · exact hothers q hmem

end

/-! ## The timers -/

section
variable {s : State} {id : BitVec 64} {r : Request}

@[simp] theorem State.advanceTo_serve (s : State) (m : Nat) : (s.advanceTo m).serve = s.serve := by
  unfold State.advanceTo
  split <;> rfl

theorem State.stopExport_serve (tag : Nat) : (s.stopExport tag).serve = s.serve := by
  unfold State.stopExport
  split
  · obtain ⟨_, _, heq⟩ := State.event_only { s with log := { s.log with exportState := 2 } } 0x0801 0xFF (natLE 2 tag)
    rw [heq]
  · rfl

/-- A connection that detaches loses its endpoint and its records (R428). -/
theorem State.conn_detach {tag : Nat} {c : Conn} (hconn : s.conn tag = some c) (hbound : c.endpoint.isSome = true) :
    (s.detach tag).conn tag = some { c with endpoint := none, detachedMs := s.ms, outbox := [] } := by
  simp only [State.detach, hconn]
  rw [if_pos hbound, State.conn, State.stopExport_serve]
  exact Table.get_put_some _ _ _ _ (Option.some_ne_none _)

/-- A request not completed in time is refused (R431). -/
theorem execPartTimeout_receiving (hreq : s.req id = some r) (hparts : r.parts ≠ []) (hstate : r.state = .receiving) :
    ∃ u, execPartTimeout id s = .next u ∧ u.req id = none := by
  simp only [execPartTimeout, hreq]
  rw [if_neg hparts, if_pos hstate]
  exact ⟨_, rfl, (State.complete_frees id 13 (by decide)).2⟩

/-- A resume not completed in time loses its parts alone (R433). -/
theorem execPartTimeout_resume (hreq : s.req id = some r) (hparts : r.parts ≠ []) (hstate : r.state ≠ .receiving) :
    ∃ u, execPartTimeout id s = .next u ∧ u.req id = some { r with parts := [], resumePar := none } := by
  simp only [execPartTimeout, hreq]
  rw [if_neg hparts, if_neg hstate]
  refine ⟨_, rfl, ((Spares.refl.notice _ _ _ _ _).req id).trans ?_⟩
  exact State.req_setReq (((Spares.refl.advanceTo _).req id).trans hreq) rfl

theorem execQueueTimeout_ends (hreq : s.req id = some r) (hqueued : r.state = .queued) (hlim : s.dictNat 0x301006 ≠ 0)
    (hhead : r.atHead = false) :
    ∃ u, execQueueTimeout id s = .next u ∧ u.req id = none ∧ r.joined + s.dictNat 0x301006 * msTicks ≤ u.now := by
  obtain ⟨u, hexec, hnow⟩ := execQueueTimeout_endsAt hreq hqueued hlim hhead
  refine ⟨u, hexec, ?_, hnow ▸ le_max_right _ _⟩
  simp only [execQueueTimeout, hreq] at hexec
  rw [if_neg (by simp [hqueued, hlim, hhead])] at hexec
  obtain rfl := Host.Outcome.next.inj hexec
  exact (State.complete_frees id 9 (by decide)).2

theorem execClassAging_ages (hreq : s.req id = some r) (hqueued : r.state = .queued) (hage : s.dictNat 0x301005 ≠ 0) (hcls : r.cls ≠ 0) :
    ∃ u, execClassAging id s = .next u ∧
      u.req id = some { r with cls := r.cls - 1, clsMs := r.clsMs + s.dictNat 0x301005 } ∧ u.tiles = s.tiles := by
  simp only [execClassAging, hreq]
  rw [if_neg (by simp [hqueued, hage, hcls])]
  refine ⟨_, rfl, ?_, s.advanceTo_tiles _⟩
  exact State.req_setReq (((Spares.refl.advanceTo _).req id).trans hreq) rfl

/-! ## A hand-off confirmed or failed -/

/-- The state once the move of a request is under way no more. -/
def State.moveEnded (s : State) (id : BitVec 64) : State := s.updServe (fun v => { v with moves := v.moves.filter (fun m => m.1 ≠ id) })

theorem State.moves_moveEnded : ∀ m ∈ (s.moveEnded id).serve.moves, m.1 ≠ id :=
  fun _ hmem => by simpa using List.of_mem_filter hmem

section
variable {serial : BitVec 128} (hmove : s.serve.moves.find? (fun m => m.1 = id) = some (id, serial)) (hreq : s.req id = some r)
include hmove hreq

theorem execHandOffConfirm_confirmed :
    ∃ u, execHandOffConfirm id 0 s = .next u ∧ u.req id = none ∧ ∀ m ∈ u.serve.moves, m.1 ≠ id := by
  have hmoved : Spares (s.moveEnded id) ((s.moveEnded id).sendMoved r serial 0) := Spares.refl.sendMoved _ _ _
  have hexec : execHandOffConfirm id 0 s = .next (((s.moveEnded id).sendMoved r serial 0).freeEntry r) := by
    simp only [execHandOffConfirm, hmove, hreq]
    rfl
  refine ⟨_, hexec, State.req_id hreq ▸ State.req_freeEntry r, ?_⟩
  rw [(State.freeEntry_spares r).moves]
  exact hmoved.moves ▸ State.moves_moveEnded

theorem execHandOffConfirm_failed {n : Nat} (hn : n ≠ 0) :
    ∃ u, execHandOffConfirm id n s = .next u ∧ u.req id = some { r with state := .parked } ∧ ∀ m ∈ u.serve.moves, m.1 ≠ id := by
  have hparked : Spares ((s.moveEnded id).setReq { r with state := .parked })
      (((s.moveEnded id).setReq { r with state := .parked }).sendMoved r serial n) := Spares.refl.sendMoved _ _ _
  have hexec : execHandOffConfirm id n s = .next (((s.moveEnded id).setReq { r with state := .parked }).sendMoved r serial n) := by
    simp only [execHandOffConfirm, hmove, hreq]
    exact if_neg hn
  refine ⟨_, hexec, ?_, hparked.moves ▸ State.moves_moveEnded⟩
  rw [hparked.req]
  exact State.req_setReq hreq rfl

end

/-! ## Connections that go -/

section
variable {tag : BitVec 16} {c : Conn}

theorem execUdpIdleTimeout_detaches {ip : Nat} {port : BitVec 16} (hconn : s.conn tag.toNat = some c)
    (hudp : c.endpoint = some (.udp ip port)) (hidle : s.requestsOf tag.toNat = []) :
    ∃ u, execUdpIdleTimeout tag s = .next u ∧ ∃ e, u.conn tag.toNat = some e ∧ e.endpoint = none ∧ e.outbox = [] ∧
      (c.lastMs + 1000 * s.dictNat 0x300006) * msTicks ≤ u.now := by
  obtain ⟨u, hexec, hnow⟩ := execUdpIdleTimeout_endsAt hconn hudp hidle
  suffices h : ∃ e, u.conn tag.toNat = some e ∧ e.endpoint = none ∧ e.outbox = [] by
    obtain ⟨e, hgone, hunbound, hempty⟩ := h
    exact ⟨u, hexec, e, hgone, hunbound, hempty, hnow ▸ le_max_right _ _⟩
  simp only [execUdpIdleTimeout, hconn, hudp] at hexec
  rw [if_neg (by simp [hidle])] at hexec
  obtain rfl := Host.Outcome.next.inj hexec
  refine ⟨_, State.conn_detach (c := c) ?_ (by simp [hudp]), rfl, rfl⟩
  rw [State.conn, State.advanceTo_serve]
  exact hconn

/-- A connection that stays detached goes, and its requests that are not yet at rest end (R428). -/
theorem execDetachTimeout_goes (hwf : Table.wf none s.serve.conns = true) (hconn : s.conn tag.toNat = some c) (hdetached : c.endpoint = none) :
    ∃ u, execDetachTimeout tag s = .next u ∧ u.conn tag.toNat = none ∧
      ∀ q ∈ s.requestsOf tag.toNat, q.state = .generating ∨ q.state = .queued → u.req q.id = none := by
  simp only [execDetachTimeout, hconn]
  rw [if_neg (by simp [hdetached])]
  generalize hlate : s.advanceTo ((c.detachedMs + s.dictNat 0x300005) * msTicks) = late
  have hstands : late.serve = s.serve := hlate ▸ s.advanceTo_serve _
  generalize hgone : (late.requestsOf tag.toNat).filter (fun r => [ReqState.receiving, .queued, .prefill, .generating].contains r.state) = gone
  obtain ⟨hdwindles, hfreed⟩ := State.foldl_complete_frees (s := late) 17 (reason := 2) (by decide) gone
  refine ⟨_, rfl, Table.get_put_self _ _ _ _ (hdwindles.conns (hstands ▸ hwf)), fun q hmem hstate => ?_⟩
  refine hfreed q (hgone ▸ List.mem_filter.mpr ⟨?_, ?_⟩)
  · rwa [State.requestsOf, hstands]
  · obtain hstate | hstate := hstate <;> simp [hstate]

end
end

/-- Settles O34: each clause follows from what its command does. -/
theorem tokenTimers : Obligations.TokenTimers := by
  intro s id r tag c hwf
  exact ⟨execPartTimeout_receiving, execPartTimeout_resume, execQueueTimeout_ends, execClassAging_ages,
    fun _ hmove hreq => ⟨execHandOffConfirm_confirmed hmove hreq, fun _ => execHandOffConfirm_failed hmove hreq⟩,
    fun _ _ => execUdpIdleTimeout_detaches, execDetachTimeout_goes hwf⟩

end Sys2Proof.Machine

/-! # The leaky bucket and the power of a bank -/

namespace Sys2Proof

/-- A filter by key keeps what the keys it passes read, and the others read the default. -/
theorem Table.get_filter_key {α : Type} (d : α) (t : Table α) (p : Nat → Bool) (k : Nat) :
    Table.get d (t.filter (fun c => p c.1)) k = if p k then Table.get d t k else d := by
  induction t with
  | nil => simp [Table.get]
  | cons e t ih =>
    obtain ⟨k', v⟩ := e
    by_cases hk : k' = k
    · subst hk
      by_cases hp : p k' <;> simp [hp, Table.get, ih]
    · by_cases hp : p k' <;> simp [hp, hk, Table.get, ih]

namespace Machine

/-! ## Accesses to a region's registers -/

section
variable {s : State} {r : Nat}

theorem State.regAccess_powered (hpower : s.powered r = true) (f : State → State) :
    s.regAccess r f = f { s with accessFault := false } := if_pos hpower

theorem State.regAccess_unpowered (hpower : s.powered r = false) (f : State → State) :
    s.regAccess r f = { s with accessFault := true, readOut := none } := if_neg (by simp [hpower])

theorem State.otherRegions_updEcc (f : RegionEcc → RegionEcc) : OtherRegions r s (s.updEcc r f) :=
  fun q hq => Table.get_put_ne _ _ _ _ q hq

theorem State.region_updEcc (hregions : Table.wf {} s.regions = true) (f : RegionEcc → RegionEcc) :
    (s.updEcc r f).region r = { s.region r with ecc := f (s.region r).ecc } := s.region_setRegion_self r _ hregions

end

/-- Settles O27: a leak and a powered write of DEPTH are each one change of the region's protection registers. -/
theorem leakyBucket : Obligations.LeakyBucket := by
  intro s r depth hregions e
  refine ⟨fun hperiod hcount => ⟨_, if_neg ?_, ⟨rfl, State.otherRegions_updEcc _⟩, State.region_updEcc hregions _⟩,
    fun hidle => if_pos ?_, fun hpower => ?_, fun hpower => ⟨_, congrArg Host.Outcome.next (State.regAccess_unpowered hpower _), rfl⟩⟩
  · simpa using ⟨hperiod, hcount⟩
  · simpa using hidle
  · exact ⟨_, congrArg Host.Outcome.next (State.regAccess_powered hpower _), ⟨rfl, State.otherRegions_updEcc _⟩,
      State.region_updEcc (s := { s with accessFault := false }) hregions _⟩

/-! ## The masks of banks -/

section
variable {m : BitVec 32} {b : Nat}

theorem getLsbD_clearBit (hb : b < 32) (i : Nat) : (m &&& ~~~(1#32 <<< b)).getLsbD i = (m.getLsbD i && decide (i ≠ b)) := by
  have hbit : (1#32 <<< b).getLsbD i = decide (i = b) := by
    rw [Bool.eq_iff_iff]
    simp only [BitVec.getLsbD_shiftLeft, BitVec.getLsbD_one, Bool.and_eq_true, Bool.not_eq_true', decide_eq_true_eq, decide_eq_false_iff_not]
    omega
  rw [BitVec.getLsbD_and, BitVec.getLsbD_not, hbit]
  by_cases hi : i < 32
  · simp [hi]
  · simp [BitVec.getLsbD_of_ge m i (by omega)]

theorem getLsbD_setBit_self (hb : b < 32) : (m ||| (1#32 <<< b)).getLsbD b = true := by simp [hb]

end

/-! ## A bank that loses its contents or its power (R489-R491) -/

section
variable {s : State} {t : TileId} {x : Tile} {b : Nat}

theorem loseBank_byte (x : Tile) {a : Nat} (hlo : b * 131072 ≤ a) (hhi : a < (b + 1) * 131072) : (loseBank x b).byte a = 0 := by
  have hread := Table.get_filter_key 0 x.scratch (fun a => !((b * 131072 ≤ a && a < (b + 1) * 131072) ||
    (0x400000 + b * 8192 ≤ a && a < 0x400000 + (b + 1) * 8192))) a
  exact hread.trans (if_neg (by simp [hlo, hhi]))

/-- R489: the bank is without contents and without power. -/
def bankOff (b : Nat) (x : Tile) : Tile :=
  { loseBank x b with bankPwr := x.bankPwr &&& ~~~(1#32 <<< b), filling := x.filling &&& ~~~(1#32 <<< b) }

/-- R491: the bank has power, and its fill has begun. -/
def bankOn (b : Nat) (x : Tile) : Tile :=
  { loseBank x b with bankPwr := x.bankPwr ||| (1#32 <<< b), filling := x.filling ||| (1#32 <<< b) }

theorem State.bankDown_free (hpwr : (s.tile t).bankPwr.getLsbD b = true) (hcache : cacheBank (s.tile t) b = false)
    (hrole : (s.tile t).roleOf b = .unused) (hlanded : landingOutstanding (s.tile t) b = false) :
    s.bankDown t b = s.updTile t (bankOff b) := by
  simp only [State.bankDown, hpwr, hcache, hrole, hlanded]
  rfl

theorem State.bankDown_used (hpwr : (s.tile t).bankPwr.getLsbD b = true) (hrole : (s.tile t).roleOf b ≠ .unused) :
    s.bankDown t b = s.updTile t (fun x => { x with pwrRefused := true }) := by
  simp [State.bankDown, hpwr, hrole]

theorem State.bankUpNow_off (hpwr : (s.tile t).bankPwr.getLsbD b = false) : s.bankUpNow t b = s.updTile t (bankOn b) := by
  simp only [State.bankUpNow, hpwr]
  rfl

/-- R490: what a forced bank leaves of its tile, whatever is discarded on the way to it. -/
theorem State.bankForce_on (hpwr : (s.tile t).bankPwr.getLsbD b = true) : ∃ y : Tile, y.stage = (s.tile t).stage ∧
    y.bankPwr = (s.tile t).bankPwr &&& ~~~(1#32 <<< b) ∧ y.pwrForced = true ∧ y.scratch = (loseBank (s.tile t) b).scratch ∧
    (s.bankForce t b).tiles = (s.setTile t y).tiles := by
  rw [State.bankForce, if_neg (by simp [hpwr])]
  refine ⟨_, ?_, ?_, ?_, ?_, State.regionEvent_tiles _ _ _⟩ <;> rfl

theorem State.bankForce_off (hpwr : (s.tile t).bankPwr.getLsbD b = false) : s.bankForce t b = s := if_pos (by simp [hpwr])

theorem State.tileAccess_made (hstage : (s.tile t).stage.isSome) (hpower : s.powered t.region.toNat = true)
    (hrow : t.y.toNat < regionRows t.region.toNat) (f : State → State) : s.tileAccess t f = f { s with accessFault := false } := by
  have hstage' : (State.tile { s with accessFault := false } t).stage.isSome = true := hstage
  simp [State.tileAccess, State.regAccess, hpower, Nat.not_le.mpr hrow, hstage']

/-- An access that is made and changes the tile by `g` changes that tile alone (R19, R459, R651). -/
theorem completes_madeAccess {c : Instr} {f : State → State} {g : Tile → Tile} (hexec : exec c s = .next (s.tileAccess t f))
    (hstage : (s.tile t).stage.isSome) (hpower : s.powered t.region.toNat = true) (hrow : t.y.toNat < regionRows t.region.toNat)
    (hf : f { s with accessFault := false } = State.updTile { s with accessFault := false } t g) (hkept : (g (s.tile t)).stage.isSome) :
    Completes c s (fun u => (u = { s with tiles := u.tiles, accessFault := false } ∧ OtherTiles t s u) ∧ u.tile t = g (s.tile t)) := by
  obtain ⟨hother, hself⟩ := State.updTile_of_staged { s with accessFault := false } t g hkept
  exact ⟨_, hexec.trans (congrArg _ ((State.tileAccess_made hstage hpower hrow f).trans hf)), ⟨rfl, hother⟩, hself⟩

end

/-- Settles O28: an access that is made changes the tile by `bankOff`, `bankOn` or a mark, and a forced bank besides discards what is on
its way. -/
theorem bankPower : Obligations.BankPower := by
  intro s t bank hstage hpower hrow x b on
  have hb : b < 32 := bank.isLt
  have hmade (f : State → State) := State.tileAccess_made hstage hpower hrow f
  have haccess {c : Instr} {f : State → State} {g : Tile → Tile} (hexec : exec c s = .next (s.tileAccess t f)) :=
    completes_madeAccess (g := g) hexec hstage hpower hrow
  refine ⟨fun hpwr hcache hrole hlanded => ?_, fun hpwr hrole => ?_, fun hpwr => ?_, ?_, fun hpwr => ?_, fun hpwr => ?_⟩
  · refine (haccess (c := .bankPowerDown t bank) rfl (State.bankDown_free hpwr hcache hrole hlanded) hstage).imp fun u ⟨hon, hself⟩ => ?_
    rw [hself]
    refine ⟨hon, (getLsbD_clearBit hb b).trans (by simp), fun i hi => (getLsbD_clearBit hb i).trans (by simp [hi, x]), fun a hlo hhi => ?_⟩
    exact loseBank_byte x hlo hhi
  · exact haccess (c := .bankPowerDown t bank) rfl (State.bankDown_used hpwr hrole) hstage
  · refine (haccess (c := .bankPowerUp t bank) rfl (State.bankUpNow_off hpwr) hstage).imp fun u ⟨hon, hself⟩ => ?_
    rw [hself]
    have hfilling : (bankOn b x).filling.getLsbD b = true := getLsbD_setBit_self hb
    exact ⟨hon, getLsbD_setBit_self hb, hfilling, by rw [bankUp, hfilling]; simp, fun a hlo hhi => loseBank_byte x hlo hhi⟩
  · obtain ⟨hother, hself⟩ := s.updTile_of_staged t (fun x => { x with filling := x.filling &&& ~~~(1#32 <<< b) }) hstage
    refine ⟨_, rfl, ⟨rfl, hother⟩, ?_⟩
    rw [hself]
    exact ⟨(getLsbD_clearBit hb b).trans (by simp), rfl⟩
  · obtain ⟨y, hkept, hoff, hforced, hlost, htiles⟩ := State.bankForce_on (s := { s with accessFault := false }) hpwr
    have hself : (State.bankForce { s with accessFault := false } t b).tile t = y :=
      (State.tile_congr htiles t).trans (State.tile_setTile_staged (hkept ▸ hstage))
    refine ⟨_, congrArg Host.Outcome.next (hmade _), fun k hk => ?_, ?_⟩
    · exact (congrArg (Table.get {} · k) htiles).trans (Table.get_put_ne _ _ _ _ k hk)
    · rw [hself]
      refine ⟨?_, hforced, fun a hlo hhi => ?_⟩
      · rw [hoff]
        exact (getLsbD_clearBit hb b).trans (by simp)
      · rw [Tile.byte, hlost]
        exact loseBank_byte x hlo hhi
  · exact ⟨_, congrArg Host.Outcome.next (hmade _), State.bankForce_off (s := { s with accessFault := false }) hpwr⟩

end Machine
end Sys2Proof

/-! # The test window (R486, R487) -/

namespace Sys2Proof.Machine

/-- An operation of the test window has begun: ECC_TW_CTL is written. -/
def State.twBegun (s : State) (r : Nat) (ctl : BitVec 29) : State :=
  State.updEcc { s with accessFault := false } r (fun e => { e with twCtl := ctl, twGo := false })

section
variable {s : State} {r : Nat}

theorem State.twBegun_region (hregions : Table.wf {} s.regions = true) (ctl : BitVec 29) :
    (s.twBegun r ctl).region r = { s.region r with ecc := { (s.region r).ecc with twCtl := ctl, twGo := false } } :=
  State.region_updEcc (s := { s with accessFault := false }) hregions _

theorem State.wf_twBegun (hregions : Table.wf {} s.regions = true) (ctl : BitVec 29) : Table.wf {} (s.twBegun r ctl).regions = true :=
  Table.wf_put _ _ _ _ hregions

end

section
variable {s : State} {r : BitVec 6} {x y : BitVec 4} {line : Nat}

/-- R486: without a plan loaded the window runs modes 0 to 8 on the tiles of a powered region. -/
theorem State.testWindow_runs {mode bank line word : Nat} (hpower : s.powered r.toNat = true) (hplan : s.boot.plan = none)
    (hrow : y.toNat < regionRows r.toNat) (hmode : mode ≤ 8) (op : TileId → Nat → State → State) :
    ∃ ctl, s.testWindow r.toNat mode x.toNat y.toNat bank line word op = op ⟨r, x, y⟩ (1024 * bank + line) (s.twBegun r.toNat ctl) := by
  refine ⟨BitVec.ofNat 29 (x.toNat + 16 * y.toNat + 256 * bank + 8192 * line + 0x800000 * word + 0x2000000 * mode), ?_⟩
  have hallowed (ctl : BitVec 29) : twAllowed (s.twBegun r.toNat ctl) ⟨r, x, y⟩ mode = true := by
    have hnone : (s.twBegun r.toNat ctl).planLoaded = false := by
      simp [State.planLoaded, State.twBegun, hplan]
    simp [twAllowed, hnone, Nat.not_le.mpr hrow, hmode]
  rw [State.testWindow, State.regAccess_powered hpower]
  simp only [BitVec.ofNat_toNat, BitVec.setWidth_eq]
  exact if_pos (hallowed _)

/-- A command of the test window does what its mode does, once the operation has begun. -/
theorem completes_testWindow {c : Instr} {P : State → Prop} {mode bank line word : Nat} {op : TileId → Nat → State → State}
    (hexec : exec c s = .next (s.testWindow r.toNat mode x.toNat y.toNat bank line word op)) (hpower : s.powered r.toNat = true)
    (hplan : s.boot.plan = none) (hrow : y.toNat < regionRows r.toNat) (hmode : mode ≤ 8)
    (hP : ∀ ctl, P (op ⟨r, x, y⟩ (1024 * bank + line) (s.twBegun r.toNat ctl))) : Completes c s P := by
  obtain ⟨ctl, hruns⟩ := State.testWindow_runs (bank := bank) (line := line) (word := word) hpower hplan hrow hmode op
  exact ⟨_, hexec.trans (congrArg _ hruns), hP ctl⟩

end

/-! ## What each mode leaves -/

section
variable {s : State} {r line word : Nat} {t : TileId} (ctl : BitVec 29)

/-- A mode that changes the tile changes it as the tile stood when the operation began, and no other tile. -/
theorem State.twBegun_updTile (htiles : Table.wf {} s.tiles = true) (f : Tile → Tile) :
    ((s.twBegun r ctl).updTile t f).tile t = f (s.tile t) ∧ OtherTiles t s ((s.twBegun r ctl).updTile t f) :=
  ⟨State.tile_updTile_self (s.twBegun r ctl) t f htiles, State.otherTiles_updTile (s.twBegun r ctl) t f⟩

/-- A mode that changes the window's registers changes them as they stood when the operation began, and no tile. -/
theorem State.twBegun_updEcc (hregions : Table.wf {} s.regions = true) (f : RegionEcc → RegionEcc) :
    ((s.twBegun r ctl).updEcc r f).tiles = s.tiles ∧
      (((s.twBegun r ctl).updEcc r f).region r).ecc = f { (s.region r).ecc with twCtl := ctl, twGo := false } := by
  rw [State.region_updEcc (State.wf_twBegun hregions ctl), State.twBegun_region hregions]
  exact ⟨rfl, rfl⟩

theorem twNormalWrite_writes (htiles : Table.wf {} s.tiles = true) (hregions : Table.wf {} s.regions = true) :
    (twNormalWrite r word t line (s.twBegun r ctl)).tile t = writeWord (s.tile t) line word (s.region r).ecc.twData ∧
      OtherTiles t s (twNormalWrite r word t line (s.twBegun r ctl)) := by
  rw [twNormalWrite, State.twBegun_region hregions]
  exact State.twBegun_updTile ctl htiles _

theorem twRawWrite_writes (htiles : Table.wf {} s.tiles = true) (hregions : Table.wf {} s.regions = true) :
    (twRawWrite r word t line (s.twBegun r ctl)).tile t =
        setRawWord (s.tile t) line word (s.region r).ecc.twData (s.region r).ecc.twCheck ∧
      OtherTiles t s (twRawWrite r word t line (s.twBegun r ctl)) := by
  rw [twRawWrite, State.twBegun_region hregions]
  exact State.twBegun_updTile ctl htiles _

theorem twRawRead_reads (hregions : Table.wf {} s.regions = true) : (twRawRead r word t line (s.twBegun r ctl)).tiles = s.tiles ∧
    ((twRawRead r word t line (s.twBegun r ctl)).region r).ecc.twData = rawWord (s.tile t) line word ∧
    ((twRawRead r word t line (s.twBegun r ctl)).region r).ecc.twCheck = rawCheck (s.tile t) line word := by
  obtain ⟨htiles, hecc⟩ := State.twBegun_updEcc (r := r) ctl hregions
    (fun e => { e with twData := rawWord (s.tile t) line word, twCheck := rawCheck (s.tile t) line word })
  have hread : twRawRead r word t line (s.twBegun r ctl) = (s.twBegun r ctl).updEcc r
    (fun e => { e with twData := rawWord (s.tile t) line word, twCheck := rawCheck (s.tile t) line word }) := rfl
  rw [hread, hecc]
  exact ⟨htiles, rfl, rfl⟩

/-- A word whose code holds is read without an effect (R148). -/
theorem twCheckedRead_good {v : State} (hgood : (readWord (v.tile t) line word).2 = .good) : twCheckedRead r word t line v =
    v.updEcc r (fun e => { e with twData := (readWord (v.tile t) line word).1, twOutcome := 0, twBit := 0 }) := by
  simp [twCheckedRead, State.readEffects, hgood]

theorem twCheckedRead_reads (hregions : Table.wf {} s.regions = true) (hgood : (readWord (s.tile t) line word).2 = .good) :
    (twCheckedRead r word t line (s.twBegun r ctl)).tiles = s.tiles ∧
    ((twCheckedRead r word t line (s.twBegun r ctl)).region r).ecc.twData = (readWord (s.tile t) line word).1 ∧
    ((twCheckedRead r word t line (s.twBegun r ctl)).region r).ecc.twOutcome = 0 := by
  obtain ⟨htiles, hecc⟩ := State.twBegun_updEcc (r := r) ctl hregions
    (fun e => { e with twData := (readWord (s.tile t) line word).1, twOutcome := 0, twBit := 0 })
  rw [twCheckedRead_good (v := s.twBegun r ctl) hgood]
  exact ⟨htiles, congrArg RegionEcc.twData hecc, congrArg RegionEcc.twOutcome hecc⟩

theorem twCheckBytesRead_reads (hregions : Table.wf {} s.regions = true) :
    (twCheckBytesRead r t line (s.twBegun r ctl)).tiles = s.tiles ∧
    ((twCheckBytesRead r t line (s.twBegun r ctl)).region r).ecc.twData = (s.tile t).pageCheckOf (bankOf line) (pageOf line) := by
  obtain ⟨htiles, hecc⟩ := State.twBegun_updEcc (r := r) ctl hregions
    (fun e => { e with twData := (s.tile t).pageCheckOf (bankOf line) (pageOf line) })
  exact ⟨htiles, congrArg RegionEcc.twData hecc⟩

theorem twCheckBytesWrite_writes (htiles : Table.wf {} s.tiles = true) (hregions : Table.wf {} s.regions = true)
    (hcheck : Table.wf 0 (s.tile t).pageChk = true) :
    ((twCheckBytesWrite r t line (s.twBegun r ctl)).tile t).pageCheckOf (bankOf line) (pageOf line) = (s.region r).ecc.twData ∧
      OtherTiles t s (twCheckBytesWrite r t line (s.twBegun r ctl)) ∧
      ((twCheckBytesWrite r t line (s.twBegun r ctl)).tile t).scratch = (s.tile t).scratch := by
  rw [twCheckBytesWrite, State.twBegun_region hregions]
  obtain ⟨hself, hother⟩ := State.twBegun_updTile (r := r) ctl htiles
    (fun x : Tile => x.setPageCheck (bankOf line) (pageOf line) (s.region r).ecc.twData)
  rw [hself]
  exact ⟨Table.get_put_self _ _ _ _ hcheck, hother, rfl⟩

/-- R482: the first page of a bank that is queued; a bank in cache mode has no page code. -/
theorem twQueue_first {v : State} (hempty : ((v.tile t).scrubOf (bankOf line)).rebuild = [])
    (hcache : cacheBank (v.tile t) (bankOf line) = false) : twQueue word t line v =
      v.updTile t (fun x => x.updScrub (bankOf line) (fun q => { q with
        rebuild := q.rebuild ++ [(pageOf line, [pageWord line word], false)] })) := by
  simp [twQueue, State.queueRebuild, hempty, hcache]

theorem twQueue_queues (htiles : Table.wf {} s.tiles = true) (hscrub : Table.wf {} (s.tile t).scrub = true)
    (hempty : ((s.tile t).scrubOf (bankOf line)).rebuild = []) (hcache : cacheBank (s.tile t) (bankOf line) = false) :
    OtherTiles t s (twQueue word t line (s.twBegun r ctl)) ∧
      (((twQueue word t line (s.twBegun r ctl)).tile t).scrubOf (bankOf line)).rebuild = [(pageOf line, [pageWord line word], false)] := by
  rw [twQueue_first (v := s.twBegun r ctl) hempty hcache]
  obtain ⟨hself, hother⟩ := State.twBegun_updTile (r := r) (t := t) ctl htiles (fun x => x.updScrub (bankOf line) (fun q => { q with
    rebuild := q.rebuild ++ [(pageOf line, [pageWord line word], false)] }))
  rw [hself]
  exact ⟨hother, (congrArg Scrub.rebuild (Table.get_put_self _ _ _ _ hscrub)).trans (congrArg (· ++ _) hempty)⟩

/-- The low 9 bits of the data of mode 7 are the entry. -/
theorem remapData_entry (e : BitVec 9) (i : Nat) (d : BitVec 256) :
    (BitVec.ofNat 256 (e.toNat + 512 * i) ||| (d &&& ~~~(0xFFFFFFFF#256))).toNat % 512 = e.toNat := by
  have he := e.isLt
  have hlow : (~~~(0xFFFFFFFF#256)).toNat % 2 ^ 9 = 0 := by decide
  rw [BitVec.toNat_or, BitVec.toNat_and, show 512 = 2 ^ 9 from rfl, Nat.or_mod_two_pow, Nat.and_mod_two_pow, hlow, Nat.and_zero,
    Nat.or_zero, BitVec.toNat_ofNat]
  omega

theorem twRemapRead_reads (hregions : Table.wf {} s.regions = true) : (twRemapRead r t line (s.twBegun r ctl)).tiles = s.tiles ∧
    ((twRemapRead r t line (s.twBegun r ctl)).region r).ecc.twData.toNat % 512 =
      (Table.get 0 (s.tile t).remap (16 * bankOf line + line % 16)).toNat := by
  obtain ⟨htiles, hecc⟩ := State.twBegun_updEcc (r := r) ctl hregions (fun g => { g with
    twData := BitVec.ofNat 256 ((Table.get 0 (s.tile t).remap (16 * bankOf line + line % 16)).toNat + 512 * (line % 16)) |||
      (g.twData &&& ~~~(0xFFFFFFFF#256)) })
  refine ⟨htiles, (congrArg (fun g => (RegionEcc.twData g).toNat % 512) hecc).trans ?_⟩
  exact remapData_entry _ _ _

theorem twRemapWrite_writes (htiles : Table.wf {} s.tiles = true) (hregions : Table.wf {} s.regions = true)
    (hremap : Table.wf 0 (s.tile t).remap = true) : OtherTiles t s (twRemapWrite r t line (s.twBegun r ctl)) ∧
      Table.get 0 ((twRemapWrite r t line (s.twBegun r ctl)).tile t).remap (16 * bankOf line + line % 16) =
        (s.region r).ecc.twData.setWidth 9 := by
  rw [twRemapWrite, State.twBegun_region hregions]
  obtain ⟨hself, hother⟩ := State.twBegun_updTile (r := r) (t := t) ctl htiles (fun x => { x with
    remap := Table.put 0 x.remap (16 * bankOf line + line % 16) ((s.region r).ecc.twData.setWidth 9) })
  refine ⟨hother, ?_⟩
  rw [hself]
  exact Table.get_put_self _ _ _ _ hremap

/-- R487: a reserved mode is refused. -/
theorem execTwReservedMode_refuses {r : BitVec 6} {mode : BitVec 4} (hpower : s.powered r.toNat = true) (hmode : 9 ≤ mode.toNat) :
    execTwReservedMode r mode s = .next (State.updEcc { s with accessFault := false } r.toNat fun e => { e with
      twCtl := (e.twCtl &&& 0x1FFFFFF#29) ||| BitVec.ofNat 29 (0x2000000 * mode.toNat), twGo := false, twRefused := true }) := by
  rw [execTwReservedMode, if_neg (by omega), State.regAccess_powered hpower]

end

/-- Settles O29: each mode is one change of the tile or of the window's registers, as they stood when the operation began. -/
theorem testWindow : Obligations.TestWindow := by
  intro s r x y bank line word hpower hplan hrow htiles hregions t hcanon l tl e data
  have hruns {c : Instr} {P : State → Prop} {mode word : Nat} {op : TileId → Nat → State → State}
      (hexec : exec c s = .next (s.testWindow r.toNat mode x.toNat y.toNat bank.toNat line.toNat word op)) (hmode : mode ≤ 8) :=
    completes_testWindow (P := P) hexec hpower hplan hrow hmode
  obtain hc := (Tile.canon_iff tl).mp hcanon
  exact ⟨hruns rfl (by decide) fun ctl => twNormalWrite_writes ctl htiles hregions,
    hruns rfl (by decide) fun ctl => twRawWrite_writes ctl htiles hregions,
    hruns rfl (by decide) fun ctl => twRawRead_reads ctl hregions,
    fun hgood => hruns rfl (by decide) fun ctl => twCheckedRead_reads ctl hregions hgood,
    hruns rfl (by decide) fun ctl => twCheckBytesRead_reads ctl hregions,
    hruns rfl (by decide) fun ctl => twCheckBytesWrite_writes ctl htiles hregions hc.pageChk,
    fun hempty hcache => hruns rfl (by decide) fun ctl => twQueue_queues ctl htiles hc.scrub hempty hcache,
    hruns rfl (by decide) fun ctl => twRemapRead_reads ctl hregions,
    hruns rfl (by decide) fun ctl => twRemapWrite_writes ctl htiles hregions hc.remap,
    fun mode hmode => ⟨_, execTwReservedMode_refuses hpower hmode, ⟨rfl, State.otherRegions_updEcc _⟩,
      congrArg (fun g => (Region.ecc g).twRefused) (State.region_updEcc (s := { s with accessFault := false }) hregions _), rfl⟩⟩

end Sys2Proof.Machine

/-! # Memory tiers: runs of lines -/

namespace Sys2Proof

section
variable {α : Type} (d : α)

theorem Table.getList_add (t : Table α) (k m n : Nat) :
    Table.getList d t k (m + n) = Table.getList d t k m ++ Table.getList d t (k + m) n := by
  induction m generalizing k with
  | zero => simp [Table.getList]
  | succ m ih => simp [Nat.succ_add, Table.getList, ih, Nat.add_assoc]

variable [DecidableEq α]

theorem Table.putList_append (t : Table α) (k : Nat) (xs ys : List α) :
    Table.putList d t k (xs ++ ys) = Table.putList d (Table.putList d t k xs) (k + xs.length) ys := by
  induction xs generalizing t k with
  | nil => rfl
  | cons x xs ih => simp [Table.putList, ih, Nat.add_assoc, Nat.add_comm 1 xs.length]

end

namespace Machine

/-! ## Lines of 128 bytes -/

section
variable {ls : List Bytes} (hlen : ∀ l ∈ ls, l.length = 128)
include hlen

theorem length_flatten_lines : ls.flatten.length = 128 * ls.length := by
  induction ls with
  | nil => rfl
  | cons l ls ih =>
    simp only [List.forall_mem_cons] at hlen
    simp [ih hlen.2, hlen.1, Nat.mul_add, Nat.add_comm]

theorem flatten_lines_getD {i j : Nat} (hj : j < ls.length) (hi : i < 128) : ls.flatten.getD (128 * j + i) 0 = (ls.getD j []).getD i 0 := by
  induction ls generalizing j with
  | nil => simp at hj
  | cons l ls ih =>
    simp only [List.forall_mem_cons] at hlen
    obtain ⟨hl, hls⟩ := hlen
    cases j with
    | zero =>
      rw [List.flatten_cons, Nat.mul_zero, Nat.zero_add, List.getD_append _ _ _ _ (by omega)]
      rfl
    | succ j =>
      rw [List.flatten_cons, List.getD_append_right _ _ _ _ (by omega), hl, show 128 * (j + 1) + i - 128 = 128 * j + i by omega,
        ih hls (by simpa using hj), List.getD_cons_succ]

/-- Lines stored one after the other are one run of bytes stored. -/
theorem State.foldl_tierStore_lines (s : State) (a : Nat) :
    (((List.range ls.length).map (fun i => a + 128 * i)).zip ls).foldl (fun s p => s.tierStore p.1 (padTo 128 p.2)) s =
      s.tierStore a ls.flatten := by
  induction ls generalizing s a with
  | nil => rfl
  | cons l ls ih =>
    simp only [List.forall_mem_cons] at hlen
    obtain ⟨hl, hls⟩ := hlen
    have hpad : padTo 128 l = l := by simp [padTo, hl]
    have hrest := ih hls (s.tierStore a l) (a + 128)
    have hshift : (fun i => a + 128 * i) ∘ Nat.succ = fun i => a + 128 + 128 * i := by
      funext i
      simp only [Function.comp_apply]
      omega
    rw [List.length_cons, List.range_succ_eq_map, List.map_cons, List.map_map, hshift, List.zip_cons_cons, List.foldl_cons]
    simp only [Nat.mul_zero, Nat.add_zero, hpad]
    rw [hrest]
    simp only [State.tierStore, List.flatten_cons, Table.putList_append, hl]

end

section
variable {s : State}

theorem State.tierBytes_length (a n : Nat) : (s.tierBytes a n).length = n := Table.getList_length _ _ _ _

/-- The lines of one extent are the bytes it covers. -/
theorem State.flatten_extentLines (a k : Nat) : (s.extentLines [(a, k)]).flatten = s.tierBytes a (128 * k) := by
  simp only [State.extentLines, List.flatMap_cons, List.flatMap_nil, List.append_nil]
  induction k with
  | zero => rfl
  | succ k ih =>
    rw [List.range_succ, List.map_append, List.flatten_append, ih, Nat.mul_succ, State.tierBytes, State.tierBytes, Table.getList_add]
    simp [State.tierBytes]

theorem State.extentLines_length (a k : Nat) : (s.extentLines [(a, k)]).length = k := by simp [State.extentLines]

theorem State.length_of_extentLines {a k : Nat} : ∀ l ∈ s.extentLines [(a, k)], l.length = 128 := by
  simp [State.extentLines, State.tierBytes_length]

/-- A byte inside a run that is stored reads as stored. -/
theorem State.tierByte_tierStore_in {a : Nat} {bs : Bytes} (hmem : Table.wf 0 s.tier.mem = true) {j : Nat} (hj : j < bs.length) :
    (s.tierStore a bs).tierByte (a + j) = bs.getD j 0 := by
  rw [List.getD_eq_getElem _ _ hj]
  exact Table.get_putList_in 0 _ _ _ _ hj hmem

/-- Each line of a run that is stored reads as stored. -/
theorem State.tierBytes_tierStore_line {a : Nat} {ls : List Bytes} (hmem : Table.wf 0 s.tier.mem = true)
    (hlen : ∀ l ∈ ls, l.length = 128) {j : Nat} (hj : j < ls.length) :
    (s.tierStore a ls.flatten).tierBytes (a + 128 * j) 128 = ls.getD j [] := by
  have hline : (ls.getD j []).length = 128 := by
    rw [List.getD_eq_getElem _ _ hj]
    exact hlen _ (List.getElem_mem hj)
  refine List.ext_getElem (by rw [State.tierBytes_length, hline]) fun i hi _ => ?_
  rw [State.tierBytes_length] at hi
  have hin : 128 * j + i < ls.flatten.length := by
    rw [length_flatten_lines hlen]
    omega
  calc (State.tierBytes (s.tierStore a ls.flatten) (a + 128 * j) 128)[i]
      = (s.tierStore a ls.flatten).tierByte (a + (128 * j + i)) := by
        rw [← Nat.add_assoc]
        exact Table.getList_getElem _ _ _ _ _ _
    _ = ls.flatten.getD (128 * j + i) 0 := State.tierByte_tierStore_in hmem hin
    _ = (ls.getD j []).getD i 0 := flatten_lines_getD hlen hj hi
    _ = (ls.getD j [])[i] := List.getD_eq_getElem _ _ _

/-! ## Extents on pages that are not coded -/

/-- No page of the tiers is coded. -/
def State.Plain (s : State) : Prop := ∀ c, s.codedPages c = 0

variable (hplain : s.Plain)
include hplain

theorem State.Plain.isCoded (c p : Nat) : s.isCoded c p = false := by simp [State.isCoded, hplain c]

theorem State.Plain.tierPageRead (c p : Nat) (erased : List Nat) : s.tierPageRead c p erased = s := by
  simp [State.tierPageRead, hplain.isCoded]

/-- R468: only coded pages are checked as an extent is read. -/
theorem State.Plain.readChecks (es : List (Nat × Nat)) (erased : List Nat) : s.readChecks es erased = s := by
  refine List.foldl_fixed' (fun e => ?_) es
  split
  · rfl
  · refine List.foldl_fixed' (fun i => ?_) _
    simp only [hplain.tierPageRead, ite_self]

/-- A run of lines stored on pages that are not coded is the run of their bytes; no check bytes are written (R468). -/
theorem State.Plain.storeExtents (a : Nat) {ls : List Bytes} (hlen : ∀ l ∈ ls, l.length = 128) :
    s.storeExtents [(a, ls.length)] ls = s.tierStore a ls.flatten := by
  have hreseal : ∀ c p, (s.tierStore a ls.flatten).isCoded c p = false := hplain.isCoded
  simp only [State.storeExtents, List.flatMap_cons, List.flatMap_nil, List.append_nil, List.foldl_cons, List.foldl_nil]
  rw [State.foldl_tierStore_lines hlen]
  split
  · rfl
  · exact List.foldl_fixed' (fun i => by simp [hreseal]) _

end

/-! ## The window of an extent (R455) -/

theorem popBytes_lt_window (c : Nat) : popBytes c < if c < 32 then 0x2000000000 else 0x1000000000 := by
  unfold popBytes
  split <;> decide

/-- Every line of an extent that its window holds lies in that window. -/
theorem addrChan_within {a c off n : Nat} (h : addrChan a = some (c, off)) (hfits : off + n < popBytes c) :
    addrChan (a + n) = some (c, off + n) := by
  have hpop := popBytes_lt_window c
  unfold addrChan at h ⊢
  split at h
  next hstack =>
    obtain ⟨rfl, rfl⟩ := Prod.mk.inj (Option.some.inj h)
    rw [if_pos (by omega)] at hpop
    rw [if_pos (by omega), Option.some_inj, Prod.mk.injEq]
    omega
  next hstack =>
    split at h
    next hmodule =>
      obtain ⟨rfl, rfl⟩ := Prod.mk.inj (Option.some.inj h)
      rw [if_neg (by omega)] at hpop
      rw [if_neg (by omega), if_pos (by omega), Option.some_inj, Prod.mk.injEq]
      omega
    · simp at h

section
variable {s : State} {e a k : Nat}

theorem State.onEdge_iff : s.onEdge e a k = true ↔
    ∃ c off, addrChan a = some (c, off) ∧ chanEdge c = e ∧ off + 128 * k ≤ s.checkArea c ∧ off % 128 = 0 ∧ 0 < k := by
  unfold State.onEdge
  split
  next h => simp [h]
  next c off h => simp [h, and_assoc]

theorem State.addrChan_onEdge (h : s.onEdge e a k = true) {i : Nat} (hi : i < k) : ∃ c off, addrChan (a + 128 * i) = some (c, off) := by
  obtain ⟨c, off, hchan, -, hfits, -⟩ := State.onEdge_iff.mp h
  exact ⟨c, off + 128 * i, addrChan_within hchan (by unfold State.checkArea at hfits; omega)⟩

/-- A read of an extent on pages that are not coded gives every line none of whose words is reported uncorrectable (R461). -/
theorem State.Plain.lostLines (hplain : s.Plain) (hedge : s.onEdge e a k = true) {erased : List Nat}
    (hgood : ∀ b ∈ erased, b < a ∨ a + 128 * k ≤ b) : (s.lostLines [(a, k)] erased).contains true = false := by
  simp only [State.lostLines, List.flatMap_cons, List.flatMap_nil, List.append_nil]
  rw [← Bool.not_eq_true, List.contains_iff_mem, List.mem_map]
  rintro ⟨i, hi, hlost⟩
  rw [List.mem_range] at hi
  obtain ⟨c, off, hchan⟩ := State.addrChan_onEdge hedge hi
  simp only [hchan, hplain.isCoded, Bool.not_false, if_true, Bool.and_eq_true, List.any_eq_true, decide_eq_true_eq] at hlost
  obtain ⟨-, b, hb, hlo, hhi⟩ := hlost
  have := hgood b hb
  omega

end

end Machine
end Sys2Proof

/-! # Descriptors of the tier controllers -/

namespace Sys2Proof.Machine

/-- A controller carries out the descriptor of a flit: nothing discards, holds or refuses it (R470-R473). -/
structure State.Carries (s : State) (edge : Nat) (f : Flit) : Prop where
  ungated : s.portGated (edgeRegion edge) 0 = false
  crc : crcOk f = true
  unfenced : s.fenceHolds edge (parseDesc f.body) f = false
  timely : s.descLate f = false
  granted : s.descRefusal edge (parseDesc f.body) = none

/-- The state in which the descriptor of a flit is done, its completion due (R470). -/
def State.descDone (s : State) (edge : Nat) (f : Flit) : State :=
  { s with tier := { s.tier with done := s.tier.done ++ [(edge, { flit := f })] } }

/-! ## READ -/

/-- The lines of a READ land on its tag: no gather has taken it over, and a scheduled READ owns it still (R143, R474). -/
def readOwns (f : Flit) (d : Descriptor) (g : Gather) : Bool :=
  if f.head.sched then g.outstanding && g.read && decide (g.line = d.line) else !g.outstanding || g.read

/-- The landings of a READ whose lines are read in state `v`, those lost poisoned. -/
def readLandings (v : State) (d : Descriptor) (gone : List Bool) (tag : Option Nat) (serial : Nat) : List Landing :=
  (v.extentLines d.extents).zipIdx.map (fun p =>
    { line := d.line + BitVec.ofNat 15 p.2, bytes := p.1, poison := gone.getD p.2 false, tag := tag, serial := serial })

/-- The tile that landings have reached: its ingress queue takes 8, and the rest wait (R143). -/
def landed (ls : List Landing) (tags : Table Gather) (x : Tile) : Tile :=
  let room := if x.inWait = [] then 8 - x.ingress.length else 0
  { x with ingress := x.ingress ++ ls.take room, inWait := x.inWait ++ ls.drop room, gtag := tags }

section
variable {s : State} {edge : BitVec 4} {f : Flit}

/-- What a READ makes of its tag. -/
def readTags (f : Flit) (d : Descriptor) (g : Gather) (x : Tile) : Table Gather :=
  if readOwns f d g then
    Table.put {} x.gtag (d.tag % 16)
      { g with outstanding := true, line := d.line, linesLeft := descLines d, lines := descLines d, read := true }
  else x.gtag

theorem execDmaRead_lands (hcarry : s.Carries edge.toNat f) (hop : (parseDesc f.body).op = 1) (erased : List Nat)
    {d : Descriptor} (hd : parseDesc f.body = d) {g : Gather} (hg : Table.get {} (s.tile (descTile d f)).gtag (d.tag % 16) = g) :
    execDmaRead edge f erased s = .next (((s.readChecks d.extents erased).updTile (descTile d f) (fun x =>
      landed (readLandings (s.readChecks d.extents erased) d (s.lostLines d.extents erased)
        (if readOwns f d g then some (d.tag % 16) else none) g.serial) (readTags f d g x) x)).descDone edge.toNat f) := by
  subst hd hg
  obtain ⟨hungated, hcrc, hunfenced, htimely, hgranted⟩ := hcarry
  simp only [execDmaRead, hungated, hcrc, hunfenced, htimely, hgranted, hop]
  rfl

/-! ### A descriptor that is not refused names lines (R471) -/

theorem State.Carries.extents (hcarry : s.Carries edge.toNat f) : ∀ x ∈ (parseDesc f.body).extents, s.onEdge edge.toNat x.1 x.2 = true := by
  have hgranted := hcarry.granted
  unfold State.descRefusal at hgranted
  split at hgranted
  · simp at hgranted
  next hall => simpa using hall

theorem State.Carries.unreserved (hcarry : s.Carries edge.toNat f) : (parseDesc f.body).reservedSet = false := by
  have hgranted := hcarry.granted
  by_contra hset
  simp only [Bool.not_eq_false] at hset
  simp only [State.descRefusal, hset] at hgranted
  split_ifs at hgranted
  simp_all

theorem parseDesc_extents {bs : Bytes} (h : (parseDesc bs).reservedSet = false) : (parseDesc bs).extents ≠ [] := by
  simp only [parseDesc, Bool.or_eq_false_iff, decide_eq_false_iff_not] at h
  obtain ⟨⟨⟨⟨-, hcount⟩, -⟩, -⟩, -⟩ := h
  simpa [parseDesc] using hcount

theorem State.Carries.extentLines (hcarry : s.Carries edge.toNat f) (v : State) : v.extentLines (parseDesc f.body).extents ≠ [] := by
  obtain ⟨x, es, hes⟩ := List.exists_cons_of_ne_nil (parseDesc_extents hcarry.unreserved)
  obtain ⟨c, off, -, -, -, -, hlines⟩ := State.onEdge_iff.mp (hcarry.extents x (hes ▸ List.mem_cons_self))
  have hrange : List.range x.2 ≠ [] := by simpa using hlines.ne'
  simp [State.extentLines, hes, hrange]

theorem landed_ne_reset {ls : List Landing} (hls : ls ≠ []) (tags : Table Gather) (x : Tile) : landed ls tags x ≠ {} := by
  intro hreset
  have hqueue := congrArg Tile.ingress hreset
  have hwait := congrArg Tile.inWait hreset
  simp only [landed, List.append_eq_nil_iff] at hqueue hwait
  obtain ⟨hempty, htaken⟩ := hqueue
  obtain ⟨hnone, -⟩ := hwait
  simp [hnone, hempty, hls] at htaken

/-- A tile that at least one landing reaches reads back with it, whatever the tile table. -/
theorem State.landed_descDone {v : State} {t : TileId} {ls : List Landing} (hls : ls ≠ []) (tags : Tile → Table Gather) (edge : Nat) :
    let u := (v.updTile t (fun x => landed ls (tags x) x)).descDone edge f
    let room := if (v.tile t).inWait = [] then 8 - (v.tile t).ingress.length else 0
    OtherTiles t v u ∧ u.tier.mem = v.tier.mem ∧ (u.tile t).ingress = (v.tile t).ingress ++ ls.take room ∧
      (u.tile t).inWait = (v.tile t).inWait ++ ls.drop room ∧ (u.tile t).gtag = tags (v.tile t) := by
  intro u room
  have hself : u.tile t = landed ls (tags (v.tile t)) (v.tile t) := v.tile_setTile_some t _ (landed_ne_reset hls _ _)
  rw [hself]
  exact ⟨v.otherTiles_updTile t _, rfl, rfl, rfl, rfl⟩

theorem readTags_owned {d : Descriptor} {g : Gather} {x : Tile} (howns : readOwns f d g = true) (hgtag : Table.wf {} x.gtag = true) :
    Table.get {} (readTags f d g x) (d.tag % 16) =
      { g with outstanding := true, line := d.line, linesLeft := descLines d, lines := descLines d, read := true } := by
  rw [readTags, if_pos howns]
  exact Table.get_put_self _ _ _ _ hgtag

theorem readTags_unowned {d : Descriptor} {g : Gather} {x : Tile} (howns : ¬ readOwns f d g = true) : readTags f d g x = x.gtag :=
  if_neg howns

/-! ## WRITE and COPY -/

theorem execDmaWrite_stores (hcarry : s.Carries edge.toNat f) (hop : (parseDesc f.body).op = 2) {a k : Nat}
    (hextents : (parseDesc f.body).extents = [(a, k)]) (hfirst : ∀ w ∈ s.tier.waiting, w.2.flit ≠ f) {ls : List (Bytes × Bool)}
    (hall : ls.length = k) (hclean : ∀ l ∈ ls, l.2 = false) :
    execDmaWrite edge f ls s = .next ((s.descDone edge.toNat f).storeExtents [(a, k)] (ls.map (fun l => l.1))) := by
  obtain ⟨hungated, hcrc, hunfenced, htimely, hgranted⟩ := hcarry
  have hlines : descLines (parseDesc f.body) = k := by simp [descLines, hextents]
  have hnone : s.tier.waiting.find? (fun w => w.1 = edge.toNat && decide (w.2.flit = f)) = none := by
    refine List.find?_eq_none.mpr fun w hw => ?_
    simp [hfirst w hw]
  have hrest : s.tier.waiting.filter (fun w => !(w.1 = edge.toNat && decide (w.2.flit = f))) = s.tier.waiting := by
    refine List.filter_eq_self.mpr fun w hw => ?_
    simp [hfirst w hw]
  have hwhole : ls.any (fun l => l.2) = false := by simpa using hclean
  simp only [execDmaWrite, hungated, hcrc, hunfenced, htimely, hgranted, hop, hnone, hrest, hlines, hextents, List.nil_append]
  subst hall
  simp [hwhole, State.descDone]

theorem execDmaCopy_copies (hcarry : s.Carries edge.toNat f) (hplain : s.Plain) (hop : (parseDesc f.body).op = 3)
    (hsched : f.head.sched = false) {a k : Nat} (hextents : (parseDesc f.body).extents = [(a, k)]) {erased : List Nat}
    (hgood : ∀ b ∈ erased, b < a ∨ a + 128 * k ≤ b) : execDmaCopy edge f erased s =
      .next ((s.storeExtents [((parseDesc f.body).dest, k)] (s.extentLines [(a, k)])).descDone edge.toNat f) := by
  have hedge : s.onEdge edge.toNat a k = true := hcarry.extents (a, k) (by simp [hextents])
  have hkept := hplain.lostLines hedge hgood
  obtain ⟨hungated, hcrc, hunfenced, -, hgranted⟩ := hcarry
  have hlines : descLines (parseDesc f.body) = k := by simp [descLines, hextents]
  simp only [execDmaCopy, hungated, hcrc, hunfenced, hgranted, hop, hsched, hextents, hlines, hplain.readChecks, hkept]
  rfl

end

/-! ## What the lines of a descriptor leave in the tiers -/

section
variable {s : State} {edge : Nat} {f : Flit} (hplain : s.Plain) (hmem : Table.wf 0 s.tier.mem = true)
include hplain hmem

theorem State.Plain.storeExtents_descDone {a : Nat} {ls : List Bytes} (hlen : ∀ l ∈ ls, l.length = 128) :
    let u := (s.descDone edge f).storeExtents [(a, ls.length)] ls
    u = { s with tier := { s.tier with mem := u.tier.mem, done := s.tier.done ++ [(edge, { flit := f })] } } ∧
      (∀ j, j < ls.length → u.tierBytes (a + 128 * j) 128 = ls.getD j []) ∧
      ∀ b, b < a ∨ a + 128 * ls.length ≤ b → u.tierByte b = s.tierByte b := by
  have hstored := State.Plain.storeExtents (s := s.descDone edge f) hplain a hlen
  rw [hstored]
  refine ⟨rfl, fun j hj => State.tierBytes_tierStore_line (s := s.descDone edge f) hmem hlen hj, fun b hb => ?_⟩
  exact State.tierStore_out (s.descDone edge f) a _ b (by rwa [length_flatten_lines hlen])

theorem State.Plain.copied_descDone {dest a k : Nat} :
    let u := (s.storeExtents [(dest, k)] (s.extentLines [(a, k)])).descDone edge f
    u = { s with tier := { s.tier with mem := u.tier.mem, done := s.tier.done ++ [(edge, { flit := f })] } } ∧
      (∀ j, j < 128 * k → u.tierByte (dest + j) = s.tierByte (a + j)) ∧
      ∀ b, b < dest ∨ dest + 128 * k ≤ b → u.tierByte b = s.tierByte b := by
  have hstored := hplain.storeExtents dest (State.length_of_extentLines (s := s) (a := a) (k := k))
  rw [State.extentLines_length, State.flatten_extentLines] at hstored
  rw [hstored]
  refine ⟨rfl, fun j hj => ?_, fun b hb => s.tierStore_out dest _ b (by rwa [State.tierBytes_length])⟩
  have hread : (s.tierBytes a (128 * k)).getD j 0 = s.tierByte (a + j) := by
    rw [List.getD_eq_getElem _ _ (by rwa [State.tierBytes_length])]
    exact Table.getList_getElem _ _ _ _ _ _
  exact (State.tierByte_tierStore_in hmem (by rwa [State.tierBytes_length])).trans hread

end

/-! ## Completion -/

section
variable {s : State} {edge : BitVec 4} {w : Nat × DoneDesc}

/-- The state without the oldest descriptor that is done at a controller. -/
def State.doneTaken (s : State) (w : Nat × DoneDesc) : State :=
  { s with tier := { s.tier with done := eraseFirst (fun v => decide (v = w)) s.tier.done } }

/-- The completion flit of a descriptor: its TAG and the refused flag, to its issuer (R470, R508). -/
def completionFlit (edge : Nat) (w : DoneDesc) : Flit :=
  ctlFlit ⟨BitVec.ofNat 6 (edgeRegion edge), 0, 0⟩ (if w.flit.head.dkind = 2 then 2 else 0)
    ⟨w.flit.head.sreg, w.flit.head.sx, w.flit.head.sy⟩ 0 false 4
    [BitVec.ofNat 32 ((parseDesc w.flit.body).tag + 256 * b2n w.refused), 0, 0, 0]

theorem execDmaComplete_quiet (holdest : s.tier.done.find? (fun x => x.1 = edge.toNat) = some w)
    (hquiet : (parseDesc w.2.flit.body).notify = false) : execDmaComplete edge s = .next (s.doneTaken w) := by
  simp only [execDmaComplete, holdest, hquiet]
  rfl

theorem execDmaComplete_notifies (holdest : s.tier.done.find? (fun x => x.1 = edge.toNat) = some w)
    (hnotify : (parseDesc w.2.flit.body).notify = true) :
    execDmaComplete edge s = .next ((s.doneTaken w).inject (completionFlit edge.toNat w.2)) := by
  simp only [execDmaComplete, holdest, hnotify]
  rfl

theorem State.inject_completionFlit (hedge : edgeRegion edge.toNat < 64)
    (hroute : s.route (edgeRegion edge.toNat) w.2.flit.head.sreg.toNat ≠ 15) : s.inject (completionFlit edge.toNat w.2) =
      { s with transit := s.transit ++ [(edgeRegion edge.toNat, 0, 0, completionFlit edge.toNat w.2)] } := by
  have hregion : (BitVec.ofNat 6 (edgeRegion edge.toNat)).toNat = edgeRegion edge.toNat := by
    rw [BitVec.toNat_ofNat, Nat.mod_eq_of_lt hedge]
  have hdeparts : Departs s ⟨BitVec.ofNat 6 (edgeRegion edge.toNat), 0, 0⟩ (completionFlit edge.toNat w.2) := by
    refine departs_sealFlit ⟨rfl, rfl, rfl, ?_, by rwa [hregion]⟩
    dsimp only
    split <;> decide
  rw [State.inject_departs hdeparts, State.injected, hregion]
  rfl

end

/-- Settles O39: a READ is one change of its tile, a WRITE and a COPY are one run of bytes stored, and a completion takes one entry from the
controller's list. -/
theorem tierDescriptors : Obligations.TierDescriptors := by
  intro s edge f erased ls a k w e d fit plain t v g mine room issuer dw answer taken
  have hcarries : fit → s.Carries edge.toNat f := fun ⟨hungated, hcrc, hunfenced, htimely, hgranted⟩ =>
    ⟨hungated, hcrc, hunfenced, htimely, hgranted⟩
  have hmine : readOwns f d g = true ↔ mine := by
    simp only [readOwns, mine]
    split <;> simp [and_assoc, imp_iff_not_or]
  refine ⟨fun hfit hop => ?_, fun hfit ⟨hmem, hextents, hplain⟩ hop hfirst hall hclean => ?_,
    fun hfit ⟨hmem, hextents, hplain⟩ hop hsched hgood => ?_, fun holdest hquiet => ?_, fun holdest hnotify hedge hroute => ?_⟩
  · have hread := execDmaRead_lands (hcarries hfit) hop erased (d := d) rfl (g := g) rfl
    generalize hls : readLandings v d (s.lostLines d.extents erased) (if readOwns f d g then some (d.tag % 16) else none) g.serial = ls
      at hread
    have hsome : ls ≠ [] := by
      rw [← hls]
      simpa [readLandings] using (hcarries hfit).extentLines v
    obtain ⟨hother, hmem, hin, hwait, htags⟩ := State.landed_descDone (f := f) (v := v) (t := t) hsome (readTags f d g) e
    refine ⟨_, hread, hother, hmem, ⟨ls, hls.symm.trans ?_, hin, hwait⟩, fun hm hgtag => ?_, fun hm => ?_⟩
    · by_cases hm : mine
      · simp only [readLandings, if_pos hm, if_pos (hmine.mpr hm)]
      · simp only [readLandings, if_neg hm, if_neg (hmine.not.mpr hm)]
    · rw [htags]
      exact readTags_owned (hmine.mpr hm) hgtag
    · rw [htags, readTags_unowned (hmine.not.mpr hm)]
  · have hstores := execDmaWrite_stores (hcarries hfit) hop hextents hfirst hall fun l hl => (hclean l hl).1
    obtain ⟨honly, hlines, hkept⟩ := State.Plain.storeExtents_descDone (edge := e) (f := f) hplain hmem (a := a)
      (ls := ls.map (fun l => l.1)) (List.forall_mem_map.mpr fun l hl => (hclean l hl).2)
    rw [List.length_map, hall] at honly hlines hkept
    refine ⟨_, hstores, honly, fun j hj => (hlines j hj).trans ?_, hkept⟩
    simp [List.getD, hall, hj]
  · exact ⟨_, execDmaCopy_copies (hcarries hfit) hplain hop hsched hextents hgood, State.Plain.copied_descDone hplain hmem⟩
  · exact ⟨_, execDmaComplete_quiet holdest hquiet, rfl⟩
  · exact ⟨_, execDmaComplete_notifies holdest hnotify, State.inject_completionFlit (s := s.doneTaken w) hedge hroute⟩

end Sys2Proof.Machine

/-! # Coded pages, the patrol and flash -/

namespace Sys2Proof.Machine

/-! ## What leaves the tiers alone -/

section
variable (s : State)

@[simp] theorem State.trigger_tier (r : Nat) (m : BitVec 16) : (s.trigger r m).tier = s.tier := by
  rw [s.trigger_only]

@[simp] theorem State.event_tier (code region : Nat) (p : Bytes) : (s.event code region p).tier = s.tier := by
  obtain ⟨_, _, hlog⟩ := s.event_only code region p
  rw [hlog]

@[simp] theorem State.bucket_tier (r n : Nat) : (s.bucket r n).tier = s.tier := by
  induction n generalizing s with
  | zero => rfl
  | succ n ih =>
    simp only [State.bucket, ih]
    split
    · exact State.trigger_tier _ _ _
    · rfl

theorem State.foldl_tier {β : Type} {f : State → β → State} (hf : ∀ u b, (f u b).tier = u.tier) (l : List β) :
    (l.foldl f s).tier = s.tier := by
  induction l generalizing s with
  | nil => rfl
  | cons b l ih => exact (ih _).trans (hf s b)

@[simp] theorem State.releaseSet_tier (n : Nat) : (s.releaseSet n).tier = s.tier := by
  unfold State.releaseSet
  split
  · rfl
  · dsimp only
    split <;> rfl

@[simp] theorem State.releaseSets_tier (ns : List Nat) : (s.releaseSets ns).tier = s.tier :=
  s.foldl_tier (fun u n => u.releaseSet_tier n) ns

@[simp] theorem State.dropFrom_tier (r : Request) (j : Nat) : (s.dropFrom r j).tier = s.tier := s.releaseSets_tier _

@[simp] theorem State.loseSets_tier (bad : Nat → Bool) : (s.loseSets bad).tier = s.tier := by
  refine (State.foldl_tier _ (fun u r => ?_) _).trans (State.foldl_tier _ (fun u e => ?_) _)
  · split
    · exact u.dropFrom_tier r _
    · rfl
  · split
    · split <;> rfl
    · rfl

@[simp] theorem State.boatPageLost_tier (r : Request) : (s.boatPageLost r).tier = s.tier := by
  unfold State.boatPageLost
  split
  · exact s.releaseSets_tier _
  · rfl

end

/-! ## A read of a page -/

/-- From `s` to `u` the coded ranges and the patrol's places are as they were. -/
structure KeepsPatrol (s u : State) : Prop where
  coded : u.tier.coded = s.tier.coded
  patrol : u.tier.patrol = s.tier.patrol

section
variable {s u : State}

theorem KeepsPatrol.of_tier (h : u.tier = s.tier) : KeepsPatrol s u := ⟨by rw [h], by rw [h]⟩

theorem KeepsPatrol.trans {v : State} (h : KeepsPatrol s u) (h' : KeepsPatrol u v) : KeepsPatrol s v :=
  ⟨h'.coded.trans h.coded, h'.patrol.trans h.patrol⟩

theorem KeepsPatrol.ite {c : Prop} [Decidable c] {v : State} (hu : KeepsPatrol s u) (hv : KeepsPatrol s v) :
    KeepsPatrol s (if c then u else v) := by
  split <;> assumption

/-- A word rebuilt in its place, and counted (R468). -/
def State.wordRebuilt (s : State) (chan a : Nat) (bs : Bytes) : State :=
  let s := s.tierStore a bs
  State.count { s with tier := { s.tier with
    rebuilt := Table.put 0 s.tier.rebuilt chan (satAdd (Table.get 0 s.tier.rebuilt chan) 1) } } 0x703004 1

theorem State.wordRebuilt_keepsPatrol (s : State) (chan a : Nat) (bs : Bytes) : KeepsPatrol s (s.wordRebuilt chan a bs) := ⟨rfl, rfl⟩

/-- The word that the rest of a page and its check bytes give (R468). -/
def State.rebuiltWord (s : State) (chan page w : Nat) : Bytes :=
  natLE 32 (rebuildWord (s.tierPageWords chan page) w (s.tierCheck chan page)).toNat

theorem State.tierPageRead_rebuilds {chan page : Nat} (hstack : chan < 32) (hcoded : s.isCoded chan page = true) (w : Nat) :
    s.tierPageRead chan page [w] = s.wordRebuilt chan (chanBase chan + 4096 * page + 32 * w) (s.rebuiltWord chan page w) := by
  rw [State.tierPageRead, if_neg (by simp [hcoded]), if_pos hstack]
  rfl

theorem State.tierPageRead_uncoded {chan page : Nat} (h : s.isCoded chan page = false) (erased : List Nat) :
    s.tierPageRead chan page erased = s := by
  simp [State.tierPageRead, h]

theorem State.tierPageRead_holds {chan page : Nat} (hstack : chan < 32)
    (hcheck : pageCheck (s.tierPageWords chan page) = s.tierCheck chan page) : s.tierPageRead chan page [] = s := by
  simp [State.tierPageRead, hstack, hcheck]

/-- What Cox answers to a lost page (R469). -/
theorem State.tierContentLost_keepsPatrol (s : State) (chan page : Nat) : KeepsPatrol s (s.tierContentLost chan page) := by
  unfold State.tierContentLost
  extract_lets v drawn onSets onBoats
  have hdrawn : KeepsPatrol s drawn := ⟨rfl, rfl⟩
  clear_value drawn
  refine .ite (.ite ?_ (.ite ⟨hdrawn.coded, hdrawn.patrol⟩ hdrawn)) (.ite ?_ hdrawn)
  · split
    · exact hdrawn.trans (.of_tier (drawn.loseSets_tier _))
    · exact hdrawn
  · split
    · exact hdrawn.trans (.of_tier (drawn.boatPageLost_tier _))
    · exact hdrawn

theorem State.tierLose_keepsPatrol (s : State) (chan page : Nat) : KeepsPatrol s (s.tierLose chan page) := by
  unfold State.tierLose
  extract_lets r tier lost counted told
  have htold : KeepsPatrol s told := ⟨rfl, rfl⟩
  exact htold.trans (told.tierContentLost_keepsPatrol chan page)

theorem State.tierPageRead_keepsPatrol (s : State) (chan page : Nat) (erased : List Nat) :
    KeepsPatrol s (s.tierPageRead chan page erased) := by
  have hlost := s.tierLose_keepsPatrol chan page
  unfold State.tierPageRead
  extract_lets ws chk tier counted
  have hcounted : KeepsPatrol s counted := ⟨rfl, rfl⟩
  refine .ite (.of_tier rfl) (.ite ?_ (.ite (.of_tier rfl) (hcounted.trans (counted.tierLose_keepsPatrol chan page))))
  split
  · exact .ite (.of_tier rfl) hlost
  · exact s.wordRebuilt_keepsPatrol chan _ _
  · exact hlost

/-! ## Corrected reports -/

/-- Corrected reports are counted in the channel's register, and nothing else of the tiers changes (R461, R462). -/
theorem State.tierCorrected_tier (s : State) (chan : Nat) {n : Nat} (hn : n ≠ 0) : (s.tierCorrected chan n).tier =
    { s.tier with corrected := Table.put 0 s.tier.corrected chan (satAdd (Table.get 0 s.tier.corrected chan) n) } := by
  unfold State.tierCorrected
  rw [if_neg hn]
  exact State.bucket_tier _ _ _

theorem State.tierCorrected_eq (s : State) (chan n : Nat) : ∃ t, (s.tierCorrected chan n).tier = { s.tier with corrected := t } := by
  by_cases hn : n = 0
  · exact ⟨s.tier.corrected, by rw [hn]; rfl⟩
  · exact ⟨_, s.tierCorrected_tier chan hn⟩

end

/-! ## A stack page with one erased word -/

section
variable {s : State} {chan : BitVec 6} {page : Nat}

theorem State.rebuiltWord_congr {u : State} (hmem : u.tier.mem = s.tier.mem) (chan page w : Nat) :
    u.rebuiltWord chan page w = s.rebuiltWord chan page w := by
  simp only [State.rebuiltWord, State.tierPageWords, State.tierCheck, State.tierBytes, hmem]

theorem State.rebuiltWord_length (s : State) (chan page w : Nat) : (s.rebuiltWord chan page w).length = 32 := natLE_length _ _

/-- One erased stack word is rebuilt in its place, and counted (R468). -/
theorem execTierPageRead_rebuilds (hstack : chan.toNat < 32) (hcoded : s.isCoded chan.toNat page = true)
    (hmem : Table.wf 0 s.tier.mem = true) (hrebuilt : Table.wf 0 s.tier.rebuilt = true) (w m : Nat) :
    let at_ := chanBase chan.toNat + 4096 * page + 32 * w
    ∃ u, execTierPageRead chan page [w] m s = .next u ∧ u.tierBytes at_ 32 = s.rebuiltWord chan.toNat page w ∧
      (∀ a, a < at_ ∨ at_ + 32 ≤ a → u.tierByte a = s.tierByte a) ∧
      Table.get 0 u.tier.rebuilt chan.toNat = satAdd (Table.get 0 s.tier.rebuilt chan.toNat) 1 := by
  intro at_
  obtain ⟨v, hv⟩ : ∃ v, v = s.tierCorrected chan.toNat m := ⟨_, rfl⟩
  obtain ⟨_, hcorrected⟩ := hv ▸ s.tierCorrected_eq chan.toNat m
  have hvmem : v.tier.mem = s.tier.mem := by rw [hcorrected]
  have hvcoded : v.isCoded chan.toNat page = true := by
    rw [← hcoded, State.isCoded, State.codedPages, hcorrected]
    rfl
  have hword := State.rebuiltWord_congr hvmem chan.toNat page w
  have hlen := s.rebuiltWord_length chan.toNat page w
  have hexec : execTierPageRead chan page [w] m s = .next (v.wordRebuilt chan.toNat at_ (s.rebuiltWord chan.toNat page w)) := by
    rw [execTierPageRead, ← hv, State.tierPageRead_rebuilds hstack hvcoded, hword]
  generalize s.rebuiltWord chan.toNat page w = bs at hlen hexec
  refine ⟨_, hexec, ?_, fun a ha => ?_, ?_⟩
  · rw [← hlen]
    exact v.tierBytes_tierStore at_ bs (hvmem ▸ hmem)
  · rw [← hlen] at ha
    exact (v.tierStore_out at_ bs a ha).trans (congrArg (Table.get 0 · a) hvmem)
  · have hcount : v.tier.rebuilt = s.tier.rebuilt := by rw [hcorrected]
    rw [← hcount] at hrebuilt ⊢
    exact Table.get_put_self _ _ _ _ hrebuilt

end

/-! ## The patrol -/

/-- R469: the patrol goes on to the next coded page, whatever its read finds. -/
theorem execTierPatrol_goesOn {s : State} {chan : BitVec 6} (hn : s.codedPages chan.toNat ≠ 0) (hpatrol : Table.wf 0 s.tier.patrol = true)
    (erased : List Nat) (m : Nat) : ∃ u, execTierPatrol chan erased m s = .next u ∧
      Table.get 0 u.tier.patrol chan.toNat = (Table.get 0 s.tier.patrol chan.toNat % s.codedPages chan.toNat + 1) % s.codedPages chan.toNat ∧
      u.tier.coded = s.tier.coded := by
  obtain ⟨_, hcorrected⟩ := s.tierCorrected_eq chan.toNat m
  have hcounted : KeepsPatrol s (s.tierCorrected chan.toNat m) := ⟨by rw [hcorrected], by rw [hcorrected]⟩
  have hread := hcounted.trans (State.tierPageRead_keepsPatrol (s.tierCorrected chan.toNat m) chan.toNat
    (Table.get 0 s.tier.patrol chan.toNat % s.codedPages chan.toNat) erased)
  refine ⟨_, if_neg hn, Table.get_put_self _ _ _ _ ?_, hread.coded⟩
  rw [hread.patrol]
  exact hpatrol

/-! ## Pages that enter the coded range (R466, R467) -/

section
variable {s : State} {chan n : Nat}

theorem State.codedPages_setCoded (hcoded : Table.wf 0 s.tier.coded = true) (hlimit : n ≤ if chan < 32 then 23255813 else 15503875) :
    (s.setCoded chan n).codedPages chan = n :=
  (Table.get_put_self _ _ _ _ hcoded).trans (min_eq_left hlimit)

theorem State.codedPages_setCoded_ne {q : Nat} (hq : q ≠ chan) : (s.setCoded chan n).codedPages q = s.codedPages q :=
  Table.get_put_ne _ _ _ _ q hq

theorem State.mem_setCoded_of_le (h : n ≤ s.codedPages chan) : (s.setCoded chan n).tier.mem = s.tier.mem :=
  if_neg (by omega)

/-- A byte of a page that enters reads zero. -/
theorem State.tierByte_setCoded (hlimit : n ≤ if chan < 32 then 23255813 else 15503875) {a : Nat}
    (hlo : chanBase chan + 4096 * s.codedPages chan ≤ a) (hhi : a < chanBase chan + 4096 * n) : (s.setCoded chan n).tierByte a = 0 := by
  have hmin : min n (if chan < 32 then 23255813 else 15503875) = n := min_eq_left hlimit
  have hgrows : s.codedPages chan < n := by omega
  unfold State.setCoded State.tierByte
  extract_lets m old lo hi area stop drop mem
  have hmem : mem = s.tier.mem.filter (fun c => !drop c.1) := if_pos (by simpa [m, hmin] using hgrows)
  have hdrop : drop a = true := by simp [drop, lo, hi, m, hmin, old, hlo, hhi]
  rw [hmem]
  exact (Table.get_filter_key 0 s.tier.mem (fun a => !drop a) a).trans (if_neg (by simp [hdrop]))

end

/-- R19, R466: a controller that is not gated takes the count. -/
theorem execCodedPagesWrite_taken {s : State} {chan : BitVec 6} (count : BitVec 25)
    (hpower : s.powered (edgeRegion (chanEdge chan.toNat)) = true)
    (hready : s.blockReady (edgeRegion (chanEdge chan.toNat)) (if chan.toNat < 32 then chan.toNat % 2 else 2 + chan.toNat % 2) = true) :
    execCodedPagesWrite chan count s = .next (State.setCoded { s with accessFault := false } chan.toNat count.toNat) :=
  congrArg Host.Outcome.next ((State.regAccess_powered hpower _).trans (if_pos hready))

/-! ## Flash codewords (R464, R465) -/

section
variable {s : State}

/-- A codeword that is not read at once: the retry is counted, in the register, in the leaky bucket and in the dictionary. -/
def State.flashRetried (s : State) (c : Nat) : State :=
  (State.bucket { s with tier := { s.tier with flashRetries := Table.put 0 s.tier.flashRetries c (satAdd (Table.get 0 s.tier.flashRetries c) 1) } }
    (edgeRegion (c / 2)) 1).count 0x704002 1

/-- A codeword that takes a soft decode: that is counted too. -/
def State.flashSoftened (s : State) (c : Nat) : State :=
  { s with tier := { s.tier with flashSoft := Table.put 0 s.tier.flashSoft c (satAdd (Table.get 0 s.tier.flashSoft c) 1) } }

/-- A block has needed a soft decode once. -/
def State.softDecoded (s : State) (b : Nat × Nat × Nat) : State := { s with tier := { s.tier with softOnce := s.tier.softOnce ++ [b] } }

/-- An unreadable codeword: that is counted too, in the register and in the dictionary. -/
def State.flashUnreadable (s : State) (c : Nat) : State :=
  State.count { s with tier := { s.tier with flashUnread := Table.put 0 s.tier.flashUnread c (satAdd (Table.get 0 s.tier.flashUnread c) 1) } }
    0x704003 1

theorem State.flashRetried_tier (s : State) (c : Nat) : (s.flashRetried c).tier =
    { s.tier with flashRetries := Table.put 0 s.tier.flashRetries c (satAdd (Table.get 0 s.tier.flashRetries c) 1) } :=
  State.bucket_tier _ _ _

/-- A block that is retired is listed, once. -/
theorem State.retireBlock_tier (s : State) (chan die block : Nat) : (s.retireBlock chan die block).tier.flashRetries = s.tier.flashRetries ∧
    (s.retireBlock chan die block).tier.retired.contains (chan, die, block) = true := by
  unfold State.retireBlock
  split
  next h => exact ⟨rfl, h⟩
  · rw [State.event_tier]
    exact ⟨rfl, by simp [State.writeField]⟩

variable (fc : BitVec 5) (die : Bool) (block pg : Nat) (cw : BitVec 2)

theorem execFlashCodewordRead_retry : execFlashCodewordRead fc die block pg cw 1 .other s = .next (s.flashRetried fc.toNat) := rfl

/-- R464: a first soft decode of a block is counted, and the block stays in use. -/
theorem execFlashCodewordRead_soft (hfirst : s.tier.softOnce.contains (fc.toNat, b2n die, block) = false)
    (hsoft : Table.wf 0 s.tier.flashSoft = true) : ∃ u, execFlashCodewordRead fc die block pg cw 2 .other s = .next u ∧
      u.tier.flashRetries = (s.flashRetried fc.toNat).tier.flashRetries ∧
      Table.get 0 u.tier.flashSoft fc.toNat = satAdd (Table.get 0 s.tier.flashSoft fc.toNat) 1 ∧
      u.tier.softOnce = s.tier.softOnce ++ [(fc.toNat, b2n die, block)] ∧ u.tier.retired = s.tier.retired := by
  obtain ⟨v, hv⟩ : ∃ v, v = s.flashRetried fc.toNat := ⟨_, rfl⟩
  have htier := s.flashRetried_tier fc.toNat
  rw [← hv] at htier
  have honce : v.tier.softOnce = s.tier.softOnce := by rw [htier]
  have hsofts : v.tier.flashSoft = s.tier.flashSoft := by rw [htier]
  have hexec : execFlashCodewordRead fc die block pg cw 2 .other s =
      if (v.flashSoftened fc.toNat).tier.softOnce.contains (fc.toNat, b2n die, block) then
        .next ((v.flashSoftened fc.toNat).retireBlock fc.toNat (b2n die) block)
      else .next ((v.flashSoftened fc.toNat).softDecoded (fc.toNat, b2n die, block)) := hv ▸ rfl
  have hkept : ¬ (v.flashSoftened fc.toNat).tier.softOnce.contains (fc.toNat, b2n die, block) = true := by
    rw [State.flashSoftened, honce, hfirst]
    exact Bool.false_ne_true
  refine ⟨_, hexec.trans (if_neg hkept), by rw [← hv]; rfl, ?_, congrArg (· ++ _) honce, ?_⟩
  · rw [← hsofts] at hsoft ⊢
    exact Table.get_put_self _ _ _ _ hsoft
  · exact Eq.trans (b := v.tier.retired) rfl (by rw [htier])

/-- R464, R465: the block of an unreadable codeword is retired. -/
theorem execFlashCodewordRead_unreadable : ∃ u, execFlashCodewordRead fc die block pg cw 3 .other s = .next u ∧
    u.tier.flashRetries = (s.flashRetried fc.toNat).tier.flashRetries ∧
    u.tier.retired.contains (fc.toNat, b2n die, block) = true :=
  ⟨_, rfl, State.retireBlock_tier (((s.flashRetried fc.toNat).flashSoftened fc.toNat).flashUnreadable fc.toNat) fc.toNat (b2n die) block⟩

end

/-- Settles O40: each clause follows from what its command leaves of the tiers. -/
theorem tierProtection : Obligations.TierProtection := by
  intro s chan page w erased count fc die block pg cw m hmem hcoded hpatrol hrebuilt hretries hsoft c n at_ r b entering used
  have hretried : (s.flashRetried fc.toNat).tier.flashRetries =
      Table.put 0 s.tier.flashRetries fc.toNat (satAdd (Table.get 0 s.tier.flashRetries fc.toNat) 1) := by
    rw [State.flashRetried_tier]
  have hused : ∀ u : State, u.tier.flashRetries = (s.flashRetried fc.toNat).tier.flashRetries → used u := fun u hu => by
    simp only [used, hu, hretried]
    exact Table.get_put_self _ _ _ _ hretries
  refine ⟨fun hplain => ?_, fun hplain hm hcorrected => ?_, fun hstack hcheck => ?_,
    fun hstack hpage _ => execTierPageRead_rebuilds hstack hpage hmem hrebuilt w m,
    fun hn => execTierPatrol_goesOn hn hpatrol erased m, fun hpower hready hlimit => ?_, ?_, fun hfirst => ?_, ?_⟩
  · exact congrArg Host.Outcome.next (State.tierPageRead_uncoded hplain erased)
  · have htier := s.tierCorrected_tier c hm
    have hstill : (s.tierCorrected c m).isCoded c page = false := by
      rw [← hplain, State.isCoded, State.codedPages, htier]
      rfl
    refine ⟨_, congrArg Host.Outcome.next (State.tierPageRead_uncoded hstill erased), ?_, ?_⟩ <;> rw [htier]
    exact Table.get_put_self _ _ _ _ hcorrected
  · exact congrArg Host.Outcome.next (State.tierPageRead_holds hstack hcheck)
  · exact ⟨_, execCodedPagesWrite_taken count hpower hready, rfl, State.codedPages_setCoded hcoded hlimit,
      fun q hq => State.codedPages_setCoded_ne hq, fun a ⟨hlo, hhi⟩ => State.tierByte_setCoded hlimit hlo hhi,
      fun hle => State.mem_setCoded_of_le hle⟩
  · refine ⟨_, execFlashCodewordRead_retry fc die block pg cw, hused _ rfl, ?_, ?_⟩ <;> rw [State.flashRetried_tier]
  · obtain ⟨u, hexec, hcounted, hrest⟩ := execFlashCodewordRead_soft fc die block pg cw hfirst hsoft
    exact ⟨u, hexec, hused u hcounted, hrest⟩
  · obtain ⟨u, hexec, hcounted, hlisted⟩ := execFlashCodewordRead_unreadable (s := s) fc die block pg cw
    exact ⟨u, hexec, hused u hcounted, hlisted⟩

end Sys2Proof.Machine

/-! # Data flits that arrive at a tile -/

namespace Sys2Proof.Machine

/-! ## The mesh registers of a region -/

section
variable {s : State} {r side : Nat}

theorem State.otherRegions_updMesh (f : RegionMesh → RegionMesh) : OtherRegions r s (s.updMesh r f) :=
  fun q hq => Table.get_put_ne _ _ _ _ q hq

theorem State.region_updMesh (hregions : Table.wf {} s.regions = true) (f : RegionMesh → RegionMesh) :
    (s.updMesh r f).region r = { s.region r with mesh := f (s.region r).mesh } := s.region_setRegion_self r _ hregions

end

/-! ## What each data flit does -/

section
variable {s : State} {t : TileId} {f : Flit} {e : InputEntry}

/-- What a staged tile marked late keeps: all but its late list and its on-time table (R64). -/
theorem State.markLate_tile (h : (s.tile t).stage.isSome) (d : BitVec 8) :
    ∃ late onTime, (s.markLate t d).tile t = { s.tile t with late := late, onTime := onTime } := by
  rcases s.markLate_cases t d with ⟨-, heq⟩ | heq
  · exact ⟨_, _, by rw [heq]⟩
  · exact ⟨_, _, (State.tile_congr heq t).trans (s.tile_updTile_staged t _ h)⟩

/-- The line of a data flit in the ingress queue (R143, R527). -/
def flitLine (f : Flit) : Landing := { line := f.head.lineOrCrc.setWidth 15, bytes := f.body, poison := f.head.poison }

/-- A data flit of the tile's delivery counts (R529). -/
def countLine (f : Flit) (x : Tile) : Tile :=
  { x with
    gotLines := Table.put 0 x.gotLines f.head.deliv.toNat (Table.get 0 x.gotLines f.head.deliv.toNat + 1)
    gotTaint := Table.put false x.gotTaint f.head.deliv.toNat (Table.get false x.gotTaint f.head.deliv.toNat || f.head.taint) }

theorem padTo_of_length {n : Nat} {bs : Bytes} (h : bs.length = n) : padTo n bs = bs := by
  rw [padTo, ← h, List.take_left]

section
variable (hstage : (s.tile t).stage.isSome) (hkind : f.head.kind = 0) (hsched : f.head.sched = true)
  (hroom : (s.tile t).ingress.length < 8)
include hstage hkind hsched hroom

/-- R527, R529: a data flit expected in this stroke, before its due tick, counts and lands in the ingress queue. -/
theorem execDataFlitAccept_expected (hbody : f.body.length = 128) (hin : inputOf (s.tile t) f.head.deliv = some e)
    (hstroke : f.head.stroke = s.clk.stroke.setWidth 16) (hdue : s.clk.tick.toNat < s.dueTick e) :
    execDataFlitAccept t f s = .next (((s.eject t f).updTile t (countLine f)).updTile t
      (fun x => { x with ingress := x.ingress ++ [flitLine f] })) := by
  have hnone : (s.tile t).stage.isNone = false := by simpa using hstage
  simp [execDataFlitAccept, State.updTile, countLine, flitLine, padTo_of_length hbody, hkind, hnone, hsched, hin, hstroke, Nat.not_le.mpr hroom,
    Nat.not_le.mpr hdue]

/-- R530: a data flit of no delivery of the tile is stray. -/
theorem execDataFlitAccept_unexpected (hin : inputOf (s.tile t) f.head.deliv = none) :
    execDataFlitAccept t f s = .next ((s.eject t f).stray t.region.toNat) := by
  have hnone : (s.tile t).stage.isNone = false := by simpa using hstage
  simp [execDataFlitAccept, hkind, hnone, hsched, hin, Nat.not_le.mpr hroom]

/-- R529: a data flit that comes at its due tick or past it makes its delivery late. -/
theorem execDataFlitAccept_overdue (hin : inputOf (s.tile t) f.head.deliv = some e)
    (hstroke : f.head.stroke = s.clk.stroke.setWidth 16) (hdue : s.dueTick e ≤ s.clk.tick.toNat) :
    execDataFlitAccept t f s = .next ((s.eject t f).markLate t f.head.deliv) := by
  have hnone : (s.tile t).stage.isNone = false := by simpa using hstage
  simp [execDataFlitAccept, hkind, hnone, hsched, hin, hstroke, hdue, Nat.not_le.mpr hroom]

end

end

/-- Settles O21: an expected flit is two changes of its tile in a row, an unexpected one a count of its region, and one past its due tick
a mark on its tile. -/
theorem dataFlitArrival : Obligations.DataFlitArrival := by
  intro s t f e hstage hkind hsched hroom hbody x k
  refine ⟨fun hin hstroke hdue hlines => ?_, fun hin => ?_, fun hin hstroke hdue => ?_⟩
  · obtain ⟨hother, hcounted⟩ := (s.eject t f).updTile_of_staged t (countLine f) hstage
    obtain ⟨hother', hlanded⟩ := ((s.eject t f).updTile t (countLine f)).updTile_of_staged t
      (fun x => { x with ingress := x.ingress ++ [flitLine f] }) (by rw [hcounted]; exact hstage)
    refine ⟨_, execDataFlitAccept_expected hstage hkind hsched hroom hbody hin hstroke hdue, rfl,
      fun i hi => (hother' i hi).trans (hother i hi), ?_⟩
    rw [hlanded, hcounted]
    exact ⟨rfl, Table.get_put_self _ _ _ _ hlines, rfl, rfl⟩
  · exact ⟨_, execDataFlitAccept_unexpected hstage hkind hsched hroom hin, rfl, State.otherRegions_updMesh _,
      fun hregions => congrArg (fun g => (Region.mesh g).stray) (State.region_updMesh (s := s.eject t f) hregions _)⟩
  · obtain ⟨hother, hlate, hscratch⟩ := State.markLate_of_staged t (s.eject_tiles t f) hstage f.head.deliv
    obtain ⟨late, onTime, htile⟩ := State.markLate_tile (s := s.eject t f) (t := t) hstage f.head.deliv
    exact ⟨_, execDataFlitAccept_overdue hstage hkind hsched hroom hin hstroke hdue, hother, hlate, by rw [htile]; rfl, hscratch⟩

end Sys2Proof.Machine

/-! # Flits in the mesh and across its seams -/

namespace Sys2Proof.Machine

/-! ## The sides of a region -/

section
variable {s : State} {r side : Nat}

theorem State.otherRegions_updSeam (f : SeamSide → SeamSide) : OtherRegions r s (s.updSeam r side f) := State.otherRegions_updMesh _

theorem State.seam_updSeam (hregions : Table.wf {} s.regions = true) (hsides : Table.wf {} (s.region r).mesh.sides = true)
    (f : SeamSide → SeamSide) : (s.updSeam r side f).seam r side = f (s.seam r side) := by
  rw [State.seam, State.updSeam, State.region_updMesh hregions]
  exact Table.get_put_self _ _ _ _ hsides

end

/-! ## A flit that a router receives (R504, R512) -/

/-- The flit stands at its source tile behind another that the tile issued before it (R247). -/
def State.standsBehind (s : State) (r : BitVec 6) (x y : BitVec 4) (f : Flit) : Prop :=
  (r, x, y) = (f.head.sreg, f.head.sx, f.head.sy) ∧ f ∈ s.atMeshPort ⟨f.head.sreg, f.head.sx, f.head.sy⟩ ∧
    (s.atMeshPort ⟨f.head.sreg, f.head.sx, f.head.sy⟩).head? ≠ some f

/-- The flits on their way without one of them, which is at (x, y) of region `r`. -/
def State.transitWithout (s : State) (r x y : Nat) (f : Flit) : List (Nat × Nat × Nat × Flit) :=
  eraseFirst (fun e => decide (e = (r, x, y, f))) s.transit

/-- The state in which a flit has gone from (x, y) of region `r` to (a, b). -/
def State.hopped (s : State) (r x y : Nat) (f : Flit) (a b : Nat) : State :=
  { s with transit := s.transitWithout r x y f ++ [(r, a, b, f)] }

section
variable {s : State} {r : BitVec 6} {x y : BitVec 4} {f : Flit}

theorem exec_flitReceive : exec (.flitReceive r x y f) s = execFlitReceive r x y f s := rfl

/-- While strokes run a flit waits at its source for the flits before it alone (R123, R247). -/
theorem State.portWaits_running (hrun : s.clk.running = true) :
    s.portWaits r.toNat x.toNat y.toNat f = true ↔ s.standsBehind r x y f := by
  simp only [State.portWaits, State.standsBehind, State.laneTableRules, hrun, ne_eq, Prod.mk.injEq, ← BitVec.toNat_inj]
  split
  next hsource => simp [hsource]
  next hsource => simp [not_not.mp hsource]

theorem State.portWaits_first (hrun : s.clk.running = true) (hfirst : ¬ s.standsBehind r x y f) :
    s.portWaits r.toNat x.toNat y.toNat f = false := Bool.eq_false_iff.mpr (mt (State.portWaits_running hrun).mp hfirst)

theorem State.portSends_running (hrun : s.clk.running = true) (r x y : Nat) : s.portSends r x y f = s := by
  simp [State.portSends, State.laneTableRules, hrun]

/-- R504: a head that fails parity is discarded and counted. -/
theorem execFlitReceive_badParity (hparity : parityOk f.head = false) : execFlitReceive r x y f s =
    .next (({ s with transit := s.transitWithout r.toNat x.toNat y.toNat f }).updMesh r.toNat
      (fun m => { m with parity := satAdd m.parity 1 })) := by
  simp [execFlitReceive, hparity, State.transitWithout]

section
variable (hparity : parityOk f.head = true) (hrun : s.clk.running = true)
include hparity hrun

theorem execFlitReceive_behind (h : s.standsBehind r x y f) : execFlitReceive r x y f s = .next s := by
  simp [execFlitReceive, hparity, (State.portWaits_running hrun).mpr h]

variable (hfirst : ¬ s.standsBehind r x y f)
include hfirst

/-- R512: a flit goes along logical x, then y. -/
theorem execFlitReceive_hops {a b : Nat} (htarget : s.regionTarget r.toNat x.toNat y.toNat f.head = (a, b)) :
    (x.toNat < a → execFlitReceive r x y f s = .next (s.hopped r.toNat x.toNat y.toNat f (x.toNat + 1) y.toNat)) ∧
    (a < x.toNat → execFlitReceive r x y f s = .next (s.hopped r.toNat x.toNat y.toNat f (x.toNat - 1) y.toNat)) ∧
    (x.toNat = a → y.toNat < b → execFlitReceive r x y f s = .next (s.hopped r.toNat x.toNat y.toNat f x.toNat (y.toNat + 1))) ∧
    (x.toNat = a → b < y.toNat → execFlitReceive r x y f s = .next (s.hopped r.toNat x.toNat y.toNat f x.toNat (y.toNat - 1))) := by
  simp only [execFlitReceive, hparity, State.portWaits_first hrun hfirst, State.portSends_running hrun, htarget]
  refine ⟨fun hx => if_pos hx, fun hx => ?_, fun hx hy => ?_, fun hx hy => ?_⟩
  · simp [hx, Nat.lt_asymm hx, State.hopped, State.transitWithout]
  · simp [hx, hy, State.hopped, State.transitWithout]
  · simp [hx, hy, Nat.lt_asymm hy, State.hopped, State.transitWithout]

variable (htarget : s.regionTarget r.toNat x.toNat y.toNat f.head = (x.toNat, y.toNat))
include htarget

/-- R512: at the exit of its region a flit crosses the seam its route names. -/
theorem execFlitReceive_crosses {q : Nat} (hdreg : f.head.dreg ≠ r)
    (hnext : neighbour r.toNat (s.route r.toNat f.head.dreg.toNat - 1) = some q) :
    execFlitReceive r x y f s =
      .next (s.crossSeam r.toNat q x.toNat y.toNat (s.route r.toNat f.head.dreg.toNat - 1) f) := by
  simp [execFlitReceive, hparity, State.portWaits_first hrun hfirst, State.portSends_running hrun, htarget, BitVec.toNat_inj, hdreg, hnext]

/-- R513: at its target tile a flit for an edge port has arrived. -/
theorem execFlitReceive_arrives (hdreg : f.head.dreg = r) (hport : f.head.dkind = 1) :
    execFlitReceive r x y f s = .next (s.atPort r.toNat x.toNat y.toNat f) := by
  simp [execFlitReceive, hparity, State.portWaits_first hrun hfirst, State.portSends_running hrun, htarget, hdreg, hport]

end
end

/-! ## Seams (R520-R526) -/

section
variable {s : State} {f g : Flit} {rest rest' : List Flit}

/-- The side `d` with a flit at the end of the main queue of channel `c`. -/
def SeamSide.enqueued (d : SeamSide) (c : Nat) (f : Flit) : SeamSide :=
  { d with
    main := Table.put [] d.main c (Table.get [] d.main c ++ [f])
    highWater := BitVec.ofNat 5 (max d.highWater.toNat ((Table.get [] d.main c).length + 1)) }

/-- R520: with a credit a flit of another lane than 0 joins the main queue of its channel. -/
theorem State.crossSeam_main {r q x y side : Nat} (hopen : (s.seam q (opposite side)).hold = false) (hout : (s.seam r side).hold = false)
    (hlane : f.head.lane ≠ 0)
    (hroom : (Table.get [] (s.seam q (opposite side)).main (seamChannel r q x y side f.head)).length < 28) :
    s.crossSeam r q x y side f = ({ s with transit := s.transitWithout r x y f }).updSeam q (opposite side)
      (fun d => d.enqueued (seamChannel r q x y side f.head) f) := by
  have hreleased : ¬ ((s.seam q (opposite side)).hold || (s.seam r side).hold) = true := by simp [hopen, hout]
  exact (if_neg hreleased).trans ((if_neg hlane).trans (if_pos hroom))

/-- R523: the head of a lane-0 queue goes first where the main queue is empty or the flit is scheduled. -/
theorem takesLane0_first {m : List Flit} {isOpen : Bool} (h : m = [] ∨ f.head.sched = true) :
    takesLane0 (f :: rest) m isOpen = true := by
  cases m with
  | nil => rfl
  | cons g m =>
    have hsched : f.head.sched = true := h.resolve_left (List.cons_ne_nil g m)
    simp [takesLane0, hsched]

/-- R522: while strokes run every side is open. -/
theorem State.mainOpen_running (hrun : s.clk.running = true) {r side ch : Nat} (hmain : Table.get [] (s.seam r side).main ch = f :: rest) :
    s.mainOpen r side ch = true := by
  simp [State.mainOpen, hmain, State.sideOpen, State.laneTableRules, hrun]

/-- The state in which a flit has gone from a seam's queue on into the region. -/
def State.entered (s : State) (r side ch : Nat) (f : Flit) (dequeue : SeamSide → SeamSide) : State :=
  { s.updSeam r side dequeue with
    transit := s.transit ++ [(r, (channelEntry r side ch).1, (channelEntry r side ch).2, f)] }

variable {r : BitVec 6} {side : Side} {ch : BitVec 6}

theorem execSeamCreditReturn_lane0 (hlane0 : Table.get [] (s.seam r.toNat (sideNat side)).lane0 ch.toNat = f :: rest)
    (hfirst : Table.get [] (s.seam r.toNat (sideNat side)).main ch.toNat = [] ∨ f.head.sched = true) :
    execSeamCreditReturn r side ch true s =
      .next (s.entered r.toNat (sideNat side) ch.toNat f (fun d => { d with lane0 := Table.put [] d.lane0 ch.toNat rest })) := by
  simp [execSeamCreditReturn, hlane0, takesLane0_first hfirst, State.entered]

section
variable (hmain : Table.get [] (s.seam r.toNat (sideNat side)).main ch.toNat = f :: rest)
  (hlane0 : Table.get [] (s.seam r.toNat (sideNat side)).lane0 ch.toNat = g :: rest') (hsched : f.head.sched = true)
  (hplain : g.head.sched = false) (hrun : s.clk.running = true)
include hmain hlane0 hsched hplain hrun

theorem execSeamCreditReturn_lane0_waits : execSeamCreditReturn r side ch true s = .next s := by
  simp [execSeamCreditReturn, hlane0, hmain, State.mainOpen_running hrun hmain, takesLane0, hsched, hplain]

theorem execSeamCreditReturn_main : execSeamCreditReturn r side ch false s =
    .next (s.entered r.toNat (sideNat side) ch.toNat f (fun d => { d with main := Table.put [] d.main ch.toNat rest })) := by
  simp [execSeamCreditReturn, hlane0, hmain, State.mainOpen_running hrun hmain, takesLane0, hsched, hplain, State.entered]

end

/-- What one change of a side and of the flits on their way leaves (R520). -/
theorem State.entered_frame {r side ch : Nat} (hregions : Table.wf {} s.regions = true)
    (hsides : Table.wf {} (s.region r).mesh.sides = true) (dequeue : SeamSide → SeamSide) :
    OtherRegions r s (s.entered r side ch f dequeue) ∧ (s.entered r side ch f dequeue).seam r side = dequeue (s.seam r side) :=
  ⟨State.otherRegions_updSeam _, State.seam_updSeam hregions hsides _⟩

/-- R526: during easy-all a side between powered, locked regions is released, its queues empty. -/
theorem execSeamRelease_open {q : Nat} (hnext : neighbour r.toNat (sideNat side) = some q) (heasy : s.clk.easy ≠ 0)
    (hpower : s.powered r.toNat = true) (hpower' : s.powered q = true) (hlock : (s.region r.toNat).loop.lock = true)
    (hlock' : (s.region q).loop.lock = true) :
    execSeamRelease r side s = .next (({ s with accessFault := false }).updSeam r.toNat (sideNat side)
      (fun d => { d with hold := false, main := [], lane0 := [] })) := by
  have hopen : (s.clk.easy ≠ 0 && s.powered r.toNat && s.powered q && (s.region r.toNat).loop.lock && (s.region q).loop.lock) = true := by
    simp [heasy, hpower, hpower', hlock, hlock']
  rw [execSeamRelease, State.regAccess_powered hpower, State.releaseSide, hnext]
  exact congrArg Host.Outcome.next (if_pos hopen)

end

/-! ## The ports of the tensor links (R541-R543) -/

section
variable {s : State} {f : Flit} {k : Nat}

/-- The flit as the link sends it: its destination from the remote delivery table (R542). -/
def State.redirected (s : State) (k : Nat) (f : Flit) : Flit :=
  sealFlit { f with head := redirect (Table.get 0 (s.link k).remote f.head.deliv.toNat) f.head }

/-- The flits that wait at a link's port once `g` has come: those of its delivery last, and none of them of another stroke (R541). -/
def Link.packed (l : Link) (g : Flit) : List Flit :=
  l.packing.filter (fun h => h.head.deliv ≠ g.head.deliv) ++
    l.packing.filter (fun h => h.head.deliv = g.head.deliv && h.head.stroke = g.head.stroke) ++ [g]

/-- R541: a data flit of a valid entry waits at the port for its flow. -/
theorem State.linkTakes_data (hvalid : (Table.get 0 (s.link k).remote f.head.deliv.toNat).getLsbD 16 = true) (hkind : f.head.kind = 0)
    (r : Nat) : s.linkTakes r k f = s.updLink k (fun l => { l with packing := (s.link k).packed (s.redirected k f) }) := by
  have hkept : (s.redirected k f).head.kind = 0 := (sealFlit_kind _).trans hkind
  rw [State.linkTakes]
  exact (if_neg (by simp only [hvalid, hkind]; decide)).trans ((if_neg (by simp [hkind])).trans (if_pos hkept))

/-- A link on which a flit waits is not at reset, so writing it is read back in every table of links. -/
theorem State.updLink_packing {g : Link → List Flit} (h : g (s.link k) ≠ []) :
    OnlyLink k s (s.updLink k (fun l => { l with packing := g l })) ∧
      (s.updLink k (fun l => { l with packing := g l })).link k = { s.link k with packing := g (s.link k) } :=
  ⟨⟨rfl, fun j hj => Table.get_put_ne _ _ _ _ j hj⟩, Table.get_put_some _ _ _ _ fun e => h (congrArg Link.packing e)⟩

/-- R513: at an edge region's ports 8 to 13 that are not gated the tensor links take the flit. -/
theorem State.atPort_link {r x y p : Nat} (hedge : edgeIndex r = some p) (hlow : 8 ≤ f.head.dx.toNat) (hhigh : f.head.dx.toNat ≤ 13)
    (hgate : s.portGated r f.head.dx.toNat = false) :
    s.atPort r x y f = ({ s with transit := s.transitWithout r x y f }).linkTakes r (6 * p + f.head.dx.toNat - 8) f := by
  simp [State.atPort, hedge, hlow, hhigh, hgate, State.transitWithout]

end

/-- Settles O41: a flit received is discarded, waits, hops, crosses into a queue or reaches a link's port; a credit returned takes one flit
from a queue of its side, and a release is one change of its side. -/
theorem meshTransport : Obligations.MeshTransport := by
  intro s r x y f g side ch rest rest' q p hregions n here gone tg source behind j entry sent mine packed out back c d moved e here'
  refine ⟨fun hparity => ?_, fun hparity hrun hbehind => exec_flitReceive.trans (execFlitReceive_behind hparity hrun hbehind),
    fun hparity hrun hfirst => ?_, fun hparity hrun hfirst htarget hdreg hnext hopen hout hlane hroom hmain hsides => ?_,
    fun hparity hrun hfirst htarget hdreg hport hedge hlow hhigh hgate hvalid hkind => ?_,
    fun hhead hlane0 hsides hfirst => ?_, fun hmain hlane0 hsched hplain hrun hwf hsides => ⟨?_, ?_⟩,
    fun hnext heasy hpower hpower' hlock hlock' hsides => ?_⟩
  · exact ⟨_, exec_flitReceive.trans (execFlitReceive_badParity hparity), rfl, State.otherRegions_updMesh _,
      congrArg (fun g => (Region.mesh g).parity) (State.region_updMesh (s := { s with transit := gone }) hregions _)⟩
  · obtain ⟨hright, hleft, hup, hdown⟩ := execFlitReceive_hops hparity hrun hfirst rfl
    exact ⟨fun hx => ⟨_, exec_flitReceive.trans (hright hx), rfl⟩, fun hx => ⟨_, exec_flitReceive.trans (hleft hx), rfl⟩,
      fun hx hy => ⟨_, exec_flitReceive.trans (hup hx hy), rfl⟩, fun hx hy => ⟨_, exec_flitReceive.trans (hdown hx hy), rfl⟩⟩
  · have hexec : execFlitReceive r x y f s = .next (({ s with transit := gone }).updSeam q back (fun d => d.enqueued c f)) :=
      (execFlitReceive_crosses hparity hrun hfirst htarget hdreg hnext).trans
        (congrArg Host.Outcome.next (State.crossSeam_main hopen hout hlane hroom))
    have hseam := State.seam_updSeam (s := { s with transit := gone }) (side := back) hregions hsides (fun d => d.enqueued c f)
    refine ⟨_, exec_flitReceive.trans hexec, rfl, State.otherRegions_updSeam _, ?_⟩
    rw [hseam]
    exact ⟨rfl, Table.get_put_self _ _ _ _ hmain⟩
  · have hpacked : (s.link j).packed sent = packed := by
      simp only [Link.packed, ne_eq, decide_not]
      rfl
    have hexec : execFlitReceive r x y f s = .next (({ s with transit := gone }).updLink j (fun l => { l with packing := packed })) := by
      rw [execFlitReceive_arrives hparity hrun hfirst htarget hdreg hport, State.atPort_link hedge hlow hhigh hgate, ← hpacked]
      exact congrArg Host.Outcome.next (State.linkTakes_data (s := { s with transit := gone }) hvalid hkind n)
    obtain ⟨honly, hlink⟩ := State.updLink_packing (s := { s with transit := gone }) (k := j) (g := fun _ => packed) (by simp [packed])
    exact ⟨_, exec_flitReceive.trans hexec, rfl, honly, hlink⟩
  · obtain ⟨hother, hseam⟩ := State.entered_frame (f := f) (side := sideNat side) (ch := ch.toNat) hregions hsides
      (fun d => { d with lane0 := Table.put [] d.lane0 ch.toNat rest })
    refine ⟨_, execSeamCreditReturn_lane0 hhead hfirst, rfl, hother, ?_⟩
    rw [hseam]
    exact ⟨Table.get_put_self _ _ _ _ hlane0, rfl⟩
  · exact ⟨_, execSeamCreditReturn_lane0_waits hmain hlane0 hsched hplain hrun, rfl⟩
  · obtain ⟨hother, hseam⟩ := State.entered_frame (f := f) (side := sideNat side) (ch := ch.toNat) hregions hsides
      (fun d => { d with main := Table.put [] d.main ch.toNat rest })
    refine ⟨_, execSeamCreditReturn_main hmain hlane0 hsched hplain hrun, rfl, hother, ?_⟩
    rw [hseam]
    exact ⟨Table.get_put_self _ _ _ _ hwf, rfl⟩
  · have hseam := State.seam_updSeam (s := { s with accessFault := false }) (r := n) (side := sideNat side) hregions hsides
      (fun d => { d with hold := false, main := [], lane0 := [] })
    refine ⟨_, execSeamRelease_open hnext heasy hpower hpower' hlock hlock', ⟨rfl, State.otherRegions_updSeam _⟩, ?_⟩
    rw [hseam]
    exact ⟨rfl, rfl, rfl⟩

end Sys2Proof.Machine

/-! # Tensor links: what a link receives -/

namespace Sys2Proof.Machine

/-! ## A link that is written -/

section
variable {s : State} {k : Nat} {f : Link → Link}

theorem Link.ne_reset_of_state {l : Link} (h : l.state ≠ 0) : l ≠ {} := fun e => h (congrArg Link.state e)

theorem State.onlyLink_updLink : OnlyLink k s (s.updLink k f) := ⟨rfl, fun j hj => Table.get_put_ne _ _ _ _ j hj⟩

theorem State.link_updLink_ne {j : Nat} (h : j ≠ k) : (s.updLink k f).link j = s.link j := Table.get_put_ne _ _ _ _ j h

/-- A link that is written and not at reset is read back, in every table of links. -/
theorem State.link_updLink (h : f (s.link k) ≠ {}) : (s.updLink k f).link k = f (s.link k) := Table.get_put_some _ _ _ _ h

theorem OnlyLink.trans {u v : State} (h : OnlyLink k s u) (h' : OnlyLink k u v) : OnlyLink k s v :=
  ⟨by rw [h'.1, h.1], fun j hj => (h'.2 j hj).trans (h.2 j hj)⟩

/-- A command that writes one link, which stays out of reset, changes that link alone. -/
theorem completes_updLink {i : Instr} {l : Link} (hexec : exec i s = .next (s.updLink k f)) (hlink : f (s.link k) = l) (hstate : l.state ≠ 0) :
    Completes i s fun u => OnlyLink k s u ∧ u.link k = l :=
  ⟨_, hexec, State.onlyLink_updLink, (State.link_updLink (hlink ▸ Link.ne_reset_of_state hstate)).trans hlink⟩

end

/-! ## Codewords and flows (R536-R543) -/

/-- The flow that a link receives is tainted (R540). -/
def Link.tainted (l : Link) : Bool := l.flow.any (fun v => v.taint)

theorem Link.tainted_eq (l : Link) : l.tainted = match l.flow with
    | some f => f.taint
    | none => false := by
  unfold Link.tainted
  cases l.flow <;> rfl

section
variable {s : State} {k : BitVec 7} (hup : (s.link k.toNat).state = 2)
include hup

/-- R536, R537: a codeword that is good or corrected ends a run of bad ones, and counts its blocks that fail a check. -/
theorem execCodewordReceive_read {outcome : BitVec 2} (bs : List (BitVec 4 × Bytes)) (hread : outcome ≠ 2) :
    execCodewordReceive k outcome bs s = .next (s.updLink k.toNat (fun l => { l with
      corrected := if outcome = 1 then satAdd l.corrected 1 else l.corrected
      crcFail := satAdd l.crcFail (badBlocks bs)
      badRun := 0
      badNow := false })) :=
  (if_neg (by simp [hup])).trans (if_neg hread)

/-- R536, R551: fewer than eight uncorrectable codewords in a row leave the link up. -/
theorem execCodewordReceive_uncorrectable (bs : List (BitVec 4 × Bytes)) (hflow : (s.link k.toNat).flow = none)
    (hrun : (s.link k.toNat).badRun < 7) :
    execCodewordReceive k 2 bs s = .next (s.updLink k.toNat (fun l => { l with
      uncorrectable := satAdd l.uncorrectable 1, badRun := l.badRun + 1, badNow := true })) := by
  have hlink := State.link_updLink (s := s) (k := k.toNat)
    (f := fun l => { l with uncorrectable := satAdd l.uncorrectable 1, badRun := l.badRun + 1, badNow := true })
    (Link.ne_reset_of_state (by simp [hup]))
  simp [execCodewordReceive, State.taintFlow, hup, hlink, hflow, hrun]

/-- R541: a flow header names the blocks that follow; a flow that was tainted stays so (R540). -/
theorem execFlowHeaderReceive_whole (b : Bytes) (hgood : (s.link k.toNat).badNow = false) :
    execFlowHeaderReceive k b s = .next (s.updLink k.toNat (fun l => { l with
      flow := some { head := headOf b, left := fieldNat b 12 1, poison := BitVec.ofNat 48 (fieldNat b 14 6)
                     lines := (List.range 48).map (fun n => BitVec.ofNat 16 (fieldNat b (20 + 2 * n) 2))
                     taint := (s.link k.toNat).tainted } })) := by
  simp only [execFlowHeaderReceive, hup, hgood, Link.tainted_eq]
  rfl

end

/-- The flit that a data block becomes (R540-R542). -/
def FlowIn.dataFlit (w : FlowIn) (badNow : Bool) (data : Bytes) : Flit :=
  { head := withParity { w.head with
      lineOrCrc := w.lines.getD w.done 0
      poison := decide (w.done < 48) && w.poison.getLsbD w.done
      taint := w.head.taint || w.taint || badNow }
    body := padTo 128 data }

/-- The commit flit that a good trailer becomes: a tainted flow's carries TAINT (R540, R543; log entry 25). -/
def commitOf (b : Bytes) (tainted : Bool) : Flit :=
  if tainted && crcOk (trailerFlit b) then
    sealFlit { trailerFlit b with head := { (trailerFlit b).head with taint := true } }
  else trailerFlit b

theorem commitOf_dreg (b : Bytes) (tainted : Bool) : (commitOf b tainted).head.dreg = (trailerFlit b).head.dreg := by
  unfold commitOf
  split
  · exact sealFlit_dreg _
  · rfl

theorem commitOf_dx (b : Bytes) (tainted : Bool) : (commitOf b tainted).head.dx = (trailerFlit b).head.dx := by
  unfold commitOf
  split
  · exact sealFlit_dx _
  · rfl

section
variable {s : State}

/-- R513: a flit with a route joins those on their way at the tile under the port. -/
theorem State.injectAt_routed {r x : Nat} {f : Flit} (hroute : s.route r f.head.dreg.toNat ≠ 15) :
    s.injectAt r x f = { s with transit := s.transit ++ [(r, x, 0, f)] } := if_neg hroute

variable {k : BitVec 7} (hup : (s.link k.toNat).state = 2)
include hup

theorem execFlowDataBlock_lands {w : FlowIn} (data : Bytes) (hflow : (s.link k.toNat).flow = some w) (hleft : w.left ≠ 0)
    (hroute : s.route (linkRegion k.toNat) w.head.dreg.toNat ≠ 15) :
    execFlowDataBlock k data s = .next (({ s with
      transit := s.transit ++ [(linkRegion k.toNat, w.head.dx.toNat, 0, w.dataFlit (s.link k.toNat).badNow data)] }).updLink k.toNat
        (fun l => { l with flow := some { w with left := w.left - 1, done := w.done + 1 } })) := by
  simp only [execFlowDataBlock, hflow]
  rw [if_neg (by simp [hleft, hup])]
  exact congrArg Host.Outcome.next (State.injectAt_routed hroute)

section
variable {b : Bytes} (hgood : (s.link k.toNat).badNow = false)
include hgood

/-- R538, R543: a trailer ends its flow, and one that passes its check gives the commit flit. -/
theorem execFlowTrailerReceive_good (hcrc : blockCrcOk b = true)
    (hroute : s.route (linkRegion k.toNat) (trailerFlit b).head.dreg.toNat ≠ 15) :
    execFlowTrailerReceive k b s = .next (({ s with
      transit := s.transit ++ [(linkRegion k.toNat, (trailerFlit b).head.dx.toNat, 0,
        commitOf b (s.link k.toNat).tainted)] }).updLink k.toNat (fun l => { l with flow := none })) := by
  have hinject := State.injectAt_routed (s := s.updLink k.toNat (fun l => { l with flow := none })) (r := linkRegion k.toNat)
    (x := (trailerFlit b).head.dx.toNat) (f := commitOf b (s.link k.toNat).tainted)
    (by rw [commitOf_dreg]; exact hroute)
  rw [← commitOf_dx b (s.link k.toNat).tainted] at hinject ⊢
  simp only [execFlowTrailerReceive, hup, hgood, hcrc]
  rw [Link.tainted_eq] at hinject ⊢
  exact congrArg Host.Outcome.next hinject

/-- R537: a trailer that fails its check is discarded and counted. -/
theorem execFlowTrailerReceive_bad (hcrc : blockCrcOk b = false) :
    execFlowTrailerReceive k b s = .next ((s.updLink k.toNat (fun l => { l with flow := none })).updLink k.toNat
      (fun l => { l with crcFail := satAdd l.crcFail 1 })) := by
  simp [execFlowTrailerReceive, hup, hgood, hcrc]

end
end

/-! ## Bulk segments (R544, R545) -/

/-- What a link holds of an object once a segment of it has arrived. -/
def Link.bulkWith (l : Link) (h : BulkHeader) (ds : List Bytes) : BulkIn :=
  let old := (l.bulk.find? (fun e => e.kind = h.kind && e.object = h.object.toNat)).getD
    { kind := h.kind, object := h.object.toNat, total := h.total }
  { old with
    got := Table.put 0 old.got h.segment (segmentBytes h)
    data := Table.put [] old.data h.offset ((ds.flatMap id).take (segmentBytes h)) }

section
variable {s : State} {k : BitVec 7} {b : Bytes} (hup : (s.link k.toNat).state = 2) (ds : List Bytes) (c : BulkContent)
include hup

theorem execBulkSegment_bad (hcrc : blockCrcOk b = false) :
    execBulkSegment k b ds c s = .next (s.updLink k.toNat (fun l => { l with crcFail := satAdd l.crcFail 1 })) := by
  simp [execBulkSegment, hup, hcrc]

/-- R545: a segment of an object that no member passes on joins it, and the object is not whole yet. -/
theorem execBulkSegment_joins (hgood : (s.link k.toNat).badNow = false) (hcrc : blockCrcOk b = true) (hkind : 2 < (bulkHeaderOf b).kind)
    (hpart : ((s.link k.toNat).bulkWith (bulkHeaderOf b) ds).got.foldl (fun n e => n + e.2) 0 < (bulkHeaderOf b).total) :
    execBulkSegment k b ds c s = .next (s.updLink k.toNat (fun l => { l with
      bulk := (s.link k.toNat).bulk.filter
        (fun e => !(e.kind = (bulkHeaderOf b).kind && e.object = (bulkHeaderOf b).object.toNat)) ++
        [(s.link k.toNat).bulkWith (bulkHeaderOf b) ds] })) := by
  have hwhole : decide ((bulkHeaderOf b).total ≤ ((s.link k.toNat).bulkWith (bulkHeaderOf b) ds).got.foldl (fun n e => n + e.2) 0) = false :=
    decide_eq_false (Nat.not_le.mpr hpart)
  refine (if_neg (by simp [hup])).trans ((if_neg (by simp [hcrc])).trans ((if_neg (by simp [hgood])).trans ?_))
  unfold Link.bulkWith at hwhole
  extract_lets l old part new rest whole joined passed
  have hnot : whole = false := hwhole
  simp only [passed, joined, hnot, if_neg (Nat.not_le.mpr hkind)]
  rfl

end

/-! ## Acknowledgements and resends (R546, R548) -/

section
variable {s : State} {k : BitVec 7} {b : Bytes} {w : SentWord} {ws : List SentWord}

/-- An ACK of the oldest word releases it; no word waits for its place. -/
theorem ackWords_oldest {l : Link} (hunacked : l.unacked = w :: ws) (hwaiting : l.waiting = []) :
    ackWords w.seq l = { l with unacked := ws } := by
  simp [ackWords, hunacked, drainWords, hwaiting]

theorem execAckOnly_releases (hgood : (s.link k.toNat).badNow = false) (hcrc : blockCrcOk b = true) (hkind : fieldNat b 0 1 = 2) :
    execAckOnly k b s = .next (s.updLink k.toNat (ackWords (wordAck b))) := by
  simp [execAckOnly, isWord, hgood, hcrc, hkind]

/-- A word without its ACK is sent again, seven times more before its link falls (R548). -/
theorem execControlWordResend_again (hunacked : (s.link k.toNat).unacked = w :: ws) (hresends : w.resends < 8) :
    execControlWordResend k s = .next ((s.count 0x600008 1).updLink k.toNat (fun l => { l with
      retries := satAdd l.retries 1
      unacked := { w with resends := w.resends + 1 } :: ws
      out := l.out ++ [.block 4 (wordBlock w.seq l.ack w.word)] })) := by
  simp [execControlWordResend, hunacked, hresends]

end

/-- Settles O42: a block received is one change of its link, and a flit of a flow is one more on its way. -/
theorem linkReceive : Obligations.LinkReceive := by
  intro s k bs b data ds w c sw ws hup n l only fails h old part new tainted head f f'
  have hon : (s.link k.toNat).state ≠ 0 := by simp [hup]
  refine ⟨?_, ?_, fun hflow hrun => ?_, fun hgood => ?_, fun hflow hleft hroute => ?_, fun hgood hcrc hroute => ?_, fun hgood hcrc => ?_,
    fun hgood hcrc hkind hpart => ?_, fun hcrc => ?_, fun hgood hcrc hkind hseq hunacked hwaiting => ?_, fun hunacked hresends => ?_⟩
  · exact completes_updLink (execCodewordReceive_read hup bs (by decide)) rfl hon
  · exact completes_updLink (execCodewordReceive_read hup bs (by decide)) rfl hon
  · exact completes_updLink (execCodewordReceive_uncorrectable hup bs hflow hrun) rfl hon
  · exact completes_updLink (execFlowHeaderReceive_whole hup b hgood) rfl hon
  · exact ⟨_, execFlowDataBlock_lands hup data hflow hleft hroute, State.link_updLink (Link.ne_reset_of_state hon), rfl, rfl⟩
  · exact ⟨_, execFlowTrailerReceive_good hup hgood hcrc hroute, State.link_updLink (Link.ne_reset_of_state hon), rfl, rfl⟩
  · have hended := State.link_updLink (s := s) (k := n) (f := fun l => { l with flow := none }) (Link.ne_reset_of_state hon)
    refine ⟨_, execFlowTrailerReceive_bad hup hgood hcrc, State.onlyLink_updLink.trans State.onlyLink_updLink, ?_⟩
    rw [State.link_updLink (Link.ne_reset_of_state (by rw [hended]; exact hon)), hended]
  · exact completes_updLink (execBulkSegment_joins hup ds c hgood hcrc hkind hpart) rfl hon
  · exact completes_updLink (execBulkSegment_bad hup ds c hcrc) rfl hon
  · exact completes_updLink (execAckOnly_releases hgood hcrc hkind) (hseq ▸ ackWords_oldest hunacked hwaiting) hon
  · exact ⟨_, execControlWordResend_again hunacked hresends, State.link_updLink (Link.ne_reset_of_state hon), rfl⟩

end Sys2Proof.Machine

/-! # What steering the strokes leaves of the links

Easy-alls and resumes send words on links. What they leave alone of each link, and of partners, regatta and pair, is said here once. -/

namespace Sys2Proof.Machine

/-! ## Words sent on a link (R546, R548) -/

/-- The second link is the first but for the words sent and still to be acknowledged. -/
def Link.SameButWords (l l' : Link) : Prop :=
  l' = { l with waiting := l'.waiting, unacked := l'.unacked, seq := l'.seq, out := l'.out }

theorem drainWords_sameButWords (n : Nat) (l : Link) : l.SameButWords (drainWords n l) := by
  induction n generalizing l with
  | zero => rfl
  | succ n ih =>
    unfold drainWords
    split
    · rfl
    · split
      · rfl
      · exact ih _

theorem ackWords_sameButWords (ack : BitVec 16) (l : Link) : l.SameButWords (ackWords ack l) := by
  unfold ackWords
  split
  · exact drainWords_sameButWords 64 { l with unacked := (l.unacked.dropWhile (fun w => w.seq ≠ ack)).drop 1 }
  · rfl

theorem Link.SameButWords.eq {l l' : Link} (h : l.SameButWords l') :
    l' = { l with waiting := l'.waiting, unacked := l'.unacked, seq := l'.seq, out := l'.out } := h

theorem Link.SameButWords.state {l l' : Link} (h : l.SameButWords l') : l'.state = l.state := (congrArg Link.state h.eq :)

theorem Link.SameButWords.ne_reset {l l' : Link} (h : l.SameButWords l') (hon : l.state ≠ 0) : l' ≠ {} :=
  Link.ne_reset_of_state (h.state.trans_ne hon)

/-- What a link that takes a control word does with it: kinds 1 to 3 go out at once, the others in their order. -/
def Link.take (w : CtlWord) (l : Link) : Link :=
  if w.kind ≤ 3 then { l with out := l.out ++ [.block 4 (wordBlock 0 l.ack w)] } else drainWords 64 { l with waiting := l.waiting ++ [w] }

theorem Link.take_sameButWords (w : CtlWord) (l : Link) : l.SameButWords (l.take w) := by
  unfold Link.take
  split
  · rfl
  · exact drainWords_sameButWords 64 { l with waiting := l.waiting ++ [w] }

/-- A word may go out on a link: it is up, or in training for a probe, and its partner may be sent the word. -/
def State.canSend (s : State) (k : Nat) (w : CtlWord) : Prop :=
  ((s.link k).state = 2 ∨ (s.link k).state = 1 ∧ w.kind = 13) ∧ s.mayWord k w.kind = true

section
variable {s : State} {k : Nat} {w : CtlWord}

theorem State.canSend.state_ne_zero (h : s.canSend k w) : (s.link k).state ≠ 0 := by
  obtain ⟨h | ⟨h, -⟩, -⟩ := h <;> simp [h]

theorem State.sendWord_sends (h : s.canSend k w) : s.sendWord k w = s.updLink k (Link.take w) := by
  obtain ⟨hstate, hmay⟩ := h
  exact if_neg (by simpa [hmay, or_iff_not_imp_left] using hstate)

theorem State.sendWord_stays (h : ¬ s.canSend k w) : s.sendWord k w = s := by
  refine if_pos ?_
  by_contra hno
  refine h ?_
  simpa [State.canSend, or_iff_not_imp_left] using hno

theorem State.link_sendWord (h : s.canSend k w) : (s.sendWord k w).link k = (s.link k).take w := by
  rw [State.sendWord_sends h]
  exact State.link_updLink ((Link.take_sameButWords w _).ne_reset h.state_ne_zero)

theorem State.link_sendWord_ne {j : Nat} (h : j ≠ k) : (s.sendWord k w).link j = s.link j := by
  by_cases hsend : s.canSend k w
  · rw [State.sendWord_sends hsend, State.link_updLink_ne h]
  · rw [State.sendWord_stays hsend]

/-- A word changes the table of links alone. -/
theorem State.sendWord_table (s : State) (k : Nat) (w : CtlWord) : ∃ t, s.sendWord k w = { s with links := { s.links with links := t } } := by
  by_cases hsend : s.canSend k w
  · exact ⟨_, State.sendWord_sends hsend⟩
  · exact ⟨s.links.links, State.sendWord_stays hsend⟩

theorem State.sendWords_table (s : State) (ks : List Nat) (w : CtlWord) :
    ∃ t, s.sendWords ks w = { s with links := { s.links with links := t } } := by
  induction ks generalizing s with
  | nil => exact ⟨s.links.links, rfl⟩
  | cons k ks ih =>
    obtain ⟨t, ht⟩ := ih (s.sendWord k w)
    obtain ⟨t', ht'⟩ := s.sendWord_table k w
    refine ⟨t, ht.trans ?_⟩
    rw [ht']

end

/-! ## What stays of a link -/

/-- What a change of the strokes leaves of a link: how it trained, what it heard and receives, and, unless it is up, its words. -/
structure Link.Keeps (l l' : Link) : Prop where
  state : l'.state = l.state
  genAct : l'.genAct = l.genAct
  flaps : l'.flaps = l.flaps
  published : l'.published = l.published
  exact_ : l'.exact_ = l.exact_
  peer : l'.peer = l.peer
  flow : l'.flow = l.flow
  unacked : l.state ≠ 2 → l'.unacked = l.unacked

theorem Link.Keeps.refl {l : Link} : l.Keeps l := ⟨rfl, rfl, rfl, rfl, rfl, rfl, rfl, fun _ => rfl⟩

theorem Link.Keeps.trans {l l' l'' : Link} (h : l.Keeps l') (h' : l'.Keeps l'') : l.Keeps l'' where
  state := h'.state.trans h.state
  genAct := h'.genAct.trans h.genAct
  flaps := h'.flaps.trans h.flaps
  published := h'.published.trans h.published
  exact_ := h'.exact_.trans h.exact_
  peer := h'.peer.trans h.peer
  flow := h'.flow.trans h.flow
  unacked hdown := (h'.unacked (h.state.trans_ne hdown)).trans (h.unacked hdown)

theorem Link.SameButWords.keeps {l l' : Link} (h : l.SameButWords l') (hup : l.state = 2) : l.Keeps l' where
  state := (congrArg Link.state h.eq :)
  genAct := (congrArg Link.genAct h.eq :)
  flaps := (congrArg Link.flaps h.eq :)
  published := (congrArg Link.published h.eq :)
  exact_ := (congrArg Link.exact_ h.eq :)
  peer := (congrArg Link.peer h.eq :)
  flow := (congrArg Link.flow h.eq :)
  unacked hdown := absurd hup hdown

/-- Every link keeps what a change of the strokes leaves of it. -/
def KeepsLinks (s u : State) : Prop := ∀ j, (s.link j).Keeps (u.link j)

section
variable {s u : State}

theorem KeepsLinks.refl : KeepsLinks s s := fun _ => .refl

theorem KeepsLinks.trans {v : State} (h : KeepsLinks s u) (h' : KeepsLinks u v) : KeepsLinks s v := fun j => (h j).trans (h' j)

theorem KeepsLinks.of_eq (h : u.links.links = s.links.links) : KeepsLinks s u := fun j => by
  rw [State.link, State.link, h]
  exact .refl

theorem KeepsLinks.ite {c : Prop} [Decidable c] {v : State} (hu : KeepsLinks s u) (hv : KeepsLinks s v) :
    KeepsLinks s (if c then u else v) := by
  split <;> assumption

theorem KeepsLinks.updLink {k : Nat} {f : Link → Link} (hne : f (s.link k) ≠ {}) (hf : (s.link k).Keeps (f (s.link k))) :
    KeepsLinks s (s.updLink k f) := fun j => by
  by_cases hj : j = k
  · rw [hj, State.link_updLink hne]
    exact hf
  · rw [State.link_updLink_ne hj]
    exact .refl

theorem KeepsLinks.sendWord (k : Nat) {w : CtlWord} (hw : w.kind ≠ 13) : KeepsLinks s (s.sendWord k w) := by
  by_cases hsend : s.canSend k w
  · have hup : (s.link k).state = 2 := hsend.1.resolve_right fun h => hw h.2
    rw [State.sendWord_sends hsend]
    exact .updLink ((Link.take_sameButWords w _).ne_reset hsend.state_ne_zero) ((Link.take_sameButWords w _).keeps hup)
  · rw [State.sendWord_stays hsend]
    exact .refl

end

/-! ## Easy-alls and resumes -/

/-- From `s` to `u` strokes were steered: no time passed, and of partners, regatta and pair only links and the marker period changed. -/
structure Steers (s u : State) : Prop where
  now : u.now = s.now
  rest : u.links = { s.links with links := u.links.links, period := u.links.period }
  keeps : KeepsLinks s u

section
variable {s u : State}

theorem Steers.refl : Steers s s := ⟨rfl, rfl, .refl⟩

theorem Steers.ite {c : Prop} [Decidable c] {v : State} (hu : Steers s u) (hv : Steers s v) : Steers s (if c then u else v) := by
  split <;> assumption

theorem Steers.foldl {β : Type} {f : State → β → State} (hf : ∀ u b, Steers s u → Steers s (f u b)) (l : List β) (h : Steers s u) :
    Steers s (l.foldl f u) := List.foldlRecOn l f h fun u hu b _ => hf u b hu

variable (h : Steers s u)
include h

theorem Steers.event (code region : Nat) (p : Bytes) : Steers s (u.event code region p) := by
  obtain ⟨_, _, heq⟩ := u.event_only code region p
  rw [heq]
  exact { h with }

theorem Steers.sendWord (k : Nat) {w : CtlWord} (hw : w.kind ≠ 13) : Steers s (u.sendWord k w) := by
  have hkeeps := h.keeps.trans (.sendWord k hw)
  obtain ⟨t, heq⟩ := u.sendWord_table k w
  rw [heq] at hkeeps ⊢
  exact ⟨h.now, congrArg (fun (l : Links) => { l with links := t }) h.rest, hkeeps⟩

theorem Steers.sendWords (ks : List Nat) {w : CtlWord} (hw : w.kind ≠ 13) : Steers s (u.sendWords ks w) :=
  .foldl (fun _ k hu => hu.sendWord k hw) ks h

theorem Steers.takePeriod : Steers s ((u.takeEffect [0x610004]).updLinks (fun l => { l with period := u.dictNat 0x610004 })) :=
  ⟨h.now, congrArg (fun (l : Links) => { l with period := u.dictNat 0x610004 }) h.rest, h.keeps⟩

/-! ### What a clearing easy-all does to the work in flight -/

theorem Steers.updTile (t : TileId) (f : Tile → Tile) : Steers s (u.updTile t f) := { h with }

theorem Steers.updRef (r : Nat) (f : RegionRef → RegionRef) : Steers s (u.updRef r f) := { h with }

theorem Steers.updTables (f : Tables → Tables) : Steers s (u.updTables f) := { h with }

theorem Steers.putSlot (k : Nat) (v : SlotState) : Steers s (u.putSlot k v) := { h with }

theorem Steers.putSet (n : Nat) (p : Option PageSet) : Steers s (u.putSet n p) := { h with }

theorem Steers.releaseSets (ns : List Nat) : Steers s (u.releaseSets ns) := by
  refine .foldl (fun u n hu => ?_) ns h
  unfold State.releaseSet
  split
  · exact hu
  · exact .ite (hu.putSet _ _) (hu.putSet _ _)

theorem Steers.freeReleasing : Steers s u.freeReleasing := by
  refine .foldl (fun u e hu => ?_) _ h
  split
  · exact .ite hu ((hu.putSlot _ _).releaseSets _)
  · exact hu

theorem Steers.restartFlight : Steers s u.restartFlight := by
  unfold State.restartFlight
  refine .updTables (.foldl (fun u e hu => ?_) _ (h.updTables _).freeReleasing) _
  split
  · exact hu.putSlot _ _
  · exact hu

theorem Steers.clearFlight : Steers s u.clearFlight := by
  unfold State.clearFlight
  extract_lets restarted emptied reset
  have hemptied : Steers s emptied := .foldl (fun _ t hu => hu.updTile t _) _ h.restartFlight
  have hreset : Steers s reset := .foldl (fun _ r hu => hu.updRef r _) _ hemptied
  clear_value reset
  exact { hreset with }

/-! ### Naming and entering an easy-all, naming a resume -/

theorem Steers.enterEasy (due : List NamedEasy) : Steers s (u.enterEasy due) := by
  unfold State.enterEasy
  extract_lets more all clearing rest clk halted recorded told
  have hrecorded : Steers s recorded := .foldl (fun _ _ hu => hu.event _ _ _) _ { h with }
  have htold : Steers s told := .ite (hrecorded.sendWords _ (by simp [CtlWord.kind])) hrecorded
  clear_value told
  exact .ite htold.clearFlight htold

theorem Steers.nameEasyAll (cause : Nat) (clearing : Bool) (at_ : Option (BitVec 48)) : Steers s (u.nameEasyAll cause clearing at_) :=
  .ite { h with } (h.enterEasy _)

theorem Steers.clearCause (cause : Nat) : Steers s (u.clearCause cause) := { h with }

theorem Steers.nameResume (step : Nat) : Steers s (u.nameResume step) := by
  unfold State.nameResume
  refine .ite h ?_
  split
  · exact h
  next a b _ =>
    refine .ite ?_ ?_
    · unfold State.nameStake
      extract_lets far far' t n clk resumed periodic
      have hperiodic : Steers s periodic := Steers.takePeriod { h with }
      clear_value periodic
      exact .ite (hperiodic.sendWords _ (by simp [CtlWord.kind])) hperiodic
    · unfold State.resumeAt
      extract_lets far far' t n clk resumed periodic
      have hperiodic : Steers s periodic := Steers.takePeriod { h with }
      clear_value periodic
      exact .ite (hperiodic.sendWords _ (by simp [CtlWord.kind])) hperiodic

end
end Sys2Proof.Machine

/-! # Training, hails, markers and alignment -/

namespace Sys2Proof.Machine

/-! ## What keeps links and partners -/

/-- Links keep what a change of the strokes leaves of them, and the partner table stays as it was. -/
structure KeepsPartners (s u : State) : Prop where
  keeps : KeepsLinks s u
  partners : u.links.partners = s.links.partners

section
variable {s u : State}

theorem KeepsPartners.refl : KeepsPartners s s := ⟨.refl, rfl⟩

theorem KeepsPartners.ite {c : Prop} [Decidable c] {v : State} (hu : KeepsPartners s u) (hv : KeepsPartners s v) :
    KeepsPartners s (if c then u else v) := by
  split <;> assumption

theorem Steers.keepsPartners (h : Steers s u) : KeepsPartners s u := ⟨h.keeps, (congrArg Links.partners h.rest :)⟩

variable (h : KeepsPartners s u)
include h

theorem KeepsPartners.trans {v : State} (h' : KeepsPartners u v) : KeepsPartners s v :=
  ⟨h.keeps.trans h'.keeps, h'.partners.trans h.partners⟩

theorem KeepsPartners.steers {v : State} (h' : Steers u v) : KeepsPartners s v := h.trans h'.keepsPartners

theorem KeepsPartners.updLink {k : Nat} {f : Link → Link} (hne : f (u.link k) ≠ {}) (hf : (u.link k).Keeps (f (u.link k))) :
    KeepsPartners s (u.updLink k f) := ⟨h.keeps.trans (.updLink hne hf), h.partners⟩

/-! ### The regatta (R556, R566) -/

theorem KeepsPartners.haltLinks : KeepsPartners s u.haltLinks := by
  unfold State.haltLinks
  extract_lets halted
  have hhalted : KeepsPartners s halted := { h with }
  exact .ite h (.ite (hhalted.steers (Steers.refl.nameEasyAll _ _ _)) hhalted)

theorem KeepsPartners.chooseParent : KeepsPartners s u.chooseParent := .ite { h with } { h with }

/-- A halt for the links ends once they are whole again (R566). -/
theorem KeepsPartners.endLinksHalt (step : Nat) :
    KeepsPartners s ((u.updLinks (fun l => { l with linksHalt := false })).nameResume step) :=
  KeepsPartners.steers (u := u.updLinks (fun l => { l with linksHalt := false })) { h with } (Steers.refl.nameResume _)

/-! ### The reference (R628-R634) -/

theorem KeepsPartners.updLoopRef (f : RefLoop → RefLoop) : KeepsPartners s (u.updLoopRef f) := { h with }

theorem KeepsPartners.connectRef (c : BitVec 7) : KeepsPartners s (u.connectRef c) := { h with }

theorem KeepsPartners.searchRef : KeepsPartners s u.searchRef := by
  unfold State.searchRef
  refine .ite ?_ h
  split
  · exact h.connectRef _
  · exact h

theorem KeepsPartners.armAlternate : KeepsPartners s u.armAlternate := by
  unfold State.armAlternate
  extract_lets q
  split
  · exact h.updLoopRef _
  · exact .ite h (h.updLoopRef _)

theorem KeepsPartners.forceRef (c : BitVec 7) (auto : Bool) : KeepsPartners s (u.forceRef c auto) :=
  ((h.connectRef c).updLoopRef _).steers (Steers.refl.event _ _ _)

theorem KeepsPartners.autoAlternate : KeepsPartners s u.autoAlternate :=
  .ite ((h.forceRef _ _).updLoopRef _).armAlternate h

theorem KeepsPartners.startSwitch (c : BitVec 7) : KeepsPartners s (u.startSwitch c) := by
  have hsourced := h.updLoopRef (fun q => { q with src := c })
  exact .ite (h.updLoopRef _) (.ite (hsourced.updLoopRef _) (.ite (hsourced.connectRef c) (hsourced.updLoopRef _)))

theorem KeepsPartners.refFollow : KeepsPartners s u.refFollow :=
  KeepsPartners.armAlternate (.ite (h.searchRef.autoAlternate.startSwitch _) h.searchRef.autoAlternate)

/-! ### A pair (R569) -/

theorem KeepsPartners.pairUp (serial : BitVec 128) (active : Bool) : KeepsPartners s (u.pairUp serial active) := by
  unfold State.pairUp
  extract_lets ks effective paired actively halted dropped
  have hpaired : KeepsPartners s paired := by
    refine List.foldlRecOn ks _ (show KeepsPartners s effective from { h with }) fun v hv k _ => ?_
    exact hv.updLink (fun e => Bool.noConfusion (congrArg Link.pair e)) ⟨rfl, rfl, rfl, rfl, rfl, rfl, rfl, fun _ => rfl⟩
  clear_value paired ks
  refine .ite ?_ ?_
  · have hactively : KeepsPartners s actively := { hpaired with }
    clear_value actively
    split
    · exact hactively.updLink (fun e => by simpa using congrArg Link.out e) ⟨rfl, rfl, rfl, rfl, rfl, rfl, rfl, fun _ => rfl⟩
    · exact hactively
  · have hhalted : KeepsPartners s halted := .ite (hpaired.steers (Steers.refl.enterEasy _)) hpaired
    clear_value halted
    exact { hhalted with }

end

/-! ## A link that goes down (R551, R553, R559, R564, R566) -/

section
variable {s : State}

theorem Steers.updServe (f : Serving → Serving) : Steers s (s.updServe f) := ⟨rfl, rfl, .refl⟩

theorem Steers.sendMsg {u : State} (h : Steers s u) (tag : Nat) (m : OutMsg) : Steers s (u.sendMsg tag m) := by
  unfold State.sendMsg
  split
  · exact .ite { h with } h
  · exact h

theorem Steers.failMoves (serial : BitVec 128) : Steers s (s.failMoves serial) := by
  refine .foldl (fun u m hu => ?_) _ .refl
  extract_lets ended
  have hended : Steers s ended := { hu with }
  clear_value ended
  split
  · exact (hended.updTables _).sendMsg _ _
  · exact hended

theorem Steers.slackAgain : Steers s s.slackAgain := .ite (Steers.refl.clearCause _) (.ite .refl (Steers.refl.nameEasyAll _ _ _))

theorem KeepsLinks.partnerGone (q : Partner) : KeepsLinks s (s.partnerGone q) := by
  unfold State.partnerGone
  extract_lets failed lost halted
  have hfailed : KeepsLinks s failed := (Steers.failMoves _).keeps
  have hhalted : KeepsLinks s halted := by
    have hlost : KeepsLinks s lost := hfailed.trans (.of_eq rfl)
    exact .ite (hlost.trans KeepsPartners.refl.haltLinks.keeps) hlost
  refine .ite (hfailed.trans (.of_eq rfl)) (.ite (hhalted.trans ?_) hhalted)
  exact KeepsLinks.trans (u := halted.updLinks (fun l => { l with pairState := 3, mirror := [] })) (.of_eq rfl)
    (Steers.refl.event _ _ _).keeps

theorem KeepsLinks.leavePartner (k : Nat) : KeepsLinks s (s.leavePartner k) := by
  unfold State.leavePartner
  split
  · exact .refl
  · exact .ite (.partnerGone _) (.of_eq rfl)

theorem KeepsLinks.leaveParent (k : Nat) : KeepsLinks s (s.leaveParent k) := by
  unfold State.leaveParent
  refine .ite .refl ?_
  extract_lets left
  have hleft : KeepsLinks s left := .of_eq rfl
  clear_value left
  split
  · exact hleft.trans (KeepsPartners.ite (.forceRef .refl _ _) .refl).chooseParent.armAlternate.keeps
  · exact hleft.trans KeepsPartners.refl.chooseParent.armAlternate.keeps

theorem KeepsLinks.failOver (k : Nat) : KeepsLinks s (s.failOver k) := by
  unfold State.failOver
  split
  · exact .refl
  · extract_lets moved
    have hmoved : KeepsLinks s moved := by
      refine .ite (.trans (.updLink (fun e => ?_) ⟨rfl, rfl, rfl, rfl, rfl, rfl, rfl, fun _ => rfl⟩) Steers.slackAgain.keeps) .refl
      have hactive := congrArg Link.altActive e
      have hnext := congrArg Link.altNext e
      simp_all
    clear_value moved
    exact .ite (hmoved.trans KeepsPartners.refl.haltLinks.keeps) (.ite hmoved (hmoved.trans (Steers.refl.nameResume _).keeps))

theorem KeepsLinks.linkGone (k : Nat) : KeepsLinks s (s.linkGone k) :=
  ((KeepsLinks.leavePartner k).trans (.leaveParent k)).trans (.failOver k)

/-- A link has gone down and trains again (R551): it forgets its words and its flow. -/
structure Link.Fallen (l l' : Link) : Prop where
  training : l'.state = 1
  unacked : l'.unacked = []
  flow : l'.flow = none
  genAct : l'.genAct = 0
  flaps : l'.flaps = satAdd l.flaps 1
  published : l'.published = 0xFFFF

theorem Link.Fallen.keeps {l l' l'' : Link} (h : l.Fallen l') (h' : l'.Keeps l'') : l.Fallen l'' where
  training := h'.state.trans h.training
  unacked := (h'.unacked (by simp [h.training])).trans h.unacked
  flow := h'.flow.trans h.flow
  genAct := h'.genAct.trans h.genAct
  flaps := h'.flaps.trans h.flaps
  published := h'.published.trans h.published

/-- R551: a link that falls, not too often in a minute, trains again. -/
theorem State.linkFalls_fallen {k : Nat} (hen : (s.link k).en = true) (hup : (s.link k).state = 1 ∨ (s.link k).state = 2)
    (hfew : ((s.link k).downs.filter (fun t => s.ms < t + 60000)).length < s.dictNat 0x600005) :
    (s.link k).Fallen ((s.linkFalls k).link k) := by
  have hon : ¬ (!(s.link k).en || (s.link k).state = 0 || (s.link k).state = 3) = true := by
    obtain h | h := hup <;> simp [hen, h]
  unfold State.linkFalls
  rw [if_neg hon]
  extract_lets downs iso flaps fallen recorded
  have hiso : iso = false := by simpa [iso, downs] using hfew
  have hlink : fallen.link k = _ := State.link_updLink (Link.ne_reset_of_state (by simp [hiso]))
  have hrecorded : recorded = fallen := if_neg (by simp [hiso])
  rw [hrecorded]
  refine Link.Fallen.keeps ?_ (KeepsLinks.linkGone k k)
  rw [hlink]
  exact ⟨by simp [hiso], rfl, rfl, rfl, rfl, rfl⟩

end
end Sys2Proof.Machine

namespace Sys2Proof.Machine

/-! ## Training (R549-R552) -/

section
variable {s : State}

@[simp] theorem State.advanceTo_links (m : Nat) : (s.advanceTo m).links = s.links := by
  unfold State.advanceTo
  split <;> rfl

@[simp] theorem State.advanceToTick_links (m : Nat) : (s.advanceToTick m).links = s.links := by
  unfold State.advanceToTick
  split
  · exact State.advanceTo_links _
  · rfl

@[simp] theorem State.advanceTo_link (m n : Nat) : (s.advanceTo m).link n = s.link n := by
  rw [State.link, State.link, State.advanceTo_links]

/-- The class and the generation that the dictionary asks of a link (0x6000.02, 0x6000.03). -/
def State.wantedClass (s : State) (n : Nat) : Nat := ((s.blob 0x600002).getD n 0).toNat
def State.wantedGen (s : State) (n : Nat) : Nat := ((s.blob 0x600003).getD n 0).toNat

/-- The generation a link trains to; `two` tells that both ends can run generation 2. -/
def State.trainedGen (s : State) (n : Nat) (two : Bool) : Nat := if two && s.wantedGen n ≠ 1 then 2 else 1

/-- Half of the longest round trip of a training (R550). -/
def Link.exactDelay (l : Link) : Nat := (l.trips.foldl max 0 + 1) / 2

/-- A link that its training brings up (R549-R551). -/
def State.trained (s : State) (n : Nat) (two : Bool) : Link :=
  { s.link n with
    state := 2
    cls := BitVec.ofNat 2 (s.wantedClass n)
    gen := BitVec.ofNat 2 (s.wantedGen n)
    genAct := BitVec.ofNat 2 (s.trainedGen n two)
    exact_ := BitVec.ofNat 16 (s.link n).exactDelay
    published := BitVec.ofNat 16 (ceilDiv (s.link n).exactDelay 64 + 2) }

theorem KeepsLinks.afterRetrain (k : Nat) : KeepsLinks s (s.afterRetrain k) := by
  unfold State.afterRetrain
  split
  · exact .refl
  · refine .ite .refl (.ite Steers.slackAgain.keeps ?_)
    extract_lets back checked ended
    have hback : KeepsLinks s back := by
      unfold back
      split
      next halt =>
        refine .updLink (fun e => ?_) ⟨rfl, rfl, rfl, rfl, rfl, rfl, rfl, fun _ => rfl⟩
        have hactive := congrArg Link.altActive e
        have hnext := congrArg Link.altNext e
        simp_all
      · exact .refl
    clear_value back
    have hended : KeepsLinks s ended := .ite ((hback.trans Steers.slackAgain.keeps).trans (.of_eq rfl)) (hback.trans Steers.slackAgain.keeps)
    exact hended.trans (Steers.refl.nameResume _).keeps

theorem execLinkTrained_up {k : BitVec 7} {two : Bool} (htraining : (s.link k.toNat).state = 1) (htrips : 16 ≤ (s.link k.toNat).trips.length)
    (hgen : s.wantedGen k.toNat = 2 → s.trainedGen k.toNat two = 2)
    (hdelay : (s.link k.toNat).exactDelay ≤ s.delayLimit (s.wantedClass k.toNat) (s.trainedGen k.toNat two) * 64) :
    ∃ u, execLinkTrained k two s = .next u ∧ (s.trained k.toNat two).Keeps (u.link k.toNat) := by
  have hmeasured : ¬ ((s.link k.toNat).state ≠ 1 || decide ((s.link k.toNat).trips.length < 16) ||
      (s.wantedGen k.toNat = 2 && s.trainedGen k.toNat two = 1) ||
      decide (s.delayLimit (s.wantedClass k.toNat) (s.trainedGen k.toNat two) * 64 < (s.link k.toNat).exactDelay)) = true := by
    have hok : ¬ (s.wantedGen k.toNat = 2 ∧ s.trainedGen k.toNat two = 1) := fun ⟨hwant, hone⟩ => by simp [hgen hwant] at hone
    simpa [htraining, htrips, hdelay] using hok
  obtain ⟨u, hu⟩ : ∃ u, execLinkTrained k two s = .next u := ⟨_, if_neg hmeasured⟩
  refine ⟨u, hu, ?_⟩
  unfold execLinkTrained at hu
  extract_lets kn l cls want gen exact pub up hailed told at hu
  obtain rfl := Host.Outcome.next.inj ((if_neg hmeasured).symm.trans hu)
  have hlink : up.link k.toNat = s.trained k.toNat two := State.link_updLink fun e => Nat.succ_ne_zero 1 (congrArg Link.state e)
  have hhailed : KeepsLinks up hailed :=
    KeepsLinks.trans (u := up.takeEffect [0x600002, 0x600003, 0x600004]) (.of_eq rfl) (.sendWord _ (by simp [CtlWord.kind]))
  have htold : KeepsLinks up told := hhailed.trans (.of_eq rfl)
  exact hlink ▸ (htold.trans (KeepsLinks.afterRetrain _)) _

/-- Training starts afresh now (R549). -/
def State.trainsAgain (s : State) (n : Nat) : State := s.updLink n (fun l => { l with trips := [], trainMs := s.ms })

theorem State.trainsAgain_link {n : Nat} (hon : (s.link n).state ≠ 0) :
    (s.trainsAgain n).link n = { s.link n with trips := [], trainMs := (s.trainsAgain n).ms } :=
  State.link_updLink (Link.ne_reset_of_state hon)

theorem execTrainingTimeout_again {k : BitVec 7} (htraining : (s.link k.toNat).state = 1) :
    execTrainingTimeout k s = .next ((s.advanceTo
      (((s.link k.toNat).trainMs + if s.wantedClass k.toNat = 2 then 200 else 100) * msTicks)).trainsAgain k.toNat) :=
  if_neg (by simp [htraining])

end

/-! ## Hails (R552-R554) -/

section
variable {s : State}

theorem execHailSend_sends {k : BitVec 7} (hup : (s.link k.toNat).state = 2) (hmay : s.mayWord k.toNat 1 = true) :
    execHailSend k s = .next (s.updLink k.toNat (fun l => { l with out := l.out ++ [.block 4 (wordBlock 0 l.ack (.hail (s.hailOf k.toNat)))] })) := by
  have hsend : s.canSend k.toNat (.hail (s.hailOf k.toNat)) := ⟨.inl hup, hmay⟩
  rw [execHailSend, if_neg (by simp [hup]), State.sendHail, State.sendWord_sends hsend]
  rfl

/-- The partner table once a hail has entered it (R553): the entry of its serial takes it, or a new entry does. -/
def State.hailEntered (s : State) (h : Hail) (n : Nat) : List Partner :=
  match s.links.partners.find? (fun p => p.hail.serial = h.serial) with
  | some was => s.links.partners.map (fun p =>
      if p.hail.serial = h.serial then { p with hail := h, links := was.links ||| (1#96 <<< n), state := s.partnerState h } else p)
  | none => s.links.partners ++ [{ hail := h, links := 0 ||| (1#96 <<< n), state := s.partnerState h }]

theorem State.hailEntered_entry (h : Hail) {n : Nat} (hn : n < 96) :
    ∃ q ∈ s.hailEntered h n, q.hail = h ∧ q.links.getLsbD n = true ∧ q.state = s.partnerState h := by
  have hbit (m : BitVec 96) : (m ||| (1#96 <<< n)).getLsbD n = true := by simp [hn]
  unfold State.hailEntered
  split
  next p hp =>
    have hserial : p.hail.serial = h.serial := by simpa using List.find?_some hp
    exact ⟨_, List.mem_map.mpr ⟨p, List.mem_of_find?_eq_some hp, if_pos hserial⟩, rfl, hbit _, rfl⟩
  · exact ⟨_, List.mem_append_right _ (List.mem_singleton_self _), rfl, hbit _, rfl⟩

/-- R553: a hail received names the link's peer and enters the partner table. -/
theorem execHail_enters {k : BitVec 7} {b : Bytes} (agrees prefers : Bool) (hup : (s.link k.toNat).state = 2)
    (hgood : (s.link k.toNat).badNow = false) (hcrc : blockCrcOk b = true) (hkind : fieldNat b 0 1 = 1)
    (hroom : s.links.partners.length < 96) (hsame : ∀ q, s.partnerOn k.toNat = some q → q.hail.serial = (hailIn b).serial) :
    ∃ u, execHail k b agrees prefers s = .next u ∧ (u.link k.toNat).peer = (hailIn b).link.setWidth 7 ∧
      u.links.partners = s.hailEntered (hailIn b) k.toNat := by
  have hheard : ¬ ((s.link k.toNat).state ≠ 2 || (s.link k.toNat).badNow || !isWord b 1) = true := by simp [hup, hgood, isWord, hcrc, hkind]
  obtain ⟨u, hu⟩ : ∃ u, execHail k b agrees prefers s = .next u := ⟨_, if_neg hheard⟩
  refine ⟨u, hu, ?_⟩
  unfold execHail at hu
  extract_lets kn h heard stayed was state mask entered wasMember halted chosen resumed paired at hu
  obtain rfl := Host.Outcome.next.inj ((if_neg hheard).symm.trans hu)
  have hon : (s.link k.toNat).state ≠ 0 := by simp [hup]
  have hwords := ackWords_sameButWords (wordAck b) { s.link k.toNat with peer := h.link.setWidth 7 }
  have hlink : heard.link k.toNat = _ := State.link_updLink (hwords.ne_reset hon)
  have hstayed : stayed = heard := by
    simp only [stayed]
    split
    next p hp => exact if_pos (hsame p hp)
    · rfl
  have hentered : entered = stayed.updLinks (fun l => { l with partners := s.hailEntered h k.toNat }) := by
    simp only [entered, mask, was, state, hstayed, State.hailEntered]
    have hpartners : heard.links.partners = s.links.partners := rfl
    simp only [hpartners]
    cases hwas : s.links.partners.find? (fun p => p.hail.serial = h.serial) with
    | none => exact if_pos hroom
    | some p => rfl
  have hpartners : KeepsPartners entered paired.refFollow := by
    have hchosen : KeepsPartners entered chosen := KeepsPartners.chooseParent (.ite (.haltLinks .refl) .refl)
    have hresumed : KeepsPartners entered resumed := .ite (hchosen.endLinksHalt _) hchosen
    exact KeepsPartners.refFollow (.ite (hresumed.pairUp _ _) hresumed)
  constructor
  · have hpeer : (entered.link k.toNat).peer = h.link.setWidth 7 := by
      rw [hentered, hstayed]
      exact (congrArg Link.peer hlink).trans (congrArg Link.peer hwords.eq :)
    exact (hpartners.keeps _).peer.trans hpeer
  · rw [hpartners.partners, hentered]
    rfl

end
end Sys2Proof.Machine

namespace Sys2Proof.Machine

/-! ## Blocks on several links -/

section
variable {s : State} {f : State → Nat → State} {j : Nat}

theorem State.upLinks_nodup : s.upLinks.Nodup := List.nodup_range.filter _

/-- Links that an update visits one after the other, each once: a link named takes the update that it would take alone. -/
theorem State.link_foldl_of_mem {ks : List Nat} {l : Link} (hnodup : ks.Nodup) (hmem : j ∈ ks)
    (hother : ∀ u k, j ≠ k → (f u k).link j = u.link j) (hpartners : ∀ u k, (f u k).links.partners = u.links.partners)
    (hself : ∀ u : State, u.link j = s.link j → u.links.partners = s.links.partners → (f u j).link j = l) :
    (ks.foldl f s).link j = l := by
  have hkept (ks : List Nat) (hnot : j ∉ ks) (v : State) :
      (ks.foldl f v).link j = v.link j ∧ (ks.foldl f v).links.partners = v.links.partners :=
    List.foldlRecOn ks f (motive := fun u => u.link j = v.link j ∧ u.links.partners = v.links.partners) ⟨rfl, rfl⟩
      fun u ⟨hlink, hpart⟩ k hk => ⟨(hother u k fun e => hnot (e ▸ hk)).trans hlink, (hpartners u k).trans hpart⟩
  obtain ⟨before, after, rfl⟩ := List.append_of_mem hmem
  obtain ⟨-, hafter, hbefore⟩ := List.nodup_append.mp hnodup
  have hjbefore : j ∉ before := fun hin => hbefore j hin j List.mem_cons_self rfl
  obtain ⟨hlink, hpart⟩ := hkept before hjbefore s
  rw [List.foldl_append, List.foldl_cons, (hkept after (List.nodup_cons.mp hafter).1 _).1]
  exact hself _ hlink hpart

end

/-- A lost partner's entry is freed at the end of its hold time (R554). -/
theorem execPartnerHoldExpiry_frees {s : State} {serial : BitVec 128} {p : Partner}
    (hp : s.links.partners.find? (fun q => q.hail.serial = serial) = some p) (hlost : p.state = .lost) (hlinks : p.links = 0) :
    execPartnerHoldExpiry serial s = .next ((s.advanceTo ((p.lostMs + s.dictNat 0x601003) * msTicks)).updLinks
      (fun l => { l with partners := l.partners.filter (fun p => p.hail.serial ≠ serial) })) := by
  simp only [execPartnerHoldExpiry, hp]
  exact if_neg (by simp [hlost, hlinks])

/-! ## Markers (R557-R559) -/

section
variable {s : State}

theorem State.memberLinks_congr {u : State} (h : u.links = s.links) : u.memberLinks = s.memberLinks := by
  unfold State.memberLinks State.upLinks State.partnerOn State.link
  rw [h]

theorem State.memberLinks_nodup : s.memberLinks.Nodup := State.upLinks_nodup.filter _

theorem State.link_sendMarkers {ks : List Nat} {j : Nat} (m : Marker) (hnodup : ks.Nodup) (hmem : j ∈ ks) :
    (s.sendMarkers ks m).link j = { s.link j with out := (s.link j).out ++ [.block 5 (markerBlock m)] } := by
  refine State.link_foldl_of_mem hnodup hmem (fun _ _ => State.link_updLink_ne) (fun _ _ => rfl) fun u hlink _ => ?_
  rw [State.link_updLink (fun e => by simpa using congrArg Link.out e), hlink]

/-- Markers change the table of links alone. -/
theorem State.sendMarkers_table (s : State) (ks : List Nat) (m : Marker) :
    ∃ t, s.sendMarkers ks m = { s with links := { s.links with links := t } } :=
  List.foldlRecOn ks _ (motive := fun u => ∃ t, u = { s with links := { s.links with links := t } }) ⟨_, rfl⟩
    fun u ⟨t, hu⟩ k _ => ⟨_, by rw [hu]; rfl⟩

theorem State.passMarker_table (s : State) (m : Marker) : ∃ t, s.passMarker m = { s with links := { s.links with links := t } } :=
  s.sendMarkers_table _ _

/-- The tick count that advances and lies behind `k` reaches it (R53). -/
theorem State.advanceToTick_clk {k : Nat} (hticking : s.clk.ticking = true) (hbehind : s.clk.tick.toNat < k) :
    (s.advanceToTick k).clk = { s.clk with tick := BitVec.ofNat 64 k } := by
  have htick : s.clk.tick + BitVec.ofNat 64 (k - s.clk.tick.toNat) = BitVec.ofNat 64 k := by
    apply BitVec.eq_of_toNat_eq
    simp only [BitVec.toNat_add, BitVec.toNat_ofNat]
    omega
  have hahead : ¬ s.now + (k - s.clk.tick.toNat) ≤ s.now := by omega
  simp [State.advanceToTick, State.advanceTo, hticking, hbehind, hahead, htick]

/-- The tick of the next marker of a period (R557). -/
def State.markerTick (s : State) : Nat := (s.clk.tick.toNat / max 1 s.links.period + 1) * max 1 s.links.period

/-- R557: the root sends its marker at the next multiple of the period. -/
theorem execMarkerSend_root (hroot : s.isRoot = true) (hticking : s.clk.ticking = true) :
    execMarkerSend s = .next ((s.advanceToTick s.markerTick).sendMarkers s.memberLinks (s.advanceToTick s.markerTick).markerOf) := by
  simp only [execMarkerSend, hroot, hticking, State.memberLinks_congr (s.advanceToTick_links _)]
  rfl

theorem State.markerTick_ahead : s.clk.tick.toNat < s.markerTick ∧ s.markerTick ≤ s.clk.tick.toNat + max 1 s.links.period ∧
    s.markerTick % max 1 s.links.period = 0 := by
  have hpos : 0 < max 1 s.links.period := by omega
  have hlow := Nat.div_mul_le_self s.clk.tick.toNat (max 1 s.links.period)
  refine ⟨?_, ?_, Nat.mul_mod_left _ _⟩
  · exact (Nat.div_lt_iff_lt_mul hpos).mp (Nat.lt_succ_self _)
  · rw [State.markerTick, Nat.succ_mul]
    omega

/-- A member's parent sends it the marker of its regatta, in a codeword that was read. -/
def State.hearsMarker (s : State) (n : Nat) (b : Bytes) : Prop :=
  s.isMember = true ∧ blockCrcOk b = true ∧ s.links.parent = some n ∧ (s.link n).state = 2 ∧ (s.link n).badNow = false ∧
    (markerIn b).regattaId = s.links.regattaId ∧ s.clk.ticking = true

/-- What a marker finds wrong with the counter, in 1/64 tick (R557). -/
def State.markerError (s : State) (n : Nat) (b : Bytes) (phase : BitVec 6) : Int :=
  64 * (s.clk.tick.toNat : Int) + phase.toNat - (64 * ((markerIn b).tick.toNat : Int) + (s.link n).exact_.toNat)

theorem State.hearsMarker.not_discarded {n : Nat} {b : Bytes} (h : s.hearsMarker n b) :
    ¬ (!s.isMember || !blockCrcOk b || s.links.parent ≠ some n || (s.link n).state ≠ 2 || (s.link n).badNow ||
      (markerIn b).regattaId ≠ s.links.regattaId || !s.clk.ticking) = true := by
  obtain ⟨hmember, hcrc, hparent, hup, hgood, hregatta, hticking⟩ := h
  simp [hmember, hcrc, hparent, hup, hgood, hregatta, hticking]

theorem State.alignExtreme_log (s : State) : ∃ l, s.alignExtreme = { s with log := l } := by
  unfold State.alignExtreme State.extreme
  extract_lets take
  split
  · exact ⟨_, rfl⟩
  · exact ⟨s.log, rfl⟩

/-- A marker with an error of at most one tick has been taken (R557). -/
def State.markerAgreed (s : State) (n : Nat) (m : Marker) (err : Int) : State :=
  ((s.passMarker m).updLinks (fun l => { l with alignErr := err, badMarkers := 0, markerAt := s.now, aligned := true })).alignExtreme.updLink n
    (fun l => { l with marker := true })

theorem State.markerAgreed_aligned (n : Nat) (m : Marker) (err : Int) :
    let u := s.markerAgreed n m err
    u.links.alignErr = err ∧ u.links.badMarkers = 0 ∧ u.links.aligned = true ∧ u.links.markerAt = s.now ∧ (u.link n).marker = true ∧
      u.clk = s.clk := by
  obtain ⟨t, hpassed⟩ := s.passMarker_table m
  obtain ⟨l, hlogged⟩ := State.alignExtreme_log
    ((s.passMarker m).updLinks (fun l => { l with alignErr := err, badMarkers := 0, markerAt := s.now, aligned := true }))
  unfold State.markerAgreed
  rw [hlogged, hpassed]
  exact ⟨rfl, rfl, rfl, rfl, congrArg Link.marker (State.link_updLink fun e => Bool.noConfusion (congrArg Link.marker e)), rfl⟩

section
variable {k : BitVec 7} {b : Bytes} {phase : BitVec 6} (hheard : s.hearsMarker k.toNat b)
include hheard

/-- R557: a marker that agrees with the counter aligns the member; the cause that holds strokes for the alignment clears. -/
theorem execStrokeMarker_agrees (hstake : s.links.stake = none) (hgood : markerGood (s.markerError k.toNat b phase) = true) :
    ∃ u, execStrokeMarker k b phase s = .next u ∧ u.links.alignErr = s.markerError k.toNat b phase ∧ u.links.badMarkers = 0 ∧
      u.links.aligned = true ∧ u.links.markerAt = s.now ∧ (u.link k.toNat).marker = true ∧ u.clk.tick = s.clk.tick := by
  have hclk : (s.passMarker (markerIn b)).clk = s.clk := by
    obtain ⟨t, hpassed⟩ := s.passMarker_table (markerIn b)
    rw [hpassed]
  have hplain : ¬ (s.links.stake.isSome && !s.links.aligned && !s.clk.running) = true := by simp [hstake]
  have hexec : execStrokeMarker k b phase s = .next
      (if (s.markerAgreed k.toNat (markerIn b) (s.markerError k.toNat b phase)).clk.causes.contains 8 then
        (s.markerAgreed k.toNat (markerIn b) (s.markerError k.toNat b phase)).clearCause 8
      else s.markerAgreed k.toNat (markerIn b) (s.markerError k.toNat b phase)) := by
    unfold State.markerError at hgood ⊢
    rw [← hclk] at hgood ⊢
    exact (if_neg hheard.not_discarded).trans ((if_neg hplain).trans (if_pos hgood))
  obtain ⟨herr, hbad, haligned, hat, hmarker, hkept⟩ := s.markerAgreed_aligned k.toNat (markerIn b) (s.markerError k.toNat b phase)
  have htick := congrArg StrokeClock.tick hkept
  refine ⟨_, hexec, ?_⟩
  generalize s.markerAgreed k.toNat (markerIn b) (s.markerError k.toNat b phase) = v at *
  split
  · exact ⟨herr, hbad, haligned, hat, hmarker, htick⟩
  · exact ⟨herr, hbad, haligned, hat, hmarker, htick⟩

/-- R558, R560: at a stake the marker sets the counter. -/
theorem execStrokeMarker_stake (hstake : s.links.stake ≠ none) (haligned : s.links.aligned = false) (hhalted : s.clk.running = false) :
    ∃ u, execStrokeMarker k b phase s = .next u ∧ u.clk.tick = (markerIn b).tick + BitVec.ofNat 64 ((s.link k.toNat).exact_.toNat / 64) ∧
      u.clk.stroke = (markerIn b).stroke ∧ u.links.aligned = true ∧ u.links.stake = none := by
  have hset : (s.links.stake.isSome && !s.links.aligned && !s.clk.running) = true := by
    simp [Option.isSome_iff_ne_none, hstake, haligned, hhalted]
  obtain ⟨t, hpassed⟩ := State.passMarker_table
    { s with clk := { s.clk with
      tick := (markerIn b).tick + BitVec.ofNat 64 ((s.link k.toNat).exact_.toNat / 64)
      stroke := (markerIn b).stroke } } (markerIn b)
  refine ⟨_, (if_neg hheard.not_discarded).trans (if_pos hset), ?_⟩
  rw [hpassed]
  exact ⟨rfl, rfl, rfl, rfl⟩

end

/-- R559: the alignment is lost before any easy-all for it is named. -/
theorem State.loseAlignment_unaligned (s : State) :
    s.loseAlignment.links.aligned = false ∧ s.loseAlignment.links.badMarkers = 0 ∧ s.loseAlignment.now = s.now := by
  unfold State.loseAlignment
  extract_lets parent lost unmarked err told
  have hunmarked : unmarked.links.aligned = false ∧ unmarked.links.badMarkers = 0 ∧ unmarked.now = s.now := by
    unfold unmarked
    split <;> exact ⟨rfl, rfl, rfl⟩
  have htold : Steers unmarked told := Steers.refl.event _ _ _
  have hnamed : Steers unmarked (if told.boot.plan.isNone then told else told.nameEasyAll 8 false none) :=
    .ite htold (htold.nameEasyAll _ _ _)
  obtain ⟨haligned, hbad, hnow⟩ := hunmarked
  exact ⟨(congrArg Links.aligned hnamed.rest :).trans haligned, (congrArg Links.badMarkers hnamed.rest :).trans hbad, hnamed.now.trans hnow⟩

theorem execMarkerTimeout_ends (hmember : s.isMember = true) (haligned : s.links.aligned = true) :
    execMarkerTimeout s = .next (s.advanceTo (s.links.markerAt + 4 * s.links.period)).loseAlignment :=
  if_neg (by simp [hmember, haligned])

end

/-- Settles O44: a link that falls or trains is one change of it, which steering the strokes leaves; a hail is one change of the partner
table, which nothing after it undoes. -/
theorem linkTraining : Obligations.LinkTraining := by
  intro s k b agrees prefers phase two serial p n l h m up few fell cls want gen exact error heard
  refine ⟨fun ⟨hen, hstate⟩ hfew => ?_, fun ⟨hen, hstate⟩ hfew hpower => ?_, fun htraining htrips hgen hdelay => ?_, fun htraining => ?_,
    fun hup hmay => ?_, fun hup hgood hcrc hkind hn hroom hsame => ?_, fun hroot hticking hroom => ?_, fun hheard hstake hlow hhigh => ?_,
    fun hheard hstake haligned hhalted => ?_, fun hmember haligned => ?_, fun hp hlost hlinks => ?_⟩
  · obtain ⟨h1, h2, h3, h4, h5, h6⟩ := State.linkFalls_fallen hen hstate hfew
    exact ⟨_, rfl, h1, h2, h3, h4, h5, h6⟩
  · obtain ⟨h1, h2, h3, h4, h5, h6⟩ := State.linkFalls_fallen (s := { s with accessFault := false }) hen hstate hfew
    exact ⟨_, congrArg Host.Outcome.next (State.regAccess_powered hpower _), h1, h2, h3, h4, h5, h6⟩
  · obtain ⟨u, hexec, hkeeps⟩ := execLinkTrained_up htraining htrips hgen hdelay
    exact ⟨u, hexec, hkeeps.state, hkeeps.genAct, hkeeps.exact_, hkeeps.published⟩
  · have hon (m : Nat) : ((s.advanceTo m).link n).state ≠ 0 := by
      rw [State.advanceTo_link]
      exact htraining.trans_ne one_ne_zero
    refine ⟨_, execTrainingTimeout_again htraining, ?_, ?_, ?_⟩
    · rw [State.trainsAgain_link (hon _), State.advanceTo_link]
    · rw [State.trainsAgain, State.updLink_tiles, State.advanceTo_tiles]
    · rw [State.trainsAgain, State.updLink_now, State.advanceTo_now]
      exact Nat.le_max_right _ _
  · exact ⟨_, execHailSend_sends hup hmay, rfl⟩
  · obtain ⟨u, hexec, hpeer, hpartners⟩ := execHail_enters agrees prefers hup hgood hcrc hkind hroom hsame
    exact ⟨u, hexec, hpeer, hpartners ▸ State.hailEntered_entry h hn⟩
  · obtain ⟨hahead, hreach, hmultiple⟩ := s.markerTick_ahead
    have hclk := State.advanceToTick_clk hticking hahead
    have htick : (BitVec.ofNat 64 s.markerTick).toNat = s.markerTick := by
      rw [BitVec.toNat_ofNat]
      exact Nat.mod_eq_of_lt (hreach.trans_lt hroom)
    obtain ⟨t, hsent⟩ := (s.advanceToTick s.markerTick).sendMarkers_table s.memberLinks (s.advanceToTick s.markerTick).markerOf
    have hsentClk := (congrArg State.clk hsent).trans hclk
    refine ⟨_, execMarkerSend_root hroot hticking, ?_, ?_, (s.advanceToTick s.markerTick).markerOf, ?_, ?_, ?_, ?_, ?_, fun j hj => ?_⟩
    · rw [hsentClk, htick]
      exact hmultiple
    · rw [hsentClk, htick]
      exact hahead
    · rw [hsent]
      rfl
    · exact (congrArg StrokeClock.stroke hclk :)
    · exact congrArg (fun (q : Links) => BitVec.ofNat 8 q.hop) (s.advanceToTick_links _)
    · exact (congrArg (fun (q : StrokeClock) => BitVec.ofNat 8 q.easy) hclk :)
    · exact congrArg Links.regattaId (s.advanceToTick_links _)
    · rw [State.link_sendMarkers _ State.memberLinks_nodup hj, State.link, State.advanceToTick_links]
      rfl
  · exact execStrokeMarker_agrees hheard hstake (by simp only [markerGood, Bool.and_eq_true, decide_eq_true_eq]; exact ⟨hlow, hhigh⟩)
  · exact execStrokeMarker_stake hheard hstake haligned hhalted
  · obtain ⟨hunaligned, hbad, hnow⟩ := (s.advanceTo (s.links.markerAt + 4 * s.links.period)).loseAlignment_unaligned
    refine ⟨_, execMarkerTimeout_ends hmember haligned, hunaligned, hbad, ?_⟩
    rw [hnow, State.advanceTo_now]
    exact Nat.le_max_right _ _
  · refine ⟨_, execPartnerHoldExpiry_frees hp hlost hlinks, fun q hq => by simpa using List.of_mem_filter hq, ?_, ?_⟩
    · rw [State.updLinks_tiles, State.advanceTo_tiles]
    · rw [State.updLinks_now, State.advanceTo_now]
      exact Nat.le_max_right _ _

end Sys2Proof.Machine

/-! # Redundant pairs -/

namespace Sys2Proof.Machine

/-! ## Heartbeats (R572) -/

section
variable {s : State}

theorem State.mayWord_congr {u : State} (h : u.links.partners = s.links.partners) (k kind : Nat) : u.mayWord k kind = s.mayWord k kind := by
  unfold State.mayWord State.partnerOn
  rw [h]

/-- A word sent on several links goes out on each that can send it. -/
theorem State.link_sendWords {ks : List Nat} {j : Nat} {w : CtlWord} (hnodup : ks.Nodup) (hmem : j ∈ ks) (hsend : s.canSend j w) :
    (s.sendWords ks w).link j = (s.link j).take w := by
  refine State.link_foldl_of_mem hnodup hmem (fun _ _ => State.link_sendWord_ne) (fun u k => ?_) fun u hlink hpartners => ?_
  · obtain ⟨t, ht⟩ := u.sendWord_table k w
    rw [ht]
  · have hsend' : u.canSend j w := by
      unfold State.canSend
      rw [hlink, State.mayWord_congr hpartners]
      exact hsend
    rw [State.link_sendWord hsend', hlink]

theorem State.pairLinks_nodup : s.pairLinks.Nodup := State.upLinks_nodup.filter _

theorem State.link_up_of_pairLinks {j : Nat} (h : j ∈ s.pairLinks) : (s.link j).state = 2 :=
  of_decide_eq_true (List.mem_filter.mp (List.mem_filter.mp h).1).2

theorem execHeartbeatSend_pairs (hpair : s.links.pairState ≠ 0) :
    execHeartbeatSend s = .next (s.sendWords s.pairLinks (.heartbeat s.links.sentBatch)) := if_neg hpair

theorem execHeartbeat_beats {k : BitVec 7} {b : Bytes} (hup : (s.link k.toNat).state = 2) (hpair : (s.link k.toNat).pair = true)
    (hgood : (s.link k.toNat).badNow = false) (hcrc : blockCrcOk b = true) (hkind : fieldNat b 0 1 = 3) :
    execHeartbeat k b s = .next ((s.updLink k.toNat (ackWords (wordAck b))).updLinks (fun q => { q with beat := true, misses := 0 })) :=
  if_neg (by simp [hup, hpair, hgood, isWord, hcrc, hkind])

theorem execHeartbeatMiss_beat (hstandby : s.links.pairState = 4 ∨ s.links.pairState = 5) (hbeat : s.links.beat = true) :
    execHeartbeatMiss s = .next (s.updLinks (fun l => { l with beat := false, misses := 0 })) :=
  (if_neg (by obtain h | h := hstandby <;> simp [h])).trans (if_pos hbeat)

/-- The state in which one more heartbeat has been missed. -/
def State.missed (s : State) : State := s.updLinks (fun l => { l with misses := l.misses + 1 })

theorem execHeartbeatMiss_few (hstandby : s.links.pairState = 4 ∨ s.links.pairState = 5) (hbeat : s.links.beat = false)
    (hfew : s.links.misses + 1 < s.dictNat 0x620005) : execHeartbeatMiss s = .next s.missed :=
  (if_neg (by obtain h | h := hstandby <;> simp [h])).trans ((if_neg (by simp [hbeat])).trans (if_pos hfew))

theorem execHeartbeatMiss_many (hready : s.links.pairState = 5) (hbeat : s.links.beat = false)
    (hmany : s.dictNat 0x620005 ≤ s.links.misses + 1) : execHeartbeatMiss s = .next s.missed.pairTakeover :=
  (if_neg (by simp [hready])).trans ((if_neg (by simp [hbeat])).trans ((if_neg (Nat.not_lt.mpr hmany)).trans (if_pos hready)))

end

/-! ## A takeover (R573) -/

section
variable {s u : State} (h : Steers s u)
include h

theorem Steers.resendTokens (r : Request) (first : Nat) : Steers s (u.resendTokens r first) := .foldl (fun _ _ hu => hu.sendMsg _ _) _ h

theorem Steers.useFree (n : Nat) : Steers s (u.useFree n) := { h with }

theorem Steers.startStaging (r : SourceRecord) : Steers s (u.startStaging r) := { h with }

theorem Steers.updReq (id : BitVec 64) (f : Request → Request) : Steers s (u.updReq id f) := { h with }

end

/-- R573: a standby that takes over is active, with no heartbeat missed. -/
theorem State.pairTakeover_active (s : State) : s.pairTakeover.links.pairState = 3 ∧ s.pairTakeover.links.misses = 0 := by
  unfold State.pairTakeover
  extract_lets told restarted lost active recorded handed staged
  have hactive : active.links.pairState = 3 ∧ active.links.misses = 0 := ⟨rfl, rfl⟩
  clear_value active
  have hrecorded : Steers active recorded := Steers.refl.event _ _ _
  clear_value recorded
  have hhanded : Steers active handed := by
    refine .foldl (fun u e hu => .ite ?_ hu) _ hrecorded
    exact .foldl (fun _ r hv => (hv.resendTokens r _).updReq _ _) _ ((hu.useFree 1).sendMsg _ _)
  clear_value handed
  have hstaged : Steers active staged := by
    unfold staged
    split
    · exact .ite hhanded (hhanded.startStaging _)
    · exact hhanded
  have hrest := (hstaged.nameResume staged.clk.step).rest
  exact ⟨(congrArg Links.pairState hrest :).trans hactive.1, (congrArg Links.misses hrest :).trans hactive.2⟩

/-! ## Resynchronisation (R569, R570) -/

section
variable {s : State}

/-- Lines stored to the tiers change the tiers alone. -/
theorem State.storeExtents_tier (s : State) (es : List (Nat × Nat)) (ls : List Bytes) : ∃ m, s.storeExtents es ls = { s with tier := m } := by
  unfold State.storeExtents
  extract_lets addrs stored
  have hstored : ∃ m, stored = { s with tier := m } :=
    List.foldlRecOn _ _ (motive := fun u => ∃ m, u = { s with tier := m }) ⟨_, rfl⟩ fun u ⟨m, hu⟩ p _ => ⟨_, by rw [hu]; rfl⟩
  refine List.foldlRecOn es _ (motive := fun u => ∃ m, u = { s with tier := m }) hstored fun u hu e _ => ?_
  split
  · exact hu
  · refine List.foldlRecOn _ _ (motive := fun u => ∃ m, u = { s with tier := m }) hu fun v ⟨m, hv⟩ i _ => ?_
    split
    · exact ⟨_, by rw [hv]; rfl⟩
    · exact ⟨m, hv⟩

/-- The rows of a batch stored in the tiles (R570). -/
def State.storeRows (s : State) (rows : List ((TileId × BitVec 15) × Bytes)) : State :=
  rows.foldl (fun (s : State) e => s.updTile e.1.1 (fun x => writeLine x e.1.2.toNat (padTo 128 e.2) false)) s

theorem State.storeRows_tiles (s : State) (rows : List ((TileId × BitVec 15) × Bytes)) :
    ∃ m, s.storeRows rows = { s with tiles := m } ∧ (rows = [] → m = s.tiles) := by
  cases rows with
  | nil => exact ⟨s.tiles, rfl, fun _ => rfl⟩
  | cons e rows =>
    obtain ⟨m, hm⟩ : ∃ m, s.storeRows (e :: rows) = { s with tiles := m } :=
      List.foldlRecOn _ _ (motive := fun u => ∃ m, u = { s with tiles := m }) ⟨_, rfl⟩ fun u ⟨m, hu⟩ e _ => ⟨_, by rw [hu]; rfl⟩
    exact ⟨m, hm, fun h => absurd h (List.cons_ne_nil e rows)⟩

/-- The pages of a batch stored in the stack tier (R570). -/
def State.storePages (s : State) (pages : List (Nat × Bytes)) : State :=
  pages.foldl (fun (s : State) e =>
    let n := ceilDiv e.2.length 128
    s.storeExtents [(e.1, n)] (chunksOf 128 n e.2)) s

theorem State.storePages_tier (s : State) (pages : List (Nat × Bytes)) :
    ∃ m, s.storePages pages = { s with tier := m } ∧ (pages = [] → m = s.tier) := by
  cases pages with
  | nil => exact ⟨s.tier, rfl, fun _ => rfl⟩
  | cons e pages =>
    obtain ⟨m, hm⟩ : ∃ m, s.storePages (e :: pages) = { s with tier := m } := by
      refine List.foldlRecOn (e :: pages) _ (motive := fun (u : State) => ∃ m, u = { s with tier := m }) ⟨s.tier, rfl⟩
        fun u ⟨m, hu⟩ e _ => ?_
      obtain ⟨m', hstored⟩ := u.storeExtents_tier [(e.1, ceilDiv e.2.length 128)] (chunksOf 128 (ceilDiv e.2.length 128) e.2)
      exact ⟨m', hstored.trans (by rw [hu])⟩
    exact ⟨m, hm, fun h => absurd h (List.cons_ne_nil e pages)⟩

/-- A batch applied brings its tables; its rows alone change tiles, and its pages alone the tiers (R570). -/
theorem State.applyBatch_brings (s : State) (t : BatchContent) : ∃ tiles tier, s.applyBatch t =
    { s with serve := { s.serve with t := t.tables }, links := { s.links with staging := t.staging }, tiles := tiles, tier := tier } ∧
    (t.rows = [] → tiles = s.tiles) ∧ (t.pages = [] → tier = s.tier) := by
  obtain ⟨tiles, hrows, htiles⟩ := State.storeRows_tiles
    ((s.updServe (fun v => { v with t := t.tables })).updLinks (fun l => { l with staging := t.staging })) t.rows
  obtain ⟨tier, hpages, htier⟩ := State.storePages_tier
    (((s.updServe (fun v => { v with t := t.tables })).updLinks (fun l => { l with staging := t.staging })).storeRows t.rows) t.pages
  refine ⟨tiles, tier, hpages.trans ?_, htiles, fun hno => (htier hno).trans ?_⟩ <;> rw [hrows] <;> rfl

/-- The standby's report that its resynchronisation is complete (R569), with every batch since applied. -/
def State.reportReady (s : State) : State :=
  match s.pairLinks with
  | k :: _ => (s.applyBatches k s.links.received.length).sendWord k (.bulkAck 5 0)
  | [] => s.applyBatches 0 s.links.received.length

/-- With no batch since, the report changes the table of links alone. -/
theorem State.reportReady_table (hreceived : s.links.received = []) :
    ∃ m, s.reportReady = { s with links := { s.links with links := m } } := by
  unfold State.reportReady
  rw [hreceived]
  split
  next k ks _ => exact s.sendWord_table k (.bulkAck 5 0)
  next => exact ⟨s.links.links, rfl⟩

theorem execResyncComplete_reports (t : BatchContent) (hresync : s.links.pairState = 4) :
    execResyncComplete t s = .next ((s.applyBatch t).updLinks (fun l => { l with pairState := 5 })).reportReady := if_pos hresync

/-- R569: a resynchronisation that is complete, with no batch since, makes the standby ready with what it brought. -/
theorem execResyncComplete_ready (t : BatchContent) (hresync : s.links.pairState = 4) (hreceived : s.links.received = []) :
    ∃ u, execResyncComplete t s = .next u ∧ u.links.pairState = 5 ∧ u.serve.t = t.tables ∧ (t.rows = [] → u.tiles = s.tiles) ∧
      (t.pages = [] → u.tier = s.tier) := by
  obtain ⟨tiles, tier, happlied, htiles, htier⟩ := s.applyBatch_brings t
  obtain ⟨m, hready⟩ := State.reportReady_table (s := (s.applyBatch t).updLinks (fun l => { l with pairState := 5 }))
    (by rw [happlied]; exact hreceived)
  refine ⟨_, execResyncComplete_reports t hresync, ?_⟩
  rw [hready, happlied]
  exact ⟨rfl, rfl, htiles, htier⟩

end

/-- Settles O45: each clause follows from what its command does. -/
theorem pairHeartbeat : Obligations.PairHeartbeat := by
  intro s k b t n standby
  refine ⟨fun hpair => ?_, fun hup hpair hgood hcrc hkind => ?_, fun hstandby hbeat => ?_, fun hstandby hbeat hfew => ?_,
    fun hready hbeat hmany => ?_, fun hresync hreceived => ?_, fun hactive => ?_⟩
  · obtain ⟨m, hsent⟩ := s.sendWords_table s.pairLinks (.heartbeat s.links.sentBatch)
    refine ⟨_, execHeartbeatSend_pairs hpair, by rw [hsent], by rw [hsent], fun j hj hmay => ?_⟩
    have hsend : s.canSend j (.heartbeat s.links.sentBatch) := ⟨.inl (State.link_up_of_pairLinks hj), hmay⟩
    rw [State.link_sendWords State.pairLinks_nodup hj hsend]
    rfl
  · have hon : (s.link n).state ≠ 0 := hup.trans_ne two_ne_zero
    exact ⟨_, execHeartbeat_beats hup hpair hgood hcrc hkind, rfl, rfl,
      State.link_updLink ((ackWords_sameButWords _ _).ne_reset hon), rfl⟩
  · exact ⟨_, execHeartbeatMiss_beat hstandby hbeat, rfl⟩
  · exact ⟨_, execHeartbeatMiss_few hstandby hbeat hfew, rfl⟩
  · exact ⟨_, execHeartbeatMiss_many hready hbeat hmany, State.pairTakeover_active _⟩
  · exact execResyncComplete_ready t hresync hreceived
  · exact ⟨_, (if_neg (by simp [hactive])).trans (if_pos hactive), rfl⟩

end Sys2Proof.Machine

/-! # Control words -/

namespace Sys2Proof.Machine

/-! ## What every sequenced word passes first (R546, R548) -/

section
variable {s : State} {n kind : Nat} {b : Bytes} {f : State → State}

theorem isWord_eq_false (hcrc : blockCrcOk b = false) : isWord b kind = false := by simp [isWord, hcrc]

/-- R537: a block that fails its check has been discarded. -/
theorem State.takeWord_bad (hcrc : blockCrcOk b = false) : s.takeWord n kind b f = s := if_pos (by simp [isWord_eq_false hcrc])

/-- A control word of a kind reaches a link that is up or in training, in a codeword that was read. -/
def State.hearsWord (s : State) (n kind : Nat) (b : Bytes) : Prop :=
  blockCrcOk b = true ∧ fieldNat b 0 1 = kind ∧ ((s.link n).state = 1 ∨ (s.link n).state = 2) ∧ (s.link n).badNow = false

theorem State.hearsWord.not_discarded (h : s.hearsWord n kind b) :
    ¬ ((s.link n).state = 0 || (s.link n).state = 3 || (s.link n).badNow || !isWord b kind) = true := by
  obtain ⟨hcrc, hkind, hstate, hgood⟩ := h
  obtain hstate | hstate := hstate <;> simp [hcrc, hkind, hstate, hgood, isWord]

theorem State.hearsWord.state_ne_zero (h : s.hearsWord n kind b) : (s.link n).state ≠ 0 := by
  obtain ⟨-, -, hstate | hstate, -⟩ := h <;> simp [hstate]

/-- The ACK of a word heard leaves the number that comes next. -/
theorem State.hearsWord.acked (h : s.hearsWord n kind b) : ((s.updLink n (ackWords (wordAck b))).link n).ack = (s.link n).ack := by
  have hwords := ackWords_sameButWords (wordAck b) (s.link n)
  rw [State.link_updLink (hwords.ne_reset h.state_ne_zero)]
  exact (congrArg Link.ack hwords.eq :)

/-- A word out of order leaves the ACK that it brings, and gets one (log entry 25). -/
theorem State.takeWord_outOfOrder (h : s.hearsWord n kind b) (hseq : wordSeq b ≠ nextSeq (s.link n).ack) :
    s.takeWord n kind b f = (s.updLink n (ackWords (wordAck b))).sendWord n .ack :=
  (if_neg h.not_discarded).trans (if_neg (by rw [h.acked]; exact hseq))

/-- From `s` a control word is taken next in order: `v` is the state that it acts on. -/
structure State.Takes (s : State) (n kind : Nat) (b : Bytes) (v : State) : Prop where
  heard : s.hearsWord n kind b
  next : wordSeq b = nextSeq (s.link n).ack
  taken : v = s.wordTaken n (wordSeq b) (wordAck b)

theorem State.takes_of_wordNext (h : blockCrcOk b = true ∧ fieldNat b 0 1 = kind ∧ s.wordNext n (wordSeq b) = true) :
    s.Takes n kind b (s.wordTaken n (wordSeq b) (wordAck b)) := by
  obtain ⟨hcrc, hkind, hnext⟩ := h
  obtain ⟨⟨hstate, hgood⟩, hseq⟩ : (((s.link n).state = 1 ∨ (s.link n).state = 2) ∧ (s.link n).badNow = false) ∧
      wordSeq b = nextSeq (s.link n).ack := by simpa [State.wordNext] using hnext
  exact ⟨⟨hcrc, hkind, hstate, hgood⟩, hseq, rfl⟩

theorem State.link_sendWord_state (s : State) (k : Nat) (w : CtlWord) : ((s.sendWord k w).link k).state = (s.link k).state := by
  by_cases hsend : s.canSend k w
  · rw [State.link_sendWord hsend]
    exact (Link.take_sameButWords w _).state
  · rw [State.sendWord_stays hsend]

variable {v : State} (h : s.Takes n kind b v)
include h

theorem State.Takes.takeWord : s.takeWord n kind b f = f v := by
  rw [h.taken]
  exact (if_neg h.heard.not_discarded).trans (if_pos (h.next.trans (congrArg nextSeq h.heard.acked.symm)))

/-- A word that is taken has changed the table of links alone. -/
theorem State.Takes.table : ∃ t, v = { s with links := { s.links with links := t } } := by
  obtain ⟨t, hsent⟩ := ((s.updLink n (ackWords (wordAck b))).updLink n (fun (l : Link) => { l with ack := wordSeq b })).sendWord_table n .ack
  exact ⟨t, h.taken.trans hsent⟩

theorem State.Takes.on : (v.link n).state ≠ 0 := by
  have hon := h.heard.state_ne_zero
  have hwords := ackWords_sameButWords (wordAck b) (s.link n)
  have hacked := State.link_updLink (f := ackWords (wordAck b)) (hwords.ne_reset hon)
  have hstate : ((s.updLink n (ackWords (wordAck b))).link n).state ≠ 0 := by
    rw [hacked, hwords.state]
    exact hon
  rw [h.taken, State.wordTaken, State.link_sendWord_state, State.link_updLink (Link.ne_reset_of_state hstate)]
  exact hstate

theorem State.Takes.link_updLink {g : Link → Link} (hstate : (g (v.link n)).state = (v.link n).state) :
    (v.updLink n g).link n = g (v.link n) := State.link_updLink (Link.ne_reset_of_state (hstate.trans_ne h.on))

end

/-! ## What words sent leave unchanged -/

section
variable {s : State} (ks : List Nat) (w : CtlWord)

@[simp] theorem State.sendWords_clk : (s.sendWords ks w).clk = s.clk := by
  obtain ⟨t, hsent⟩ := s.sendWords_table ks w
  rw [hsent]

@[simp] theorem State.sendWords_boot : (s.sendWords ks w).boot = s.boot := by
  obtain ⟨t, hsent⟩ := s.sendWords_table ks w
  rw [hsent]

@[simp] theorem State.sendWords_mode : (s.sendWords ks w).mode = s.mode := by
  obtain ⟨t, hsent⟩ := s.sendWords_table ks w
  rw [hsent]

@[simp] theorem State.sendWords_dict : (s.sendWords ks w).dict = s.dict := by
  obtain ⟨t, hsent⟩ := s.sendWords_table ks w
  rw [hsent]

@[simp] theorem State.sendWords_haltStroke : (s.sendWords ks w).links.haltStroke = s.links.haltStroke := by
  obtain ⟨t, hsent⟩ := s.sendWords_table ks w
  rw [hsent]

end

/-! ## Halts, resumes and stakes (R558, R560, R561) -/

section
variable {s v : State} {k : BitVec 7} {b : Bytes}

theorem execHaltWord_names (h : s.Takes k.toNat 4 b v) (hin : v.inRegatta = true) (hrunning : v.clk.running = true)
    (hnamed : ∀ e ∈ v.clk.named, e.at_ ≠ none) :
    ∃ u, execHaltWord k b s = .next u ∧ u.links.haltStroke = laterOf v.links.haltStroke (wordStroke b 24).toNat ∧
      u.clk.named = v.clk.named ++ [{ cause := 10, clearing := false, at_ := none }] := by
  unfold execHaltWord
  extract_lets serial stroke
  rw [h.takeWord, if_neg (by simp [hin])]
  extract_lets held told
  have hheld : held.clk = v.clk ∧ held.links.haltStroke = laterOf v.links.haltStroke stroke.toNat :=
    ⟨v.updLinks_clk _, congrArg Links.haltStroke (v.updLinks_links _)⟩
  clear_value held
  have hclk : told.clk = v.clk := (State.sendWords_clk _ _).trans hheld.1
  have hhalt : told.links.haltStroke = laterOf v.links.haltStroke stroke.toNat := (State.sendWords_haltStroke _ _).trans hheld.2
  have hnone : ¬ told.clk.named.any (fun e => e.at_.isNone) = true := by
    rw [hclk]
    simpa using hnamed
  clear_value told
  rw [if_pos (by rw [hclk, hrunning]), if_neg hnone]
  exact ⟨_, rfl, hhalt, congrArg (fun c : StrokeClock => c.named ++ [{ cause := 10, clearing := false, at_ := none }]) hclk⟩

/-- A member's parent sends it a word of its regatta. -/
def State.fromParent (v : State) (n : Nat) : Prop := v.isMember = true ∧ v.links.parent = some n

theorem State.fromParent.not_discarded {n : Nat} (h : v.fromParent n) : ¬ (!v.isMember || v.links.parent ≠ some n) = true := by
  obtain ⟨hmember, hparent⟩ := h
  simp [hmember, hparent]

theorem execResumeWord_names (h : s.Takes k.toNat 5 b v) (hparent : v.fromParent k.toNat) (hhalted : v.clk.running = false)
    (hlater : laterMod 48 v.links.haltStroke (wordStroke b 21).toNat = false) (hcauses : v.clk.causes = []) :
    ∃ u, execResumeWord k b s = .next u ∧
      u.clk.resume = some { tick := fieldNat b 8 8, len := (wordLen b 16).toNat, fin := (wordFin b 16).toNat,
                            step := (wordStep b 16).toNat, stroke := (wordStroke b 21).toNat } ∧
      u.links.period = u.dictNat 0x610004 := by
  refine ⟨_, congrArg Host.Outcome.next (h.takeWord.trans ((if_neg hparent.not_discarded).trans ((if_neg ?_).trans (if_neg ?_)))), rfl, rfl⟩
  · simp [hhalted, hlater]
  · simp [hcauses]

theorem execStake_holds (h : s.Takes k.toNat 6 b v) (hparent : v.fromParent k.toNat) (hhalted : v.clk.running = false)
    (hfilled : v.boot.filled_ = true) (hcauses : v.clk.causes = []) :
    ∃ u, execStake k b s = .next u ∧ u.boot.staked = true ∧ u.links.aligned = false ∧
      u.links.stake = some (fieldNat b 8 8, fieldNat b 16 8, (wordStroke b 24).toNat, (wordLen b 32).toNat, (wordFin b 32).toNat,
        (wordStep b 32).toNat) ∧
      u.clk.resume = some { tick := fieldNat b 16 8, len := (wordLen b 32).toNat, fin := (wordFin b 32).toNat,
                            step := (wordStep b 32).toNat, stroke := (wordStroke b 24).toNat } := by
  refine ⟨_, congrArg Host.Outcome.next (h.takeWord.trans ((if_neg hparent.not_discarded).trans (if_neg ?_))), rfl, rfl, rfl, rfl⟩
  simp [hhalted, hfilled, hcauses]

end

/-! ## Stroke changes (R68, R563) -/

/-- A change of the stroke contract: from when it holds, the contract, and whether its stroke lies in range (R68). -/
structure Contract where
  at_ : BitVec 24
  len : BitVec 16
  fin : BitVec 16
  step : BitVec 4
  good : Bool

/-- A region once a change arms in it. -/
def Contract.armIn (c : Contract) (g : Region) : Region :=
  { g with
    clk := { g.clk with
      nextLen := c.len
      nextFin := c.fin
      armAt := c.at_
      armStep := c.step
      arm := c.good
      armRefused := g.clk.armRefused || !c.good }
    loop := { g.loop with target := if c.good then some c.step else g.loop.target } }

/-- The stroke registers of a region name a change. -/
def Contract.Armed (c : Contract) (g : Region) : Prop :=
  g.clk.armAt = c.at_ ∧ g.clk.armStep = c.step ∧ g.clk.nextLen = c.len ∧ g.clk.nextFin = c.fin

def State.armRegion (c : Contract) (s : State) (r : Nat) : State := if s.powered r then s.updRegion r c.armIn else s

section
variable {s : State} {c : Contract}

theorem State.armRegion_regions (r : Nat) : ∃ t, s.armRegion c r = { s with regions := t } := by
  unfold State.armRegion
  split
  · exact ⟨_, rfl⟩
  · exact ⟨s.regions, rfl⟩

theorem State.armRegion_wf (r : Nat) (hwf : Table.wf {} s.regions = true) : Table.wf {} (s.armRegion c r).regions = true := by
  unfold State.armRegion
  split
  · exact Table.wf_put _ _ _ _ hwf
  · exact hwf

theorem State.armRegion_armed {q r : Nat} (hwf : Table.wf {} s.regions = true) (hpower : s.powered q = true)
    (h : q = r ∨ c.Armed (s.region q)) : c.Armed ((s.armRegion c r).region q) := by
  by_cases hq : q = r
  · rw [← hq, State.armRegion, if_pos hpower, State.updRegion, s.region_setRegion_self _ _ hwf]
    exact ⟨rfl, rfl, rfl, rfl⟩
  · have hkept : (s.armRegion c r).region q = s.region q := by
      unfold State.armRegion
      split
      · exact s.region_setRegion_ne _ _ _ hq
      · rfl
    rw [hkept]
    exact h.resolve_left hq

/-- A change armed in regions one after the other is armed in each, and changes regions alone. -/
theorem State.armRegions_armed (rs : List Nat) (hwf : Table.wf {} s.regions = true) :
    (∃ t, rs.foldl (State.armRegion c) s = { s with regions := t }) ∧
      ∀ q, s.powered q = true → q ∈ rs ∨ c.Armed (s.region q) → c.Armed ((rs.foldl (State.armRegion c) s).region q) := by
  induction rs generalizing s with
  | nil => exact ⟨⟨s.regions, rfl⟩, fun q _ h => h.resolve_left List.not_mem_nil⟩
  | cons r rs ih =>
    obtain ⟨t, harm⟩ := s.armRegion_regions (c := c) r
    obtain ⟨⟨t', hrest⟩, harmed⟩ := ih (State.armRegion_wf (c := c) r hwf)
    refine ⟨⟨t', hrest.trans (by rw [harm])⟩, fun q hpower h => harmed q (by rw [harm]; exact hpower) ?_⟩
    obtain hq | hq := or_assoc.mp (h.imp_left List.mem_cons.mp)
    · exact .inr (State.armRegion_armed hwf hpower (.inl hq))
    · exact hq.imp_right fun hq => State.armRegion_armed hwf hpower (.inr hq)

/-- The contract that a change names in a state. -/
def State.contract (s : State) (stroke : BitVec 48) (len fin : BitVec 16) (step : BitVec 4) : Contract :=
  let ahead := ((stroke.setWidth 24).toNat + 2 ^ 24 - s.clk.stroke.toNat % 2 ^ 24) % 2 ^ 24
  { at_ := stroke.setWidth 24, len, fin, step, good := decide (4 ≤ ahead) && decide (ahead < 2 ^ 23) }

theorem State.armChange_eq (stroke : BitVec 48) (len fin : BitVec 16) (step : BitVec 4) :
    s.armChange stroke len fin step = s.planRegions.foldl (State.armRegion (s.contract stroke len fin step)) s := rfl

end

section
variable {s v : State} {k : BitVec 7} {b : Bytes}

theorem execStrokeChange_arms (h : s.Takes k.toNat 7 b v) (hmember : v.isMember = true) (hwf : Table.wf {} s.regions = true) :
    ∃ u, execStrokeChange k b s = .next u ∧ u.tiles = s.tiles ∧ ∀ r ∈ v.planRegions, v.powered r = true →
      (u.region r).clk.armAt = (wordStroke b 8).setWidth 24 ∧ (u.region r).clk.armStep = wordStep b 16 ∧
        (u.region r).clk.nextLen = wordLen b 16 ∧ (u.region r).clk.nextFin = wordFin b 16 := by
  refine ⟨_, congrArg Host.Outcome.next h.takeWord, ?_⟩
  obtain ⟨t, hsent⟩ := v.sendWords_table v.children (.strokeChange (wordStroke b 8).toNat (wordLen b 16).toNat (wordFin b 16).toNat
    (wordStep b 16).toNat)
  obtain ⟨t', htaken⟩ := h.table
  rw [if_neg (by simp [hmember]), hsent, State.armChange_eq]
  obtain ⟨⟨t'', harm⟩, harmed⟩ := State.armRegions_armed
    (s := { v with links := { v.links with links := t } })
    (c := State.contract { v with links := { v.links with links := t } } (wordStroke b 8) (wordLen b 16) (wordFin b 16) (wordStep b 16))
    v.planRegions (by rw [htaken]; exact hwf)
  refine ⟨?_, fun r hr hpower => harmed r hpower (.inl hr)⟩
  exact (congrArg State.tiles harm).trans (by rw [htaken])

/-! ## Modes (R298-R306, R563) -/

theorem State.not_isMember_of_isRoot (h : s.isRoot = true) : s.isMember = false := by
  obtain ⟨-, hroot⟩ : s.inRegatta = true ∧ s.boot.member = 0 := by simpa [State.isRoot] using h
  simp [State.isMember, hroot]

/-- A report of a good stroke ends the stage's run of crabs (R298). -/
theorem execModeReport_good {st : Nat} (h : s.Takes k.toNat 8 b v) (hroot : v.isRoot = true) (hst : st < 128)
    (hreport : reportPairs b = [(st, 0)]) (hwf : Table.wf 0 s.mode.crabRun = true) :
    ∃ u, execModeReport k b s = .next u ∧ Table.get 0 u.mode.crabRun st = 0 ∧
      ∀ i, i ≠ st → Table.get 0 u.mode.crabRun i = Table.get 0 s.mode.crabRun i := by
  obtain ⟨t, htaken⟩ := h.table
  have hmode : v.mode = s.mode := by rw [htaken]
  refine ⟨{ v with mode := { v.mode with crabRun := Table.put 0 v.mode.crabRun st 0 } }, ?_, ?_, fun i hi => ?_⟩
  · refine congrArg Host.Outcome.next (h.takeWord.trans ((if_pos hroot).trans ?_))
    rw [hreport]
    exact if_neg (Nat.not_le.mpr hst)
  · exact Table.get_put_self _ _ _ _ (by rw [hmode]; exact hwf)
  · exact (Table.get_put_ne _ _ _ _ i hi).trans (by rw [hmode])

/-- A refusal begins a wide run (R299). -/
theorem State.modeRefusal_changes (hroot : s.isRoot = true) (stage : Nat) :
    (s.modeRefusal stage).mode.changes = s.mode.changes ++ [{ stroke := s.modeStroke, stage := none, count := s.dictNat 0x211003 }] := by
  unfold State.modeRefusal
  rw [if_neg (by simp [State.not_isMember_of_isRoot hroot])]
  extract_lets m mode changed told
  have htold : told.mode = changed.mode := by
    unfold told State.sendModeChange
    split
    · exact State.sendWords_mode _ _
    · rfl
  obtain ⟨_, _, hevent⟩ := told.event_only 0x0502 0xFF (natLE 1 stage ++ natLE 8 m.toNat)
  rw [hevent]
  exact congrArg ModeCtl.changes htold

theorem execModeReport_refusal {st : Nat} (h : s.Takes k.toNat 8 b v) (hroot : v.isRoot = true) (hpolicy : v.fixedPolicy = false)
    (hst : st < 128) (hreport : reportPairs b = [(st, 2)]) :
    ∃ u, execModeReport k b s = .next u ∧
      u.mode.changes = s.mode.changes ++ [{ stroke := v.modeStroke, stage := none, count := v.dictNat 0x211003 }] := by
  obtain ⟨t, htaken⟩ := h.table
  refine ⟨v.modeRefusal st, ?_, ?_⟩
  · refine congrArg Host.Outcome.next (h.takeWord.trans ((if_pos hroot).trans ?_))
    rw [hreport]
    exact (if_neg (Nat.not_le.mpr hst)).trans ((if_neg (OfNat.ofNat_ne_one 2)).trans ((if_pos rfl).trans (if_neg (by simp [hpolicy]))))
  · rw [State.modeRefusal_changes hroot, htaken]

section
variable (h : s.Takes k.toNat 9 b v) (hmember : v.isMember = true)
include h hmember

theorem execModeChange_kept (hpolicy : v.fixedPolicy = false) :
    ∃ u, execModeChange k b s = .next u ∧ u.mode.changes = s.mode.changes ++
      (List.range 128).filterMap (fun i => if (BitVec.ofNat 128 (fieldNat b 16 16)).getLsbD i then
        some { stroke := wordStroke b 8, stage := some i, count := v.dictNat 0x211002 } else none) ++
      (if fieldNat b 32 2 = 0 then [] else [{ stroke := wordStroke b 8, stage := none, count := fieldNat b 32 2 }]) := by
  obtain ⟨t, htaken⟩ := h.table
  refine ⟨_, congrArg Host.Outcome.next (h.takeWord.trans ((if_neg (by simp [hmember])).trans (if_neg ?_))), ?_⟩
  · simpa [State.fixedPolicy] using hpolicy
  · have hmode : v.mode = s.mode := by rw [htaken]
    simp [hmode, State.dictNat]

theorem execModeChange_fixed (hpolicy : v.fixedPolicy = true) : ∃ u, execModeChange k b s = .next u ∧ u.mode = s.mode := by
  obtain ⟨t, htaken⟩ := h.table
  refine ⟨_, congrArg Host.Outcome.next (h.takeWord.trans ((if_neg (by simp [hmember])).trans (if_pos ?_))), ?_⟩
  · simpa [State.fixedPolicy] using hpolicy
  · exact (State.sendWords_mode _ _).trans (by rw [htaken])

end

/-! ## Objects asked for again and acknowledged (R545, R570) -/

theorem execShardRerequest_sends (h : s.Takes k.toNat 10 b v) (hreader : v.isMember = false) (hload : v.weights.load ≠ none)
    (hfew : fieldNat b 12 1 < 3) :
    ∃ u, execShardRerequest k b s = .next u ∧ u.weights.load = s.weights.load ∧
      (u.link k.toNat).out = (v.link k.toNat).out ++ objectOut 2 (fieldNat b 8 4) (s.recordHeld (fieldNat b 8 4)) := by
  obtain ⟨l, hload⟩ := Option.ne_none_iff_exists'.mp hload
  obtain ⟨t, htaken⟩ := h.table
  refine ⟨_, congrArg Host.Outcome.next h.takeWord, ?_⟩
  simp only [hreader, hload, Bool.false_eq_true, if_false, if_neg (Nat.not_le.mpr hfew)]
  generalize natLE 4 (fieldNat b 8 4) ++ natLE 1 (fieldNat b 12 1) ++ natLE 2 _ = payload
  obtain ⟨host, log, hevent⟩ := v.event_only 0x0901 0xFF payload
  have hheld : (v.event 0x0901 0xFF payload).recordHeld (fieldNat b 8 4) = s.recordHeld (fieldNat b 8 4) := by
    rw [hevent, htaken]
    rfl
  rw [hheld, hevent]
  refine ⟨by rw [htaken]; rfl, ?_⟩
  exact congrArg Link.out (h.link_updLink (g := fun l => { l with out := l.out ++ objectOut 2 (fieldNat b 8 4) (s.recordHeld (fieldNat b 8 4)) }) rfl)

theorem execBulkNak_again (h : s.Takes k.toNat 11 b v) (hkind : fieldNat b 8 1 ≠ 2) :
    execBulkNak k b s = .next (v.updLink k.toNat (fun l => { l with
      out := l.out ++ v.segmentAgain (fieldNat b 8 1) (fieldNat b 9 8) (fieldNat b 17 4) })) :=
  congrArg Host.Outcome.next (h.takeWord.trans (if_neg hkind))

theorem execBulkNak_outOfOrder (h : s.hearsWord k.toNat 11 b) (hseq : wordSeq b ≠ nextSeq (s.link k.toNat).ack) :
    execBulkNak k b s = .next ((s.updLink k.toNat (ackWords (wordAck b))).sendWord k.toNat .ack) :=
  congrArg Host.Outcome.next (State.takeWord_outOfOrder h hseq)

theorem execBulkAck_empties (h : s.Takes k.toNat 12 b v) (hkind : fieldNat b 8 1 = 3) :
    execBulkAck k b s = .next (v.updLinks (fun l => { l with mirror := l.mirror.filter (fun e => laterMod 48 e.stroke (fieldNat b 9 8)) })) :=
  congrArg Host.Outcome.next (h.takeWord.trans (if_neg (not_not_intro hkind)))

/-! ## Probes (R550) -/

theorem execDelayProbe_measures {trip : Nat} (h : s.Takes k.toNat 13 b v) (hreply : fieldNat b 9 1 = 1)
    (htraining : (v.link k.toNat).state = 1) (hmore : (v.link k.toNat).trips.length < 16) :
    execDelayProbe k b trip s = .next (v.updLink k.toNat (fun l => { l with trips := l.trips ++ [trip - fieldNat b 10 4] })) :=
  congrArg Host.Outcome.next (h.takeWord.trans ((if_pos hreply).trans (if_pos (by simp [htraining, hmore]))))

theorem execDelayProbe_answers (trip : Nat) (h : s.Takes k.toNat 13 b v) (hasked : fieldNat b 9 1 ≠ 1) :
    execDelayProbe k b trip s = .next ((v.useFree 1).sendWord k.toNat
      (.probe (fieldNat b 8 1) true ((Config.freeBits v.free).setWidth 32).toNat)) :=
  congrArg Host.Outcome.next (h.takeWord.trans (if_neg hasked))

/-! ## A partner that takes over (R569, R573) -/

/-- R569: a standby holds, and gives up what it served. -/
theorem State.pairUp_standby (serial : BitVec 128) :
    (s.pairUp serial false).links.pairState = 4 ∧ (s.pairUp serial false).clk.running = false ∧ (s.pairUp serial false).serve.t.reqs = [] := by
  unfold State.pairUp
  extract_lets ks effective paired actively halted dropped
  have hhalted : halted.clk.running = false := by
    unfold halted
    split
    · exact (paired.enterEasy_halts []).1
    next h => exact Bool.not_eq_true _ ▸ h
  clear_value halted
  exact ⟨rfl, hhalted, rfl⟩

theorem execTakeover_standby (h : s.Takes k.toNat 14 b v) (hserial : wordSerial b = v.pairSerial) (hpaired : v.links.pairState ≠ 0)
    (hlink : (v.link k.toNat).pair = true) : execTakeover k b s = .next (v.pairUp (wordSerial b) false) :=
  congrArg Host.Outcome.next (h.takeWord.trans (if_neg (by simp [hserial, hpaired, hlink])))

/-! ## Blocks that fail their check (R537) -/

variable (hcrc : blockCrcOk b = false)
include hcrc

theorem execHail_bad (agrees prefers : Bool) : execHail k b agrees prefers s = .next s := if_pos (by simp [isWord_eq_false hcrc])

theorem execAckOnly_bad : execAckOnly k b s = .next s := if_pos (by simp [isWord_eq_false hcrc])

theorem execHeartbeat_bad : execHeartbeat k b s = .next s := if_pos (by simp [isWord_eq_false hcrc])

theorem execStrokeMarker_bad (phase : BitVec 6) : execStrokeMarker k b phase s = .next s := if_pos (by simp [hcrc])

end

/-- Settles O43: each word is taken first as every word is, and each clause follows from what the word then does. -/
theorem controlWords : Obligations.ControlWords := by
  intro s k b st trip agrees prefers phase n v next l
  have takes {kind : Nat} (h : next kind) : s.Takes n kind b v := State.takes_of_wordNext h
  refine ⟨fun hcrc => ?_, fun hcrc hkind hseq hup hgood => ?_, fun h => execHaltWord_names (takes h),
    fun h hmember hparent => execResumeWord_names (takes h) ⟨hmember, hparent⟩,
    fun h hmember hparent => execStake_holds (takes h) ⟨hmember, hparent⟩, fun h => execStrokeChange_arms (takes h),
    fun h => execModeReport_good (takes h), fun h => execModeReport_refusal (takes h), fun h => execModeChange_kept (takes h),
    fun h => execModeChange_fixed (takes h), fun h => execShardRerequest_sends (takes h), fun h hkind => ?_, fun h hkind => ?_,
    fun h hreply htraining hmore => ?_, fun h hasked => ?_, fun h hserial hpaired hlink => ?_⟩
  · simp only [List.forall_mem_cons]
    exact ⟨execHail_bad hcrc _ _, execAckOnly_bad hcrc, execHeartbeat_bad hcrc, congrArg _ (State.takeWord_bad hcrc),
      congrArg _ (State.takeWord_bad hcrc), congrArg _ (State.takeWord_bad hcrc), congrArg _ (State.takeWord_bad hcrc),
      congrArg _ (State.takeWord_bad hcrc), congrArg _ (State.takeWord_bad hcrc), congrArg _ (State.takeWord_bad hcrc),
      congrArg _ (State.takeWord_bad hcrc), congrArg _ (State.takeWord_bad hcrc), congrArg _ (State.takeWord_bad hcrc),
      congrArg _ (State.takeWord_bad hcrc), execStrokeMarker_bad hcrc _, fun _ h => absurd h List.not_mem_nil⟩
  · exact ⟨_, execBulkNak_outOfOrder ⟨hcrc, hkind, .inr hup, hgood⟩ hseq, rfl⟩
  · exact ⟨_, execBulkNak_again (takes h) hkind, rfl⟩
  · obtain ⟨t, htaken⟩ := (takes h).table
    exact ⟨_, execBulkAck_empties (takes h) hkind, rfl, (congrArg State.tiles htaken :)⟩
  · exact ⟨_, execDelayProbe_measures (takes h) hreply htraining hmore, rfl⟩
  · obtain ⟨t, htaken⟩ := (takes h).table
    obtain ⟨t', hsent⟩ := (v.useFree 1).sendWord_table n (.probe (fieldNat b 8 1) true ((Config.freeBits v.free).setWidth 32).toNat)
    refine ⟨_, execDelayProbe_answers trip (takes h) hasked, (congrArg State.free hsent).trans ?_, (congrArg State.tiles hsent).trans ?_⟩
    · exact congrArg (· + 1) (congrArg State.free htaken :)
    · exact (congrArg State.tiles htaken :)
  · exact ⟨_, execTakeover_standby (takes h) hserial hpaired hlink, State.pairUp_standby _⟩

end Sys2Proof.Machine

/-! # Host ports -/

namespace Sys2Proof

/-- A value other than the default stands in the table under its key. -/
theorem Table.mem_of_get {α : Type} {d v : α} {t : Table α} {k : Nat} (h : Table.get d t k = v) (hv : v ≠ d) : (k, v) ∈ t := by
  induction t with
  | nil => exact absurd h.symm hv
  | cons e t ih =>
    obtain ⟨k', v'⟩ := e
    by_cases hk : k' = k
    · subst hk
      simp only [Table.get, if_pos] at h
      exact h ▸ List.mem_cons_self
    · simp only [Table.get, if_neg hk] at h
      exact List.mem_cons_of_mem _ (ih h)

namespace Machine

/-! ## Ports and queue pairs read back -/

section
variable (s : State)

theorem State.port_updPort {k : Nat} (hports : Table.wf {} s.host.ports = true) (f : Port → Port) :
    (s.updPort k f).port k = f (s.port k) := Table.get_put_self _ _ _ _ hports

theorem State.wf_updPort {k : Nat} (hports : Table.wf {} s.host.ports = true) (f : Port → Port) :
    Table.wf {} (s.updPort k f).host.ports = true := Table.wf_put _ _ _ _ hports

@[simp] theorem State.put_now (o : HostOut) : (s.put o).now = s.now := rfl
@[simp] theorem State.put_free (o : HostOut) : (s.put o).free = s.free := rfl
theorem State.mem_sent_put (o : HostOut) : o ∈ (s.put o).host.sent := List.mem_append_right _ List.mem_cons_self
theorem State.port_put (o : HostOut) (k : Nat) : (s.put o).port k = s.port k := rfl

/-- Changing a port changes the ports alone. -/
theorem State.updPort_only (k : Nat) (f : Port → Port) :
    s.updPort k f = { s with host := { s.host with ports := (s.updPort k f).host.ports } } := rfl

theorem State.qp_setQp_some (n : Nat) (q : Qp) : (s.setQp n (some q)).qp n = some q := Table.get_put_some _ _ _ _ (Option.some_ne_none q)

theorem State.qp_setQp_none {n : Nat} (hqps : Table.wf none s.host.qps = true) : (s.setQp n none).qp n = none :=
  Table.get_put_self _ _ _ _ hqps

theorem State.qp_setQp_ne {m n : Nat} (h : m ≠ n) (q : Option Qp) : (s.setQp n q).qp m = s.qp m := Table.get_put_ne _ _ _ _ _ h

theorem State.updQp_some {s : State} {n : Nat} {q : Qp} (hq : s.qp n = some q) (f : Qp → Qp) : s.updQp n f = s.setQp n (some (f q)) := by
  simp only [State.updQp, hq]

theorem State.updQp_none {s : State} {n : Nat} (hq : s.qp n = none) (f : Qp → Qp) : s.updQp n f = s := by
  simp only [State.updQp, hq]

/-- A queue pair changed is read back changed, and the others as they were. -/
theorem State.qp_updQp (n m : Nat) (f : Qp → Qp) : (s.updQp n f).qp m = if m = n then (s.qp m).map f else s.qp m := by
  cases hq : s.qp n with
  | none =>
    rw [State.updQp_none hq]
    split
    next h => rw [h, hq]; rfl
    next => rfl
  | some q =>
    rw [State.updQp_some hq]
    split
    next h => rw [h, hq]; exact s.qp_setQp_some n (f q)
    next h => exact s.qp_setQp_ne h _

theorem State.wf_updQp {n : Nat} (hqps : Table.wf none s.host.qps = true) (f : Qp → Qp) : Table.wf none (s.updQp n f).host.qps = true := by
  unfold State.updQp
  split
  · exact Table.wf_put _ _ _ _ hqps
  · exact hqps

/-- Changing a queue pair changes the queue pairs alone. -/
theorem State.updQp_only (n : Nat) (f : Qp → Qp) : s.updQp n f = { s with host := { s.host with qps := (s.updQp n f).host.qps } } := by
  unfold State.updQp
  split <;> rfl

/-- Time that passes leaves everything but the clock as it was (R55). -/
theorem State.advanceTo_only (m : Nat) : s.advanceTo m = { s with now := (s.advanceTo m).now, clk := (s.advanceTo m).clk } := by
  unfold State.advanceTo
  split <;> rfl

@[simp] theorem State.advanceTo_host (m : Nat) : (s.advanceTo m).host = s.host := (congrArg State.host (s.advanceTo_only m) :)
@[simp] theorem State.advanceTo_free (m : Nat) : (s.advanceTo m).free = s.free := (congrArg State.free (s.advanceTo_only m) :)

/-! ## What an event leaves of the host side -/

/-- A record exported changes the queue pairs of the host side alone (R751). -/
theorem State.exportRecord_qps (r : Record) :
    ∃ qps l, s.exportRecord r = { s with host := { s.host with qps := qps }, log := l } := by
  unfold State.exportRecord
  dsimp only
  split
  · exact ⟨_, _, rfl⟩
  · exact ⟨_, s.log, rfl⟩

/-- A record put into the ring changes the queue pairs and the log, and the log alone while no connection takes records (R743, R751). -/
theorem State.ringPut_qps (r : Record) : ∃ qps l, s.ringPut r = { s with host := { s.host with qps := qps }, log := l } ∧
    (s.log.exportState ≠ 1 → qps = s.host.qps) := by
  unfold State.ringPut
  extract_lets l old lost counted placed exported
  have hplaced : placed.log.exportState = s.log.exportState := by
    simp only [placed, counted]
    split <;> rfl
  obtain ⟨qps, l', hexported, hquiet⟩ : ∃ qps l', exported = { s with host := { s.host with qps := qps }, log := l' } ∧
      (s.log.exportState ≠ 1 → qps = s.host.qps) := by
    simp only [exported]
    split
    next hon =>
      obtain ⟨qps, l', heq⟩ := placed.exportRecord_qps r
      exact ⟨qps, l', heq, fun hoff => absurd (hplaced.symm.trans hon) hoff⟩
    next => exact ⟨_, placed.log, rfl, fun _ => rfl⟩
  rw [hexported]
  split
  · exact ⟨qps, _, rfl, hquiet⟩
  · exact ⟨qps, l', rfl, hquiet⟩

/-- An event changes the queue pairs and the log, and the log alone while no connection takes records (R739, R751). -/
theorem State.event_qps (code region : Nat) (p : Bytes) :
    ∃ qps l, s.event code region p = { s with host := { s.host with qps := qps }, log := l } ∧
      (s.log.exportState ≠ 1 → qps = s.host.qps) := by
  unfold State.event State.recordMade
  dsimp only
  split
  · exact ⟨_, _, rfl, fun _ => rfl⟩
  · exact State.ringPut_qps _ _

theorem State.event_port (code region : Nat) (p : Bytes) (k : Nat) : (s.event code region p).port k = s.port k := by
  obtain ⟨_, _, heq, -⟩ := s.event_qps code region p
  rw [heq]
  rfl

/-! ## Connections that detach -/

/-- A connection that detaches changes the serving part and the log alone, for it takes no more records from then on (R428, R751). -/
theorem State.detach_eq (tag : Nat) : ∃ v l, s.detach tag = { s with serve := v, log := l } := by
  unfold State.detach
  split
  · split
    · unfold State.stopExport
      split
      · obtain ⟨qps, l, heq, hquiet⟩ := State.event_qps _ 0x0801 0xFF (natLE 2 tag)
        rw [heq, hquiet (by decide : (2 : Nat) ≠ 1)]
        exact ⟨_, l, rfl⟩
      · exact ⟨_, s.log, rfl⟩
    · exact ⟨s.serve, s.log, rfl⟩
  · exact ⟨s.serve, s.log, rfl⟩

theorem State.detachAll_eq (tags : List Nat) : ∃ v l, s.detachAll tags = { s with serve := v, log := l } := by
  unfold State.detachAll
  induction tags generalizing s with
  | nil => exact ⟨s.serve, s.log, rfl⟩
  | cons tag tags ih =>
    obtain ⟨_, _, hhead⟩ := s.detach_eq tag
    obtain ⟨v, l, htail⟩ := ih (s.detach tag)
    exact ⟨v, l, htail.trans (by rw [hhead])⟩

/-- After a connection detached, a connection is unbound or another one that stands as before. -/
theorem State.conn_of_detach {tag t : Nat} {c : Conn} (h : (s.detach tag).conn t = some c) :
    c.endpoint = none ∨ t ≠ tag ∧ s.conn t = some c := by
  by_cases htag : t = tag
  · subst htag
    cases hconn : s.conn t with
    | none =>
      simp only [State.detach, hconn, reduceCtorEq] at h
    | some c' =>
      by_cases hbound : c'.endpoint.isSome = true
      · rw [State.conn_detach hconn hbound] at h
        obtain rfl := Option.some.inj h
        exact .inl rfl
      · simp only [State.detach, hconn, if_neg hbound] at h
        obtain rfl := Option.some.inj h
        exact .inl (Option.not_isSome_iff_eq_none.mp hbound)
  · refine .inr ⟨htag, h ▸ ?_⟩
    unfold State.detach
    split
    · split
      · rw [State.conn, State.conn, State.stopExport_serve]
        exact (Table.get_put_ne _ _ _ _ _ htag).symm
      · rfl
    · rfl

theorem State.conn_of_detachAll {tags : List Nat} {t : Nat} {c : Conn} (h : (s.detachAll tags).conn t = some c) :
    c.endpoint = none ∨ t ∉ tags ∧ s.conn t = some c := by
  unfold State.detachAll at h
  induction tags generalizing s with
  | nil => exact .inr ⟨List.not_mem_nil, h⟩
  | cons tag tags ih =>
    obtain hnone | ⟨hout, hconn⟩ := ih _ h
    · exact .inl hnone
    · obtain hnone | ⟨hne, hconn⟩ := s.conn_of_detach hconn
      · exact .inl hnone
      · exact .inr ⟨fun hmem => (List.mem_cons.mp hmem).elim hne hout, hconn⟩

/-! ## Queue pairs that fail -/

/-- A queue pair that has failed (R588). -/
def Qp.failed (q : Qp) : Qp := { q with state := .error, out := [], recv := [] }

/-- From `s` to `u` queue pairs failed and connections detached: the rest of the module is as it was. -/
def State.Drops (s u : State) : Prop := ∃ qps v l, u = { s with host := { s.host with qps := qps }, serve := v, log := l }

theorem State.Drops.refl : State.Drops s s := ⟨s.host.qps, s.serve, s.log, rfl⟩

theorem State.failQp_eq (n : Nat) : ∃ v l, s.failQp n = { s.updQp n Qp.failed with serve := v, log := l } := State.detachAll_eq _ _

theorem State.qp_failQp (n m : Nat) : (s.failQp n).qp m = if m = n then (s.qp m).map Qp.failed else s.qp m := by
  obtain ⟨v, l, heq⟩ := s.failQp_eq n
  rw [heq]
  exact s.qp_updQp n m _

theorem State.wf_failQp {n : Nat} (hqps : Table.wf none s.host.qps = true) : Table.wf none (s.failQp n).host.qps = true := by
  obtain ⟨v, l, heq⟩ := s.failQp_eq n
  rw [heq]
  exact s.wf_updQp hqps _

/-- No connection stays bound to a queue pair that failed (R428). -/
theorem State.conn_failQp {n t : Nat} {c : Conn} (h : (s.failQp n).conn t = some c) : c.endpoint ≠ some (.qp n) := by
  have hserve : (s.updQp n Qp.failed).serve = s.serve := (congrArg State.serve (s.updQp_only n _) :)
  obtain hnone | ⟨hout, hconn⟩ := State.conn_of_detachAll _ h
  · simp [hnone]
  · intro hbound
    replace hconn : s.conn t = some c := (congrArg (fun (v : Serving) => Table.get none v.conns t) hserve).symm.trans hconn
    exact hout (List.mem_filterMap.mpr ⟨(t, some c), Table.mem_of_get hconn (Option.some_ne_none c), by simp [hbound]⟩)

variable {s} {u : State}

theorem State.Drops.failQp (h : State.Drops s u) (n : Nat) : State.Drops s (u.failQp n) := by
  obtain ⟨_, _, _, rfl⟩ := h
  obtain ⟨v, l, heq⟩ := State.failQp_eq _ n
  rw [heq, State.updQp_only]
  exact ⟨_, v, l, rfl⟩

theorem State.Drops.detachPort (h : State.Drops s u) (k : Nat) (v4 : Bool) : State.Drops s (u.detachPort k v4) := by
  obtain ⟨_, _, _, rfl⟩ := h
  obtain ⟨v, l, heq⟩ := State.detachAll_eq _ _
  exact ⟨_, v, l, heq⟩

theorem State.Drops.failPortQps (h : State.Drops s u) (k : Nat) : State.Drops s (u.failPortQps k) :=
  List.foldlRecOn (u.qpsOf k) _ h fun _ hu n _ => hu.failQp n

/-! ### What they leave -/

section
variable (h : State.Drops s u)
include h

theorem State.Drops.ports : u.host.ports = s.host.ports := by obtain ⟨_, _, _, rfl⟩ := h; rfl
theorem State.Drops.port (k : Nat) : u.port k = s.port k := by obtain ⟨_, _, _, rfl⟩ := h; rfl
theorem State.Drops.sent : u.host.sent = s.host.sent := by obtain ⟨_, _, _, rfl⟩ := h; rfl
theorem State.Drops.now : u.now = s.now := by obtain ⟨_, _, _, rfl⟩ := h; rfl
theorem State.Drops.addrMode (k : Nat) : u.addrMode k = s.addrMode k := by obtain ⟨_, _, _, rfl⟩ := h; rfl

end

/-- Every queue pair of a port that fails is in error (R428). -/
theorem State.qp_failPortQps {k n : Nat} {e : Qp} (h : (s.failPortQps k).qp n = some e) (hport : e.port = k) : e.state = .error := by
  have hfold (l : List Nat) : ∀ v : State, (l.foldl (fun (v : State) m => v.failQp m) v).qp n = some e →
      e.state = .error ∨ n ∉ l ∧ v.qp n = some e := by
    induction l with
    | nil => exact fun v hv => .inr ⟨List.not_mem_nil, hv⟩
    | cons m l ih =>
      intro v hv
      obtain herror | ⟨hout, hqp⟩ := ih _ hv
      · exact .inl herror
      · rw [State.qp_failQp] at hqp
        split at hqp
        next =>
          obtain ⟨q, -, rfl⟩ := Option.map_eq_some_iff.mp hqp
          exact .inl rfl
        next hne => exact .inr ⟨fun hmem => (List.mem_cons.mp hmem).elim hne hout, hqp⟩
  obtain herror | ⟨hout, hqp⟩ := hfold _ s h
  · exact herror
  · exact absurd (List.mem_filterMap.mpr ⟨(n, some e), Table.mem_of_get hqp (Option.some_ne_none e), by simp [hport]⟩) hout

end

/-! ## Links of the ports (R579, R580) -/

section
variable {s : State} {k : Nat} (hports : Table.wf {} s.host.ports = true)

theorem State.portDown_drops (s : State) (k : Nat) :
    State.Drops (s.updPort k (fun _ => { lowPower := (s.port k).lowPower, dropped := (s.port k).dropped })) (s.portDown k) :=
  ((State.Drops.refl _).detachPort k false).failPortQps k

/-- An address set at a port stands there, and connections and queue pairs at most are dropped for it (R583, R614). -/
theorem State.setAddr_drops (s : State) (k addr : Nat) (leased : Bool) :
    State.Drops (s.updPort k (fun p => { p with addr := addr, leased := leased })) (s.setAddr k addr leased) := by
  unfold State.setAddr
  dsimp only
  split
  · exact .refl _
  · exact ((State.Drops.refl _).detachPort k true).failPortQps k

/-- The first address of a port drops nothing. -/
theorem State.setAddr_first (hnone : (s.port k).addr = 0) (addr : Nat) (leased : Bool) :
    s.setAddr k addr leased = s.updPort k (fun p => { p with addr := addr, leased := leased }) := if_pos (by simp [hnone])

/-- Where its address is not static it asks for a lease (R583). -/
theorem State.startAddr_asks (hmode : s.addrMode k ≠ 1) :
    s.startAddr k = (s.updPort k (fun p => { p with sinceMs := s.ms })).put (.dhcp k) := if_neg hmode

include hports

theorem State.port_portDown : (s.portDown k).port k = { lowPower := (s.port k).lowPower, dropped := (s.port k).dropped } :=
  ((s.portDown_drops k).port k).trans (s.port_updPort hports _)

theorem State.wf_portDown : Table.wf {} (s.portDown k).host.ports = true := by
  rw [(s.portDown_drops k).ports]
  exact s.wf_updPort hports _

theorem State.port_setAddr (addr : Nat) (leased : Bool) :
    (s.setAddr k addr leased).port k = { s.port k with addr := addr, leased := leased } :=
  ((s.setAddr_drops k addr leased).port k).trans (s.port_updPort hports _)

theorem State.wf_setAddr (addr : Nat) (leased : Bool) : Table.wf {} (s.setAddr k addr leased).host.ports = true := by
  rw [(s.setAddr_drops k addr leased).ports]
  exact s.wf_updPort hports _

/-- A port that comes up keeps its rate, and counts the time from now (R583). -/
theorem State.port_startAddr : ((s.startAddr k).port k).state = (s.port k).state ∧ ((s.startAddr k).port k).lane = (s.port k).lane ∧
    ((s.startAddr k).port k).sinceMs = s.ms := by
  have hport := s.port_updPort (k := k) hports (fun p => { p with sinceMs := s.ms })
  unfold State.startAddr
  dsimp only
  split
  · rw [State.port_setAddr (s.wf_updPort hports _), hport]
    exact ⟨rfl, rfl, rfl⟩
  · exact hport ▸ ⟨rfl, rfl, rfl⟩

end

end Machine
end Sys2Proof

/-! # Links, pause and addresses of the host ports -/

namespace Sys2Proof.Machine

section
variable {s : State} {port : BitVec 4} (hports : Table.wf {} s.host.ports = true)
include hports

/-! ## Links (R579, R580, R792) -/

/-- A port that comes up holds the rate chosen, and counts the time from now. -/
theorem State.port_comesUp (k : Nat) (f : Port → Port) :
    let u := (s.updPort k f).startAddr k
    (u.port k).state = (f (s.port k)).state ∧ (u.port k).lane = (f (s.port k)).lane ∧ (u.port k).sinceMs = s.ms := by
  have hup := State.port_startAddr (s := s.updPort k f) (k := k) (s.wf_updPort hports f)
  rwa [s.port_updPort hports] at hup

theorem execPortLinkUp_host {supports : BitVec 7} {c : RateCombo} (hport : port.toNat < 8) (hdown : (s.port port.toNat).state = 0)
    (hlive : s.portLive port.toNat = true) (hrate : s.chooseRate port.toNat supports = some c) :
    ∃ u, execPortLinkUp port supports s = .next u ∧ (u.port port.toNat).state = c.state ∧ (u.port port.toNat).lane = c.lane ∧
      (u.port port.toNat).sinceMs = s.ms := by
  simp only [execPortLinkUp, hrate]
  rw [if_neg (by simp [hdown]; omega), if_neg (by omega), if_neg (by simp [hlive])]
  exact ⟨_, rfl, State.port_comesUp hports _ _⟩

theorem execPortLinkUp_management {supports : BitVec 7} (hport : port = 8) (hdown : (s.port 8).state = 0) (hmode : s.dictNat 0x120001 ≠ 1)
    (hfast : supports.getLsbD 1 = true) : ∃ u, execPortLinkUp port supports s = .next u ∧ (u.port 8).state = 2 := by
  subst hport
  have h8 : (8 : BitVec 4).toNat = 8 := rfl
  have hpick : (true && decide (s.dictNat 0x120001 ≠ 1)) = true := by simp [hmode]
  simp only [execPortLinkUp, h8, hfast, hpick, if_true]
  rw [if_neg (by simp [hdown]), if_neg two_ne_zero]
  exact ⟨_, rfl, (State.port_comesUp hports 8 (fun p => { p with state := 2 })).1⟩

/-- A port that loses its link is down, without an address, and its queue pairs have failed (R428). -/
theorem execPortLinkDown_fails (hport : port.toNat ≤ 8) (hup : (s.port port.toNat).state ≠ 0) :
    ∃ u, execPortLinkDown port s = .next u ∧ (u.port port.toNat).state = 0 ∧ (u.port port.toNat).addr = 0 ∧
      ∀ n e, u.qp n = some e → e.port = port.toNat → e.state = .error := by
  refine ⟨s.portDown port.toNat, if_neg (by simp [hup]; omega), ?_, ?_, fun n e hqp he => State.qp_failPortQps hqp he⟩ <;>
    rw [State.port_portDown hports]

theorem execPluggableInsert_power (p3 : BitVec 3) (watts : Nat) : ∃ u, execPluggableInsert p3 watts s = .next u ∧
    (u.port p3.toNat).state = 0 ∧ (u.port p3.toNat).lowPower = decide (25 < watts) := by
  refine ⟨_, rfl, ?_⟩
  rw [State.port_updPort _ (State.wf_portDown hports), State.port_portDown hports]
  exact ⟨rfl, rfl⟩

end

/-! ## Pause (R590, R591) -/

theorem getLsbD_bit {p i : Nat} (hi : i < 8) : (1#8 <<< p).getLsbD i = decide (i = p) := by
  simp only [BitVec.getLsbD_shiftLeft, BitVec.getLsbD_one]
  by_cases h : i = p
  · simp [h] at hi ⊢; omega
  · by_cases hlt : i < p
    · simp [hlt, h]
    · simp [h]; omega

/-- From `s` to `u` the ports alone changed, and of port `k` no storm began or ended. -/
structure State.Pauses (k : Nat) (s u : State) : Prop where
  only : ∃ ps, u = { s with host := { s.host with ports := ps } }
  wf : Table.wf {} u.host.ports = true
  storm : (u.port k).storm = (s.port k).storm

section
variable {s u : State} {k : Nat} (h : State.Pauses k s u)
include h

theorem State.Pauses.lossless (p : Nat) : u.lossless p = s.lossless p := by obtain ⟨_, rfl⟩ := h.only; rfl

theorem State.Pauses.pausePrio (p : Nat) (off : Bool) : State.Pauses k s (u.pausePrio k p off) where
  only := by
    obtain ⟨_, rfl⟩ := h.only
    exact ⟨_, rfl⟩
  wf := u.wf_updPort h.wf _
  storm := by
    rw [State.pausePrio, u.port_updPort h.wf]
    cases off <;> exact h.storm

/-- A priority of a frame is paused or released, unless it counts as a storm; the other priorities stand as before. -/
theorem State.Pauses.paused_pausePrio {i p : Nat} (hi : i < 8) (off : Bool) (hcalm : (s.port k).storm.getLsbD i = false) :
    ((u.pausePrio k p off).port k).paused.getLsbD i = if i = p then off else (u.port k).paused.getLsbD i := by
  have hstorm : (u.port k).storm.getLsbD i = false := h.storm ▸ hcalm
  rw [State.pausePrio, u.port_updPort h.wf]
  cases off with
  | true =>
    by_cases hp : i = p
    · subst hp
      simp [hstorm, getLsbD_bit hi]
    · simp only [if_true, if_neg hp]
      split
      · rfl
      · simp [getLsbD_bit hi, hp]
  | false =>
    rw [if_neg Bool.false_ne_true, BitVec.getLsbD_and, BitVec.getLsbD_not, getLsbD_bit hi]
    by_cases hp : i = p <;> simp [hp, hi]

end

section
variable {s : State} {p3 prio : BitVec 3} (hports : Table.wf {} s.host.ports = true)
include hports

/-- A frame leaves each of its lossless priorities paused or released as it says (R590). -/
theorem execPfcFrame_pauses {prios off : BitVec 8} {i : Nat} (hup : (s.port p3.toNat).state ≠ 0) (hi : i < 8)
    (hnamed : prios.getLsbD i = true) (hlossless : s.lossless i = true) (hcalm : (s.port p3.toNat).storm.getLsbD i = false) :
    ∃ u, execPfcFrame p3 prios off s = .next u ∧ (u.port p3.toNat).paused.getLsbD i = off.getLsbD i ∧
      u = { s with host := { s.host with ports := u.host.ports } } := by
  have hfold (l : List Nat) : ∀ u : State, State.Pauses p3.toNat s u → (i ∈ l ∨ (u.port p3.toNat).paused.getLsbD i = off.getLsbD i) →
      let v := l.foldl (fun (v : State) p =>
        if prios.getLsbD p && v.lossless p then v.pausePrio p3.toNat p (off.getLsbD p) else v) u
      State.Pauses p3.toNat s v ∧ (v.port p3.toNat).paused.getLsbD i = off.getLsbD i := by
    induction l with
    | nil => exact fun u hu hdone => ⟨hu, hdone.resolve_left List.not_mem_nil⟩
    | cons p l ih =>
      intro u hu hdone
      rw [List.foldl_cons, hu.lossless]
      by_cases hip : i = p
      · subst hip
        rw [if_pos (by simp [hnamed, hlossless])]
        exact ih _ (hu.pausePrio i _) (.inr ((hu.paused_pausePrio hi _ hcalm).trans (if_pos rfl)))
      · replace hdone := hdone.imp_left fun hmem => (List.mem_cons.mp hmem).resolve_left hip
        split
        · exact ih _ (hu.pausePrio p _) (hdone.imp_right fun hbit => ((hu.paused_pausePrio hi _ hcalm).trans (if_neg hip)).trans hbit)
        · exact ih u hu hdone
  obtain ⟨hpauses, hpaused⟩ := hfold (List.range 8) s ⟨⟨_, rfl⟩, hports, rfl⟩ (.inl (List.mem_range.mpr hi))
  refine ⟨_, if_neg hup, hpaused, ?_⟩
  obtain ⟨_, heq⟩ := hpauses.only
  rw [heq]

/-- A pause that has lasted becomes a storm, in which it is not honoured (R591). -/
theorem execPfcStorm_begins (hpaused : (s.port p3.toNat).paused.getLsbD prio.toNat = true) :
    ∃ u, execPfcStorm p3 prio s = .next u ∧ (u.port p3.toNat).paused.getLsbD prio.toNat = false ∧
      (u.port p3.toNat).storm.getLsbD prio.toNat = true ∧
      Table.get 0 (s.port p3.toNat).pausedAt prio.toNat + s.dictNat 0x118005 * msTicks ≤ u.now := by
  refine ⟨_, (if_neg (by simp [hpaused]) : execPfcStorm p3 prio s = _), ?_⟩
  rw [State.event_port, State.port_updPort _ (by simpa using hports), State.event_now, State.updPort_now, State.advanceTo_now]
  simp [getLsbD_bit prio.isLt]

/-- A storm ends once no pause has arrived for the same time (R591). -/
theorem execPfcStormClear_ends (hstorm : (s.port p3.toNat).storm.getLsbD prio.toNat = true) :
    ∃ u, execPfcStormClear p3 prio s = .next u ∧ (u.port p3.toNat).storm.getLsbD prio.toNat = false ∧
      (u.port p3.toNat).paused = (s.port p3.toNat).paused ∧
      Table.get 0 (s.port p3.toNat).lastPause prio.toNat + s.dictNat 0x118005 * msTicks ≤ u.now := by
  refine ⟨_, (if_neg (by simp [hstorm]) : execPfcStormClear p3 prio s = _), ?_⟩
  rw [State.port_updPort _ (by simpa using hports), State.updPort_now, State.advanceTo_now]
  simp [getLsbD_bit prio.isLt, State.port]

end

/-! ## Addresses (R583, R614) -/

/-- A value drawn in a span from a base. -/
theorem within_span (base n : Nat) {span : Nat} (h : 0 < span) : base ≤ base + n % span ∧ base + n % span < base + span :=
  ⟨Nat.le_add_right _ _, Nat.add_lt_add_left (Nat.mod_lt n h) base⟩

section
variable {s : State} {port : BitVec 4} {addr : BitVec 32} {addr6 : BitVec 128}

theorem execArpRequest_answers (hup : s.portUp port.toNat = true) (hown : (s.port port.toNat).addr = addr.toNat) (haddr : addr ≠ 0) :
    execArpRequest port addr s = .next (s.put (.arp port.toNat addr.toNat (s.portMac port.toNat))) := by
  have hne : addr.toNat ≠ 0 := fun h => haddr (BitVec.eq_of_toNat_eq h)
  exact if_pos (by simp [hup, State.ownV4, hown, hne])

theorem execNeighbourSolicitation_answers (hup : s.portUp port.toNat = true) (hown : s.ownV6 port.toNat addr6.toNat = true) :
    execNeighbourSolicitation port addr6 s = .next (s.put (.neighbour port.toNat addr6.toNat (s.portMac port.toNat))) :=
  if_pos (by simp [hup, hown])

theorem execIcmpEcho_answers (hup : s.portUp port.toNat = true) (hown : s.ownV6 port.toNat addr6.toNat = true) (ident : Nat) :
    execIcmpEcho port addr6 ident s = .next (s.put (.echo port.toNat addr6.toNat ident)) := if_pos (by simp [hup, hown])

theorem execIcmpEcho_foreign (hv4 : s.ownV4 port.toNat addr6.toNat = false) (hv6 : s.ownV6 port.toNat addr6.toNat = false) (ident : Nat) :
    execIcmpEcho port addr6 ident s = .next s := if_neg (by simp [hv4, hv6])

variable (hports : Table.wf {} s.host.ports = true)
include hports

theorem execRouterAdvertisement_adds {pfx : BitVec 64} (hup : s.portUp port.toNat = true)
    (hnew : (s.port port.toNat).slaac.contains (pfx.toNat * 2 ^ 64 + eui64 (s.portMac port.toNat)) = false) :
    ∃ u, execRouterAdvertisement port pfx s = .next u ∧
      (u.port port.toNat).slaac = (s.port port.toNat).slaac ++ [pfx.toNat * 2 ^ 64 + eui64 (s.portMac port.toNat)] ∧
      u = { s with host := { s.host with ports := u.host.ports } } :=
  ⟨_, if_neg (by simp only [hup, hnew]; decide), by rw [s.port_updPort hports], rfl⟩

theorem execDhcpReply_leases (hup : s.portUp port.toNat = true) (hmode : s.addrMode port.toNat = 0) (haddr : addr ≠ 0) :
    ∃ u, execDhcpReply port addr s = .next u ∧ (u.port port.toNat).addr = addr.toNat ∧ (u.port port.toNat).leased = true := by
  refine ⟨s.setAddr port.toNat addr.toNat true, if_neg (by simp only [hup, hmode, haddr]; decide), ?_⟩
  rw [State.port_setAddr hports]
  exact ⟨rfl, rfl⟩

/-- Without a lease for 10 s a port takes an address of 169.254.1.0 to 169.254.254.255, and keeps asking. -/
theorem execDhcpTimeout_linkLocal (hup : s.portUp port.toNat = true) (hmode : s.addrMode port.toNat = 0)
    (hnone : (s.port port.toNat).addr = 0) :
    ∃ u, execDhcpTimeout port s = .next u ∧ u.free = s.free + 1 ∧ ((s.port port.toNat).sinceMs + 10000) * msTicks ≤ u.now ∧
      0xA9FE0100 ≤ (u.port port.toNat).addr ∧ (u.port port.toNat).addr < 0xA9FE0100 + 65024 ∧ HostOut.dhcp port.toNat ∈ u.host.sent := by
  have hwf (m : Nat) : Table.wf {} ((s.advanceTo m).useFree 1).host.ports = true := by
    rw [State.useFree_host, State.advanceTo_host, hports]
  have hport (m : Nat) : ((s.advanceTo m).useFree 1).port port.toNat = s.port port.toNat := by simp [State.port]
  simp only [execDhcpTimeout]
  rw [if_neg (by simp [hup, hmode, hnone]), State.setAddr_first (by rw [hport, hnone])]
  refine ⟨_, rfl, ?_, ?_, ?_⟩
  · rw [State.put_free, State.updPort_free, State.useFree_free, State.advanceTo_free]
  · rw [State.put_now, State.updPort_now, State.useFree_now, State.advanceTo_now]
    exact le_max_right _ _
  · rw [State.port_put, State.port_updPort _ (hwf _)]
    dsimp only
    obtain ⟨hlow, hhigh⟩ := within_span 0xA9FE0100 (Config.freeBits (s.advanceTo (((s.port port.toNat).sinceMs + 10000) * msTicks)).free).toNat
      (span := 65024) (by decide)
    exact ⟨hlow, hhigh, State.mem_sent_put _ _⟩

/-- A lease that expires takes its address with it, and the port asks again. -/
theorem execLeaseExpiry_asks (hup : s.portUp port.toNat = true) (hleased : (s.port port.toNat).leased = true)
    (hmode : s.addrMode port.toNat = 0) :
    ∃ u, execLeaseExpiry port s = .next u ∧ (u.port port.toNat).addr = 0 ∧ (u.port port.toNat).leased = false ∧
      (u.port port.toNat).sinceMs = s.ms ∧ HostOut.dhcp port.toNat ∈ u.host.sent := by
  have hdrops := s.setAddr_drops port.toNat 0 false
  have hasks : (s.setAddr port.toNat 0 false).addrMode port.toNat ≠ 1 := by
    rw [hdrops.addrMode]
    exact hmode.trans_ne zero_ne_one
  refine ⟨_, if_neg (by simp [hup, hleased]), ?_⟩
  rw [State.startAddr_asks hasks, State.port_put, State.port_updPort _ (State.wf_setAddr hports _ _), State.port_setAddr hports]
  exact ⟨rfl, rfl, congrArg (· / msTicks) hdrops.now, State.mem_sent_put _ _⟩

end

/-- Settles O46: each clause follows from what its command leaves of the ports. -/
theorem hostPorts : Obligations.HostPorts := by
  intro s port p3 prio supports watts i ident prios off addr addr6 pfx c hports hqps k m q sent slaac
  exact ⟨execPortLinkUp_host hports, execPortLinkUp_management hports, execPortLinkDown_fails hports,
    execPluggableInsert_power hports p3 watts, execPfcFrame_pauses hports, execPfcStorm_begins hports, execPfcStormClear_ends hports,
    fun hup hown haddr => ⟨_, execArpRequest_answers hup hown haddr, rfl⟩,
    fun hup hown => ⟨⟨_, execNeighbourSolicitation_answers hup hown, rfl⟩, ⟨_, execIcmpEcho_answers hup hown ident, rfl⟩⟩,
    fun hv4 hv6 => execIcmpEcho_foreign hv4 hv6 ident, execRouterAdvertisement_adds hports, execDhcpReply_leases hports,
    execDhcpTimeout_linkLocal hports, execLeaseExpiry_asks hports⟩

end Sys2Proof.Machine

/-! # Queue pairs -/

namespace Sys2Proof.Machine

/-! ## Pause of the peers (R590) -/

/-- From `s` to `u` messages went out, and were noted at the ports, at most. -/
def State.Signals (s u : State) : Prop := ∃ ports more frames,
  u = { s with host := { s.host with ports := ports, sent := s.host.sent ++ more, frames := frames } }

theorem State.Signals.refl (s : State) : State.Signals s s := ⟨s.host.ports, [], s.host.frames, by rw [List.append_nil]⟩

theorem State.Signals.updPort_put {s u : State} (h : State.Signals s u) (k : Nat) (f : Port → Port) (o : HostOut) :
    State.Signals s ((u.updPort k f).put o) := by
  obtain ⟨_, more, _, rfl⟩ := h
  exact ⟨_, more ++ [o], _, by rw [← List.append_assoc]; rfl⟩

theorem State.pfcBuffer_signals (s : State) (k : Nat) : State.Signals s (s.pfcBuffer k) := by
  unfold State.pfcBuffer
  extract_lets free lim
  refine List.foldlRecOn _ _ (.refl s) fun u hu p _ => ?_
  dsimp only
  split
  · exact hu
  · split
    · exact hu.updPort_put _ _ _
    · split
      · exact hu.updPort_put _ _ _
      · exact hu

theorem State.Signals.qp {s u : State} (h : State.Signals s u) (n : Nat) : u.qp n = s.qp n := by obtain ⟨_, _, _, rfl⟩ := h; rfl

theorem State.Signals.mem_sent {s u : State} (h : State.Signals s u) {o : HostOut} (ho : o ∈ s.host.sent) : o ∈ u.host.sent := by
  obtain ⟨_, more, _, rfl⟩ := h
  exact List.mem_append_left more ho

section
variable {s : State}

/-! ## Set-up and tear-down (R586) -/

theorem execCmReq_accepts {p3 : BitVec 3} {mtu : BitVec 2} {m : Nat} (hup : s.coxUp = true) (hport : (s.port p3.toNat).state ≠ 0)
    (hmtu : pathMtu mtu = some m) (hroom : s.connCount < s.dictNat 0x300003) : execCmReq p3 true 0 mtu s =
      .next ((s.setQp s.freeQp (some { port := p3.toNat, mtu := m, rate := lineRate p3.toNat (s.port p3.toNat).state })).put
        (.rep s.freeQp)) := by
  simp only [execCmReq, hmtu]
  rw [if_neg (by simp [hup, hport]), if_neg (by simpa using hroom)]

/-- A READ depth above 0 and a full connection table are answered with REJ, as is a path MTU that R585 does not list. -/
theorem execCmReq_rejects {p3 : BitVec 3} {mtu : BitVec 2} {depth : Nat} (hup : s.coxUp = true) (hport : (s.port p3.toNat).state ≠ 0)
    (hbad : depth ≠ 0 ∨ s.dictNat 0x300003 ≤ s.connCount) : execCmReq p3 true depth mtu s = .next (s.put (.rej p3.toNat)) := by
  simp only [execCmReq]
  rw [if_neg (by simp [hup, hport])]
  cases pathMtu mtu with
  | none => rfl
  | some m => exact if_pos (by simpa using hbad)

variable {n : Nat} {q : Qp} (hqp : s.qp n = some q)
include hqp

theorem execCmRtu_connects (hoffered : q.state = .offered) :
    execCmRtu n s = .next (s.setQp n (some { q with state := .connected })) := by
  rw [execCmRtu, State.updQp_some hqp, if_pos hoffered]

theorem execCmDreq_ends : execCmDreq n s = .next (((s.failQp n).setQp n none).put (.drep n)) := by simp only [execCmDreq, hqp]

theorem execCmDrep_ends (herror : q.state = .error) : execCmDrep n s = .next (s.setQp n none) := by
  simp only [execCmDrep, hqp, herror, if_true]

theorem execCmRej_ends (hoffered : q.state = .offered) : execCmRej n s = .next (s.setQp n none) := by
  simp only [execCmRej, hqp, hoffered, if_true]

/-! ## Requests of the peer (R585, R587) -/

section
variable (hconnected : q.state = .connected)
include hconnected

theorem execRoceSendReceive_takes {len : Nat} (hlen : len ≤ 65536) (hroom : q.recv.length < 64) :
    ∃ u, execRoceSendReceive n 0 len false s = .next u ∧ u.qp n = some { q with recv := q.recv ++ [len] } ∧ HostOut.ack n ∈ u.host.sent := by
  have hpfc := State.pfcBuffer_signals ((s.setQp n (some { q with recv := q.recv ++ [len] })).put (.ack n)) q.port
  refine ⟨_, ?_, (hpfc.qp n).trans (s.qp_setQp_some n _), hpfc.mem_sent (State.mem_sent_put _ _)⟩
  simp only [execRoceSendReceive, hqp, if_neg Bool.false_ne_true]
  rw [if_neg (by simp [hconnected]), if_neg (by decide), if_neg (by simpa using hlen), if_neg (by omega), State.updQp_some hqp]

theorem execRoceSendReceive_full {len : Nat} (hlen : len ≤ 65536) (hfull : 64 ≤ q.recv.length) :
    execRoceSendReceive n 0 len false s = .next (s.put (.rnrNak n)) := by
  simp only [execRoceSendReceive, hqp, if_neg Bool.false_ne_true]
  rw [if_neg (by simp [hconnected]), if_neg (by decide), if_neg (by simpa using hlen), if_pos hfull]

/-- A READ from the peer is answered with a NAK. -/
theorem execRoceSendReceive_read (len : Nat) : execRoceSendReceive n 1 len false s = .next (s.put (.nak n false)) := by
  simp only [execRoceSendReceive, hqp, if_neg Bool.false_ne_true]
  rw [if_neg (by simp [hconnected]), if_pos (by decide)]

end

/-! ## Rates (R592) -/

theorem execCnpReceive_slows :
    execCnpReceive n s = .next (s.setQp n (some { q with rate := max 1000000000 (q.rate * 3 / 4), cnpAt := s.now })) := by
  rw [execCnpReceive, State.updQp_some hqp]

/-- Time without a CNP gives a sixteenth of the line rate back. -/
theorem execRateIncrease_raises (hrate : q.rate < lineRate q.port (s.port q.port).state) :
    let line := lineRate q.port (s.port q.port).state
    ∃ u, execRateIncrease n s = .next u ∧ u.qp n = some { q with rate := min line (q.rate + line / 16), cnpAt := u.now } ∧
      q.cnpAt + usTicks (s.dictNat 0x118007) ≤ u.now := by
  intro line
  simp only [execRateIncrease, hqp]
  rw [if_neg (Nat.not_le.mpr hrate)]
  refine ⟨_, rfl, State.qp_setQp_some _ n _, ?_⟩
  rw [State.setQp_now, State.advanceTo_now]
  exact le_max_right _ _

/-! ## What the peer answers (R588) -/

section
variable (hconnected : q.state = .connected)
include hconnected

theorem State.retryQp_oldest {o : Outstanding} {rest : List Outstanding} (hout : q.out = o :: rest)
    (hmore : q.retries < s.dictNat 0x118009) :
    s.retryQp n = (s.setQp n (some { q with retries := q.retries + 1 })).put (.again n o.psn) := by
  simp only [State.retryQp, hqp]
  rw [if_neg (by simp [hconnected, hout]), if_neg (Nat.not_le.mpr hmore)]
  simp only [State.goBack, State.qp_setQp_some, hout]

theorem State.retryQp_last {o : Outstanding} {rest : List Outstanding} (hout : q.out = o :: rest)
    (hused : s.dictNat 0x118009 ≤ q.retries) : s.retryQp n = s.failQp n := by
  simp only [State.retryQp, hqp]
  rw [if_neg (by simp [hconnected, hout]), if_pos hused]

theorem execAckNakReceive_ack (psn : BitVec 24) : execAckNakReceive n 0 psn s =
    .next (s.setQp n (some { q with out := released q psn.toNat, retries := 0, rnr := 0 })) := by
  simp only [execAckNakReceive, hqp]
  exact if_neg (by simp [hconnected])

theorem execAckNakReceive_other (psn : BitVec 24) : execAckNakReceive n 3 psn s = .next (s.failQp n) := by
  simp only [execAckNakReceive, hqp]
  exact if_neg (by simp [hconnected])

end

theorem State.qp_failQp_self : (s.failQp n).qp n = some q.failed := by rw [State.qp_failQp, if_pos rfl, hqp]; rfl

/-! ## Shards that READs bring (R372, R588) -/

/-- The state once the oldest READ of a queue pair has been answered. -/
def State.readAnswered (s : State) (n : Nat) (q : Qp) (o : Outstanding) : State :=
  s.setQp n (some { q with out := eraseFirst (fun x => x = o) q.out, retries := 0, rnr := 0 })

theorem execRdmaReadResponse_brings {o : Outstanding} {i : Nat} (hread : q.out.find? (fun x => x.shard.isSome) = some o)
    (hshard : o.shard = some i) (hi : i < 2 ^ 20) (record : Bytes) :
    execRdmaReadResponse n record s = .next (((s.readAnswered n q o).takeShard i record).postReads 128) := by
  simp only [execRdmaReadResponse, hqp, hread, hshard, State.after, execShardRecordReceive, Option.getD_some, BitVec.toNat_ofNat,
    Nat.mod_eq_of_lt hi]
  rfl

/-- What a READ brings is opened and kept when its tag is good, and counts as failed otherwise (R364, R374). -/
theorem execRdmaReadResponse_load {o : Outstanding} {i : Nat} {l : Load} {man : Manifest} {record : Bytes}
    (hread : q.out.find? (fun x => x.shard.isSome) = some o) (hshard : o.shard = some i) (hi : i < 2 ^ 20)
    (hload : s.weights.load = some l) (hman : l.man = some man) (hin : i < man.shards.length) (hkind : l.kind = .swap)
    (hflash : s.flashImage l = none) (hup : s.ingressUp = true) (hkeeps : s.keepsShard man i = true) (hfails : Table.wf 0 l.fails = true)
    (hfew : Table.get 0 l.fails i < 2) :
    ∃ u, execRdmaReadResponse n record s = .next u ∧ ∃ y, u.weights.load = some y ∧
      match openShard l.key man i record with
      | some bs => Table.get none y.opened i = some (chunksOf 128 (bs.length + 1) bs)
      | none => y.opened = l.opened ∧ Table.get 0 y.fails i = Table.get 0 l.fails i + 1 := by
  have hrecord : (s.readAnswered n q o).recordRead l i record = record := by
    have hflash' : (s.readAnswered n q o).flashImage l = none := hflash
    rw [State.recordRead, hflash']
    rfl
  refine ⟨_, execRdmaReadResponse_brings hqp hread hshard hi record, ?_⟩
  cases hopen : openShard l.key man i record with
  | none =>
    obtain ⟨y, hy, hcount, hopened⟩ := State.takeShard_failed (s := s.readAnswered n q o) hload hman hin hup (by rw [hrecord, hopen]) hfew hfails
    obtain ⟨again, asked, hposted⟩ := State.postReads_load hy 128
    exact ⟨_, hposted, hopened, hcount⟩
  | some bs =>
    obtain ⟨sent, hsent⟩ := State.broadcast_load (s := s.readAnswered n q o) hload 2 i record
    have htaken := State.takeShard_opened (s := s.readAnswered n q o) hload hman hin hup hkind hkeeps (hrecord.symm ▸ hopen)
    rw [hrecord] at htaken
    obtain ⟨again, asked, hposted⟩ := State.postReads_load ((congrArg (fun (v : State) => v.weights.load) htaken).trans
      (State.updLoad_load hsent _)) 128
    exact ⟨_, hposted, Table.get_put_some _ _ _ _ (Option.some_ne_none _)⟩

end

/-- Settles O47: each clause follows from what its command leaves of its queue pair. -/
theorem queuePairs : Obligations.QueuePairs := by
  intro s p3 n depth len m i mtu q o rest psn record l man hqps k line sent live
  refine ⟨fun hup hport hmtu hroom hfree => ?_, fun hup hport hbad => ⟨_, execCmReq_rejects hup hport hbad, rfl⟩,
    fun hqp hoffered => ⟨_, execCmRtu_connects hqp hoffered, s.qp_setQp_some n _, rfl⟩,
    fun hqp => ⟨_, execCmDreq_ends hqp, State.qp_setQp_none _ (s.wf_failQp hqps), State.mem_sent_put _ _⟩,
    fun hqp herror => ⟨_, execCmDrep_ends hqp herror, s.qp_setQp_none hqps, rfl⟩,
    fun hqp hoffered => ⟨_, execCmRej_ends hqp hoffered, s.qp_setQp_none hqps, rfl⟩,
    fun ⟨hqp, hconnected⟩ => execRoceSendReceive_takes hqp hconnected,
    fun ⟨hqp, hconnected⟩ hlen hfull => ⟨_, execRoceSendReceive_full hqp hconnected hlen hfull, rfl⟩,
    fun ⟨hqp, hconnected⟩ => ⟨_, execRoceSendReceive_read hqp hconnected len, rfl⟩,
    fun hqp => ⟨_, execCnpReceive_slows hqp, s.qp_setQp_some n _⟩, fun hqp => execRateIncrease_raises hqp,
    fun ⟨hqp, hconnected⟩ hout hmore => ?_, fun ⟨hqp, hconnected⟩ hout hused => ?_,
    fun ⟨hqp, hconnected⟩ => ⟨_, execAckNakReceive_ack hqp hconnected psn, s.qp_setQp_some n _, rfl⟩,
    fun ⟨hqp, hconnected⟩ => ⟨_, execAckNakReceive_other hqp hconnected psn, _, State.qp_failQp_self hqp, rfl, rfl⟩,
    fun hqp hread hshard hi hload hman hin hkind hflash hup hkeeps _ hfails hfew =>
      execRdmaReadResponse_load hqp hread hshard hi hload hman hin hkind hflash hup hkeeps hfails hfew⟩
  · exact ⟨_, execCmReq_accepts hup hport hmtu hroom, rfl, s.qp_setQp_some _ _, fun j hj => s.qp_setQp_ne hj _⟩
  · exact ⟨_, congrArg Host.Outcome.next (State.retryQp_oldest hqp hconnected hout hmore), s.qp_setQp_some n _, rfl⟩
  · exact ⟨_, congrArg Host.Outcome.next (State.retryQp_last hqp hconnected hout hused), _, State.qp_failQp_self hqp, rfl,
      fun _ _ hconn => s.conn_failQp hconn⟩

end Sys2Proof.Machine

/-! # The dictionary access protocol -/

namespace Sys2Proof.Machine

/-! ## Objects (R762-R764) -/

/-- Export and pairing are BLOBs (R751, R773). -/
theorem catalogFind_blob : ∀ k ∈ [0x503001, 0x620001, 0x620002], (catalogFind k).map (fun e => e.type) = some .blob := by decide

/-- An object that may be written is not the number of subindices of an index. -/
theorem catalogFind_of_objectEntry {key : Nat} {e : DictEntry} (h : objectEntry key = some e) (hrw : e.access ≠ .ro) :
    catalogFind e.key = some e := by
  unfold objectEntry at h
  split at h
  next =>
    obtain ⟨n, -, rfl⟩ := Option.map_eq_some_iff.mp h
    exact absurd rfl hrw
  next =>
    have hkey : e.key = key := by simpa using List.find?_some (show catalog.find? (fun e => e.key = key) = some e from h)
    rwa [hkey]

/-- A number is none of the BLOBs whose writes have rules of their own. -/
theorem key_ne_of_number {key k : Nat} {e : DictEntry} (h : objectEntry key = some e) (hrw : e.access ≠ .ro) (hnumber : e.type ≠ .blob)
    (hk : k ∈ [0x503001, 0x620001, 0x620002]) : e.key ≠ k := by
  rintro rfl
  have hblob := catalogFind_blob e.key hk
  rw [catalogFind_of_objectEntry h hrw] at hblob
  exact hnumber (Option.some.inj hblob)

/-- A number held reads as held, and every other number as before (R762). -/
theorem State.dictNat_setDict {s : State} (hwf : Table.wf none s.dict = true) (key v k : Nat) :
    (s.setDict key v).dictNat k = if k = key then v else s.dictNat k := by
  unfold State.dictNat State.setDict
  by_cases hkey : k = key
  · rw [if_pos hkey, hkey, Table.get_put_self _ _ _ _ hwf]
    by_cases hdefault : v = catalogDefault key
    · rw [if_pos hdefault, hdefault]
    · rw [if_neg hdefault]
  · rw [if_neg hkey, Table.get_put_ne _ _ _ _ _ hkey]

/-! ## Messages of one item on M0 (R598, R599, R603) -/

section
variable {s : State} {c : DapContext}

theorem State.isDap_iff {dst : BitVec 16} {msg : Bytes} {op : Nat} : s.isDap dst msg op = true ↔
    dst.toNat = s.inForceNat 0x120003 ∧ 8 ≤ msg.length ∧ fieldNat msg 0 2 = 0x4454 ∧ fieldNat msg 3 1 = op := by
  simp [State.isDap, and_assoc]

theorem State.isDap_not {dst : BitVec 16} {msg : Bytes} {op : Nat} (h : s.isDap dst msg op = true) : ¬ (!s.isDap dst msg op) = true := by
  simp [h]

/-- A response to a client on M0. -/
def dapAnswer (c : DapContext) (t : Tx) : HostOut := .dap c.client (dapBytes t.transaction (t.op + 0x80) t.status t.items)

theorem State.dapSend_m0 {ip : Nat} {src : BitVec 16} (hm0 : c.client = .m0 ip src) (t : Tx) : s.dapSend c t = s.put (dapAnswer c t) := by
  simp only [State.dapSend, dapAnswer, hm0]

section
variable {ip : Nat} {src : BitVec 16} {t : Tx} (hm0 : c.client = .m0 ip src) (hserved : s.dapServed c.client = true)
  (hstored : s.host.txs.find? (fun t => t.client = c.client && t.transaction = c.transaction && t.done) = some t)
include hm0 hserved hstored

/-- A message already answered is answered from the store, and not applied (R603). -/
theorem State.dapItem_stored (hitem : c.item = 0) (op : Nat) (f : State → Tx → State × Tx) : s.dapItem c op f = s.put (dapAnswer c t) := by
  simp only [State.dapItem, hstored]
  rw [if_neg (by simp [hserved]), if_pos hitem, State.dapSend_m0 hm0]

theorem State.dapList_stored (i : DapItem) : s.dapList c i = s.put (dapAnswer c t) := by
  unfold State.dapList
  exact State.dapItem_stored (c := { c with item := 0, count := 1, malformed := _ }) hm0 hserved hstored rfl _ _

theorem State.dapIdentify_stored : s.dapIdentify c = s.put (dapAnswer c t) := by
  unfold State.dapIdentify
  exact State.dapItem_stored (c := { c with item := 0, count := 1, malformed := _ }) hm0 hserved hstored rfl _ _

end

/-- What a message begins with: its client, its transaction and its operation. -/
def firstTx (c : DapContext) (op : Nat) : Tx := { client := c.client, transaction := c.transaction, op := op }

/-- A message of one item on M0 that has not been answered. -/
structure State.Hears (s : State) (c : DapContext) : Prop where
  m0 : ∃ ip src, c.client = .m0 ip src
  served : s.dapServed c.client = true
  good : c.malformed = false
  new : s.host.txs.find? (fun t => t.client = c.client && t.transaction = c.transaction && t.done) = none
  item : c.item = 0
  count : c.count = 1

section
variable (h : s.Hears c)
include h

theorem State.Hears.dapItem (op : Nat) (f : State → Tx → State × Tx) :
    s.dapItem c op f = (f s (firstTx c op)).1.dapFinish c (f s (firstTx c op)).2 := by
  obtain ⟨⟨ip, src, hm0⟩, hserved, hgood, hnew, hitem, hcount⟩ := h
  simp only [State.dapItem, hnew]
  rw [if_neg (by simp [hserved]), if_neg (by simp [hgood, hcount]), if_neg (by simp [hcount])]
  simp only [hitem, hcount, if_true]
  rfl

/-- It is answered, which changes the host side alone; what its item made of the module stands. -/
theorem State.Hears.answers {op : Nat} {f : State → Tx → State × Tx} {v : State} {os : List DapOut} (hv : (f s (firstTx c op)).1 = v)
    (hos : ∃ cut seen, (f s (firstTx c op)).2 = { firstTx c op with items := os, cut := cut, seen := seen }) :
    let u := s.dapItem c op f
    u = { v with host := u.host } ∧ HostOut.dap c.client (dapBytes c.transaction (op + 0x80) 0 os) ∈ u.host.sent ∧
      u.host.kept = v.host.kept ∧ u.host.pieces = v.host.pieces := by
  obtain ⟨cut, seen, hos⟩ := hos
  obtain ⟨ip, src, hm0⟩ := h.m0
  intro u
  have hu : u = v.dapFinish c { firstTx c op with items := os, cut := cut, seen := seen } := by rw [← hv, ← hos]; exact h.dapItem op f
  rw [hu, State.dapFinish, State.dapSend_m0 hm0]
  exact ⟨rfl, State.mem_sent_put _ _, rfl, rfl⟩

end

/-! ## READ (R602, R604) -/

/-- A READ of bytes that the object has and the response can hold gives them, and the value is kept for the client. -/
theorem State.readItem_reads {ip : Nat} {src : BitVec 16} {i : DapItem} {e : DictEntry} {op : Nat} (hm0 : c.client = .m0 ip src)
    (hcount : c.count = 1) (hgood : i.malformed = false) (hentry : objectEntry (256 * i.index.toNat + i.sub.toNat) = some e)
    (hstr : e.type ≠ .str) (hoffset : i.offset = 0) (hpos : 0 < i.length) (hmost : i.length ≤ 1024)
    (hlength : i.length ≤ (s.valueOf e).length) (hfits : 20 + pad4 i.length ≤ if ip < 2 ^ 32 then 1472 else 1452) :
    s.readItem c i (firstTx c op) =
      (s.updHost (fun h => { h with kept := h.kept.filter (fun k => !(k.client = c.client && k.key = e.key)) ++
          [{ client := c.client, key := e.key, value := s.valueOf e, ms := s.ms }] }),
        { firstTx c op with
          items := [DapOut.mk i.index i.sub 0 0 i.length (s.valueOf e).length ((s.valueOf e).take i.length)]
          seen := Table.put none [] e.key (some (s.valueOf e)) }) := by
  have hvalue : s.readValue c.client (firstTx c op) e i.offset = s.valueOf e := by
    simp only [State.readValue, firstTx, Table.get, hoffset, if_true]
    split <;> rfl
  have hlimit : ¬ dapLimit c < dapSize (firstTx c op) c.count + pad4 i.length := by
    have hsize : dapSize (firstTx c op) c.count = 20 := by rw [hcount]; rfl
    rw [hsize]
    simpa only [dapLimit, hm0, Nat.not_lt] using hfits
  rw [hm0] at hvalue
  simp only [State.readItem, hentry, hm0]
  rw [if_neg (by simp [firstTx]), if_neg (by simp [hgood]; omega)]
  simp only [hvalue, if_neg hstr, if_neg hlimit]
  rw [if_neg (by omega)]
  simp only [hoffset, if_true, itemOut, List.drop_zero, List.length_take, Nat.min_eq_left hlength]
  rfl

/-- One of an object that does not exist answers 1. -/
theorem State.readItem_unknown {ip : Nat} {src : BitVec 16} {i : DapItem} {op : Nat} (hm0 : c.client = .m0 ip src)
    (hgood : i.malformed = false) (hentry : objectEntry (256 * i.index.toNat + i.sub.toNat) = none) (hpos : 0 < i.length)
    (hmost : i.length ≤ 1024) : s.readItem c i (firstTx c op) =
      (s, { firstTx c op with items := [DapOut.mk i.index i.sub 1 i.offset 0 0 []] }) := by
  simp only [State.readItem, hentry, hm0]
  rw [if_neg (by simp [firstTx]), if_neg (by simp [hgood]; omega)]
  rfl

/-! ## WRITE (R601, R804) -/

/-- The response to a WRITE item says how the write was answered. -/
theorem State.writeItem_writes {i : DapItem} {fetched : Option Bytes} {v : State} {n op : Nat}
    (hwrite : s.writeTested c.client i fetched = { v with istatus := n }) : s.writeItem c i fetched (firstTx c op) =
      ({ v with istatus := n }, { firstTx c op with
        items := [DapOut.mk i.index i.sub n i.offset (if n = 0 then i.length else 0) i.total []] }) := by
  simp only [State.writeItem, hwrite]
  rfl

section
variable {i : DapItem} {e : DictEntry} {fetched : Option Bytes} {client : Client} (hgood : i.malformed = false)
  (hdata : i.data.length = i.length) (hentry : objectEntry (256 * i.index.toNat + i.sub.toNat) = some e)
include hgood hdata hentry

/-- A read-only object answers 2. -/
theorem State.writeTested_readOnly (hro : e.access = .ro) : s.writeTested client i fetched = { s with istatus := 2 } := by
  simp only [State.writeTested, hentry]
  rw [if_neg (by simp [hgood, hdata]), if_pos hro]
  rfl

section
variable (hrw : e.access = .rw) (hblob : e.type ≠ .blob) (hstr : e.type ≠ .str)
include hrw hblob hstr

/-- A number written at another offset or length than its own answers 4. -/
theorem State.writeTested_misfit (hmisfit : i.offset ≠ 0 ∨ i.length ≠ e.len ∨ i.total ≠ e.len) :
    s.writeTested client i fetched = { s with istatus := 4 } := by
  simp only [State.writeTested, hentry]
  rw [if_neg (by simp [hgood, hdata]), if_neg (by simp [hrw]), if_neg (by simp [hblob, hstr]), if_pos (by simpa [or_assoc] using hmisfit)]
  rfl

variable (hoffset : i.offset = 0) (hlength : i.length = e.len) (htotal : i.total = e.len)
include hoffset hlength htotal

theorem State.writeTested_number : s.writeTested client i fetched = State.writeRw { s with istatus := 0 } client e i.data := by
  simp only [State.writeTested, hentry]
  rw [if_neg (by simp [hgood, hdata]), if_neg (by simp [hrw]), if_neg (by simp [hblob, hstr]), if_neg (by simp [hoffset, hlength, htotal])]
  simp only [State.wholeWrite, State.writeObject, hrw]

end

/-- A piece of a BLOB of which no other has come waits for the rest. -/
theorem State.writeTested_piece (hrw : e.access ≠ .ro) (hblob : e.type = .blob) (htotal : i.total = e.len)
    (hshort : i.offset + i.length < i.total) (hfirst : ∀ q ∈ s.host.pieces, ¬ (q.client = client ∧ q.key = e.key)) :
    s.writeTested client i fetched = { s.updHost (fun h => { h with
      pieces := h.pieces.filter (fun q => !(q.client = client && q.key = e.key)) ++
        [{ client := client, key := e.key, total := i.total, ms := s.ms, got := Table.putList none [] i.offset (i.data.map some) }] }) with
      istatus := 0 } := by
  have hbuffer : s.host.pieces.find? (fun q => (decide (q.client = client) && decide (q.key = e.key)) && decide (s.ms < q.ms + 5000)) = none :=
    List.find?_eq_none.mpr fun q hq hmine => hfirst q hq (by simpa using (Bool.and_eq_true_iff.mp hmine).1)
  have hgap : Table.get none (Table.putList none [] i.offset (i.data.map some)) (i.offset + i.length) = (none : Option Byte) :=
    Table.get_putList_out _ _ _ _ _ (.inr (by simp [hdata]))
  have hwaits : ¬ (Table.getList none (Table.putList none [] i.offset (i.data.map some)) 0 i.total).all (fun (b : Option Byte) => b.isSome) = true := by
    intro hall
    have hlast := List.all_eq_true.mp hall _ (List.getElem_mem (n := i.offset + i.length) (by rw [Table.getList_length]; omega))
    simp [hgap] at hlast
  simp only [State.writeTested, hentry]
  rw [if_neg (by simp [hgood, hdata]), if_neg hrw, if_pos (by simp [hblob]), if_neg (by simp [hblob, htotal]; omega)]
  simp only [State.pieceWrite, hbuffer, Option.getD_none]
  rw [if_neg (by simp; omega), if_neg (by simp), if_neg hwaits]
  rfl

end

/-- A number in range is held, and its object's value takes its effect (R767, R772). -/
theorem State.writeRw_number {client : Client} {e : DictEntry} {v : Bytes} {key : Nat} (hentry : objectEntry key = some e)
    (hrw : e.access = .rw) (hblob : e.type ≠ .blob) (hrange : s.inRange e v = true) (hlow : e.key < 0x800000)
    (hclass : pendState e = none) (hstore : s.host.storeState ≠ 1) (hslot : s.emptySlot e.key (leNat v) = false) :
    s.writeRw client e v = { (s.holdValue e v).writtenEffect e.key with istatus := 0 } := by
  have hkey {k : Nat} (hk : k ∈ [0x503001, 0x620001, 0x620002]) : e.key ≠ k :=
    key_ne_of_number hentry (by simp [hrw]) hblob hk
  rw [State.writeRw, if_neg (by simp [hrange]), if_neg (hkey (by simp)), if_neg (by simp [hkey]),
    if_neg (by simp [hstore, State.pendFull, hclass]), if_neg (by simp [hslot]), if_neg (by omega)]
  rfl

theorem State.writeRw_outOfRange {client : Client} {e : DictEntry} {v : Bytes} (hrange : s.inRange e v = false) :
    s.writeRw client e v = { s with istatus := 3 } := if_pos (by simp [hrange])

/-- A number of the classes that apply at once is held in its object alone. -/
theorem State.holdValue_number {e : DictEntry} (hclass : pendState e = none) (hblob : e.type ≠ .blob) (hstr : e.type ≠ .str)
    (hown : ownWrite e.key = false) (v : Bytes) : s.holdValue e v = s.setDict e.key (leNat v) := by
  simp only [State.holdValue, State.notePending, hclass]
  rw [if_neg (by simp [hblob, hstr]), if_neg (by simp [hown])]

/-! ## Messages of M0, as commands -/

section
variable {ip : Nat} {src dst : BitVec 16} {msg : Bytes} {op : Nat}

theorem execDapRead_hears (h : s.isDap dst msg 1 = true) (n : Nat) : execDapRead ip src dst msg n s =
    .next (s.dapItem (dapContext (.m0 ip src) false false msg n) 1
      (fun s t => s.readItem (dapContext (.m0 ip src) false false msg n) (dapItemOf msg n) t)) := if_neg (by simp [h])

theorem execDapWrite_hears (h : s.isDap dst msg 2 = true) (n : Nat) (fetched : Option Bytes) : execDapWrite ip src dst msg n fetched s =
    .next (s.dapItem (dapContext (.m0 ip src) false false msg n) 2
      (fun s t => s.writeItem (dapContext (.m0 ip src) false false msg n) (dapItemOf msg n) fetched t)) := if_neg (by simp [h])

theorem execDapList_hears (h : s.isDap dst msg 3 = true) :
    execDapList ip src dst msg s = .next (s.dapList (dapContext (.m0 ip src) false false msg 0) (dapItemOf msg 0)) := if_neg (by simp [h])

theorem execDapIdentify_hears (h : s.isDap dst msg 4 = true) :
    execDapIdentify ip src dst msg s = .next (s.dapIdentify (dapContext (.m0 ip src) false false msg 0)) := if_neg (by simp [h])

theorem execDapRead_foreign (h : ¬ s.isDap dst msg 1 = true) (n : Nat) : execDapRead ip src dst msg n s = .next s := if_pos (by simpa using h)

theorem execDapWrite_foreign (h : ¬ s.isDap dst msg 2 = true) (n : Nat) (fetched : Option Bytes) :
    execDapWrite ip src dst msg n fetched s = .next s := if_pos (by simpa using h)

end

/-- What the item of a WRITE did stands, and the response says how it was answered (R600). -/
theorem execDapWrite_answers {ip : Nat} {src dst : BitVec 16} {msg : Bytes} {fetched : Option Bytes} {v : State} {n : Nat}
    (hdap : s.isDap dst msg 2 = true) (h : s.Hears (dapContext (.m0 ip src) false false msg 0))
    (hwrite : s.writeTested (.m0 ip src) (dapItemOf msg 0) fetched = { v with istatus := n }) :
    ∃ u, execDapWrite ip src dst msg 0 fetched s = .next u ∧ u = { v with istatus := n, host := u.host } ∧
      HostOut.dap (.m0 ip src) (dapBytes (BitVec.ofNat 16 (fieldNat msg 4 2)) (2 + 0x80) 0 [DapOut.mk (dapItemOf msg 0).index (dapItemOf msg 0).sub n
        (dapItemOf msg 0).offset (if n = 0 then (dapItemOf msg 0).length else 0) (dapItemOf msg 0).total []]) ∈ u.host.sent ∧
      u.host.pieces = v.host.pieces := by
  have hitem := State.writeItem_writes (c := dapContext (.m0 ip src) false false msg 0) (op := 2) hwrite
  obtain ⟨honly, hsaid, -, hpieces⟩ := h.answers (op := 2)
    (f := fun s t => s.writeItem (dapContext (.m0 ip src) false false msg 0) (dapItemOf msg 0) fetched t)
    (congrArg Prod.fst hitem) ⟨_, _, congrArg Prod.snd hitem⟩
  exact ⟨_, execDapWrite_hears hdap 0 fetched, honly, hsaid, hpieces⟩

/-- What the item of a READ gave is the response. -/
theorem execDapRead_answers {ip : Nat} {src dst : BitVec 16} {msg : Bytes} {v : State} {os : List DapOut} (hdap : s.isDap dst msg 1 = true)
    (h : s.Hears (dapContext (.m0 ip src) false false msg 0))
    (hitem : ∃ cut seen, s.readItem (dapContext (.m0 ip src) false false msg 0) (dapItemOf msg 0)
      (firstTx (dapContext (.m0 ip src) false false msg 0) 1) =
        (v, { firstTx (dapContext (.m0 ip src) false false msg 0) 1 with items := os, cut := cut, seen := seen })) :
    ∃ u, execDapRead ip src dst msg 0 s = .next u ∧ u = { v with host := u.host } ∧
      HostOut.dap (.m0 ip src) (dapBytes (BitVec.ofNat 16 (fieldNat msg 4 2)) (1 + 0x80) 0 os) ∈ u.host.sent ∧ u.host.kept = v.host.kept := by
  obtain ⟨_, _, hitem⟩ := hitem
  obtain ⟨honly, hsaid, hkept, -⟩ := h.answers (op := 1)
    (f := fun s t => s.readItem (dapContext (.m0 ip src) false false msg 0) (dapItemOf msg 0) t)
    (congrArg Prod.fst hitem) ⟨_, _, congrArg Prod.snd hitem⟩
  exact ⟨_, execDapRead_hears hdap 0, honly, hsaid, hkept⟩

/-- LIST gives the objects from its key on, as many as fit (R599). -/
theorem State.Hears.dapList (h : s.Hears c) {i : DapItem} (hgood : i.malformed = false) (hoffset : i.offset = 0) (hlength : i.length = 0)
    (htotal : i.total = 0) :
    let u := s.dapList c i
    u = { s with host := u.host } ∧ HostOut.dap c.client (dapBytes c.transaction (3 + 0x80) 0
      (listItems (256 * i.index.toNat + i.sub.toNat) (dapLimit c))) ∈ u.host.sent := by
  have hbad : (c.malformed || decide (c.count ≠ 1) || i.malformed || decide (i.offset ≠ 0) || decide (i.length ≠ 0) || decide (i.total ≠ 0)) = false := by
    simp [h.good, h.count, hgood, hoffset, hlength, htotal]
  have hlisted : s.Hears { c with item := 0, count := 1, malformed := false } := { h with good := rfl, item := rfl, count := rfl }
  simp only [State.dapList, hbad]
  obtain ⟨honly, hsaid, -⟩ := hlisted.answers (op := 3)
    (f := fun s t => (s, { t with items := listItems (256 * i.index.toNat + i.sub.toNat) (dapLimit c) })) rfl ⟨_, _, rfl⟩
  exact ⟨honly, hsaid⟩

/-- IDENTIFY gives serial, stepping and the dictionary port (R599). -/
theorem State.dapIdentify_says {ip : Nat} {src : BitVec 16} (hm0 : c.client = .m0 ip src) (hserved : s.dapServed c.client = true)
    (hgood : c.malformed = false) (hcount : c.count = 0)
    (hnew : s.host.txs.find? (fun t => t.client = c.client && t.transaction = c.transaction && t.done) = none) :
    let u := s.dapIdentify c
    u = { s with host := u.host } ∧ HostOut.dap c.client (dapBytes c.transaction (4 + 0x80) 0
      ([0x100001, 0x100002, 0x120003].map s.identifyOut)) ∈ u.host.sent := by
  have hbad : (c.malformed || decide (c.count ≠ 0)) = false := by simp [hgood, hcount]
  have hlisted : s.Hears { c with item := 0, count := 1, malformed := false } :=
    { m0 := ⟨ip, src, hm0⟩, served := hserved, good := rfl, new := hnew, item := rfl, count := rfl }
  simp only [State.dapIdentify, hbad]
  obtain ⟨honly, hsaid, -⟩ := hlisted.answers (op := 4)
    (f := fun s t => (s, { t with items := [0x100001, 0x100002, 0x120003].map s.identifyOut })) rfl ⟨_, _, rfl⟩
  exact ⟨honly, hsaid⟩

end

/-! ## What times out (R601, R602) -/

section
variable {s : State} {client : Client} {index : BitVec 16} {sub : Byte}

theorem execPieceTimeout_discards {p : Pieces}
    (hp : s.host.pieces.find? (fun q => q.client = client && q.key = 256 * index.toNat + sub.toNat) = some p) :
    ∃ u, execPieceTimeout client index sub s = .next u ∧ (p.ms + 5000) * msTicks ≤ u.now ∧ (∀ q, q ∈ u.host.pieces ↔
      q ∈ s.host.pieces ∧ ¬ (q.client = client ∧ q.key = 256 * index.toNat + sub.toNat)) ∧ u.blobs = s.blobs := by
  simp only [execPieceTimeout, hp]
  refine ⟨_, rfl, ?_, fun q => ?_, ?_⟩
  · rw [State.updHost_now, State.advanceTo_now]
    exact le_max_right _ _
  · simp [State.updHost, imp_iff_not_or]
  · rw [State.updHost_blobs, State.advanceTo_only]

theorem execKeptValueExpiry_drops {kv : Kept}
    (hkv : s.host.kept.find? (fun q => q.client = client && q.key = 256 * index.toNat + sub.toNat) = some kv) :
    ∃ u, execKeptValueExpiry client index sub s = .next u ∧ (kv.ms + 5000) * msTicks ≤ u.now ∧ ∀ q, q ∈ u.host.kept ↔
      q ∈ s.host.kept ∧ ¬ (q.client = client ∧ q.key = 256 * index.toNat + sub.toNat) := by
  simp only [execKeptValueExpiry, hkv]
  refine ⟨_, rfl, ?_, fun q => ?_⟩
  · rw [State.updHost_now, State.advanceTo_now]
    exact le_max_right _ _
  · simp [State.updHost, imp_iff_not_or]

end

/-! ## CAN (R595-R597, R607, R608, R614) -/

section
variable {s : State}

/-- The CAN port after a frame without error. -/
def Can.good (k : Can) : Can := { k with rec_ := if 127 < k.rec_ then 127 else k.rec_ - 1 }

/-- The state with another CAN port. -/
def State.withCan (s : State) (k : Can) : State := { s with host := { s.host with can := k } }

/-- What a frame goes on from (R608): nothing where it begins a message, and what was gathered where it is the next of its message; none where
it is out of order. -/
def State.canGathered (s : State) (own : Nat) (head : Byte) : Option Bytes :=
  if head.getLsbD 7 then (if head.toNat % 64 = 0 then some [] else none)
  else match s.host.can.msg with
    | some (bs, next, id, _, _) => if next = head.toNat % 64 && id = own then some bs else none
    | none => none

theorem Byte.getLsbD_six (b : Byte) : b.getLsbD 6 = decide (b.toNat / 64 % 2 = 1) := Nat.testBit_eq_decide_div_mod_eq

theorem Byte.getLsbD_seven (b : Byte) : b.getLsbD 7 = decide (b.toNat / 64 / 2 % 2 = 1) := by
  rw [Nat.div_div_eq_div_mul]
  exact Nat.testBit_eq_decide_div_mod_eq

section
variable {own : Nat} {head : Byte} {body bs : Bytes} {fd brs : Bool} {fetched : Option Bytes}

theorem State.canGathered_first (hfirst : head.toNat / 64 = 2) (hzero : head.toNat % 64 = 0) : s.canGathered own head = some [] := by
  rw [State.canGathered, if_pos (by rw [Byte.getLsbD_seven, hfirst]; rfl), if_pos hzero]

/-- A frame that begins no message goes on from one whose next frame it is. -/
theorem State.canGathered_later (hlater : head.toNat / 64 < 2) : s.canGathered own head = match s.host.can.msg with
    | some (bs, next, id, _, _) => if next = head.toNat % 64 && id = own then some bs else none
    | none => none := if_neg (by rw [Byte.getLsbD_seven, decide_eq_true_eq]; omega)

variable (hlive : s.canLive = true) (hup : s.coxUp = true) (howns : own = 0x400 + s.dictNat 0x130001) (hown : own < 2 ^ 29)
include hlive hup howns hown

/-- A frame with the module's identifier is taken: out of order it discards its message, as the last it hands its message on, and else it waits
for the next. -/
theorem execCanSegment_own : execCanSegment (BitVec.ofNat 29 own) false false fd brs (head :: body) fetched s =
    match s.canGathered own head with
    | none => .next (s.withCan { s.host.can.good with msg := none })
    | some bs => if head.getLsbD 6 then
        .next ((s.withCan { s.host.can.good with msg := none }).canMessage (bs ++ body) (own = 0x400) fd brs fetched)
      else .next (s.withCan { s.host.can.good with msg := some (bs ++ body, (head.toNat % 64 + 1) % 64, own, fd, brs) }) := by
  have hident : (BitVec.ofNat 29 own).toNat = own := by rw [BitVec.toNat_ofNat, Nat.mod_eq_of_lt hown]
  have hmine : ¬ (false || false || !(decide (own = 0x400) || decide (own = 0x400 + s.canGood.dictNat 0x130001)) || !s.canGood.coxUp) = true := by
    have hsame : s.canGood.dictNat 0x130001 = s.dictNat 0x130001 ∧ s.canGood.coxUp = s.coxUp := ⟨rfl, rfl⟩
    simp [hsame, howns, hup]
  simp only [execCanSegment, hident]
  rw [if_neg (by simp [hlive]), if_neg hmine]
  rfl

theorem execCanSegment_first (hfirst : head.toNat / 64 = 2) (hzero : head.toNat % 64 = 0) :
    execCanSegment (BitVec.ofNat 29 own) false false fd brs (head :: body) fetched s =
      .next (s.withCan { s.host.can.good with msg := some (body, 1, own, fd, brs) }) := by
  rw [execCanSegment_own hlive hup howns hown, State.canGathered_first hfirst hzero]
  exact (if_neg (by rw [Byte.getLsbD_six, hfirst]; decide)).trans (by rw [hzero]; rfl)

theorem execCanSegment_last (hlast : head.toNat / 64 = 1) (hmsg : s.host.can.msg = some (bs, head.toNat % 64, own, fd, brs)) :
    execCanSegment (BitVec.ofNat 29 own) false false fd brs (head :: body) fetched s =
      .next ((s.withCan { s.host.can.good with msg := none }).canMessage (bs ++ body) (own = 0x400) fd brs fetched) := by
  rw [execCanSegment_own hlive hup howns hown, State.canGathered_later (by omega), hmsg]
  simp only [decide_true, Bool.and_self, if_true, Byte.getLsbD_six, hlast]

theorem execCanSegment_stray (hmiddle : head.toNat / 64 = 0) (hmsg : s.host.can.msg = none) :
    execCanSegment (BitVec.ofNat 29 own) false false fd brs (head :: body) fetched s = .next (s.withCan s.host.can.good) := by
  have hgood : { s.host.can.good with msg := none } = s.host.can.good := by rw [Can.good, hmsg]
  rw [execCanSegment_own hlive hup howns hown, State.canGathered_later (by omega), hmsg]
  exact congrArg (fun k => Host.Outcome.next (s.withCan k)) hgood

end

/-! ### Errors on the bus -/

theorem execCanBusError_sends (hlive : s.canLive = true) (hfew : s.host.can.tec < 248) (eight : Bool) :
    execCanBusError true eight s = .next (s.withCan { s.host.can with tec := s.host.can.tec + 8 }) := by
  simp only [execCanBusError, if_true]
  rw [if_neg (by simp [hlive]), if_neg (by omega)]
  rfl

/-- Above 255 errors of its own the port is off the bus. -/
theorem execCanBusError_busOff (hlive : s.canLive = true) (hmany : 248 ≤ s.host.can.tec) (eight : Bool) :
    ∃ u, execCanBusError true eight s = .next u ∧ u.host.can.busOff = true ∧ u.host.can.msg = none ∧ u.canLive = false := by
  simp only [execCanBusError, if_true]
  rw [if_neg (by simp [hlive]), if_pos (by omega)]
  exact ⟨_, rfl, rfl, rfl, Bool.and_false _⟩

theorem execCanBusError_receives (hlive : s.canLive = true) (hfew : s.host.can.tec < 256) (eight : Bool) :
    execCanBusError false eight s =
      .next (s.withCan { s.host.can with rec_ := min 255 (s.host.can.rec_ + (if eight then 8 else 1)) }) := by
  simp only [execCanBusError, if_neg Bool.false_ne_true]
  rw [if_neg (by simp [hlive]), if_neg (by omega)]
  rfl

end

/-- Settles O53: each clause follows from what its command does. -/
theorem dictionary : Obligations.Dictionary := by
  intro s ip src dst msg e t p kv client index sub head body bs fd brs eight fetched c i key is one stored fresh said again err number whole v
    own can good on
  have hears (h : fresh) : s.Hears c := by
    obtain ⟨⟨hserved, hgood⟩, hcount, -, hnew⟩ := h
    exact ⟨⟨ip, src, rfl⟩, hserved, hgood, hnew, rfl, hcount⟩
  have heard {op : Nat} (h : is op) : s.isDap dst msg op = true := State.isDap_iff.mpr h
  refine ⟨fun h => execDapRead_foreign (mt State.isDap_iff.mp h) 0, fun h => execDapWrite_foreign (mt State.isDap_iff.mp h) 0 fetched,
    fun h1 h hentry hstr hoffset hpos hmost hlength hfits => ?_, fun h1 h hentry hpos hmost => ?_, fun hserved hstored => ?_,
    fun h2 h hwhole hlow hclass hown _ hstore hrange hslot hwf => ?_, fun h2 h hwhole hrange => ?_, fun h2 h hnumber hmisfit => ?_,
    fun h2 h hentry hro hdata => ?_, fun h2 h hentry hrw hblob htotal hshort hdata hfirst => ?_,
    fun h3 h hoffset hlength htotal => ⟨_, execDapList_hears (heard h3), (hears h).dapList h.2.2.1 hoffset hlength htotal⟩,
    fun h4 ⟨hserved, hgood⟩ hcount hnew => ⟨_, execDapIdentify_hears (heard h4), State.dapIdentify_says rfl hserved hgood hcount hnew⟩,
    execPieceTimeout_discards, execKeptValueExpiry_drops,
    fun ⟨hlive, hup⟩ hown hfirst hzero => ⟨_, execCanSegment_first hlive hup rfl hown hfirst hzero, rfl⟩,
    fun ⟨hlive, hup⟩ hown hlast hmsg => execCanSegment_last hlive hup rfl hown hlast hmsg,
    fun ⟨hlive, hup⟩ hown hmiddle hmsg => ⟨_, execCanSegment_stray hlive hup rfl hown hmiddle hmsg, rfl⟩,
    fun hlive hfew => ⟨_, execCanBusError_sends hlive hfew eight, rfl⟩, fun hlive hmany => execCanBusError_busOff hlive hmany eight,
    fun hlive hfew => ⟨_, execCanBusError_receives hlive hfew eight, rfl⟩, fun hoff hlock => ⟨_, if_neg (by simp [hoff, hlock]), rfl⟩⟩
  · obtain ⟨u, hexec, honly, hsaid, hkept⟩ := execDapRead_answers (heard h1) (hears h)
      ⟨_, _, State.readItem_reads rfl (hears h).count h.2.2.1 hentry hstr hoffset hpos hmost hlength hfits⟩
    exact ⟨u, hexec, honly, hsaid, hkept ▸ List.mem_append_right _ List.mem_cons_self⟩
  · obtain ⟨u, hexec, honly, hsaid, -⟩ := execDapRead_answers (heard h1) (hears h) ⟨_, _, State.readItem_unknown rfl h.2.2.1 hentry hpos hmost⟩
    exact ⟨u, hexec, honly, hsaid⟩
  · exact ⟨fun h1 => ⟨_, (execDapRead_hears (heard h1) 0).trans (congrArg _ (State.dapItem_stored rfl hserved hstored rfl _ _)), rfl⟩,
      fun h2 => ⟨_, (execDapWrite_hears (heard h2) 0 fetched).trans (congrArg _ (State.dapItem_stored rfl hserved hstored rfl _ _)), rfl⟩,
      fun h3 => ⟨_, (execDapList_hears (heard h3)).trans (congrArg _ (State.dapList_stored rfl hserved hstored _)), rfl⟩,
      fun h4 => ⟨_, (execDapIdentify_hears (heard h4)).trans (congrArg _ (State.dapIdentify_stored rfl hserved hstored)), rfl⟩⟩
  · obtain ⟨⟨hentry, hrw, hblob, hstr, hdata⟩, hoffset, hlength, htotal⟩ := hwhole
    have hv : v = State.setDict { s with istatus := 0 } e.key (leNat i.data) := State.holdValue_number hclass hblob hstr hown i.data
    obtain ⟨u, hexec, honly, hsaid, -⟩ := execDapWrite_answers (heard h2) (hears h)
      ((State.writeTested_number h.2.2.1 hdata hentry hrw hblob hstr hoffset hlength htotal).trans
        (State.writeRw_number (s := { s with istatus := 0 }) hentry hrw hblob hrange hlow hclass hstore hslot))
    have hheld (k : Nat) : v.dictNat k = if k = e.key then leNat i.data else s.dictNat k :=
      (congrArg (fun (w : State) => w.dictNat k) hv).trans (State.dictNat_setDict (s := { s with istatus := 0 }) hwf _ _ k)
    rw [show (dapItemOf msg 0).offset = 0 from hoffset] at hsaid
    exact ⟨u, hexec, honly, (hheld e.key).trans (if_pos rfl), fun k hk => (hheld k).trans (if_neg hk), hsaid⟩
  · obtain ⟨⟨hentry, hrw, hblob, hstr, hdata⟩, hoffset, hlength, htotal⟩ := hwhole
    obtain ⟨u, hexec, honly, hsaid, -⟩ := execDapWrite_answers (heard h2) (hears h)
      ((State.writeTested_number h.2.2.1 hdata hentry hrw hblob hstr hoffset hlength htotal).trans
        (State.writeRw_outOfRange (s := { s with istatus := 0 }) hrange))
    exact ⟨u, hexec, honly, hsaid⟩
  · obtain ⟨hentry, hrw, hblob, hstr, hdata⟩ := hnumber
    obtain ⟨u, hexec, honly, hsaid, -⟩ := execDapWrite_answers (heard h2) (hears h) (State.writeTested_misfit h.2.2.1 hdata hentry hrw hblob hstr hmisfit)
    exact ⟨u, hexec, honly, hsaid⟩
  · obtain ⟨u, hexec, honly, hsaid, -⟩ := execDapWrite_answers (heard h2) (hears h) (State.writeTested_readOnly h.2.2.1 hdata hentry hro)
    exact ⟨u, hexec, honly, hsaid⟩
  · obtain ⟨u, hexec, honly, -, hpieces⟩ := execDapWrite_answers (heard h2) (hears h) (State.writeTested_piece h.2.2.1 hdata hentry hrw hblob htotal hshort hfirst)
    have hgot := Table.getList_putList none [] i.offset (i.data.map some) rfl
    rw [List.length_map, hdata] at hgot
    exact ⟨u, hexec, honly, _, (congrArg (_ ∈ ·) hpieces).mpr (List.mem_append_right _ List.mem_cons_self), rfl, rfl, rfl, rfl, hgot⟩

end Sys2Proof.Machine

/-! # Store, restore and recovery -/

namespace Sys2Proof

/-- The values of a canonical table put into another stand there, and its other keys read as before. -/
theorem Table.get_foldl_put {α : Type} [DecidableEq α] (d : α) (t m : Table α) (ht : Table.wf d t = true) (k : Nat) :
    Table.get d (t.foldl (fun (m : Table α) e => Table.put d m e.1 e.2) m) k =
      if Table.get d t k = d then Table.get d m k else Table.get d t k := by
  have hfrom (t : Table α) : ∀ (lo : Nat) (m : Table α), Table.wfFrom d lo t = true →
      Table.get d (t.foldl (fun (m : Table α) e => Table.put d m e.1 e.2) m) k =
        if Table.get d t k = d then Table.get d m k else Table.get d t k := by
    induction t with
    | nil => exact fun _ m _ => (if_pos rfl).symm
    | cons e t ih =>
      obtain ⟨k', v⟩ := e
      intro lo m h
      simp only [Table.wfFrom, Bool.and_eq_true, decide_eq_true_eq] at h
      obtain ⟨⟨-, hv⟩, htail⟩ := h
      rw [List.foldl_cons, ih (k' + 1) _ htail]
      by_cases hk : k' = k
      · subst hk
        rw [if_pos (Table.get_below d t (k' + 1) k' htail (Nat.lt_succ_self k')), Table.get_put_some d m k' v hv]
        simp [Table.get, hv]
      · rw [Table.get_put_ne d m k' v k (Ne.symm hk)]
        simp [Table.get, hk]
  exact hfrom t 0 m ht

/-- A count for each element of a list rises by as many as the element stands there. -/
theorem Table.get_foldl_count (l : List Nat) (t : Table Nat) (k : Nat) :
    Table.get 0 (l.foldl (fun (t : Table Nat) c => Table.put 0 t c (Table.get 0 t c + 1)) t) k = Table.get 0 t k + l.count k := by
  induction l generalizing t with
  | nil => rfl
  | cons c l ih =>
    rw [List.foldl_cons, ih]
    by_cases hk : c = k
    · subst hk
      rw [Table.get_put_some _ _ _ _ (Nat.succ_ne_zero _), List.count_cons_self]
      omega
    · rw [Table.get_put_ne _ _ _ _ _ (Ne.symm hk), List.count_cons_of_ne hk]

namespace Machine

/-! ## Store and restore (R606, R777, R779) -/

section
variable {s : State} {value : Word}

theorem execStore_starts (hup : s.coxUp = true) (hvalue : value = 0x53544F52) (hidle : s.host.storeState ≠ 1) :
    execStore value s = .next ((s.updHost (fun h => { h with storeState := 1, restore := false })).answer 0) := by
  subst hvalue
  rw [execStore, if_neg (by simp [hup]), State.storeStart, if_neg (by decide), if_neg hidle]

theorem execStore_busy (hup : s.coxUp = true) (hvalue : value = 0x53544F52) (hbusy : s.host.storeState = 1) :
    execStore value s = .next (s.answer 5) := by
  subst hvalue
  rw [execStore, if_neg (by simp [hup]), State.storeStart, if_neg (by decide), if_pos hbusy]

theorem execStore_other (hup : s.coxUp = true) (hvalue : value ≠ 0x53544F52) : execStore value s = .next (s.answer 3) := by
  have hne : value.toNat ≠ 0x53544F52 := fun h => hvalue (BitVec.eq_of_toNat_eq h)
  rw [execStore, if_neg (by simp [hup]), State.storeStart, if_pos hne]

/-- A store takes the values of the objects it covers, and leaves what the field section holds of the others. -/
theorem State.stored_storeDone (hdict : Table.wf none s.dict = true) (k : Nat) : Table.get none s.storeDone.host.stored k =
    if storedKey k then Table.get none s.dict k else Table.get none s.host.stored k := by
  refine (Table.get_foldl_put none _ _ (Table.wf_filter none s.dict _ hdict) k).trans ?_
  rw [Table.get_filter_key none s.dict storedKey, Table.get_filter_key none s.host.stored (fun k => !storedKey k)]
  cases storedKey k with
  | false => rfl
  | true =>
    rw [if_pos rfl]
    split
    next hnone => exact hnone.symm
    next => rfl

theorem execStoreComplete_ok (hstoring : s.host.storeState = 1) : execStoreComplete true s = .next s.storeDone := by
  simp [execStoreComplete, hstoring]

theorem execStoreComplete_failed (hstoring : s.host.storeState = 1) :
    execStoreComplete false s = .next (s.updHost (fun h => { h with storeState := 3 })) := by
  simp [execStoreComplete, hstoring]

theorem execRestoreDefaults_marks (hup : s.coxUp = true) (hvalue : value = 0x44464C54) :
    execRestoreDefaults value s = .next (((s.updHost (fun h => { h with restore := true })).writeField).answer 0) := by
  subst hvalue
  rw [execRestoreDefaults, if_neg (by simp [hup]), State.restoreMark, if_neg (by decide)]

end

/-! ## Messages of the recovery protocol (R610) -/

theorem isRecovery_iff {msg : Bytes} {type least : Nat} : isRecovery msg type least = true ↔
    8 + least ≤ msg.length ∧ fieldNat msg 0 2 = 0x5254 ∧ fieldNat msg 2 1 = 1 ∧ fieldNat msg 3 1 = type := by
  simp [isRecovery, and_assoc]

/-- A FETCH of one chunk. -/
def fetchOut (session : Word) (server c : Nat) : HostOut := .recovery (some server) (fetchMsg session (1024 * c) 1)

section
variable {s : State}

/-- The state with the FETCHes of some chunks sent. -/
def State.fetches (s : State) (server : Nat) (cs : List Nat) : State := cs.foldl (fun (s : State) c => s.putFetch server c) s

@[simp] theorem State.fetches_now (s : State) (server : Nat) (cs : List Nat) : (s.fetches server cs).now = s.now := by
  induction cs generalizing s with
  | nil => rfl
  | cons c cs ih => exact ih (s.putFetch server c)

@[simp] theorem State.fetches_recovery (s : State) (server : Nat) (cs : List Nat) :
    (s.fetches server cs).host.recovery = s.host.recovery := by
  induction cs generalizing s with
  | nil => rfl
  | cons c cs ih => exact ih (s.putFetch server c)

theorem State.fetches_sent (s : State) (server : Nat) (cs : List Nat) :
    (s.fetches server cs).host.sent = s.host.sent ++ cs.map (fetchOut s.host.recovery.session server) := by
  induction cs generalizing s with
  | nil => exact (List.append_nil _).symm
  | cons c cs ih =>
    refine (ih (s.putFetch server c)).trans ?_
    rw [List.map_cons, ← List.singleton_append, ← List.append_assoc]
    rfl

/-- The chunks fetched next: those not received and not asked for, while fewer than 16 are outstanding (R611). -/
def Recovery.nextChunks (q : Recovery) (len : Nat) : List Nat :=
  ((List.range (chunkCount len)).filter (fun c => (Table.get none q.got c).isNone && !q.asked.contains c)).take (16 - q.asked.length)

theorem Recovery.get_of_mem_nextChunks {q : Recovery} {len c : Nat} (h : c ∈ q.nextChunks len) : Table.get none q.got c = none := by
  have hc := (List.mem_filter.mp (List.mem_of_mem_take h)).2
  exact Option.isNone_iff_eq_none.mp (Bool.and_eq_true_iff.mp hc).1

theorem State.fetchMore_fetches {server len : Nat} {version : Word} (hserver : s.host.recovery.server = some (server, len, version)) :
    s.fetchMore.host.recovery = { s.host.recovery with asked := s.host.recovery.asked ++ s.host.recovery.nextChunks len } ∧
    s.fetchMore.host.sent = s.host.sent ++ (s.host.recovery.nextChunks len).map (fetchOut s.host.recovery.session server) := by
  have hmore : s.fetchMore = (s.updRecovery (fun q => { q with asked := q.asked ++ s.host.recovery.nextChunks len })).fetches server
      (s.host.recovery.nextChunks len) := by
    simp only [State.fetchMore, hserver]
    rfl
  rw [hmore, State.fetches_recovery, State.fetches_sent]
  exact ⟨rfl, rfl⟩

/-- Solicitation goes on until an offer is accepted (R611). -/
theorem execSolicit_asks (hon : s.host.recovery.on = true) (hserver : s.host.recovery.server = none) :
    execSolicit s = .next (((s.useFree 1).updRecovery (fun q => { q with session := (Config.freeBits s.free).setWidth 32 })).put
      (.recovery none (recoveryHead 1 ((Config.freeBits s.free).setWidth 32) ++ natLE 16 s.ident.serial.toNat ++
        natLE 1 (steppingByte s.ident.stepping) ++ natLE 1 s.host.recovery.reason ++ padTo 2 (Config.sealed 9 []) ++
        natLE 4 s.boot.versionFloor.toNat))) := if_neg (by simp [hon, hserver])

/-! ## Offers (R611, R612) -/

/-- The state with an offer taken. -/
def State.offerTaken (s : State) (server len : Nat) (version : Word) : State :=
  s.updRecovery (fun q => { q with server := some (server, len, version) })

section
variable {server : Nat} {msg : Bytes}

theorem execOffer_other (h : ¬ isRecovery msg 2 8 = true) : execOffer server msg s = .next s := if_pos (by simp [h])

variable (hon : s.host.recovery.on = true) (hmsg : isRecovery msg 2 8 = true) (hheard : ∀ e ∈ s.host.recovery.ignored, e.1 ≠ server)
include hon hmsg hheard

theorem offer_heard : ¬ (!s.host.recovery.on || !isRecovery msg 2 8 || s.host.recovery.ignored.any (fun e => e.1 = server)) = true := by
  have hnone : s.host.recovery.ignored.any (fun e => e.1 = server) = false := List.any_eq_false.mpr fun e he => by simpa using hheard e he
  simp [hon, hmsg, hnone]

theorem execOffer_old (hold : (BitVec.ofNat 32 (fieldNat msg 12 4)).toNat < s.boot.versionFloor.toNat) :
    execOffer server msg s = .next (s.putResult server 2) := (if_neg (offer_heard hon hmsg hheard)).trans (if_pos hold)

variable (hnew : s.boot.versionFloor.toNat ≤ (BitVec.ofNat 32 (fieldNat msg 12 4)).toNat)
include hnew

theorem execOffer_long (hlong : 67108864 < fieldNat msg 8 4) : execOffer server msg s = .next (s.putResult server 3) :=
  ((if_neg (offer_heard hon hmsg hheard)).trans (if_neg (Nat.not_lt.mpr hnew))).trans (if_pos hlong)

variable (hshort : fieldNat msg 8 4 ≤ 67108864)
include hshort

/-- An offer to a module that has a server, or of another session, is refused with a code that the spec leaves open (log entry 5). -/
theorem execOffer_refused (hbad : s.host.recovery.server ≠ none ∨ recoverySession msg ≠ s.host.recovery.session) :
    execOffer server msg s = .next ((s.useFree 1).putResult server ((Config.freeBits s.free).toNat % 256)) := by
  refine (((if_neg (offer_heard hon hmsg hheard)).trans (if_neg (Nat.not_lt.mpr hnew))).trans (if_neg (Nat.not_lt.mpr hshort))).trans (if_pos ?_)
  simpa [Option.isSome_iff_ne_none] using hbad

/-- The first good offer is accepted, and its first chunks are fetched. -/
theorem execOffer_accepts (hfree : s.host.recovery.server = none) (hsession : recoverySession msg = s.host.recovery.session)
    (hpos : 0 < fieldNat msg 8 4) (hgot : s.host.recovery.got = []) (hasked : s.host.recovery.asked = []) :
    ∃ u, execOffer server msg s = .next u ∧
      u.host.recovery.server = some (server, fieldNat msg 8 4, BitVec.ofNat 32 (fieldNat msg 12 4)) ∧
      u.host.recovery.asked = List.range (min 16 (chunkCount (fieldNat msg 8 4))) ∧
      HostOut.recovery (some server) (fetchMsg s.host.recovery.session 0 1) ∈ u.host.sent := by
  have haccepts : execOffer server msg s =
      .next (s.offerTaken server (fieldNat msg 8 4) (BitVec.ofNat 32 (fieldNat msg 12 4))).fetchMore :=
    (((if_neg (offer_heard hon hmsg hheard)).trans (if_neg (Nat.not_lt.mpr hnew))).trans (if_neg (Nat.not_lt.mpr hshort))).trans
      (if_neg (by simp [hfree, hsession]))
  obtain ⟨hrecovery, hsent⟩ := State.fetchMore_fetches
    (s := s.offerTaken server (fieldNat msg 8 4) (BitVec.ofNat 32 (fieldNat msg 12 4))) rfl
  have hnext : (s.offerTaken server (fieldNat msg 8 4) (BitVec.ofNat 32 (fieldNat msg 12 4))).host.recovery.nextChunks (fieldNat msg 8 4) =
      List.range (min 16 (chunkCount (fieldNat msg 8 4))) := by
    simp [Recovery.nextChunks, State.offerTaken, State.updRecovery, State.updHost, hgot, hasked, Table.get, List.take_range]
  have hfirst : 0 ∈ List.range (min 16 (chunkCount (fieldNat msg 8 4))) := List.mem_range.mpr (by simp only [chunkCount, ceilDiv]; omega)
  rw [hnext] at hrecovery hsent
  refine ⟨_, haccepts, ?_⟩
  rw [hrecovery, hsent]
  exact ⟨rfl, congrArg (· ++ _) hasked, List.mem_append_right _ (List.mem_map_of_mem hfirst)⟩

end

/-! ## Data (R610, R611) -/

/-- The state with a chunk that was asked for received. -/
def State.chunkTaken (s : State) (c : Nat) (data : Bytes) : State := s.updRecovery (fun q => { q with
  got := Table.put none q.got c (some data)
  asked := q.asked.filter (fun x => x ≠ c) })

section
variable {server len : Nat} {version : Word} (hon : s.host.recovery.on = true)
  (hserver : s.host.recovery.server = some (server, len, version))

theorem execRecoveryData_other {msg : Bytes} (server : Nat) (h : ¬ isRecovery msg 4 6 = true) : execRecoveryData server msg s = .next s := by
  unfold execRecoveryData
  dsimp only
  split
  · rfl
  · exact if_pos (by simp [h])

include hon hserver

/-- A chunk that was asked for is taken. -/
theorem execRecoveryData_takes {msg : Bytes} {n : Nat} (hmsg : isRecovery msg 4 6 = true)
    (hsession : recoverySession msg = s.host.recovery.session) (hasked : n ∈ s.host.recovery.asked) (hoffset : fieldNat msg 8 4 = 1024 * n)
    (hlength : (slice msg 14 (fieldNat msg 12 2)).length = min 1024 (len - fieldNat msg 8 4)) :
    ∃ u, execRecoveryData server msg s = .next u ∧ Table.get none u.host.recovery.got n = some (slice msg 14 (fieldNat msg 12 2)) ∧
      n ∉ u.host.recovery.asked ∧ u.host.recovery.server = s.host.recovery.server := by
  have hchunk : fieldNat msg 8 4 / 1024 = n := by omega
  have hwhole : fieldNat msg 8 4 % 1024 = 0 := by omega
  have htakes : execRecoveryData server msg s = .next (s.chunkTaken n (slice msg 14 (fieldNat msg 12 2))).fetchMore := by
    simp only [execRecoveryData, hserver, hchunk, hwhole]
    exact if_neg (by simp [hon, hmsg, hsession, hasked, hlength])
  obtain ⟨hrecovery, -⟩ := State.fetchMore_fetches (s := s.chunkTaken n (slice msg 14 (fieldNat msg 12 2))) hserver
  have hgot : Table.get none (s.chunkTaken n (slice msg 14 (fieldNat msg 12 2))).host.recovery.got n = some (slice msg 14 (fieldNat msg 12 2)) :=
    Table.get_put_some _ _ _ _ (Option.some_ne_none _)
  refine ⟨_, htakes, ?_⟩
  rw [hrecovery]
  refine ⟨hgot, fun hmem => ?_, rfl⟩
  obtain hold | hnext := List.mem_append.mp hmem
  · simp [State.chunkTaken, State.updRecovery, State.updHost] at hold
  · rw [Recovery.get_of_mem_nextChunks hnext] at hgot
    cases hgot

end

/-! ## Failures (R611, R612) -/

/-- A server was dropped: it got its RESULT, its offers are ignored from now on, and recovery goes on. -/
def State.Dropped (u : State) (session : Word) (server code : Nat) : Prop :=
  u.host.recovery.server = none ∧ u.host.recovery.asked = [] ∧ HostOut.recovery (some server) (resultMsg session code) ∈ u.host.sent ∧
    (server, u.ms) ∈ u.host.recovery.ignored ∧ u.host.recovery.on = true

theorem State.dropServer_dropped (server code : Nat) (hon : s.host.recovery.on = true) :
    (s.dropServer server code).Dropped s.host.recovery.session server code :=
  ⟨rfl, rfl, State.mem_sent_put _ _, List.mem_append_right _ List.mem_cons_self, hon⟩

theorem State.dropServer_boot (s : State) (server code : Nat) : (s.dropServer server code).boot = s.boot := rfl

/-- The state 250 ms later, with a failure of every chunk outstanding counted. -/
def State.fetchFailed (s : State) : State := (s.advanceTo (s.now + 250 * msTicks)).updRecovery (fun q => { q with
  fails := q.asked.foldl (fun (t : Table Nat) c => Table.put 0 t c (Table.get 0 t c + 1)) q.fails })

theorem State.fetchFailed_recovery (s : State) : s.fetchFailed.host.recovery = { s.host.recovery with
    fails := s.host.recovery.asked.foldl (fun (t : Table Nat) c => Table.put 0 t c (Table.get 0 t c + 1)) s.host.recovery.fails } := by
  simp only [State.fetchFailed, State.updRecovery, State.updHost, State.advanceTo_host]

theorem State.fetchFailed_sent (s : State) : s.fetchFailed.host.sent = s.host.sent := by
  simp only [State.fetchFailed, State.updRecovery, State.updHost, State.advanceTo_host]

theorem State.fetchFailed_now (s : State) : s.fetchFailed.now = max s.now (s.now + 250 * msTicks) := by
  rw [State.fetchFailed, State.updRecovery, State.updHost_now, State.advanceTo_now]

theorem State.fetchFailed_fails (s : State) (c : Nat) :
    Table.get 0 s.fetchFailed.host.recovery.fails c = Table.get 0 s.host.recovery.fails c + s.host.recovery.asked.count c := by
  rw [State.fetchFailed_recovery]
  exact Table.get_foldl_count _ _ _

section
variable {server len : Nat} {version : Word} (hon : s.host.recovery.on = true)
  (hserver : s.host.recovery.server = some (server, len, version))
include hon hserver

theorem execFetchRetry_counts (hasked : s.host.recovery.asked ≠ []) : execFetchRetry s =
    if s.fetchFailed.host.recovery.asked.any (fun c => decide (8 ≤ Table.get 0 s.fetchFailed.host.recovery.fails c)) then
      .next (s.fetchFailed.dropServer server 4)
    else .next (s.fetchFailed.fetches server s.fetchFailed.host.recovery.asked) := by
  simp only [execFetchRetry, hserver]
  exact if_neg (by simp [hon, hasked])

/-- First failures are fetched again. -/
theorem execFetchRetry_again (hasked : s.host.recovery.asked ≠ []) (hfirst : ∀ k, Table.get 0 s.host.recovery.fails k = 0)
    (hnodup : s.host.recovery.asked.Nodup) :
    ∃ u, execFetchRetry s = .next u ∧ s.now + 250 * msTicks ≤ u.now ∧
      u.host.sent = s.host.sent ++ s.host.recovery.asked.map (fetchOut s.host.recovery.session server) ∧
      ∀ k, Table.get 0 u.host.recovery.fails k = if k ∈ s.host.recovery.asked then 1 else 0 := by
  have hcount (k : Nat) : Table.get 0 s.fetchFailed.host.recovery.fails k = if k ∈ s.host.recovery.asked then 1 else 0 := by
    rw [s.fetchFailed_fails, hfirst, hnodup.count, Nat.zero_add]
  have hfew : ¬ s.fetchFailed.host.recovery.asked.any (fun c => decide (8 ≤ Table.get 0 s.fetchFailed.host.recovery.fails c)) = true := by
    rw [List.any_eq_true]
    rintro ⟨c, -, hmany⟩
    rw [hcount, decide_eq_true_eq] at hmany
    split at hmany <;> omega
  refine ⟨_, (execFetchRetry_counts hon hserver hasked).trans (if_neg hfew), ?_, ?_, fun k => ?_⟩
  · rw [State.fetches_now, s.fetchFailed_now]
    exact le_max_right _ _
  · rw [State.fetches_sent, s.fetchFailed_sent, s.fetchFailed_recovery]
  · rw [State.fetches_recovery, hcount]

/-- The eighth failure of a chunk abandons the server. -/
theorem execFetchRetry_abandons {n : Nat} (hasked : n ∈ s.host.recovery.asked) (hseven : 7 ≤ Table.get 0 s.host.recovery.fails n) :
    ∃ u, execFetchRetry s = .next u ∧ u.Dropped s.host.recovery.session server 4 := by
  have hmany : s.fetchFailed.host.recovery.asked.any (fun c => decide (8 ≤ Table.get 0 s.fetchFailed.host.recovery.fails c)) = true := by
    refine List.any_eq_true.mpr ⟨n, ?_, ?_⟩
    · rw [s.fetchFailed_recovery]
      exact hasked
    · have hcount := List.count_pos_iff.mpr hasked
      rw [s.fetchFailed_fails, decide_eq_true_eq]
      omega
  have hstays : s.fetchFailed.host.recovery.on = true := by rw [s.fetchFailed_recovery, hon]
  have hdropped := State.dropServer_dropped server 4 hstays
  rw [s.fetchFailed_recovery] at hdropped
  exact ⟨_, (execFetchRetry_counts hon hserver (List.ne_nil_of_mem hasked)).trans (if_pos hmany), hdropped⟩

end

/-! ## The whole image (R612, R690) -/

/-- The state with a verified image written to flash and recovery over. -/
def State.imageKept (s : State) (server : Nat) (fw : Firmware) : State :=
  ((s.putResult server 0).updRecovery (fun q => { q with on := false, image := some fw })).updBoot (fun b => { b with fwFlash := some fw })

section
variable {server len : Nat} {version : Word} (hon : s.host.recovery.on = true)
  (hserver : s.host.recovery.server = some (server, len, version))

include hon hserver

/-- What the check of a whole image leads to. -/
theorem execRecoveryVerify_whole (hwhole : ∀ c, c < chunkCount len → (Table.get none s.host.recovery.got c).isSome = true) :
    execRecoveryVerify s =
      if fwOk s.boot.versionFloor (recovered s.host.recovery len) then
        .next (s.imageKept server (recovered s.host.recovery len)).powerRegions
      else .next (s.dropServer server (if fwGenuine (recovered s.host.recovery len) then 2 else 1)) := by
  have hall : (List.range (chunkCount len)).all (fun c => (Table.get none s.host.recovery.got c).isSome) = true :=
    List.all_eq_true.mpr fun c hc => hwhole c (List.mem_range.mp hc)
  simp only [execRecoveryVerify, hserver]
  exact if_neg (by simp only [hon, hall]; decide)

end

theorem State.rewriteRoutes_regions (s : State) (usable : Nat → Bool) : ∃ g, s.rewriteRoutes usable = { s with regions := g } := by
  unfold State.rewriteRoutes State.eachRegion
  extract_lets t
  refine List.foldlRecOn (List.range 64) _ (motive := fun (u : State) => ∃ g, u = { s with regions := g }) ⟨s.regions, rfl⟩
    fun u ⟨g, hu⟩ r _ => ?_
  subst hu
  exact ⟨_, rfl⟩

theorem State.nextGroup_power (s : State) : ∃ p, s.nextGroup = { s with power := p } := by
  unfold State.nextGroup
  split
  · exact ⟨s.power, rfl⟩
  · exact ⟨_, rfl⟩

theorem State.searchRef_ref (s : State) : ∃ q, s.searchRef = { s with ref := q } := by
  unfold State.searchRef
  split
  · split
    · exact ⟨_, rfl⟩
    · exact ⟨s.ref, rfl⟩
  · exact ⟨s.ref, rfl⟩

/-- Step 2 of the power-on sequence leaves the host side, and of bring-up the firmware in flash. -/
theorem State.powerRegions_leaves (s : State) :
    s.powerRegions.host = s.host ∧ s.powerRegions.boot.fwFlash = s.boot.fwFlash ∧ s.powerRegions.boot.step = 2 := by
  unfold State.powerRegions
  extract_lets off power boot booted
  obtain ⟨g, hg⟩ := booted.rewriteRoutes_regions (fun r => booted.ident.present.getLsbD r)
  obtain ⟨p, hp⟩ := (booted.rewriteRoutes (fun r => booted.ident.present.getLsbD r)).nextGroup_power
  obtain ⟨q, hq⟩ := (booted.rewriteRoutes (fun r => booted.ident.present.getLsbD r)).nextGroup.searchRef_ref
  rw [hq, hp, hg]
  exact ⟨rfl, rfl, rfl⟩

/-- What the check of a whole image leaves, verified or not. -/
theorem execRecoveryVerify_ends {server len : Nat} {version : Word} (hon : s.host.recovery.on = true)
    (hserver : s.host.recovery.server = some (server, len, version))
    (hwhole : ∀ c, c < chunkCount len → (Table.get none s.host.recovery.got c).isSome = true) :
    ∃ u, execRecoveryVerify s = .next u ∧
      if fwOk s.boot.versionFloor (recovered s.host.recovery len) then
        u.host.recovery.on = false ∧ u.host.recovery.image = some (recovered s.host.recovery len) ∧
          u.boot.fwFlash = some (recovered s.host.recovery len) ∧ u.boot.step = 2 ∧
          HostOut.recovery (some server) (resultMsg s.host.recovery.session 0) ∈ u.host.sent
      else u.Dropped s.host.recovery.session server (if fwGenuine (recovered s.host.recovery len) then 2 else 1) ∧ u.boot = s.boot := by
  have hends := execRecoveryVerify_whole hon hserver hwhole
  split at hends
  next hok =>
    obtain ⟨hhost, hflash, hstep⟩ := (s.imageKept server (recovered s.host.recovery len)).powerRegions_leaves
    refine ⟨_, hends, ?_⟩
    rw [if_pos hok, hhost, hflash, hstep]
    exact ⟨rfl, rfl, rfl, rfl, State.mem_sent_put _ _⟩
  next hbad =>
    refine ⟨_, hends, ?_⟩
    rw [if_neg hbad]
    exact ⟨State.dropServer_dropped _ _ hon, s.dropServer_boot _ _⟩

theorem execServerIgnoreExpiry_hears {server a b : Nat} (hignored : s.host.recovery.ignored.find? (fun e => e.1 = server) = some (a, b)) :
    ∃ u, execServerIgnoreExpiry server s = .next u ∧ (b + 60000) * msTicks ≤ u.now ∧ ∀ e ∈ u.host.recovery.ignored, e.1 ≠ server := by
  simp only [execServerIgnoreExpiry, hignored]
  refine ⟨_, rfl, ?_, fun e he => ?_⟩
  · rw [State.updRecovery, State.updHost_now, State.advanceTo_now]
    exact le_max_right _ _
  · exact of_decide_eq_true (List.mem_filter.mp he).2

end

/-! ## The obligation -/

/-- Settles O54: a clause is the equation of its instruction, with what the fetches, the failures and the power-on sequence leave. -/
theorem storeAndRecovery : Obligations.StoreAndRecovery := by
  unfold Obligations.StoreAndRecovery
  intro s value server len n version msg q ans sent serving whole fw dropped is sess offered offers data
  refine ⟨fun hup hvalue hidle => ⟨_, execStore_starts hup hvalue hidle, rfl, rfl, rfl⟩,
    fun hup hvalue hbusy => ⟨_, execStore_busy hup hvalue hbusy, rfl⟩,
    fun hup hvalue => ⟨_, execStore_other hup hvalue, rfl⟩,
    fun hstoring hdict hstored => ⟨_, execStoreComplete_ok hstoring, rfl, rfl, rfl, State.stored_storeDone hdict⟩,
    fun hstoring => ⟨_, execStoreComplete_failed hstoring, rfl⟩,
    fun hup hvalue => ⟨_, execRestoreDefaults_marks hup hvalue, rfl, rfl, rfl, rfl⟩,
    fun hon hserver => ⟨_, execSolicit_asks hon hserver, _, _, padTo_length _ _, rfl, rfl, rfl⟩,
    fun h => execOffer_other (mt isRecovery_iff.mp h),
    fun h => execRecoveryData_other server (mt isRecovery_iff.mp h),
    fun hon hmsg hfree hsession hheard hnew hpos hshort hgot hasked =>
      execOffer_accepts hon (isRecovery_iff.mpr hmsg) hheard hnew hshort hfree hsession hpos hgot hasked,
    fun hon hmsg hheard hold => ⟨_, execOffer_old hon (isRecovery_iff.mpr hmsg) hheard hold, rfl⟩,
    fun hon hmsg hheard hnew hlong => ⟨_, execOffer_long hon (isRecovery_iff.mpr hmsg) hheard hnew hlong, rfl⟩,
    fun hon hmsg hheard hnew hshort hbad => ⟨_, execOffer_refused hon (isRecovery_iff.mpr hmsg) hheard hnew hshort hbad, rfl,
      _, Nat.mod_lt _ (by decide), rfl⟩,
    fun ⟨hon, hserver⟩ hmsg hsession hasked hoffset hlength _ =>
      execRecoveryData_takes hon hserver (isRecovery_iff.mpr hmsg) hsession hasked hoffset hlength,
    fun ⟨hon, hserver⟩ hasked hfirst _ hnodup => execFetchRetry_again hon hserver hasked hfirst hnodup,
    fun ⟨hon, hserver⟩ hasked _ hseven => execFetchRetry_abandons hon hserver hasked hseven,
    fun ⟨hon, hserver⟩ hwhole => execRecoveryVerify_ends hon hserver hwhole,
    fun a b hignored => execServerIgnoreExpiry_hears hignored⟩

end Machine
end Sys2Proof

/-! # The reference and its multiplexer -/

namespace Sys2Proof.Machine

/-! ## The multiplexer (R628-R634) -/

/-- From `s` to `u` Cox armed an alternate (R634), or did nothing. -/
def State.Arms (s u : State) : Prop := ∃ alt auto, u = s.updLoopRef (fun q => { q with alt := alt, autoAlt := auto })

/-- From `s` to `u` Cox armed an alternate (R634) or began a planned switch (R630), or did neither. -/
def State.Prefers (s u : State) : Prop :=
  ∃ src step alt auto, u = s.updLoopRef (fun q => { q with src := src, swStep := step, alt := alt, autoAlt := auto })

section
variable (s : State)

theorem State.updLoopRef_updLoopRef (f g : RefLoop → RefLoop) : (s.updLoopRef f).updLoopRef g = s.updLoopRef (fun q => g (f q)) := rfl

theorem State.armAlternate_arms : s.Arms s.armAlternate := by
  unfold State.armAlternate
  extract_lets q
  split
  · exact ⟨_, _, rfl⟩
  · split
    · exact ⟨s.ref.alt, s.ref.autoAlt, rfl⟩
    · exact ⟨_, s.ref.autoAlt, rfl⟩

theorem State.Prefers.armAlternate {u : State} (h : s.Prefers u) : s.Prefers u.armAlternate := by
  obtain ⟨src, step, _, _, hu⟩ := h
  obtain ⟨alt, auto, harmed⟩ := u.armAlternate_arms
  exact ⟨src, step, alt, auto, by rw [harmed, hu, State.updLoopRef_updLoopRef]⟩

@[simp] theorem State.event_ref (code region : Nat) (p : Bytes) : (s.event code region p).ref = s.ref := by
  obtain ⟨_, _, hlog⟩ := s.event_only code region p
  rw [hlog]

theorem State.forceRef_ref (c : BitVec 7) (auto : Bool) : (s.forceRef c auto).ref = { s.ref with
    src := c, cur := c, prev := s.ref.cur, swStep := 0, hang := false, forced := true, loss := !s.candReady c.toNat } := by
  unfold State.forceRef
  rw [State.event_ref]
  rfl

theorem State.startSwitch_idle {c : BitVec 7} (hidle : s.ref.swStep = 0) (hcur : s.ref.cur ≠ 0x7F) :
    s.startSwitch c = s.updLoopRef (fun q => { q with src := c, swStep := 1 }) := by
  unfold State.startSwitch
  rw [if_neg (not_not.mpr hidle)]
  exact if_pos hcur

theorem State.startSwitch_busy {c : BitVec 7} (hbusy : s.ref.swStep ≠ 0) :
    s.startSwitch c = s.updLoopRef (fun q => { q with refused := true }) := if_pos hbusy

theorem State.searchRef_off (hoff : s.ref.search = false) : s.searchRef = s := if_neg (by simp [hoff])

theorem State.searchRef_connected (hcur : s.ref.cur ≠ 0x7F) : s.searchRef = s :=
  if_neg (by simpa using fun _ hnone => absurd hnone hcur)

theorem State.autoAlternate_off (hoff : s.ref.autoAlt = false) : s.autoAlternate = s := if_neg (by simp [hoff])

theorem State.autoAlternate_edges (hloss : s.ref.loss = false) : s.autoAlternate = s := if_neg (by simp [hloss])

theorem State.preferRef_prefers : s.Prefers s.preferRef := by
  unfold State.preferRef
  extract_lets w
  split
  next hprefer =>
    simp only [Bool.and_eq_true, decide_eq_true_eq] at hprefer
    obtain ⟨⟨⟨⟨⟨-, hidle⟩, hcur⟩, -⟩, -⟩, -⟩ := hprefer
    rw [s.startSwitch_idle hidle hcur]
    exact ⟨_, _, s.ref.alt, s.ref.autoAlt, rfl⟩
  · exact ⟨s.ref.src, s.ref.swStep, s.ref.alt, s.ref.autoAlt, rfl⟩

/-- While reference edges come, no move follows but that Cox arms an alternate or begins a planned switch. -/
theorem State.refFollow_edges {v : State} (hsearch : s.searchRef = v) (hloss : v.ref.loss = false) : v.Prefers s.refFollow := by
  unfold State.refFollow
  rw [hsearch, v.autoAlternate_edges hloss]
  exact v.preferRef_prefers.armAlternate

/-! ### Which candidates are ready (R617) -/

theorem State.armAlternate_ready : s.armAlternate.ref.ready = s.ref.ready := by
  obtain ⟨_, _, hu⟩ := s.armAlternate_arms
  rw [hu]
  rfl

theorem State.preferRef_ready : s.preferRef.ref.ready = s.ref.ready := by
  obtain ⟨_, _, _, _, hu⟩ := s.preferRef_prefers
  rw [hu]
  rfl

theorem State.searchRef_ready : s.searchRef.ref.ready = s.ref.ready := by
  unfold State.searchRef
  split
  · split <;> rfl
  · rfl

theorem State.autoAlternate_ready : s.autoAlternate.ref.ready = s.ref.ready := by
  unfold State.autoAlternate
  split
  · have hforced : (s.forceRef s.ref.alt true).ref.ready = s.ref.ready := by rw [State.forceRef_ref]
    exact (State.armAlternate_ready _).trans hforced
  · rfl

theorem State.refFollow_ready : s.refFollow.ref.ready = s.ref.ready :=
  calc s.refFollow.ref.ready = s.searchRef.autoAlternate.preferRef.ref.ready := State.armAlternate_ready _
    _ = s.searchRef.autoAlternate.ref.ready := State.preferRef_ready _
    _ = s.searchRef.ref.ready := State.autoAlternate_ready _
    _ = s.ref.ready := s.searchRef_ready

theorem State.candLive_lt {c : Nat} (h : s.candLive c = true) : c < 112 := by
  simp only [State.candLive, isCandidate, Bool.and_eq_true, Bool.or_eq_true, decide_eq_true_eq] at h
  omega

/-- The only candidate that is ready is the lowest. -/
theorem State.lowestReady_single {c : Nat} (hready : s.ref.ready = 1#128 <<< c) (hc : c < 112) : s.lowestReady 0x7F = some c := by
  have hbit (i : Nat) (hi : i < 112) : s.candReady i = decide (i = c) := by
    rw [Bool.eq_iff_iff]
    simp only [State.candReady, hready, BitVec.getLsbD_shiftLeft, BitVec.getLsbD_one, Bool.and_eq_true, Bool.not_eq_true', decide_eq_true_eq,
      decide_eq_false_iff_not]
    omega
  unfold State.lowestReady
  rw [List.find?_range_eq_some]
  refine ⟨?_, List.mem_range.mpr hc, fun j hj => ?_⟩
  · simpa [hbit c hc] using (show c ≠ 127 by omega)
  · simp [hbit j (hj.trans hc), hj.ne]

/-- R628: with no source connected and one candidate ready, the search connects it. -/
theorem State.searchRef_single {c : Nat} (hsearch : s.ref.search = true) (hcur : s.ref.cur = 0x7F) (hidle : s.ref.swStep = 0)
    (hready : s.ref.ready = 1#128 <<< c) (hc : c < 112) : s.searchRef = s.connectRef (BitVec.ofNat 7 c) := by
  unfold State.searchRef
  rw [if_pos (by simp [hsearch, hcur, hidle]), s.lowestReady_single hready hc]

end
end Sys2Proof.Machine

namespace Sys2Proof.Machine

/-! ## Every region at once -/

/-- From `s` to `u` the regions that `c` chooses were changed by `h`, and nothing else was. -/
structure State.Maps (c : Nat → Bool) (h : Region → Region) (s u : State) : Prop where
  only : u = { s with regions := u.regions }
  wf : Table.wf {} u.regions = true
  region : ∀ r, u.region r = if c r then h (s.region r) else s.region r

section
variable {s : State} {c : Nat → Bool} {h : Region → Region} (hwf : Table.wf {} s.regions = true)
include hwf

theorem State.Maps.range {f : State → Nat → State}
    (hf : ∀ g r, f { s with regions := g } r =
      if c r then State.updRegion { s with regions := g } r h else { s with regions := g }) (n : Nat) :
    State.Maps (fun r => decide (r < n) && c r) h s ((List.range n).foldl f s) := by
  induction n with
  | zero => exact ⟨rfl, hwf, fun r => by simp⟩
  | succ n ih =>
    rw [List.range_succ, List.foldl_concat]
    obtain ⟨honly, hwf', hregion⟩ := ih
    generalize (List.range n).foldl f s = u at honly hwf' hregion
    rw [honly, hf, ← honly]
    split
    next hc =>
      refine ⟨by rw [u.updRegion_only, honly], State.wf_setRegion _ _ _ hwf', fun r => ?_⟩
      by_cases hr : r = n
      · subst hr
        simp [State.updRegion, u.region_setRegion_self _ _ hwf', hregion, hc]
      · simp [State.updRegion, u.region_setRegion_ne _ _ _ hr, hregion, show r < n + 1 ↔ r < n by omega]
    next hc =>
      refine ⟨honly, hwf', fun r => ?_⟩
      by_cases hr : r = n
      · simp [hregion, hr, hc]
      · simp [hregion, show r < n + 1 ↔ r < n by omega]

theorem State.Maps.eachRegion : State.Maps (fun r => decide (r < 64)) h s (s.eachRegion (fun r u => u.updRegion r h)) := by
  have hmaps := State.Maps.range (c := fun _ => true) (h := h) hwf (f := fun u r => u.updRegion r h) (fun _ _ => rfl) 64
  unfold State.eachRegion
  simpa only [Bool.and_true] using hmaps

theorem State.Maps.eachPowered :
    State.Maps (fun r => decide (r < 64) && s.powered r) h s (s.eachPowered (fun r u => u.updRegion r h)) :=
  State.Maps.range (c := s.powered) hwf (f := fun u r => if u.powered r then u.updRegion r h else u) (fun _ _ => rfl) 64

end
end Sys2Proof.Machine

namespace Sys2Proof.Machine

/-! ## A clearing of the work in flight leaves the clocks -/

/-- From `s` to `u` nothing changed but what serves requests. -/
def State.ServeOnly (s u : State) : Prop := u = { s with serve := u.serve }

section
variable {s u : State}

theorem State.ServeOnly.trans {v : State} (h : s.ServeOnly u) (h' : u.ServeOnly v) : s.ServeOnly v := by
  rw [State.ServeOnly] at h h' ⊢
  rw [h', h]

theorem State.ServeOnly.ite {c : Prop} [Decidable c] {v : State} (hu : s.ServeOnly u) (hv : s.ServeOnly v) :
    s.ServeOnly (if c then u else v) := by
  split <;> assumption

theorem State.ServeOnly.foldl {β : Type} {f : State → β → State} (hf : ∀ u b, State.ServeOnly u (f u b)) (l : List β) :
    s.ServeOnly (l.foldl f s) := List.foldlRecOn l f (motive := s.ServeOnly) rfl fun u hu b _ => hu.trans (hf u b)

theorem State.releaseSets_serveOnly (ns : List Nat) : s.ServeOnly (s.releaseSets ns) := by
  refine .foldl (fun u n => ?_) ns
  unfold State.releaseSet
  split
  · rfl
  · exact .ite rfl rfl

theorem State.freeReleasing_serveOnly : s.ServeOnly s.freeReleasing := by
  refine .foldl (fun u e => ?_) _
  split
  · exact .ite rfl (State.ServeOnly.trans (u := u.putSlot e.1 .free) rfl (State.releaseSets_serveOnly _))
  · rfl

theorem State.restartFlight_serveOnly : s.ServeOnly s.restartFlight := by
  unfold State.restartFlight
  extract_lets emptied freed idle
  have hidle : freed.ServeOnly idle := .foldl (fun u e => by split <;> rfl) _
  have hemptied : s.ServeOnly emptied := rfl
  exact ((hemptied.trans State.freeReleasing_serveOnly).trans hidle).trans rfl

end

/-- From `s` to `u` no time passed, and the reference and the loop and clock of every region stayed as they were. -/
structure KeepsClocks (s u : State) : Prop where
  ref : u.ref = s.ref
  now : u.now = s.now
  ticking : u.clk.ticking = s.clk.ticking
  regions : Table.wf {} s.regions = true →
    Table.wf {} u.regions = true ∧ ∀ r, (u.region r).loop = (s.region r).loop ∧ (u.region r).clk = (s.region r).clk

section
variable {s u : State}

theorem KeepsClocks.refl : KeepsClocks s s := ⟨rfl, rfl, rfl, fun hwf => ⟨hwf, fun _ => ⟨rfl, rfl⟩⟩⟩

theorem KeepsClocks.ite {c : Prop} [Decidable c] {v : State} (hu : KeepsClocks s u) (hv : KeepsClocks s v) :
    KeepsClocks s (if c then u else v) := by
  split <;> assumption

theorem KeepsClocks.foldl {β : Type} {f : State → β → State} (hf : ∀ u b, KeepsClocks s u → KeepsClocks s (f u b)) (l : List β)
    (h : KeepsClocks s u) : KeepsClocks s (l.foldl f u) := List.foldlRecOn l f h fun u hu b _ => hf u b hu

variable (h : KeepsClocks s u)
include h

theorem KeepsClocks.event (code region : Nat) (p : Bytes) : KeepsClocks s (u.event code region p) := by
  obtain ⟨_, _, heq⟩ := u.event_only code region p
  rw [heq]
  exact { h with }

theorem KeepsClocks.sendWords (ks : List Nat) (w : CtlWord) : KeepsClocks s (u.sendWords ks w) := by
  obtain ⟨_, heq⟩ := u.sendWords_table ks w
  rw [heq]
  exact { h with }

theorem KeepsClocks.updTile (t : TileId) (f : Tile → Tile) : KeepsClocks s (u.updTile t f) := { h with }

theorem KeepsClocks.updRef (r : Nat) (f : RegionRef → RegionRef) : KeepsClocks s (u.updRef r f) := by
  refine { h with regions := fun hs => ?_ }
  obtain ⟨hwf, hkept⟩ := h.regions hs
  refine ⟨State.wf_setRegion _ _ _ hwf, fun q => ?_⟩
  by_cases hq : q = r
  · rw [hq, State.region_updRef_self r f hwf]
    exact hkept r
  · rw [State.updRef, State.updRegion, u.region_setRegion_ne _ _ _ hq]
    exact hkept q

/-- R87: a clearing touches the sequences, the tiles of crews and the mode vectors. -/
theorem KeepsClocks.clearFlight : KeepsClocks s u.clearFlight := by
  unfold State.clearFlight
  extract_lets restarted emptied reset
  have hrestarted : KeepsClocks s restarted := by
    rw [show restarted = { u with serve := restarted.serve } from State.restartFlight_serveOnly]
    exact { h with }
  have hemptied : KeepsClocks s emptied := .foldl (fun _ t hu => hu.updTile t _) _ hrestarted
  have hreset : KeepsClocks s reset := .foldl (fun _ r hu => hu.updRef r _) _ hemptied
  clear_value reset
  exact { hreset with }

theorem KeepsClocks.enterEasy (due : List NamedEasy) : KeepsClocks s (u.enterEasy due) := by
  unfold State.enterEasy
  extract_lets more all clearing rest clk halted recorded told
  have hrecorded : KeepsClocks s recorded := .foldl (fun _ _ hu => hu.event _ _ _) _ { h with }
  have htold : KeepsClocks s told := .ite (hrecorded.sendWords _ _) hrecorded
  clear_value told
  exact .ite htold.clearFlight htold

theorem KeepsClocks.nameEasyAll (cause : Nat) (clearing : Bool) (at_ : Option (BitVec 48)) :
    KeepsClocks s (u.nameEasyAll cause clearing at_) :=
  .ite { h with } (h.enterEasy _)

end
end Sys2Proof.Machine

namespace Sys2Proof.Machine

/-! ## A lock of the loop (R621, R626, R627, R640) -/

/-- From `s` to `u` strokes were made ready to resume: the tiles, the reference and the tick count stayed as they were. -/
structure Relocks (s u : State) : Prop where
  tiles : u.tiles = s.tiles
  ref : u.ref = s.ref
  tick : u.clk.tick = s.clk.tick
  ticking : u.clk.ticking = s.clk.ticking

section
variable {s u : State}

theorem Relocks.refl : Relocks s s := ⟨rfl, rfl, rfl, rfl⟩

theorem Relocks.ite {c : Prop} [Decidable c] {v : State} (hu : Relocks s u) (hv : Relocks s v) : Relocks s (if c then u else v) := by
  split <;> assumption

theorem Relocks.foldl {β : Type} {f : State → β → State} (hf : ∀ u b, Relocks s u → Relocks s (f u b)) (l : List β)
    (h : Relocks s u) : Relocks s (l.foldl f u) := List.foldlRecOn l f h fun u hu b _ => hf u b hu

variable (h : Relocks s u)
include h

theorem Relocks.sendWords (ks : List Nat) (w : CtlWord) : Relocks s (u.sendWords ks w) := by
  obtain ⟨_, heq⟩ := u.sendWords_table ks w
  rw [heq]
  exact { h with }

theorem Relocks.nameResume (step : Nat) : Relocks s (u.nameResume step) := by
  unfold State.nameResume
  refine .ite h ?_
  split
  · exact h
  next a b _ =>
    refine .ite ?_ ?_
    · unfold State.nameStake
      extract_lets far far' t n clk resumed periodic
      have hperiodic : Relocks s periodic := { h with }
      exact .ite (hperiodic.sendWords _ _) hperiodic
    · unfold State.resumeAt
      extract_lets far far' t n clk resumed periodic
      have hperiodic : Relocks s periodic := { h with }
      exact .ite (hperiodic.sendWords _ _) hperiodic

theorem Relocks.clearCause (cause : Nat) : Relocks s (u.clearCause cause) := { h with }

theorem Relocks.runStep (r k : Nat) : Relocks s (u.runStep r k) := { h with }

theorem Relocks.raised : Relocks s u.raised := by
  unfold State.raised
  split
  · exact h
  · exact .ite ((h.clearCause 5).nameResume _) h

theorem Relocks.raisePlan (k : Nat) : Relocks s (u.raisePlan k) := .foldl (fun _ r hu => .ite (hu.runStep r k) hu) _ h

theorem Relocks.stepThree : Relocks s u.stepThree := .ite { h with } h

end
end Sys2Proof.Machine

namespace Sys2Proof.Machine

/-! ## The commands of the reference -/

section
variable {s : State}

@[simp] theorem State.advanceTo_ref (m : Nat) : (s.advanceTo m).ref = s.ref := (congrArg State.ref (s.advanceTo_only m) :)

@[simp] theorem State.advanceTo_regions (m : Nat) : (s.advanceTo m).regions = s.regions := (congrArg State.regions (s.advanceTo_only m) :)

@[simp] theorem State.advanceTo_power (m : Nat) : (s.advanceTo m).power = s.power := (congrArg State.power (s.advanceTo_only m) :)

/-- The tick count advances with the time while it advances at all (R55). -/
theorem State.advanceTo_tick (m : Nat) : (s.advanceTo m).clk.tick =
    if s.clk.ticking then s.clk.tick + BitVec.ofNat 64 ((s.advanceTo m).now - s.now) else s.clk.tick := by
  unfold State.advanceTo
  split
  · simp
  · rfl

theorem execCandidateReady_live {c : BitVec 7} (hlive : s.candLive c.toNat = true) : ∃ u, execCandidateReady c s = .next u ∧
    u.ref.ready = s.ref.ready ||| 1#128 <<< c.toNat ∧
    (s.ref.search = true → s.ref.cur = 0x7F → s.ref.swStep = 0 → s.ref.ready = 0 → u.ref.cur = c ∧ u.ref.loss = false) := by
  refine ⟨_, if_neg (by simp [hlive]), State.refFollow_ready _, fun hsearch hcur hidle hnone => ?_⟩
  generalize hv : s.updLoopRef (fun q => { q with ready := q.ready ||| 1#128 <<< c.toNat }) = v
  have hready : v.ref.ready = 1#128 <<< c.toNat := by simp [← hv, hnone]
  have hfound : v.searchRef = v.connectRef c := by
    rw [v.searchRef_single (hv ▸ hsearch) (hv ▸ hcur) (hv ▸ hidle) hready (s.candLive_lt hlive), BitVec.ofNat_toNat, BitVec.setWidth_eq]
  obtain ⟨_, _, _, _, hu⟩ := v.refFollow_edges hfound rfl
  rw [hu]
  exact ⟨rfl, rfl⟩

/-- The loop has locked, and the tick count advances (R55, R621). -/
def State.refLocked (s : State) : State :=
  { s with ref := { s.ref with lock := true, locked := true, lost := false }, clk := { s.clk with ticking := true } }

theorem execReferenceLock_locks (hcur : s.ref.cur ≠ 0x7F) (hloss : s.ref.loss = false) (hidle : s.ref.swStep = 0) (hlock : s.ref.lock = false) :
    ∃ v u, execReferenceLock s = .next u ∧ Relocks s.refLocked v ∧ v.Prefers u := by
  have hready : ¬ (s.ref.cur = 0x7F || s.ref.loss || s.ref.swStep ≠ 0 || s.ref.lock) = true := by simpa [hloss, hidle, hlock] using hcur
  unfold execReferenceLock
  rw [if_neg hready]
  extract_lets first locked clk ticking stepped raised resumed
  have hstepped : Relocks s.refLocked stepped := .foldl (fun _ r hu => .ite (hu.runStep r 0) hu) _ .refl
  have hraised : Relocks s.refLocked raised := .ite hstepped (hstepped.raisePlan _)
  have hresumed : Relocks s.refLocked resumed := .ite hstepped.stepThree ((hraised.clearCause 6).raised.nameResume _)
  have hedges : resumed.ref.cur ≠ 0x7F ∧ resumed.ref.loss = false := by
    rw [hresumed.ref]
    exact ⟨hcur, hloss⟩
  exact ⟨resumed, _, rfl, hresumed, State.refFollow_edges _ (State.searchRef_connected _ hedges.1) hedges.2⟩

/-- LOSS sets once no edge has come for 32 ticks (R623). -/
def State.edgesLost (s : State) : State := (s.advanceTo (s.now + 32)).updLoopRef (fun q => { q with loss := true, lastEdge := s.now })

theorem execReferenceEdgeLoss_loses (hcur : s.ref.cur ≠ 0x7F) (hloss : s.ref.loss = false) (hlost : s.ref.lost = false) :
    execReferenceEdgeLoss s = .next s.edgesLost.autoAlternate := if_neg (by simpa [hloss, hlost] using fun hnone => absurd hnone hcur)

theorem State.edgesLost_ref : s.edgesLost.ref = { s.ref with loss := true, lastEdge := s.now } := by
  rw [State.edgesLost, State.updLoopRef_ref, State.advanceTo_ref]

theorem State.edgesLost_candReady (c : Nat) : s.edgesLost.candReady c = s.candReady c :=
  (congrArg (fun q : RefLoop => decide (c < 128) && q.ready.getLsbD c) s.edgesLost_ref :)

/-- R634: the armed alternate takes over at LOSS. -/
theorem execReferenceEdgeLoss_moves (hcur : s.ref.cur ≠ 0x7F) (hloss : s.ref.loss = false) (hlost : s.ref.lost = false)
    (hauto : s.ref.autoAlt = true) (halt : s.ref.alt ≠ 0x7F) (hready : s.candReady s.ref.alt.toNat = true) :
    ∃ u, execReferenceEdgeLoss s = .next u ∧ (s.edgesLost.forceRef s.ref.alt true).Arms u := by
  have hmoves : (s.edgesLost.ref.loss && s.edgesLost.ref.autoAlt && s.edgesLost.ref.alt ≠ 0x7F &&
      s.edgesLost.candReady s.edgesLost.ref.alt.toNat) = true := by
    rw [s.edgesLost_candReady, s.edgesLost_ref]
    simpa [hauto, hready] using halt
  obtain ⟨alt, auto, hu⟩ := ((s.edgesLost.forceRef s.edgesLost.ref.alt true).updLoopRef (fun q => { q with alt := 0x7F })).armAlternate_arms
  refine ⟨_, execReferenceEdgeLoss_loses hcur hloss hlost, alt, auto, ?_⟩
  unfold State.autoAlternate
  rw [if_pos hmoves, hu, s.edgesLost_ref, State.updLoopRef_updLoopRef]

end

/-! ### The reference is lost (R624, R625, R640) -/

/-- A region that coasts (R639). -/
def Region.coasting (g : Region) : Region := { g with loop := { g.loop with coast := true, lock := false, target := none } }

/-- A region whose armed change is discarded (R653). -/
def Region.disarmed (g : Region) : Region := { g with clk := { g.clk with arm := false } }

/-- Every powered region coasts, and no change stays armed. -/
def State.coasts (s : State) : State := (s.eachPowered (fun r u => u.coastRegion r)).discardArmed

/-- The loop that has lost its reference. -/
def RefLoop.bridgedOut (q : RefLoop) : RefLoop := { q with
  cur := 0x7F, swStep := 0, hang := false, loss := true, lost := true, lock := false, refLost := true, losses := satAdd q.losses 1 }

/-- The bridge time has passed since the last edge. -/
def State.bridged (s : State) : State := s.advanceTo (s.ref.lastEdge + s.ref.bridgeTicks)

/-- The reference is lost, and the tick count holds. -/
def State.refLost (s : State) : State :=
  let s := s.updLoopRef (fun q => { q with cur := 0x7F, swStep := 0, hang := false, loss := true })
  let s := s.updLoopRef (fun q => { q with lost := true, lock := false, refLost := true, losses := satAdd q.losses 1 })
  { s with clk := { s.clk with ticking := false } }

/-- Cox counts and records the loss of candidate `old`, and names a holding easy-all for the plan in service. -/
def State.refLossTold (s : State) (old : BitVec 7) : State :=
  let u := (s.count 0x201007 1).event 0x0100 0xFF (natLE 1 old.toNat)
  if u.boot.plan.isSome then u.nameEasyAll 6 false none else u

/-- EasyAllState does not read 0 any more (R625). -/
def State.easyRead (s : State) : State := { s with clk := { s.clk with easy := if s.clk.easy = 2 then 2 else 1 } }

/-- What the loss of the reference sets in motion. -/
def State.losesRef (s : State) : State := (s.refLost.coasts.refLossTold s.ref.cur).easyRead

section
variable {s : State}

theorem execBridgeExpiry_loses (hloss : s.ref.loss = true) (hlost : s.ref.lost = false) (hlock : s.ref.lock = true) :
    execBridgeExpiry s = .next s.bridged.losesRef.searchRef := by
  have hbridged : ¬ (!s.ref.loss || s.ref.lost) = true := by simp [hloss, hlost]
  have hlocked : ¬ (!s.bridged.ref.lock) = true := by simp [State.bridged, hlock]
  unfold State.losesRef State.easyRead State.refLossTold State.coasts State.refLost
  refine (if_neg hbridged).trans ?_
  rw [← State.bridged]
  exact if_neg hlocked

theorem KeepsClocks.refLossTold (old : BitVec 7) : KeepsClocks s (s.refLossTold old) := by
  have hcounted : KeepsClocks s (s.count 0x201007 1) := { KeepsClocks.refl with }
  exact .ite ((hcounted.event _ _ _).nameEasyAll _ _ _) (hcounted.event _ _ _)

theorem KeepsClocks.easyRead {u : State} (h : KeepsClocks s u) : KeepsClocks s u.easyRead := { h with }

theorem State.easyRead_easy : s.easyRead.clk.easy ≠ 0 := by
  show (if s.clk.easy = 2 then 2 else 1) ≠ 0
  split <;> decide

variable (hwf : Table.wf {} s.regions = true)
include hwf

/-- Where every powered region coasts, the regions alone changed. -/
theorem State.coasts_only : s.coasts = { s with regions := s.coasts.regions } ∧ Table.wf {} s.coasts.regions = true ∧
    ∀ r, r < 64 → s.powered r = true → s.coasts.region r = (s.region r).coasting.disarmed := by
  have hcoasts : State.Maps (fun r => decide (r < 64) && s.powered r) Region.coasting s (s.eachPowered (fun r u => u.coastRegion r)) :=
    .eachPowered hwf
  unfold State.coasts
  generalize s.eachPowered (fun r u => u.coastRegion r) = u at hcoasts ⊢
  have hdisarms : State.Maps (fun r => decide (r < 64)) Region.disarmed u u.discardArmed := .eachRegion hcoasts.wf
  refine ⟨?_, hdisarms.wf, fun r hr hpower => ?_⟩
  · rw [hdisarms.only, hcoasts.only]
  · have hregion := hdisarms.region r
    rwa [hcoasts.region, decide_eq_true hr, hpower] at hregion

theorem State.coasts_ref : s.coasts.ref = s.ref := (congrArg State.ref (State.coasts_only hwf).1 :)

theorem State.coasts_now : s.coasts.now = s.now := (congrArg State.now (State.coasts_only hwf).1 :)

theorem State.coasts_ticking : s.coasts.clk.ticking = s.clk.ticking :=
  (congrArg (fun u : State => u.clk.ticking) (State.coasts_only hwf).1 :)

theorem State.losesRef_leaves : s.losesRef.ref = s.ref.bridgedOut ∧ s.losesRef.clk.ticking = false ∧ s.losesRef.clk.easy ≠ 0 ∧
    s.losesRef.now = s.now ∧ ∀ r, r < 64 → s.powered r = true →
      (s.losesRef.region r).loop = (s.region r).coasting.disarmed.loop ∧ (s.losesRef.region r).clk = (s.region r).coasting.disarmed.clk := by
  have hwf' : Table.wf {} s.refLost.regions = true := hwf
  obtain ⟨-, hcoastsWf, hcoasts⟩ := State.coasts_only hwf'
  have hkeeps : KeepsClocks s.refLost.coasts s.losesRef := (KeepsClocks.refLossTold _).easyRead
  obtain ⟨-, hkept⟩ := hkeeps.regions hcoastsWf
  refine ⟨hkeeps.ref.trans (State.coasts_ref hwf'), hkeeps.ticking.trans (State.coasts_ticking hwf'), State.easyRead_easy,
    hkeeps.now.trans (State.coasts_now hwf'), fun r hr hpower => ?_⟩
  obtain ⟨hloop, hclk⟩ := hkept r
  rw [hcoasts r hr hpower] at hloop hclk
  exact ⟨hloop, hclk⟩

/-- Without the search the reference stays lost. -/
theorem execBridgeExpiry_leaves (hloss : s.ref.loss = true) (hlost : s.ref.lost = false) (hlock : s.ref.lock = true)
    (hsearch : s.ref.search = false) : ∃ u, execBridgeExpiry s = .next u ∧
      u.ref = s.ref.bridgedOut ∧ u.clk.ticking = false ∧ u.clk.easy ≠ 0 ∧ s.ref.lastEdge + s.ref.bridgeTicks ≤ u.now ∧
      ∀ r, r < 64 → s.powered r = true →
        (u.region r).loop = (s.region r).coasting.disarmed.loop ∧ (u.region r).clk = (s.region r).coasting.disarmed.clk := by
  have hbridgedWf : Table.wf {} s.bridged.regions = true := by rwa [State.bridged, State.advanceTo_regions]
  have hbridgedRef : s.bridged.ref = s.ref := State.advanceTo_ref _
  have hbridgedRegion (r : Nat) : s.bridged.region r = s.region r := by
    rw [State.region, State.region, State.bridged, State.advanceTo_regions]
  have hbridgedPower (r : Nat) : s.bridged.powered r = s.powered r := by rw [State.powered, State.powered, State.bridged, State.advanceTo_power]
  obtain ⟨href, hticking, heasy, hnow, hregions⟩ := State.losesRef_leaves hbridgedWf
  rw [hbridgedRef] at href
  refine ⟨_, execBridgeExpiry_loses hloss hlost hlock, ?_⟩
  rw [State.searchRef_off _ ((congrArg RefLoop.search href).trans hsearch)]
  refine ⟨href, hticking, heasy, ?_, fun r hr hpower => ?_⟩
  · rw [hnow, State.bridged, State.advanceTo_now]
    exact le_max_right _ _
  · rw [← hbridgedRegion]
    exact hregions r hr ((hbridgedPower r).trans hpower)

end
end Sys2Proof.Machine

namespace Sys2Proof.Machine

/-! ### Planned and forced switches (R630-R633) -/

section
variable {s : State}

theorem execSwitchStepComplete_first (hstep : s.ref.swStep = 1) :
    execSwitchStepComplete s = .next (s.updLoopRef (fun q => { q with swStep := 2, hang := false })) := if_pos hstep

theorem execSwitchStepComplete_second (hstep : s.ref.swStep = 2) (hsrc : s.ref.src ≠ 0x7F) :
    ∃ u, execSwitchStepComplete s = .next u ∧ (s.connectRef s.ref.src).Prefers u := by
  refine ⟨(s.connectRef s.ref.src).refFollow, ?_, State.refFollow_edges _ (State.searchRef_connected _ hsrc) rfl⟩
  unfold execSwitchStepComplete
  rw [if_neg (by simp [hstep]), if_pos hstep]

theorem execMuxHang_hangs (hbusy : s.ref.swStep ≠ 0) (hhang : s.ref.hang = false) :
    execMuxHang s = .next ((s.advanceTo (s.now + 33)).updLoopRef (fun q => { q with hang := true, ints := q.ints + 1 })) :=
  if_neg (by simp [hbusy, hhang])

theorem execForce_connects (hloss : s.ref.loss = true) :
    ∃ u, execForce s = .next u ∧ (s.forceRef s.ref.src false).Arms u := ⟨_, if_neg (by simp [hloss]), State.armAlternate_arms _⟩

theorem execMuxRst_lets_go (hsearch : s.ref.search = false) :
    execMuxRst s = .next (s.updLoopRef (fun q => { q with cur := 0x7F, swStep := 0, hang := false })) :=
  congrArg Host.Outcome.next (State.searchRef_off _ hsearch)

end

/-- Settles O51: while reference edges come nothing follows a move of the multiplexer but an alternate armed or a planned switch begun, a lock
leaves the reference as it is, and a clearing of the work in flight leaves the clocks. -/
theorem referenceClock : Obligations.ReferenceClock := by
  intro s c q bit
  refine ⟨fun hlive => execCandidateReady_live hlive, ?notReady, fun hcur hloss hidle hlock => ?lock, fun hloss hlost hcur hoff => ?edgeLoss,
    fun hloss hlost hcur hauto halt hready => ?alternate, fun hloss hlost hlock hsearch hwf => ?bridge,
    fun hidle hcur => ⟨_, congrArg Host.Outcome.next (s.startSwitch_idle hidle hcur), rfl⟩,
    fun hbusy => ⟨_, congrArg Host.Outcome.next (s.startSwitch_busy hbusy), rfl⟩,
    fun hstep => ⟨_, execSwitchStepComplete_first hstep, rfl⟩, fun hstep hsrc => ?second, fun hbusy hhang => ?hang, fun hloss => ?force,
    fun hsearch => ⟨_, execMuxRst_lets_go hsearch, rfl⟩⟩
  case notReady =>
    obtain ⟨_, _, hu⟩ := State.armAlternate_arms (s.updLoopRef (fun q => { q with ready := q.ready &&& ~~~bit }))
    exact ⟨_, congrArg Host.Outcome.next hu, rfl, rfl, rfl⟩
  case lock =>
    obtain ⟨v, u, hexec, hlocks, _, _, _, _, rfl⟩ := execReferenceLock_locks hcur hloss hidle hlock
    have href : v.ref = s.refLocked.ref := hlocks.ref
    refine ⟨_, hexec, ?_⟩
    simp only [State.updLoopRef_ref, State.updLoopRef_clk, State.updLoopRef_tiles, href, hlocks.tick, hlocks.ticking, hlocks.tiles]
    exact ⟨rfl, rfl, rfl, rfl, rfl, rfl⟩
  case edgeLoss =>
    refine ⟨_, (execReferenceEdgeLoss_loses hcur hloss hlost).trans (congrArg _ (State.autoAlternate_off _ ?_)), ?_, State.edgesLost_ref,
      s.advanceTo_tick _⟩
    · rw [State.edgesLost_ref]
      exact hoff
    · exact (le_max_right s.now _).trans_eq (s.advanceTo_now _).symm
  case alternate =>
    obtain ⟨u, hexec, _, _, rfl⟩ := execReferenceEdgeLoss_moves hcur hloss hlost hauto halt hready
    have href := s.edgesLost.forceRef_ref s.ref.alt true
    rw [State.edgesLost_ref, State.edgesLost_candReady, hready] at href
    exact ⟨_, hexec, (congrArg RefLoop.cur href :), (congrArg RefLoop.src href :), (congrArg RefLoop.prev href :),
      (congrArg RefLoop.forced href :), (congrArg RefLoop.loss href :), (congrArg RefLoop.lock href :)⟩
  case bridge =>
    obtain ⟨u, hexec, href, hticking, heasy, hnow, hregions⟩ := execBridgeExpiry_leaves hwf hloss hlost hlock hsearch
    refine ⟨u, hexec, ?_⟩
    simp only [href]
    refine ⟨rfl, rfl, rfl, rfl, rfl, hticking, heasy, hnow, fun r hr hpower => ?_⟩
    obtain ⟨hloop, hclk⟩ := hregions r hr hpower
    rw [hloop, hclk]
    exact ⟨rfl, rfl, rfl⟩
  case second =>
    obtain ⟨u, hexec, _, _, _, _, rfl⟩ := execSwitchStepComplete_second hstep hsrc
    exact ⟨_, hexec, rfl, rfl, rfl⟩
  case hang =>
    refine ⟨_, execMuxHang_hangs hbusy hhang, ?_, ?_⟩
    · rw [State.updLoopRef_ref, State.advanceTo_ref]
    · rw [State.updLoopRef_now, State.advanceTo_now]
      omega
  case force =>
    obtain ⟨u, hexec, _, _, rfl⟩ := execForce_connects hloss
    have href := s.forceRef_ref s.ref.src false
    exact ⟨_, hexec, congrArg RefLoop.cur href, congrArg RefLoop.prev href, congrArg RefLoop.forced href, congrArg RefLoop.swStep href,
      congrArg RefLoop.loss href⟩

end Sys2Proof.Machine

/-! # The clocks of the regions -/

namespace Sys2Proof.Machine

/-- A tile of a crew that a delivery reached too late. -/
def lateTile : Tile := { stage := some 0, late := [0] }

/-- A plan without crews. -/
def idlePlan : Plan := {
  length := 0, digest := 0, layout := 0, numerics := 0, stages := 0, passLength := 0, rowsPerPhase := 0, contextLimit := 0, crews := [], strokes := [],
  checks := [], entryPhases := [], path := [], commitOffset := 0, lastLayer := 0, rowCost := [], nLayers := 0, pageBytes := 0, stagingRow := 0, areas := [] }

/-- A clearing easy-all of that plan: since the work in flight was cleared a delivery came late, and region 0, which does not coast, has had one
monitor window over a limit. -/
def overLimit : State := { State.reset with
  clk := { begun := true, easy := 2, cleared := true }
  power := { pg := 1 }
  boot := { plan := some idlePlan }
  tiles := [(0, lateTile)]
  regions := [(0, { loop := { lock := true, coast := false, overRun := 1 } })] }

/-- The second window over a limit forces region 0 to step 0 (R645); the easy-all named for that joins the clearing one in force and clears
the work in flight again (R84, R87), the late delivery with it. -/
theorem exec_monitorWindow_overLimit : ∃ u, exec (.monitorWindow 0 255 0) overLimit = .next u ∧ (u.tile ⟨0, 0, 0⟩).late = [] :=
  ⟨_, rfl, rfl⟩

/-- Refutes O52: a monitor window should leave every tile; in `overLimit` it takes the late delivery away from the tile of a crew. -/
theorem not_regionClocksAndConnectors : ¬ Obligations.RegionClocksAndConnectors := by
  intro h
  obtain ⟨-, -, -, -, -, -, -, -, hwindow, -⟩ := h overLimit 0 0 0 0 255 0 0 0 false rfl
  obtain ⟨u, hexec, -, -, htiles⟩ := hwindow rfl rfl rfl
  obtain ⟨v, hexec', hlate⟩ := exec_monitorWindow_overLimit
  obtain rfl := Host.Outcome.next.inj (hexec.symm.trans hexec')
  rw [State.tile, htiles] at hlate
  exact absurd hlate (by decide)

end Sys2Proof.Machine
